-- ==== Sys2Proof/Machine/OperandTypes.lean ====
section
/-! DEFINITION. The types of the operands that commands carry, beside numbers, truth values and byte strings. -/

namespace Sys2Proof.Machine

/-- The kinds of switchable function (R40; the KIND column of R418, and the functions with registers of their own). -/
inductive FuncKind where
  | slot | bridge | satellite | posIf | posCmp | dressing | injector | engine | discharge | can | rule | ring | domain
  deriving DecidableEq, Repr

/-- What the bridge's sampled vectors show at a safe-state choice (R363): amplitude of the current vector (mA) and its
rotation rate (0.01 rpm, magnitude); amplitude of the back-EMF vector (mV) and its rotation rate. -/
structure BridgeSense where
  iAmp : Nat
  iRate : Nat
  eAmp : Nat
  eRate : Nat
  deriving DecidableEq, Repr

/-- An urgent request to the main ADCs (R298): a safety read of an input of an ADC, or a bridge's trip-time capture. -/
inductive UrgentReq where
  | safety (n : Fin 6) (input : Fin 8)
  | tripCap (b : Fin 2)
  deriving DecidableEq, Repr

/-- What a CAN controller sees of a bus error (R506; the counting of the standard): a transmitter's that counts 8, one of the transmitter's
cases that the standard does not count, a receiver's that counts 1, a receiver's that counts 8, or a protocol exception. -/
inductive CanErr where
  | transmit | transmitUncounted | receive | receivePrimary | protocolException
  deriving DecidableEq, Repr

/-- The grandmaster of an Announce as best-master selection compares it (R533): its priorities and its identity. -/
structure Announce where
  priority1 : Nat
  quality : Nat
  priority2 : Nat
  gmId : Nat
  stepsRemoved : Nat
  sourcePort : Nat
  deriving DecidableEq, Repr

/-- What a Sync or its Follow_Up carries (R525): the precise origin timestamp (ns), the correction field (2⁻¹⁶ ns) and the cumulative rate offset
(1/256 ppb). -/
structure PtpTime where
  origin : Nat
  correction : Int
  rate : Int
  deriving DecidableEq, Repr

/-- The units that have a unit reset (R20, R24): engines, application cores (with whether it owns the LOCAL pairs), safety pairs, satellites with their lane
and supervision, main ADCs, CAN controllers, the Ethernet MAC, PCIe, housekeeping ADCs, position interfaces, bridges' counters and timelines, timed
outputs, ring pairs, the sentinel. -/
inductive ResetUnit where
  | engine (c : Fin 8) | app (k : Fin 4) (ownsLocal : Bool) | pair (p : Fin 2) | satellite (n : Fin 12) | adc (n : Fin 6) | can (n : Fin 4) | eth | pcie
  | hk (n : Fin 2) | posIf (i : Fin 8) | bridge (b : Fin 2) | tpo (k : Fin 8) | ring (n : Fin 64) | sentinel
  deriving DecidableEq, Repr

/-- The clusters in the order of R24. -/
inductive Cluster where
  | ceA | ceB | app | safety | bankA | bankB | adc | comms
  deriving DecidableEq, Repr

/-- How a step of a march on request ends (R577, R578, R591): it passed, a read at an address failed, or SP0 or SP1 pre-empted it. -/
inductive MarchOutcome where
  | pass | fail (addr : Nat) | preempt
  deriving DecidableEq, Repr

end Sys2Proof.Machine
end

