-- ==== Sys2Proof/Syntax.lean ====
section
/-! DEFINITION. The commands the block takes: one constructor of `Instr` per row of the table of operations and
events. Unit, slot, bridge and ring numbers are bounded numbers; measured quantities enter as plain integers. -/

namespace Sys2Proof

open Machine

/-- The commands of the block: one constructor per row of the table of operations and events. -/
inductive Instr where
  /-- REGISTER_WRITE (R8): A write to a register field with no row of its own acts by its access type (RW, W1C, W1S, RWL); reserved bits, locked fields and off domains are handled per R10, R31 and R443. -/
  | registerWrite (m : Fin 21) (addr : Nat) (value : Word)
  /-- UNIT_RESET (R20): A unit reset returns the unit's registers to reset values; its in-flight port transactions end in error and its functions go to OFF after any R22 safe state. -/
  | unitReset (u : ResetUnit)
  /-- CLUSTER_RESET (R25): A cluster reset resets every unit of the cluster and its shared resource. -/
  | clusterReset (c : Cluster)
  /-- DOMAIN_RESET (R30): A domain reset resets one region; for PD0 or PD6 it is carried out as a package reset. -/
  | domainReset (d : Fin 12) (cause : Fin 3) (fault : Fin 65536)
  /-- RESET_GUARD_WITHDRAW (R22): The reset guard's safe-state request is withdrawn once the island runs, every slot on the bridge is OFF and the reset unit has left reset. -/
  | resetGuardWithdraw (b : Fin 2)
  /-- START_SEQUENCE_DONE (R43): A switchable function completes its start sequence and enters ON, or enters STOPPING if a disable is pending. -/
  | startSequenceDone (k : FuncKind) (n : Fin 64)
  /-- STOP_SEQUENCE_DONE (R43): A switchable function completes its stop sequence and reaches OFF, entering STARTING next cycle if an enable is pending. -/
  | stopSequenceDone (k : FuncKind) (n : Fin 64) (clampsOk : Bool)
  /-- STARTING_BOUND_EXPIRY (R45): STARTING exceeds its bound: the function's timeout fault is raised and it enters STOPPING through the fault path. -/
  | startingBoundExpiry (k : FuncKind) (n : Fin 64)
  /-- STOPPING_BOUND_EXPIRY (R45): STOPPING exceeds its bound: the timeout fault is raised and the function goes to OFF at once after any R22 safe state. -/
  | stoppingBoundExpiry (k : FuncKind) (n : Fin 64)
  /-- FAULT_ACTIVE_EXPIRY (R371): A single-event fault becomes inactive 1 s after its last occurrence, allowing its RC3 safe state to be withdrawn when its slots are OFF. -/
  | faultActiveExpiry (k : Nat)
  /-- REFERENCE_STEP (R65): Every REF_DIV current cycles the slot applies the limit chain, torque slew and current-reference search, takes a new command and posts its completion. -/
  | referenceStep (n : Fin 2)
  /-- SPEED_LOOP_STEP (R71): Every SPD_DIV current cycles the speed profile generator and speed controller produce a torque request. -/
  | speedLoopStep (n : Fin 2)
  /-- CURRENT_CYCLE (R96): Once or twice per PWM period the field-control program transforms, looks up the atlas, runs the controllers and supervision and writes compares. -/
  | currentCycle (n : Fin 2)
  /-- FLY_BEMF_REST (R88): The back-EMF stays below BEMF_MIN for the first 1 ms of a flying start, so the rotor is taken to be at rest. -/
  | flyBemfRest (n : Fin 2) (amp : Nat)
  /-- ANGLE_PULSE_END (R88): A sensorless initial-angle voltage pulse ends at 10 % of I_RATED or after 20 µs and its rise rate is recorded. -/
  | anglePulseEnd (n : Fin 2) (peak ticks : Nat)
  /-- ANGLE_PULSE_DECAY (R88): The current after an initial-angle pulse decays below 1 % of I_RATED and the next pulse or the angle decision follows. -/
  | anglePulseDecay (n : Fin 2)
  /-- FLY_SYNC (R86): A flying start reaches synchronisation and current control starts at zero torque in the next current cycle. -/
  | flySync (n : Fin 2) (amp : Nat) (tracked : Bool)
  /-- FLY_ON_DELAY (R86): 1 ms after synchronisation the slot enters ON and follows its held command. -/
  | flyOnDelay (n : Fin 2)
  /-- FLY_SYNC_TIMEOUT (R90): No synchronisation by 5 ms: FLY_NO_SYNC is raised and the gates stay off. -/
  | flySyncTimeout (n : Fin 2)
  /-- FLY_BEMF_OVER_DC (R89): The peak line-to-line back-EMF reaches the DC-link voltage during a flying start and active short circuit is applied at once. -/
  | flyBemfOverDc (n : Fin 2) (amp : Nat)
  /-- STOP_RAMP_DONE (R85): During a slot stop T_ref reaches zero and zero current is held for 1 ms. -/
  | stopRampDone (n : Fin 2)
  /-- ZERO_CURRENT_HOLD_EXPIRY (R85): After the 1 ms zero-current hold the gates are switched off or the bridge rests in active short circuit. -/
  | zeroCurrentHoldExpiry (n : Fin 2)
  /-- MISSING_PHASE_CHECK (R104): At the end of each electrical period the RMS phase currents are compared and a missing phase is handled by R106. -/
  | missingPhaseCheck (n : Fin 2) (bemfA bemfB : Nat)
  /-- INJ_CONDITIONS_MET (R112): The tuning injector's run conditions hold and it leaves STARTING and injects its signal. -/
  | injConditionsMet (n : Fin 2)
  /-- SEAM_CHECK (R133): Every 1 ms the operating point of each ON slot is looked up in both window and coarse atlas and the largest difference held. -/
  | seamCheck
  /-- TILE_FILL_DONE (R137): A window tile has been filled from the spill buffer or MRAM and is marked present. -/
  | tileFillDone (n : Fin 2) (errs : List (Nat × Nat))
  /-- STRATA_RELOAD_DONE (R138): A half-tile of the arriving stratum has been reloaded after T_MAG left the window's stratum pair. -/
  | strataReloadDone (n : Fin 2) (errs : List (Nat × Nat))
  /-- WINDOW_STARVED_TIMER (R139): Every lookup of an ON slot has been COARSE for COARSE_WARN_T and WINDOW_STARVED is raised. -/
  | windowStarvedTimer (n : Fin 2)
  /-- DRESS_CREDIT_WINDOW (R142): At the start of each 1 ms window DRESS_RATE is added to the slot's dressing rate credit. -/
  | dressCreditWindow (n : Fin 2)
  /-- DRESS_PUBLICATION (R143): The dressing unit takes a publication from the FIFO, screens it and updates the cell's corner nodes within the trust band. -/
  | dressPublication (n : Fin 2)
  /-- COMMIT_BLOCK (R149): A block whose drift and age make it eligible is copied, its drift reset and written to MRAM. -/
  | commitBlock (n : Fin 2)
  /-- MRAM_ADDRESS_PARITY_ERROR (R154): An address-parity error on the MRAM interface is counted; four in 1 s fail the link check. -/
  | mramAddressParityError
  /-- MRAM_SCRUB_BLOCK (R157): The scrubber reads, corrects and rewrites the next 4 KiB MRAM block, remapping it when R158 requires. -/
  | mramScrubBlock (errs : List (Nat × Nat))
  /-- PTIME_SAVE (R157): Every 60 s of PD5 powered time PTIME is saved to MRAM, the scrub age checked and the life record written. -/
  | ptimeSave
  /-- BEDROCK_SIG_CHECK (R164): The safety island verifies each slot's bedrock header signature after package reset and the slot may then become READY. -/
  | bedrockSigCheck (n : Fin 2)
  /-- IMPORT_INSTALL_DONE (R163): An accepted bedrock image has been written to both copies and its policy pass has ended; IMPORT_DONE is set. -/
  | importInstallDone
  /-- ATLAS_EXPORT_DONE (R161): The last record of a dressed export has been written to the ATLAS pair and EXPORT_DONE is set. -/
  | atlasExportDone
  /-- NOP (R175): Engine instruction that does nothing. -/
  | nop (c : Fin 8)
  /-- LDI (R175): Engine instruction writing an immediate into one half of a data register. -/
  | ldi (c : Fin 8)
  /-- LDIP (R175): Engine instruction loading an address register with CLOG and ADDR. -/
  | ldip (c : Fin 8)
  /-- MOVE (R175): Engine instruction moving words, halves or between D and P registers by SUB. -/
  | move (c : Fin 8)
  /-- LD (R174): Engine load from the scratchpad with offset, post-modify or circular addressing. -/
  | ld (c : Fin 8) (ecc : Fin 3)
  /-- ST (R174): Engine store to the scratchpad with the addressing modes of LD. -/
  | st (c : Fin 8) (ecc : Fin 3)
  /-- FLD (R176): Engine read of a system address over the fabric through its MPU. -/
  | fld (c : Fin 8)
  /-- FLD_DONE (R176): The fabric read of an FLD returns, or errs with CE_BUS_ERROR. -/
  | fldDone (c : Fin 8) (ecc : Fin 3)
  /-- FST (R176): Engine write of a data register to a system address over the fabric. -/
  | fst (c : Fin 8)
  /-- MAC (R175): Engine multiply-accumulate of two Q15 halves into an accumulator. -/
  | mac (c : Fin 8)
  /-- DMAC (R177): Engine four-MAC instruction into an accumulator pair. -/
  | dmac (c : Fin 8)
  /-- ACCOP (R175): Engine accumulator operation selected by SUB. -/
  | accop (c : Fin 8)
  /-- RND (R172): Engine rnd15 of a pre-shifted accumulator into one half of a register. -/
  | rnd (c : Fin 8)
  /-- ALUH (R175): Engine saturating half-word ALU operation on both halves. -/
  | aluh (c : Fin 8)
  /-- ALUW (R175): Engine 32-bit wrapping ALU operation setting N, Z, C and V. -/
  | aluw (c : Fin 8)
  /-- SHH (R175): Engine shift of both halves, saturating left and arithmetic right. -/
  | shh (c : Fin 8)
  /-- SINCOS (R178): Engine cosine and sine of a 16-bit angle. -/
  | sincos (c : Fin 8)
  /-- RECIP (R178): Engine reciprocal as mantissa and exponent. -/
  | recip (c : Fin 8)
  /-- RSQRT (R178): Engine reciprocal square root as mantissa and exponent. -/
  | rsqrt (c : Fin 8)
  /-- ATLAS (R179): Engine atlas lookup of the slot's fluxes, TAU_C, confidence and flags; the engine stalls until results arrive. -/
  | atlas (c : Fin 8)
  /-- ATLAS_LOOKUP_DONE (R130): The atlas returns the interpolated values from window or coarse atlas, or zeros with UNAVAIL. -/
  | atlasLookupDone (c : Fin 8)
  /-- WAITEV (R181): Engine wait for an event in MASK; returns the lowest pending one or gates the run clock. -/
  | waitev (c : Fin 8)
  /-- WAITEV_RESUME (R181): A sleeping engine resumes 2 cycles after an event in its MASK is raised and WAITEV returns it. -/
  | waitevResume (c : Fin 8)
  /-- WPWM (R191): Engine write of a compare or period shadow with its generation tag, optionally committing the generation. -/
  | wpwm (c : Fin 8)
  /-- PUBL (R193): Engine copy of 32 bytes to a publication box staging buffer. -/
  | publ (c : Fin 8)
  /-- PUBL_DRAIN_DONE (R193): A staged publication drains to its target box, or is dropped and counted. -/
  | publDrainDone (c : Fin 8) (box : Fin 5)
  /-- B (R175): Engine conditional branch. -/
  | b (c : Fin 8)
  /-- CALL (R175): Engine call pushing the return address on the 4-entry stack. -/
  | call (c : Fin 8)
  /-- RET (R175): Engine return popping the return stack. -/
  | ret (c : Fin 8)
  /-- LOOP (R175): Engine hardware loop over PC + 1 to END. -/
  | loop (c : Fin 8)
  /-- BKPT (R204): Engine breakpoint instruction halting the engine when policy permits, else a NOP. -/
  | bkpt (c : Fin 8)
  /-- MOVSR (R175): Engine read of SR, or write of flags and clearing of sticky bits. -/
  | movsr (c : Fin 8)
  /-- RESERVED_OPCODE (R176): An engine instruction with a reserved encoding raises CE_ILLEGAL and stops the engine. -/
  | reservedOpcode (c : Fin 8)
  /-- CE_TIMER_EXPIRY (R190): An engine local timer expires and raises TIMER0 or TIMER1, restarting if periodic. -/
  | ceTimerExpiry (c : Fin 8) (t : Fin 2)
  /-- CE_TIMER_WRITE (R190): A write to TIMER0 or TIMER1 starts the timer when nonzero and stops it when 0. -/
  | ceTimerWrite (c : Fin 8)
  /-- CMD_ACK (R188): The program writes CMD_ACK with a command's SEQ and status and the T960 posts its completion. -/
  | cmdAck (c : Fin 8)
  /-- NOW_LO_READ (R190): A read of the engine's NOW_LO returns device time and latches NOW_HI. -/
  | nowLoRead (c : Fin 8)
  /-- CE_HANG_EXPIRY (R201): An engine executes more than WDG_CYCLES outside WAITEV and CE_HANG is raised. -/
  | ceHangExpiry (c : Fin 8)
  /-- CE_HALT_REQ (R204): The debug port requests an engine halt at an instruction boundary, under the debug guard. -/
  | ceHaltReq (m : Fin 21) (c : Fin 8)
  /-- CE_STEP (R204): While halted, the debug port makes the engine execute one instruction. -/
  | ceStep (m : Fin 21) (c : Fin 8)
  /-- CE_RESUME (R204): The debug port ends an engine's halt. -/
  | ceResume (m : Fin 21) (c : Fin 8)
  /-- CE_BREAKPOINT (R204): The engine reaches an enabled breakpoint address and halts. -/
  | ceBreakpoint (c : Fin 8)
  /-- PWM_WRAP (R208): The bridge counter wraps: a period starts, pending sets and timelines take effect, and trip, bootstrap and sync logic advance. -/
  | pwmWrap (b : Fin 2)
  /-- PWM_MID_POINT (R223): The counter reaches floor(PERIOD/2) and, in MID mode, a pending set takes effect. -/
  | pwmMidPoint (b : Fin 2)
  /-- COMMIT_ARRIVAL (R220): A generation commit reaches the PWM block, closes the generation and is merged into the pending set. -/
  | commitArrival (b : Fin 2)
  /-- IMMEDIATE_UPDATE (R223): Two ticks after a commit in IMMEDIATE mode the pending set takes effect with edges handled by R225. -/
  | immediateUpdate (b : Fin 2)
  /-- LS_CMP_WRITE (R215): The granted engine writes a low-side compare by FST, joining the open generation. -/
  | lsCmpWrite (m : Fin 21) (b : Fin 2) (j : Fin 6) (value : Nat)
  /-- PWM_COMPARE_EDGE (R211): The counter reaches an effective compare and the leg demand changes, launching gate edges. -/
  | pwmCompareEdge (b : Fin 2) (c : Fin 6) (which : Fin 3)
  /-- DEAD_TIME_EXPIRY (R213): DT_HL or DT_LH elapses and the opposite turn-on edge is launched. -/
  | deadTimeExpiry (b : Fin 2) (g : Fin 6)
  /-- MIN_PULSE_GUARD_EXPIRY (R217): A turn-off edge delayed by the MIN_PULSE guard is launched. -/
  | minPulseGuardExpiry (b : Fin 2) (g : Fin 6)
  /-- TRIP_ASSERT (R228): An enabled trip source asserted outside blanking cuts the affected legs until the wrap. -/
  | tripAssert (b : Fin 2) (src : Fin 18)
  /-- BLANK_CLOSE (R227): A bridge blanking window closes and a still-asserted trip source acts. -/
  | blankClose (b : Fin 2) (levels : Fin 4096)
  /-- TL_ADC_START (R238): A timeline slot fires ADC_START, writing start bits, opening the sample frame and latching positions. -/
  | tlAdcStart (b : Fin 2) (k : Fin 32)
  /-- TL_DS_MARK (R238): A timeline slot places a mark in a satellite's ΔΣ stream; a closing mark yields a shunt window estimate. -/
  | tlDsMark (b : Fin 2) (k : Fin 32) (stream : List Bool)
  /-- TL_CAPTURE (R238): A timeline slot latches device time, counter, PERIOD_SEQ and optionally POS32 into a capture register. -/
  | tlCapture (b : Fin 2) (k : Fin 32)
  /-- TL_ENGINE_EVENT (R238): A timeline slot raises TL_A or TL_B in the named engines. -/
  | tlEngineEvent (b : Fin 2) (k : Fin 32)
  /-- TL_TPO_EDGE (R238): A timeline slot drives a bridge-assigned TPO low, high or toggled. -/
  | tlTpoEdge (b : Fin 2) (k : Fin 32)
  /-- PWM_FREEZE (R231): The debug port sets FREEZE and the bridge freezes its counter, timers and gates. -/
  | pwmFreeze (m : Fin 21) (b : Fin 2)
  /-- PWM_RELEASE (R231): The debug port ends a freeze and the counter resumes from its held value. -/
  | pwmRelease (m : Fin 21) (b : Fin 2)
  /-- CAP_TS_LO_READ (R244): A read of PWM.CAP_TS_LO_n returns the capture time and latches CAP_TS_HI_n. -/
  | capTsLoRead (m : Fin 21) (b : Fin 2) (n : Fin 8)
  /-- CAP_INFO_READ (R244): A read of PWM.CAP_INFO_n returns the capture info and clears VALID and OVR. -/
  | capInfoRead (m : Fin 21) (b : Fin 2) (n : Fin 8)
  /-- SYNC_IN_EDGE (R234): A qualified SYNC_IN edge gives a phase error, corrects the next period and updates LOCKED. -/
  | syncInEdge (low high : Nat)
  /-- SYNC_LINK_TIMEOUT (R540): No qualified SYNC_IN edge within 2 × PERIOD: LOCKED clears, LOCK_FAIL and SYNC_LINK_LOST are raised. -/
  | syncLinkTimeout (b : Fin 2)
  /-- SAT_TURN_ON_EDGE (R260): A turn-on edge arrives at a satellite, which asserts REQ and waits for the handshake. -/
  | satTurnOnEdge (n : Fin 12)
  /-- SAT_TURN_OFF_EDGE (R247): A turn-off edge arrives at a satellite and the gate is turned off, no sooner than the minimum on-time, cancelling a waiting turn-on. -/
  | satTurnOffEdge (n : Fin 12)
  /-- HANDSHAKE_RELEASE (R260): REQ held 50 ns and the partner confirmation present for SAT_DT_MIN: the turn-on is released. -/
  | handshakeRelease (n : Fin 12)
  /-- HANDSHAKE_TIMEOUT (R261): No release by HANDSHAKE_TIMEOUT: the turn-on is skipped and LEG_HANDSHAKE raised. -/
  | handshakeTimeout (n : Fin 12)
  /-- MIN_ON_TIME_EXPIRY (R247): A turn-off delayed by the 40 ns hardware minimum on-time is carried out. -/
  | minOnTimeExpiry (n : Fin 12)
  /-- GATE_STATE_CHANGE (R248): The gate comparator changes state and the gate state is sent to the partner over the cross-lane. -/
  | gateStateChange (n : Fin 12) (on : Bool)
  /-- GATE_STUCK_TIMER (R248): The gate has not followed its command within T_GOFF_MAX and GATE_STUCK is raised. -/
  | gateStuckTimer (n : Fin 12)
  /-- SAT_EDGE_MEASURED (R267): A satellite finishes measuring a switching event and adapts the strength of that edge kind. -/
  | satEdgeMeasured (n : Fin 12) (off : Bool) (vPre : Nat) (crossed softSwitched : Bool) (half : Nat)
  /-- CH0_RANGE_SWITCH (R280): In AUTO mode channel 0 switches to conduction 20 ns after a release. -/
  | ch0RangeSwitch (n : Fin 12)
  /-- KEEPALIVE_SEND (R251): Every 10 µs, and within 1 µs of a hint change, the bank sends a KEEPALIVE carrying the safe-state hint. -/
  | keepaliveSend (n : Fin 12)
  /-- CFG_KEEPALIVE (R250): A satellite receives a KEEPALIVE frame, stores the hint and answers HINT_ACK. -/
  | cfgKeepalive (n : Fin 12)
  /-- CFG_WRITE (R252): A satellite receives a WRITE frame and applies the setting, or discards a reserved index. -/
  | cfgWrite (n : Fin 12) (index : Fin 256) (value : Word)
  /-- CFG_DESAT_CLEAR (R271): A satellite receives DESAT_CLEAR and accepts turn-on edges again. -/
  | cfgDesatClear (n : Fin 12)
  /-- CFG_RESUME (R257): A satellite receives RESUME and is ON. -/
  | cfgResume (n : Fin 12)
  /-- CFG_STOP (R258): A satellite receives STOP during its stop sequence. -/
  | cfgStop (n : Fin 12)
  /-- RET_STATUS (R253): The bank receives a STATUS return frame and updates GDS.STATUS and error counts. -/
  | retStatus (n : Fin 12)
  /-- RET_EDGE (R253): The bank receives an EDGE frame, updates measurement entries and raises SATMEAS. -/
  | retEdge (n : Fin 12)
  /-- RET_COND (R253): The bank receives a COND frame with the conduction drop and raises SATMEAS. -/
  | retCond (n : Fin 12) (mv : Int)
  /-- RET_TEMP (R253): The bank receives a TEMP frame with the satellite die temperature. -/
  | retTemp (n : Fin 12) (t : Int)
  /-- RET_RAILS (R253): The bank receives a RAILS frame with VCC or VEE. -/
  | retRails (n : Fin 12) (vee : Bool) (mv : Int)
  /-- RET_HS (R253): The bank receives an HS frame with the handshake wait or a skip; a safe-state skip withdraws the demand. -/
  | retHs (n : Fin 12)
  /-- RET_HINT_ACK (R253): The bank receives HINT_ACK and records the acknowledged hint. -/
  | retHintAck (n : Fin 12)
  /-- RETURN_FRAME_BAD (R256): A return frame fails CRC or SEQ, raising LINK_ERR and possibly failing the link check. -/
  | returnFrameBad (n : Fin 12) (crc : Bool)
  /-- RETURN_CARRIER_LOSS (R256): The return-lane carrier has been absent for 1 µs and the link check fails. -/
  | returnCarrierLoss (n : Fin 12)
  /-- HINT_ACK_TIMEOUT (R256): The satellite's HINT_ACK has been missing for 25 µs and the link check fails. -/
  | hintAckTimeout (n : Fin 12)
  /-- FAULT_BREAK (R255): A satellite's fault break is recognised and the overcurrent report asserts as a trip source. -/
  | faultBreak (n : Fin 12)
  /-- DESAT_DETECT (R269): The drain-source voltage is above DESAT_TH outside desaturation blanking and the filter starts. -/
  | desatDetect (n : Fin 12)
  /-- DESAT_CONFIRM (R269): After DESAT_FILT desaturation is confirmed: soft turn-off and fault break start and SAT_DESAT is raised. -/
  | desatConfirm (n : Fin 12)
  /-- SOFT_OFF_LEVEL2 (R269): SOFT_T1 after level 1 the gate is sunk at SOFT_STR to VEE. -/
  | softOffLevel2 (n : Fin 12)
  /-- DESAT_CLEAR_POINT (R271): The bridge counter reaches PERIOD − 800 and the bank sends DESAT_CLEAR to latched satellites unless DESAT_REPEAT holds. -/
  | desatClearPoint (b : Fin 2)
  /-- SAT_OT_SHUT (R273): A satellite die reaches 165 °C, turns its gate off and refuses turn-ons until restart. -/
  | satOtShut (n : Fin 12)
  /-- UVLO_ENGAGE (R276): A satellite rail passes its lockout threshold, the gate is turned off and UVLO is raised. -/
  | uvloEngage (n : Fin 12) (neg : Bool) (mv : Int)
  /-- UVLO_RELEASE (R276): A rail passes its threshold by UVLO_HYST and the lockout releases. -/
  | uvloRelease (n : Fin 12) (neg : Bool) (mv : Int)
  /-- SAT_RAILS_READY (R257): During a satellite start the rails reach their start thresholds and RESUME is sent. -/
  | satRailsReady (n : Fin 12) (vcc vee : Int)
  /-- TX_DUTY_ADJUST (R275): Every 10 µs the bank adjusts TXDRVn's duty towards TX_TARGET_POS. -/
  | txDutyAdjust (n : Fin 12)
  /-- SUPPLY_REG_TIMER (R275): VCC stays outside TX_TARGET_POS ± 1 V for 1 ms and SUPPLY_REG is raised. -/
  | supplyRegTimer (n : Fin 12)
  /-- CROSS_CARRIER_LOSS (R264): The cross-lane carrier from the partner is absent for 200 ns and the partner's confirmation is treated as absent. -/
  | crossCarrierLoss (n : Fin 12)
  /-- SAT_LINK_LOSS (R283): A STARTING or ON satellite sees no valid configuration frame for 25 µs or a lost carrier and applies its last hint. -/
  | satLinkLoss (n : Fin 12) (carrier : Bool)
  /-- ADC_CONVERSION_DONE (R294): A main ADC conversion completes; results go to a frame, result register or urgent requester, and a complete frame raises SAMPLE. -/
  | adcConversionDone (n : Fin 6) (raw : Int)
  /-- ADC_SW_START (R299): A write of ADC.SW_START_n.GO starts a software conversion or holds it one deep. -/
  | adcSwStart (m : Fin 21) (n : Fin 6) (input : Fin 8)
  /-- ADC_URGENT_REQUEST (R299): A safety read or trip-time capture takes the ADC, aborting and later restarting a running conversion. -/
  | adcUrgentRequest (req : UrgentReq)
  /-- ADC_REF_CHECK (R297): In an idle gap each main ADC converts IN7 and checks the reference. -/
  | adcRefCheck (n : Fin 6) (raw : Int)
  /-- RESULT_READ (R321): A read of ADC.RESULT_n returns the result and clears VALID. -/
  | resultRead (m : Fin 21) (n : Fin 6)
  /-- TRIP_CAP1_READ (R321): A read of ADC.TRIP_CAP1_b returns the capture and clears VALID. -/
  | tripCap1Read (m : Fin 21) (b : Fin 2)
  /-- CT_ASSERT (R304): A comparator input crosses its level and the comparator trip asserts at the PWM block. -/
  | ctAssert (k : Fin 8) (mv : Int)
  /-- DS_OUTPUT (R305): A ΔΣ demodulator produces an output every DS_OSR bits and updates validity. -/
  | dsOutput (c : Fin 24) (window : List Bool)
  /-- VDC_MISMATCH_TIMER (R310): The two DC-link channels differ by more than VDC_TOL for 1 ms and VDC_MISMATCH is raised. -/
  | vdcMismatchTimer
  /-- POS_QUALIFYING_EDGE (R328): A position interface qualifies an edge, moves position by its pitch, updates speed history and evaluates compares. -/
  | posQualifyingEdge (i : Fin 4) (back : Bool)
  /-- SPD_STANDSTILL_EXPIRY (R329): SPD_STANDSTILL passes since the last edge and the interface enters standstill. -/
  | spdStandstillExpiry (i : Fin 8)
  /-- RSV_CARRIER_PERIOD (R333): Each resolver carrier period demodulates the envelopes, checks amplitude, lag and tracking. -/
  | rsvCarrierPeriod (n : Fin 2) (sin cos lag err : Int) (angle : Nat)
  /-- RSV_EXC_LIMIT_TIMER (R332): The resolver excitation stays at its current limit for 1 ms and RSV_EXC_FAULT is raised. -/
  | rsvExcLimitTimer (n : Fin 2)
  /-- ENC_ILLEGAL_TRANSITION (R336): A quadrature transition changes A and B together, raising ENC_QUAD_ERR and clearing ALIGNED. -/
  | encIllegalTransition (n : Fin 2)
  /-- ENC_INDEX (R338): An index pulse or tooth-wheel reference is seen and the count is aligned or a deviation judged. -/
  | encIndex (n : Fin 2)
  /-- HALL_TRANSITION (R341): A filtered Hall state change places the angle at a sector boundary or raises HALL_SEQUENCE. -/
  | hallTransition (n : Fin 2) (state : Fin 8)
  /-- HALL_INVALID_STATE (R341): A Hall state 0 or 7 lasts longer than HALL_FILT and HALL_INVALID is raised. -/
  | hallInvalidState (n : Fin 2) (seven : Bool)
  /-- SER_REQUEST_SEND (R342): Every SER_PERIOD a master serial port sends SER_CMD. -/
  | serRequestSend (n : Fin 2)
  /-- SER_RESPONSE (R343): A serial encoder response is received and its position taken, or judged bad. -/
  | serResponse (n : Fin 2) (bytes : List Byte) (framing : Bool) (age : Nat)
  /-- SER_RESPONSE_TIMEOUT (R343): A response is incomplete or, as listener, absent for 2 × SER_PERIOD; SER_CRC is raised. -/
  | serResponseTimeout (n : Fin 2)
  /-- PCMP_RESOLVER_EVAL (R346): Every 100 ns a resolver-sourced position-compare output evaluates crossings. -/
  | pcmpResolverEval (k : Fin 4)
  /-- PCMP_PULSE_END (R346): A position-compare pulse's width ends. -/
  | pcmpPulseEnd (k : Fin 4)
  /-- HEARTBEAT_WRITE (R356): A safety pair writes its heartbeat word, completing a restart when it follows the self-test. -/
  | heartbeatWrite (p : Fin 2) (word : Nat)
  /-- HEARTBEAT_LOSS (R356): A heartbeat word is unchanged for 30 µs: every bridge goes to a safe state, SAFETY_WDG raised and the pair reset. -/
  | heartbeatLoss (p : Fin 2)
  /-- LOCKSTEP_MISMATCH (R357): A comparator group mismatches: every bridge to a safe state, LOCKSTEP_MISMATCH and a pair unit reset. -/
  | lockstepMismatch (p : Fin 2) (group : Fin 12)
  /-- LOCKSTEP_SELFTEST_DONE (R358): The comparator self-test ends and SELFTEST_OK is set or LOCKSTEP_SELFTEST raised. -/
  | lockstepSelftestDone (p : Fin 2) (groups : Fin 4096)
  /-- PAIR_RESTART_TIMEOUT (R486): A pair has not restarted within 10 ms and a SAFETY package reset is requested. -/
  | pairRestartTimeout (p : Fin 2)
  /-- SAFE_STATE_CHOICE (R362): Every 10 µs SP0 computes each bridge's safe-state choice and passes it as the hint. -/
  | safeStateChoice (a b : BridgeSense)
  /-- SAFE_DT_EXPIRY (R366): SAFE_DT after a safe-state decision the ASC turn-ons are launched. -/
  | safeDtExpiry (b : Fin 2)
  /-- SAFE_TURN_ON_RETRY (R365): 1 µs after a safe-state skip the bank raises the satellite's demand again. -/
  | safeTurnOnRetry (n : Fin 12)
  /-- MONITOR_WINDOW_END (R381): A 50 µs torque-monitor window ends and the monitor evaluates T_mon and its four checks. -/
  | monitorWindowEnd (n : Fin 2)
  /-- MONITOR_STALE_TIMER (R384): No monitor record arrives within the stale limit and MONITOR_STALE is raised. -/
  | monitorStaleTimer (n : Fin 2)
  /-- STO_ASSERT (R385): A filtered STO input asserts: every bridge to its choice, torque enable withdrawn and slots stopped. -/
  | stoAssert (i : Fin 2)
  /-- STO_RELEASE (R385): A filtered STO input releases and the STO test state advances. -/
  | stoRelease (i : Fin 2)
  /-- STO_DISCREPANCY_TIMER (R386): One STO input asserted and the other released for STO_DISC_T raises STO_DISCREPANCY. -/
  | stoDiscrepancyTimer
  /-- STO_PATH_CHECK_TIMER (R387): 10 µs after an STO assertion both banks must report the block active, else STO_PATH_FAULT. -/
  | stoPathCheckTimer (i : Fin 2) (bankA bankB : Bool)
  /-- SAFE_RESET_EDGE (R390): A qualified rising edge on SAFE_RESET releases every latched fault that is no longer active. -/
  | safeResetEdge (lowTicks : Nat)
  /-- PEER_BROADCAST_RX (R539): SYNC_IN high for 80 ns with PEER_EN is a received broadcast; every bridge goes safe and PEER_SAFE is raised. -/
  | peerBroadcastRx
  /-- PEER_BROADCAST_END (R539): SYNC_IN low for 1 µs withdraws the received broadcast. -/
  | peerBroadcastEnd
  /-- DCHG_CHECK_EXPIRY (R395): DCHG_CHECK_T after STARTING V_DC has not halved and DCHG is asserted as backup. -/
  | dchgCheckExpiry (b : Fin 2)
  /-- DISCHARGE_COMPLETE (R396): V_DC of every named bridge stays below 60 V for 10 ms and the discharge enters STOPPING. -/
  | dischargeComplete
  /-- DISCHARGE_FAIL_TIMER (R396): The discharge is not complete 2 s after STARTING and DISCHARGE_FAIL is raised. -/
  | dischargeFailTimer (b : Fin 2)
  /-- DCHG_RELEASE_AFTER_RESTART (R395): After an island restart SP1 releases a still-asserted DCHG once V_DC stays below 60 V for 10 ms. -/
  | dchgReleaseAfterRestart
  /-- DEBUG_HALT_REQUEST (R397): A halt request from the debug port for a safety pair or a core on a live stage invokes the debug guard. -/
  | debugHaltRequest (m : Fin 21)
  /-- DEBUG_GUARD_HALT (R397): SPO reaches the gates and the delayed halt takes effect. -/
  | debugGuardHalt
  /-- DB_SQ_WRITE (R407): The host writes a submission tail doorbell, announcing descriptors or serving as heartbeat. -/
  | dbSqWrite (master : Fin 21) (n : Fin 64) (tail : Fin 4096)
  /-- DB_CQ_WRITE (R408): The host releases completion entries by writing the completion head doorbell. -/
  | dbCqWrite (master : Fin 21) (n : Fin 64) (head : Fin 4096)
  /-- DESCRIPTOR_FETCH (R411): Derrick fetches a pending descriptor when room allows, checks class, right and body and hands it on. -/
  | descriptorFetch (n : Fin 64) (host : List Byte)
  /-- RP_ENABLE (R406): A write of RP_CTRL_n.ENABLE requests a ring pair enable. -/
  | rpEnable (master : Fin 21) (n : Fin 64)
  /-- RP_DISABLE (R406): A write of RP_CTRL_n.DISABLE requests a ring pair disable. -/
  | rpDisable (master : Fin 21) (n : Fin 64)
  /-- IRQ_TIMER_EXPIRY (R412): The oldest unsignalled completion is IRQ_TIME old and the pair's interrupt is raised. -/
  | irqTimerExpiry (n : Fin 64)
  /-- FLUSH_T_EXPIRY (R421): FLUSH_T after its first record a host receive buffer is completed. -/
  | flushTExpiry (n : Fin 64)
  /-- NOP_DESCRIPTOR (R416): Descriptor that completes at once with no effect. -/
  | nopDescriptor (n : Fin 64)
  /-- RECV_BUF (R421): Descriptor posting a host buffer for stream records, completed when filled or flushed. -/
  | recvBuf (n : Fin 64)
  /-- DRIVE_CMD (R68): Descriptor carrying a torque, speed or current command to a slot's mailbox. -/
  | driveCmd (n : Fin 64)
  /-- DRIVE_CMD_DISCHARGE (R70): A command with MODE = DISCHARGE is passed to active discharge as a request for the slot's bridges. -/
  | driveCmdDischarge (n : Fin 64)
  /-- SET_STATE_ENABLE (R418): Descriptor requesting an enable of the switchable function named by KIND and TARGET. -/
  | setStateEnable (p : Fin 64)
  /-- SET_STATE_DISABLE (R418): Descriptor requesting a disable of the switchable function named by KIND and TARGET. -/
  | setStateDisable (p : Fin 64)
  /-- PARAM_WRITE (R419): Descriptor writing a parameter record, checked as a whole, audited and applied. -/
  | paramWrite (n : Fin 64) (data : Option (List Byte))
  /-- PARAM_READ (R419): Descriptor reading a whole parameter record into the data buffer. -/
  | paramRead (n : Fin 64)
  /-- PROG_LOAD (R196): Descriptor enabling an engine program by loading and verifying an image. -/
  | progLoad (p : Fin 64)
  /-- INJECT_START (R110): Descriptor starting a slot's tuning injector with its signal. -/
  | injectStart (n : Fin 64)
  /-- DISCHARGE (R392): Descriptor requesting active discharge of the named bridges. -/
  | discharge (n : Fin 64)
  /-- RESET_LATCH (R391): Descriptor releasing latched faults when its RESET_COUNT is the next count. -/
  | resetLatch (n : Fin 64)
  /-- BENCH_MODE (R398): Descriptor entering or leaving bench mode. -/
  | benchMode (n : Fin 64)
  /-- SNAPSHOT (R431): Descriptor writing a 336-byte state snapshot taken at one instant. -/
  | snapshot (n : Fin 64)
  /-- CLAIM_SOURCE (R427): Descriptor returning a slot under HANDOVER_CAN to ring commands. -/
  | claimSource (n : Fin 64)
  /-- TIME_STEP_ACCEPT (R527): Descriptor accepting a refused time jump, stepped at the next Sync. -/
  | timeStepAccept (n : Fin 64)
  /-- AUTH_CHALLENGE (R448): Descriptor writing a fresh nonce for role authentication. -/
  | authChallenge (n : Fin 64)
  /-- AUTH_RESPONSE (R449): Descriptor with a signed nonce that opens a role session or fails. -/
  | authResponse (n : Fin 64) (data : Option (List Byte))
  /-- AUTH_CLOSE (R449): Descriptor closing the role sessions opened with the pair. -/
  | authClose (n : Fin 64)
  /-- DRIVE_TOKEN (R454): Descriptor submitting a drive-enable token for acceptance. -/
  | driveToken (n : Fin 64) (data : Option (List Byte))
  /-- FW_UPDATE (R460): Descriptor writing a firmware image into an image slot. -/
  | fwUpdate (n : Fin 64) (data : Option (List Byte))
  /-- FW_UPDATE_DONE (R460): The written image is checked and the slot becomes PENDING or is marked empty. -/
  | fwUpdateDone
  /-- ATLAS_EXPORT (R161): Descriptor requesting a dressed atlas export. -/
  | atlasExport (n : Fin 64)
  /-- BEDROCK_IMPORT (R162): Descriptor importing a signed bedrock image, checked in staging. -/
  | bedrockImport (n : Fin 64) (data : Option (List Byte))
  /-- LOG_EXPORT (R421): Descriptor exporting scree or audit log entries. -/
  | logExport (n : Fin 64)
  /-- AUDIT_ACK (R459): Descriptor acknowledging audit entries up to a SEQ. -/
  | auditAck (n : Fin 64)
  /-- CAN_TX (R502): Descriptor placing a CAN frame into a transmit buffer or queue. -/
  | canTx (n : Fin 64) (host : Option (List Byte))
  /-- ETH_TX (R531): Descriptor queuing an Ethernet frame for transmission. -/
  | ethTx (n : Fin 64) (host : Option (List Byte))
  /-- RESERVED_DESCRIPTOR_OPCODE (R415): A descriptor with a reserved or disallowed opcode completes with BAD_OPCODE. -/
  | reservedDescriptorOpcode (n : Fin 64)
  /-- HB_TIMEOUT_EXPIRY (R424): No doorbell from a host for HB_TIMEOUT: the host is lost and its pairs stop. -/
  | hbTimeoutExpiry (h : Fin 2)
  /-- HOLD_T_EXPIRY (R426): HOLD_T after a host loss the slot's policy acts as RAMP_ZERO, or HANDOVER_FAIL is raised. -/
  | holdTExpiry (n : Fin 2)
  /-- PCIE_LINK_UP (R430): The PCIe link reaches DL_Active. -/
  | pcieLinkUp (speed : Fin 4) (wide bme memEn : Bool)
  /-- PCIE_LINK_DOWN (R430): The PCIe link leaves DL_Active and the PCIE host is lost. -/
  | pcieLinkDown
  /-- BME_CLEARED (R424): The host clears Bus Master Enable and the PCIE host is lost. -/
  | bmeCleared
  /-- START_UP (R489): On release of a package reset the module starts: march or fill, PLL, boot ROM, first stage and domains. -/
  | startUp (test fusesOk : Bool) (marchFail : Option Nat) (lost : Fin 65536) (locks trained : Bool)
  /-- BOOTLOCK_WRITE (R443): A write of PROT.BOOTLOCK.LOCK sets BOOTLOCK and starts the confirm window. -/
  | bootlockWrite (master : Fin 21) (value : Nat)
  /-- BOOT_CONFIRM (R444): AC0 writes BOOT_CONFIRM, making a pending slot active and raising the rollback counter. -/
  | bootConfirm (master : Fin 21) (value : Nat)
  /-- BOOT_CONFIRM_TIMEOUT (R443): No confirm within 5 s of BOOTLOCK and a BOOT_UNCONFIRMED package reset follows. -/
  | bootConfirmTimeout
  /-- AUTH_LOCKOUT_EXPIRY (R450): AUTH_LOCKOUT_T ends and challenges for the role are accepted again. -/
  | authLockoutExpiry (role : Fin 3)
  /-- TOKEN_EXPIRY (R455): Device time reaches the held token's EXPIRY and the token stops being valid. -/
  | tokenExpiry
  /-- TOKEN_RESUME_EXPIRY (R455): TOKEN_RESUME_T of powered time passes without synchronisation and the stored token stops counting as valid. -/
  | tokenResumeExpiry
  /-- IMMOB_STANDSTILL_EXPIRY (R456): Speed stays low for IMMOB_STANDSTILL_T and a pending immobilisation takes effect with TOKEN_EXPIRED. -/
  | immobStandstillExpiry (n : Fin 2)
  /-- SUPPLY_LEVEL_CHANGE (R467): A monitored rail crosses a warning, fault or reset level after the 10 µs filter. -/
  | supplyLevelChange (rail : Fin 4) (band : Fin 4)
  /-- POWER_ON_RESET (R483): VDD_AON falls below its reset level or first power is applied and everything is reset. -/
  | powerOnReset
  /-- PORST_PIN (R483): PORST_N held low for 1 µs triggers a guarded package reset of kind PIN. -/
  | porstPin
  /-- RESET_ASSERT (R484): 2 µs after a guarded reset trigger the reset is asserted in PD1 to PD11 and PD0 logic reset follows. -/
  | resetAssert
  /-- PD_ON (R476): A write to SYSCTL.PD_ON requests each named domain on, in ascending order. -/
  | pdOn (m : Fin 21) (mask : Nat)
  /-- PD_OFF (R476): A write to SYSCTL.PD_OFF requests each named domain off, in descending order. -/
  | pdOff (m : Fin 21) (mask : Nat)
  /-- DOMAIN_LOST (R479): A domain's switched rail or clock fails while ON; clamps engage and dependents go OFF. -/
  | domainLost (d : Fin 12) (clock : Bool)
  /-- CLOCK_GATE_WRITE (R471): A write to a clock-gate enable register, refused for units serving functions that are not OFF. -/
  | clockGateWrite (m : Fin 21) (set : Fin 3) (k : Fin 3) (value : Word)
  /-- RAMP_STEP (R472): RAMP_STEP_T elapses and the clock moves to the next divider step of its ramp. -/
  | rampStep
  /-- REF_MONITOR_WINDOW (R473): Each 4 µs window the REFCLK edge count is judged; two bad windows start the coast. -/
  | refMonitorWindow (count : Fin 256)
  /-- PLL_RELOCK (R475): REFCLK good for CLK_RELOCK_T: the PLL relocks, clocks ramp back and CLK_LOSS clears. -/
  | pllRelock
  /-- PLL_LOCK_TIMEOUT (R475): The PLL has not locked within 5 ms and PLL_LOCK_FAIL is raised. -/
  | pllLockTimeout
  /-- LPO_CHECK (R469): Every 1 ms with the PLL locked the LPO is measured against REFCLK. -/
  | lpoCheck (ppm : Int)
  /-- REQUEST_RUN (R481): PWR_MODE.REQUEST = RUN returns the module from IDLE. -/
  | requestRun (m : Fin 21)
  /-- REQUEST_IDLE (R481): PWR_MODE.REQUEST = IDLE selects the sleep clock-gate set, refused while a bridge is not OFF. -/
  | requestIdle (m : Fin 21)
  /-- REQUEST_SLEEP (R481): PWR_MODE.REQUEST = SLEEP stops clocks and retains SRAM, refused while functions in PD3, PD4 or PD7 to PD11 are not OFF. -/
  | requestSleep (m : Fin 21)
  /-- REQUEST_DEEP_SLEEP (R481): PWR_MODE.REQUEST = DEEP_SLEEP switches off PD11 to PD1 and lowers WAKE_OUT. -/
  | requestDeepSleep (m : Fin 21)
  /-- REQUEST_OFF (R481): PWR_MODE.REQUEST = OFF enters storage mode with SN stopped. -/
  | requestOff (m : Fin 21)
  /-- IDLE_WAKE (R482): An interrupt to the application cores returns the module from IDLE to RUN. -/
  | idleWake
  /-- SLEEP_WAKE (R482): A sentinel or WAKE-pin wake returns the module from SLEEP to RUN within 400 µs. -/
  | sleepWake
  /-- WDT_KICK (R487): A write to SYSCTL.WDT_KICK restarts the watchdog count when it carries 0x5AC3. -/
  | wdtKick (m : Fin 21) (value : Word)
  /-- WATCHDOG_EXPIRY (R487): TIMEOUT ms pass without a valid kick and a WATCHDOG package reset follows. -/
  | watchdogExpiry
  /-- RESET_REQ (R488): A keyed write of SYSCTL.RESET_REQ.GO requests a SOFTWARE package reset. -/
  | resetReq (m : Fin 21) (value : Word)
  /-- CAN_FRAME_RX (R499): A controller receives a valid frame and stores, passes or Aqosh-checks it by its receive object. -/
  | canFrameRx (n : Fin 4) (xtd rtr fdf brs esi : Bool) (id : Nat) (data : List Byte)
  /-- RXO_STATUS_READ (R500): A read of CAN.RXO_STATUS_j clears NEW and LOST and copies the object into the master's snapshot. -/
  | rxoStatusRead (master : Fin 21) (n : Fin 4) (j : Fin 512)
  /-- CAN_TX_START (R503): A controller offers the bus its lowest pending identifier or window frame, wrapping Aqosh PDUs. -/
  | canTxStart (n : Fin 4) (won : Bool)
  /-- CAN_FRAME_TX_DONE (R502): A frame is transmitted without error and its CAN_TX completes. -/
  | canFrameTxDone (n : Fin 4) (tdcv : Nat)
  /-- CAN_ERROR (R506): A bus error updates the error counters, possibly reaching error-passive or bus-off. -/
  | canError (n : Fin 4) (kind : CanErr)
  /-- CAN_BUS_OFF_RECOVERY (R506): After 128 occurrences of 11 recessive bits the controller leaves bus-off. -/
  | canBusOffRecovery (n : Fin 4)
  /-- CAN_WINDOW_OPEN (R504): An active schedule slot window opens and its frames are offered. -/
  | canWindowOpen (n : Fin 4) (k : Fin 64)
  /-- CAN_WINDOW_END (R505): A schedule window ends without its frame beginning; a miss is counted. -/
  | canWindowEnd (n : Fin 4)
  /-- AQ_TIMEOUT_EXPIRY (R513): No PDU accepted for AQ_TIMEOUT; TIMED_OUT is set and a commanding slot goes to zero torque. -/
  | aqTimeoutExpiry (c : Fin 32)
  /-- AQ_SKEW_EXPIRY (R516): A dual-network skew window ends without a second copy and the first is discarded. -/
  | aqSkewExpiry (c : Fin 32)
  /-- PTP_SYNC_RX (R525): An 802.1AS Sync is received and timestamped; a one-step Sync runs the servo. -/
  | ptpSyncRx (domain port seq : Nat) (logInterval : Int) (age : Nat) (oneStep : Option PtpTime)
  /-- PTP_FOLLOW_UP_RX (R525): A Follow_Up is received and the servo computes the offset, steps or adjusts frequency. -/
  | ptpFollowUpRx (domain port seq : Nat) (t : PtpTime)
  /-- PTP_ANNOUNCE_RX (R526): An Announce is received and best-master selection may change the grandmaster. -/
  | ptpAnnounceRx (domain : Nat) (logInterval : Int) (a : Announce)
  /-- PDELAY_REQ_SEND (R533): Every 2^PDELAY_LOG_INT s a Pdelay_Req is sent. -/
  | pdelayReqSend
  /-- PTP_PDELAY_REQ_RX (R533): A received Pdelay_Req is answered two-step. -/
  | ptpPdelayReqRx (requester seq age : Nat)
  /-- PTP_PDELAY_RESP_RX (R533): A Pdelay_Resp and follow-up update meanLinkDelay and asCapable. -/
  | ptpPdelayRespRx (seq t2 t3 age : Nat)
  /-- SYNC_RECEIPT_TIMEOUT (R524): syncReceiptTimeout expires and a SYNCED clock enters HOLDOVER. -/
  | syncReceiptTimeout
  /-- HOLDOVER_EXPIRY (R524): HOLDOVER_T passes and the clock enters UNSYNC. -/
  | holdoverExpiry
  /-- TIME_STEP_TIMEOUT (R527): No Sync within 2 s of an accepted TIME_STEP_ACCEPT; it completes STATE_REFUSED. -/
  | timeStepTimeout
  /-- ETH_LINK_CHANGE (R530): The Ethernet link goes up or down; a loss raises ETH_LINK_DOWN and aborts queued ETH_TX. -/
  | ethLinkChange (up : Bool) (speed : Fin 3)
  /-- ETH_FRAME_RX (R531): An accepted Ethernet frame is delivered to 802.1AS, Aqosh or a FRAME record. -/
  | ethFrameRx (fcsOk : Bool) (frame : List Byte) (age : Nat)
  /-- ETH_FRAME_TX_DONE (R531): An Ethernet frame has been sent and its ETH_TX completes. -/
  | ethFrameTxDone (age : Nat)
  /-- TIME_NOW_READ (R543): A read of TIME.NOW_NS returns NS and latches the SEC and FRAC registers. -/
  | timeNowRead (master : Fin 21)
  /-- TPO_ARM (R534): TPO_CTRL.ARM arms a TIME-mode output, refused with ARM_ERR for bad widths. -/
  | tpoArm (master : Fin 21) (k : Fin 8) (width : Nat)
  /-- TPO_DISARM (R534): TPO_CTRL.DISARM disarms the output, which goes inactive at once. -/
  | tpoDisarm (master : Fin 21) (k : Fin 8)
  /-- TPO_EDGE (R535): A TIME-mode TPO edge time is reached and placed by the fine interpolator. -/
  | tpoEdge (k : Fin 8)
  /-- EVCAP_EDGE (R537): A qualified edge on a capture input is timestamped into the channel FIFO. -/
  | evcapEdge (c : Fin 5) (falling : Bool)
  /-- EVCAP_INFO_READ (R537): A read of TIME.EVCAP_INFO_c removes the oldest capture entry. -/
  | evcapInfoRead (master : Fin 21) (c : Fin 5)
  /-- MDIO_GO (R543): Setting ETH.MDIO.GO starts an MDIO transaction. -/
  | mdioGo (master : Fin 21) (value : Word)
  /-- MDIO_DONE (R530): An MDIO transaction ends and GO clears with any read data. -/
  | mdioDone (data : Fin 65536)
  /-- SN_ROUND (R545): Every SN_ROUND_T the sentinel samples its channels, powers the sensor and evaluates rules. -/
  | snRound (vbat ntc0 ntc1 : List Int)
  /-- SN_BURST_END (R547): A sensor burst ends and movement is judged, updating ROTATION. -/
  | snBurstEnd (value : Int) (within : Nat) (invalid : Bool)
  /-- WAKE_PIN_EDGE (R544): A filtered WAKE pin change is seen by the sentinel and evaluated by its rules. -/
  | wakePinEdge (k : Fin 4) (level : Bool)
  /-- SN_CAN_FRAME (R552): The wake-frame decoder receives a classical frame or error and matches filters. -/
  | snCanFrame (error : Bool) (id : Fin 536870912) (xtd fdf : Bool) (dlc : Fin 16) (data : List Byte)
  /-- PARK_VDC_COMPARE (R553): During a park short each named bridge's V_DC is compared with PARK_VDC_LIM and ASC applied above it. -/
  | parkVdcCompare (b : Fin 2)
  /-- WAKE_OUT_EXPIRY (R550): SN_WAKE_OUT_T after a WAKE_OUT action WAKE_OUT falls. -/
  | wakeOutExpiry
  /-- SN_HANG_TIMER (R560): No sentinel round completes for 4 × SN_ROUND_T and SN is restarted. -/
  | snHangTimer
  /-- ECC_WRITEBACK (R566): A corrected SRAM word is written back in the bank's next free cycle. -/
  | eccWriteback (k : Fin 5) (a : Nat)
  /-- SRAM_SCRUB_STEP (R579): The scrubber reads and corrects the next word of a bank in an idle cycle. -/
  | sramScrubStep (k : Fin 5) (bank : Fin 32) (result : Fin 3)
  /-- MARCH_GO (R577): MARCH_CTRL.GO starts a transparent march on the named banks, or is refused. -/
  | marchGo (m : Fin 21) (mem : Fin 8)
  /-- MARCH_ABORT (R591): MARCH_CTRL.ABORT restores the segment and ends the march. -/
  | marchAbort (m : Fin 21)
  /-- MARCH_SEGMENT_DONE (R577): A march segment completes or fails and the march moves on or stops. -/
  | marchSegmentDone (outcome : MarchOutcome)
  /-- ARBITER_RECOVERY_EXPIRY (R569): 1 ms after a requester's reset release the arbiter returns to SERVICE mode. -/
  | arbiterRecoveryExpiry (a : Fin 13)
  /-- HK_ROUND (R580): Every 1 ms the housekeeping round converts channels, checks sensors and publishes values. -/
  | hkRound (codes : List Nat) (dies : List (Option Int)) (mram : Option Int)
  /-- STO_TEST_BOTH_ASSERTED (R388): Both STO inputs have been asserted together for at least 1 ms and STO_TEST moves to ASSERTED_SEEN. -/
  | stoTestBothAsserted
  /-- ANNOUNCE_RECEIPT_TIMEOUT (R533): No Announce has been received for announceReceiptTimeout and best-master selection loses or changes its grandmaster. -/
  | announceReceiptTimeout
  /-- LOG_EXPORT_DONE (R416): The last entry of a LOG_EXPORT has been written into the pair's buffers and the bulk transfer completes. -/
  | logExportDone
  /-- BEDROCK_IMAGE_CHECKED (R162): The bedrock image has been read into import staging and checked, and it is refused with IMPORT_REFUSED or its installation begins. -/
  | bedrockImageChecked
  /-- TOKEN_NOT_BEFORE (R455): Device time reaches a held token's NOT_BEFORE and the token becomes valid for its slots. -/
  | tokenNotBefore
  /-- CORE_HALT_END (R397): The debug port ends the halt of a safety pair or application core, withdrawing the debug guard's request once the slots are OFF and restarting the watchdog count. -/
  | coreHaltEnd (m : Fin 21)
  /-- LATCH_RECORD_WRITE_DONE (R486): A latch-record write to MRAM ends and a package reset guard held at its step 4 proceeds. -/
  | latchRecordWriteDone
  /-- PCIE_COMPLETION_TIMEOUT (R434): A ring or data access to PCIe host memory receives no completion within 1 ms, raising RING_DMA_ERR and stopping the pair through its fault path. -/
  | pcieCompletionTimeout (n : Fin 64)
  deriving DecidableEq, Repr

end Sys2Proof
end

