-- ==== Sys2Proof/Decode.lean ====
section
/-! DEFINITION. Decoding of command words. The table of operations and events gives no row any bits: a command reaches the block as an operation or an
event, not as a word, so no word spells one. -/

namespace Sys2Proof

/-- The command that a word spells by the table's bits: no row has bits, so none. -/
def decodeTableWord (_nbits _w : Nat) : Option Instr := none

end Sys2Proof
end

