-- ==== Sys2Proof/Machine/FaultMap.lean ====
section
/-! DEFINITION. The fault codes of the T960 (R13 and the fault table of each chapter): name, code, default reaction
class (the first default, R372) and who may change it. -/

namespace Sys2Proof.Machine

/-- The roles of R4, as the Role columns and RP_BIND name them. -/
inductive Role where
  | operator | installer | maker
  deriving DecidableEq, Repr

/-- Every fault of the chapters' fault tables. -/
inductive FaultName where
  | CLK_LOSS
  | PLL_LOCK_FAIL
  | SUPPLY_WARN
  | SUPPLY_FAULT
  | DOMAIN_TIMEOUT
  | DOMAIN_LOST
  | GATE_REFUSED
  | RESET_RECORDED
  | LPO_TRIM
  | ISOLATION_FAULT
  | MODE_REFUSED
  | SRAM_CORR
  | SRAM_UNCORR
  | WINDOW_UNCORR
  | MARCH_FAIL
  | MARCH_ABORTED
  | RET_LOSS
  | SCRUB_LATE
  | CE_ILLEGAL
  | CE_ALIGN
  | CE_STACK
  | CE_WPWM_DENIED
  | CE_BUS_ERROR
  | CE_MEM_CORR
  | CE_MEM_UNCORR
  | CE_DEADLINE_MISS
  | CE_WATCHDOG
  | CE_HANG
  | CE_LOAD_REFUSED
  | CE_START_TIMEOUT
  | CE_STOP_TIMEOUT
  | CE_PUBL_DROP
  | CE_PORT_FAULT
  | SLOT_TIMEOUT
  | FLY_NO_SYNC
  | FLY_BEMF_OVER_DC
  | MISSING_PHASE
  | OBSERVER_LOSS
  | CTRL_SAT_IMPLAUSIBLE
  | SHUNT_PREDICT_LIMIT
  | OVERSPEED
  | INJ_ABORT
  | MRAM_FENCED
  | BEDROCK_INVALID
  | BEDROCK_REPAIRED
  | ATLAS_NODE_UNCORR
  | WINDOW_STARVED
  | STRATA_CLAMP
  | ATLAS_EDGE
  | ATLAS_UNAVAIL
  | DRESS_TIMEOUT
  | DRESS_LOSS
  | SCRUB_OVERDUE
  | REMAP_LOW
  | WEAR_LIMIT
  | IMPORT_REFUSED
  | MRAM_UNCORR_OTHER
  | TORN_UPDATE
  | GEN_MISMATCH
  | PERIOD_RANGE
  | ERR_SAT
  | TRIP_ACTED
  | TRIP_ESCALATE
  | LOCK_FAIL
  | BRIDGE_TIMEOUT
  | PWM_FROZEN
  | SAT_DESAT
  | DESAT_REPEAT
  | UVLO_POS
  | UVLO_NEG
  | LEG_HANDSHAKE
  | HANDSHAKE_ESC
  | LEG_CONFLICT
  | GATE_STUCK
  | CROSS_LOSS
  | LINK_ERR
  | SAT_FENCED
  | SAT_OT_WARN
  | SAT_OT_SHUT
  | SAT_TIMEOUT
  | HINT_APPLIED
  | SUPPLY_REG
  | CURRENT_SENSOR
  | SHUNT_SENSOR
  | CHECK_UNATTRIBUTED
  | ADC_OVERRANGE
  | OFFSET_REJECT
  | DS_OVERRANGE
  | DS_INVALID
  | VDC_MISMATCH
  | ADC_REF_FAULT
  | RSV_AMPLITUDE
  | RSV_TRACKING
  | RSV_PHASE_LAG
  | RSV_EXC_FAULT
  | ENC_QUAD_ERR
  | INDEX_DEVIATION
  | ENC_INDEX_FAULT
  | HALL_INVALID
  | HALL_SEQUENCE
  | SER_CRC
  | SER_LOST
  | SER_ENC_ERROR
  | POS_DISAGREE
  | POS_TIMEOUT
  | TORQUE_TRACK
  | TORQUE_EST
  | TORQUE_REF
  | MON_PWR_MISMATCH
  | MON_DEGRADED
  | MONITOR_STALE
  | VDC_OVERVOLT
  | LOCKSTEP_SELFTEST
  | LOCKSTEP_MISMATCH
  | LOCKSTEP_BROKEN
  | SAFETY_WDG
  | STO_DISCREPANCY
  | STO_PATH_FAULT
  | STO_STOP
  | SAFE_RESET_REFUSED
  | DISCHARGE_BACKUP
  | DISCHARGE_FAIL
  | DEBUG_GUARD
  | BENCH_EXIT
  | PEER_SAFE
  | ASC_SIDE_SWAP
  | DCHG_TIMEOUT
  | HOST_LOST
  | RING_FORMAT
  | RING_DMA_ERR
  | RING_ACCESS
  | RING_TIMEOUT
  | HANDOVER_FAIL
  | RECORD_DROP
  | PCIE_LINK_ERR
  | BOOT_FALLBACK
  | BOOT_RECOVERY
  | PROT_WRITE_LOCKED
  | MPU_VIOLATION
  | AUTH_FAIL
  | AUTH_LOCKOUT
  | TOKEN_REFUSED
  | TOKEN_EXPIRED
  | AUDIT_NEAR_FULL
  | AUDIT_FULL
  | AUDIT_WRITE_FAIL
  | FW_UPDATE_FAIL
  | ROLLBACK_REFUSED
  | FUSE_FAULT
  | CAN_BUS_OFF
  | CAN_BUS_OFF_REPEAT
  | CAN_ERR_PASSIVE
  | CAN_TIMEOUT
  | CAN_SLOT_MISSED
  | AQ_REJECT
  | AQ_TIMEOUT
  | AQ_TIME_UNSYNC
  | AQ_DUAL_MISMATCH
  | AQ_DUAL_MISSING
  | JUMP_REFUSED
  | TIME_STEPPED
  | GM_CHANGED
  | SYNC_LOST
  | ETH_LINK_DOWN
  | PDELAY_EXCEEDED
  | TPO_LATE
  | CAP_OVERRUN
  | SYNC_LINK_LOST
  | SN_PARK_ASC
  | SN_TOW_WAKE
  | SN_PARK_LATE
  | SN_PARK_NOIMAGE
  | SN_SENSOR_FAULT
  | SN_EVENT
  | SN_LOG_OVERRUN
  | SN_HANG
  | TEMP_BROKEN
  | TEMP_GROUP_LOST
  | DIE_HOT
  | DIE_OVERTEMP
  | MRAM_HOT
  | HK_PLAUS
  | HK_ROUND_LATE
  deriving DecidableEq, Repr

/-- The 16-bit fault code (R13). -/
def FaultName.code : FaultName → Nat
  | .CLK_LOSS => 0x0101
  | .PLL_LOCK_FAIL => 0x0102
  | .SUPPLY_WARN => 0x0103
  | .SUPPLY_FAULT => 0x0104
  | .DOMAIN_TIMEOUT => 0x0105
  | .DOMAIN_LOST => 0x0106
  | .GATE_REFUSED => 0x0107
  | .RESET_RECORDED => 0x0108
  | .LPO_TRIM => 0x0109
  | .ISOLATION_FAULT => 0x010A
  | .MODE_REFUSED => 0x010B
  | .SRAM_CORR => 0x0201
  | .SRAM_UNCORR => 0x0202
  | .WINDOW_UNCORR => 0x0203
  | .MARCH_FAIL => 0x0204
  | .MARCH_ABORTED => 0x0205
  | .RET_LOSS => 0x0206
  | .SCRUB_LATE => 0x0207
  | .CE_ILLEGAL => 0x0301
  | .CE_ALIGN => 0x0302
  | .CE_STACK => 0x0303
  | .CE_WPWM_DENIED => 0x0304
  | .CE_BUS_ERROR => 0x0305
  | .CE_MEM_CORR => 0x0306
  | .CE_MEM_UNCORR => 0x0307
  | .CE_DEADLINE_MISS => 0x0308
  | .CE_WATCHDOG => 0x0309
  | .CE_HANG => 0x030A
  | .CE_LOAD_REFUSED => 0x030B
  | .CE_START_TIMEOUT => 0x030C
  | .CE_STOP_TIMEOUT => 0x030D
  | .CE_PUBL_DROP => 0x030E
  | .CE_PORT_FAULT => 0x030F
  | .SLOT_TIMEOUT => 0x0380
  | .FLY_NO_SYNC => 0x0381
  | .FLY_BEMF_OVER_DC => 0x0382
  | .MISSING_PHASE => 0x0383
  | .OBSERVER_LOSS => 0x0384
  | .CTRL_SAT_IMPLAUSIBLE => 0x0385
  | .SHUNT_PREDICT_LIMIT => 0x0386
  | .OVERSPEED => 0x0387
  | .INJ_ABORT => 0x0388
  | .MRAM_FENCED => 0x0401
  | .BEDROCK_INVALID => 0x0402
  | .BEDROCK_REPAIRED => 0x0403
  | .ATLAS_NODE_UNCORR => 0x0404
  | .WINDOW_STARVED => 0x0405
  | .STRATA_CLAMP => 0x0406
  | .ATLAS_EDGE => 0x0407
  | .ATLAS_UNAVAIL => 0x0408
  | .DRESS_TIMEOUT => 0x0409
  | .DRESS_LOSS => 0x040A
  | .SCRUB_OVERDUE => 0x040B
  | .REMAP_LOW => 0x040C
  | .WEAR_LIMIT => 0x040D
  | .IMPORT_REFUSED => 0x040E
  | .MRAM_UNCORR_OTHER => 0x040F
  | .TORN_UPDATE => 0x0501
  | .GEN_MISMATCH => 0x0502
  | .PERIOD_RANGE => 0x0503
  | .ERR_SAT => 0x0504
  | .TRIP_ACTED => 0x0505
  | .TRIP_ESCALATE => 0x0506
  | .LOCK_FAIL => 0x0507
  | .BRIDGE_TIMEOUT => 0x0508
  | .PWM_FROZEN => 0x0509
  | .SAT_DESAT => 0x0601
  | .DESAT_REPEAT => 0x0602
  | .UVLO_POS => 0x0603
  | .UVLO_NEG => 0x0604
  | .LEG_HANDSHAKE => 0x0605
  | .HANDSHAKE_ESC => 0x0606
  | .LEG_CONFLICT => 0x0607
  | .GATE_STUCK => 0x0608
  | .CROSS_LOSS => 0x0609
  | .LINK_ERR => 0x060A
  | .SAT_FENCED => 0x060B
  | .SAT_OT_WARN => 0x060C
  | .SAT_OT_SHUT => 0x060D
  | .SAT_TIMEOUT => 0x060E
  | .HINT_APPLIED => 0x060F
  | .SUPPLY_REG => 0x0610
  | .CURRENT_SENSOR => 0x0701
  | .SHUNT_SENSOR => 0x0702
  | .CHECK_UNATTRIBUTED => 0x0703
  | .ADC_OVERRANGE => 0x0704
  | .OFFSET_REJECT => 0x0705
  | .DS_OVERRANGE => 0x0706
  | .DS_INVALID => 0x0707
  | .VDC_MISMATCH => 0x0708
  | .ADC_REF_FAULT => 0x0709
  | .RSV_AMPLITUDE => 0x0801
  | .RSV_TRACKING => 0x0802
  | .RSV_PHASE_LAG => 0x0803
  | .RSV_EXC_FAULT => 0x0804
  | .ENC_QUAD_ERR => 0x0805
  | .INDEX_DEVIATION => 0x0806
  | .ENC_INDEX_FAULT => 0x0807
  | .HALL_INVALID => 0x0808
  | .HALL_SEQUENCE => 0x0809
  | .SER_CRC => 0x080A
  | .SER_LOST => 0x080B
  | .SER_ENC_ERROR => 0x080C
  | .POS_DISAGREE => 0x080D
  | .POS_TIMEOUT => 0x080E
  | .TORQUE_TRACK => 0x0901
  | .TORQUE_EST => 0x0902
  | .TORQUE_REF => 0x0903
  | .MON_PWR_MISMATCH => 0x0904
  | .MON_DEGRADED => 0x0905
  | .MONITOR_STALE => 0x0906
  | .VDC_OVERVOLT => 0x0907
  | .LOCKSTEP_SELFTEST => 0x0908
  | .LOCKSTEP_MISMATCH => 0x0909
  | .LOCKSTEP_BROKEN => 0x090A
  | .SAFETY_WDG => 0x090B
  | .STO_DISCREPANCY => 0x090C
  | .STO_PATH_FAULT => 0x090D
  | .STO_STOP => 0x090E
  | .SAFE_RESET_REFUSED => 0x090F
  | .DISCHARGE_BACKUP => 0x0910
  | .DISCHARGE_FAIL => 0x0911
  | .DEBUG_GUARD => 0x0912
  | .BENCH_EXIT => 0x0913
  | .PEER_SAFE => 0x0914
  | .ASC_SIDE_SWAP => 0x0915
  | .DCHG_TIMEOUT => 0x0916
  | .HOST_LOST => 0x0A01
  | .RING_FORMAT => 0x0A02
  | .RING_DMA_ERR => 0x0A03
  | .RING_ACCESS => 0x0A04
  | .RING_TIMEOUT => 0x0A05
  | .HANDOVER_FAIL => 0x0A06
  | .RECORD_DROP => 0x0A07
  | .PCIE_LINK_ERR => 0x0A08
  | .BOOT_FALLBACK => 0x0B01
  | .BOOT_RECOVERY => 0x0B02
  | .PROT_WRITE_LOCKED => 0x0B03
  | .MPU_VIOLATION => 0x0B04
  | .AUTH_FAIL => 0x0B05
  | .AUTH_LOCKOUT => 0x0B06
  | .TOKEN_REFUSED => 0x0B07
  | .TOKEN_EXPIRED => 0x0B08
  | .AUDIT_NEAR_FULL => 0x0B09
  | .AUDIT_FULL => 0x0B0A
  | .AUDIT_WRITE_FAIL => 0x0B0B
  | .FW_UPDATE_FAIL => 0x0B0C
  | .ROLLBACK_REFUSED => 0x0B0D
  | .FUSE_FAULT => 0x0B0E
  | .CAN_BUS_OFF => 0x0C01
  | .CAN_BUS_OFF_REPEAT => 0x0C02
  | .CAN_ERR_PASSIVE => 0x0C03
  | .CAN_TIMEOUT => 0x0C04
  | .CAN_SLOT_MISSED => 0x0C05
  | .AQ_REJECT => 0x0C06
  | .AQ_TIMEOUT => 0x0C07
  | .AQ_TIME_UNSYNC => 0x0C08
  | .AQ_DUAL_MISMATCH => 0x0C09
  | .AQ_DUAL_MISSING => 0x0C0A
  | .JUMP_REFUSED => 0x0D01
  | .TIME_STEPPED => 0x0D02
  | .GM_CHANGED => 0x0D03
  | .SYNC_LOST => 0x0D04
  | .ETH_LINK_DOWN => 0x0D05
  | .PDELAY_EXCEEDED => 0x0D06
  | .TPO_LATE => 0x0D07
  | .CAP_OVERRUN => 0x0D08
  | .SYNC_LINK_LOST => 0x0D09
  | .SN_PARK_ASC => 0x0E01
  | .SN_TOW_WAKE => 0x0E02
  | .SN_PARK_LATE => 0x0E03
  | .SN_PARK_NOIMAGE => 0x0E04
  | .SN_SENSOR_FAULT => 0x0E05
  | .SN_EVENT => 0x0E06
  | .SN_LOG_OVERRUN => 0x0E07
  | .SN_HANG => 0x0E08
  | .TEMP_BROKEN => 0x0F01
  | .TEMP_GROUP_LOST => 0x0F02
  | .DIE_HOT => 0x0F03
  | .DIE_OVERTEMP => 0x0F04
  | .MRAM_HOT => 0x0F05
  | .HK_PLAUS => 0x0F06
  | .HK_ROUND_LATE => 0x0F07

/-- The default reaction class, 0 to 4: the first default where several are listed (R372). -/
def FaultName.defaultClass : FaultName → Nat
  | .CLK_LOSS => 3
  | .PLL_LOCK_FAIL => 3
  | .SUPPLY_WARN => 1
  | .SUPPLY_FAULT => 3
  | .DOMAIN_TIMEOUT => 3
  | .DOMAIN_LOST => 3
  | .GATE_REFUSED => 0
  | .RESET_RECORDED => 1
  | .LPO_TRIM => 1
  | .ISOLATION_FAULT => 3
  | .MODE_REFUSED => 0
  | .SRAM_CORR => 0
  | .SRAM_UNCORR => 3
  | .WINDOW_UNCORR => 1
  | .MARCH_FAIL => 4
  | .MARCH_ABORTED => 0
  | .RET_LOSS => 1
  | .SCRUB_LATE => 1
  | .CE_ILLEGAL => 3
  | .CE_ALIGN => 3
  | .CE_STACK => 3
  | .CE_WPWM_DENIED => 3
  | .CE_BUS_ERROR => 3
  | .CE_MEM_CORR => 0
  | .CE_MEM_UNCORR => 3
  | .CE_DEADLINE_MISS => 0
  | .CE_WATCHDOG => 3
  | .CE_HANG => 3
  | .CE_LOAD_REFUSED => 0
  | .CE_START_TIMEOUT => 1
  | .CE_STOP_TIMEOUT => 3
  | .CE_PUBL_DROP => 0
  | .CE_PORT_FAULT => 3
  | .SLOT_TIMEOUT => 3
  | .FLY_NO_SYNC => 3
  | .FLY_BEMF_OVER_DC => 3
  | .MISSING_PHASE => 3
  | .OBSERVER_LOSS => 3
  | .CTRL_SAT_IMPLAUSIBLE => 3
  | .SHUNT_PREDICT_LIMIT => 1
  | .OVERSPEED => 3
  | .INJ_ABORT => 0
  | .MRAM_FENCED => 3
  | .BEDROCK_INVALID => 4
  | .BEDROCK_REPAIRED => 0
  | .ATLAS_NODE_UNCORR => 1
  | .WINDOW_STARVED => 1
  | .STRATA_CLAMP => 1
  | .ATLAS_EDGE => 0
  | .ATLAS_UNAVAIL => 3
  | .DRESS_TIMEOUT => 1
  | .DRESS_LOSS => 0
  | .SCRUB_OVERDUE => 1
  | .REMAP_LOW => 1
  | .WEAR_LIMIT => 1
  | .IMPORT_REFUSED => 0
  | .MRAM_UNCORR_OTHER => 1
  | .TORN_UPDATE => 0
  | .GEN_MISMATCH => 1
  | .PERIOD_RANGE => 1
  | .ERR_SAT => 1
  | .TRIP_ACTED => 0
  | .TRIP_ESCALATE => 3
  | .LOCK_FAIL => 3
  | .BRIDGE_TIMEOUT => 3
  | .PWM_FROZEN => 1
  | .SAT_DESAT => 0
  | .DESAT_REPEAT => 3
  | .UVLO_POS => 3
  | .UVLO_NEG => 3
  | .LEG_HANDSHAKE => 0
  | .HANDSHAKE_ESC => 3
  | .LEG_CONFLICT => 3
  | .GATE_STUCK => 3
  | .CROSS_LOSS => 3
  | .LINK_ERR => 0
  | .SAT_FENCED => 3
  | .SAT_OT_WARN => 2
  | .SAT_OT_SHUT => 3
  | .SAT_TIMEOUT => 3
  | .HINT_APPLIED => 1
  | .SUPPLY_REG => 1
  | .CURRENT_SENSOR => 3
  | .SHUNT_SENSOR => 2
  | .CHECK_UNATTRIBUTED => 3
  | .ADC_OVERRANGE => 1
  | .OFFSET_REJECT => 1
  | .DS_OVERRANGE => 1
  | .DS_INVALID => 3
  | .VDC_MISMATCH => 3
  | .ADC_REF_FAULT => 3
  | .RSV_AMPLITUDE => 3
  | .RSV_TRACKING => 3
  | .RSV_PHASE_LAG => 3
  | .RSV_EXC_FAULT => 3
  | .ENC_QUAD_ERR => 3
  | .INDEX_DEVIATION => 0
  | .ENC_INDEX_FAULT => 3
  | .HALL_INVALID => 3
  | .HALL_SEQUENCE => 1
  | .SER_CRC => 0
  | .SER_LOST => 3
  | .SER_ENC_ERROR => 3
  | .POS_DISAGREE => 3
  | .POS_TIMEOUT => 3
  | .TORQUE_TRACK => 3
  | .TORQUE_EST => 3
  | .TORQUE_REF => 3
  | .MON_PWR_MISMATCH => 1
  | .MON_DEGRADED => 2
  | .MONITOR_STALE => 3
  | .VDC_OVERVOLT => 3
  | .LOCKSTEP_SELFTEST => 4
  | .LOCKSTEP_MISMATCH => 4
  | .LOCKSTEP_BROKEN => 1
  | .SAFETY_WDG => 4
  | .STO_DISCREPANCY => 4
  | .STO_PATH_FAULT => 4
  | .STO_STOP => 0
  | .SAFE_RESET_REFUSED => 0
  | .DISCHARGE_BACKUP => 1
  | .DISCHARGE_FAIL => 4
  | .DEBUG_GUARD => 1
  | .BENCH_EXIT => 3
  | .PEER_SAFE => 3
  | .ASC_SIDE_SWAP => 1
  | .DCHG_TIMEOUT => 3
  | .HOST_LOST => 1
  | .RING_FORMAT => 1
  | .RING_DMA_ERR => 1
  | .RING_ACCESS => 0
  | .RING_TIMEOUT => 1
  | .HANDOVER_FAIL => 1
  | .RECORD_DROP => 0
  | .PCIE_LINK_ERR => 0
  | .BOOT_FALLBACK => 1
  | .BOOT_RECOVERY => 4
  | .PROT_WRITE_LOCKED => 1
  | .MPU_VIOLATION => 1
  | .AUTH_FAIL => 0
  | .AUTH_LOCKOUT => 1
  | .TOKEN_REFUSED => 0
  | .TOKEN_EXPIRED => 1
  | .AUDIT_NEAR_FULL => 1
  | .AUDIT_FULL => 1
  | .AUDIT_WRITE_FAIL => 1
  | .FW_UPDATE_FAIL => 0
  | .ROLLBACK_REFUSED => 0
  | .FUSE_FAULT => 4
  | .CAN_BUS_OFF => 1
  | .CAN_BUS_OFF_REPEAT => 1
  | .CAN_ERR_PASSIVE => 0
  | .CAN_TIMEOUT => 1
  | .CAN_SLOT_MISSED => 1
  | .AQ_REJECT => 0
  | .AQ_TIMEOUT => 1
  | .AQ_TIME_UNSYNC => 1
  | .AQ_DUAL_MISMATCH => 1
  | .AQ_DUAL_MISSING => 1
  | .JUMP_REFUSED => 1
  | .TIME_STEPPED => 0
  | .GM_CHANGED => 0
  | .SYNC_LOST => 1
  | .ETH_LINK_DOWN => 1
  | .PDELAY_EXCEEDED => 1
  | .TPO_LATE => 0
  | .CAP_OVERRUN => 0
  | .SYNC_LINK_LOST => 1
  | .SN_PARK_ASC => 3
  | .SN_TOW_WAKE => 1
  | .SN_PARK_LATE => 1
  | .SN_PARK_NOIMAGE => 1
  | .SN_SENSOR_FAULT => 1
  | .SN_EVENT => 0
  | .SN_LOG_OVERRUN => 0
  | .SN_HANG => 1
  | .TEMP_BROKEN => 1
  | .TEMP_GROUP_LOST => 2
  | .DIE_HOT => 2
  | .DIE_OVERTEMP => 3
  | .MRAM_HOT => 1
  | .HK_PLAUS => 1
  | .HK_ROUND_LATE => 1

/-- The role that may change the reaction class; none for "No role". -/
def FaultName.changer : FaultName → Option Role
  | .CLK_LOSS => none
  | .PLL_LOCK_FAIL => none
  | .SUPPLY_WARN => some .maker
  | .SUPPLY_FAULT => none
  | .DOMAIN_TIMEOUT => none
  | .DOMAIN_LOST => none
  | .GATE_REFUSED => some .maker
  | .RESET_RECORDED => some .maker
  | .LPO_TRIM => some .maker
  | .ISOLATION_FAULT => none
  | .MODE_REFUSED => some .maker
  | .SRAM_CORR => some .maker
  | .SRAM_UNCORR => none
  | .WINDOW_UNCORR => some .installer
  | .MARCH_FAIL => none
  | .MARCH_ABORTED => some .installer
  | .RET_LOSS => some .maker
  | .SCRUB_LATE => some .maker
  | .CE_ILLEGAL => none
  | .CE_ALIGN => none
  | .CE_STACK => none
  | .CE_WPWM_DENIED => none
  | .CE_BUS_ERROR => some .installer
  | .CE_MEM_CORR => some .maker
  | .CE_MEM_UNCORR => none
  | .CE_DEADLINE_MISS => some .installer
  | .CE_WATCHDOG => none
  | .CE_HANG => none
  | .CE_LOAD_REFUSED => some .installer
  | .CE_START_TIMEOUT => some .installer
  | .CE_STOP_TIMEOUT => some .installer
  | .CE_PUBL_DROP => some .installer
  | .CE_PORT_FAULT => none
  | .SLOT_TIMEOUT => some .installer
  | .FLY_NO_SYNC => some .installer
  | .FLY_BEMF_OVER_DC => none
  | .MISSING_PHASE => some .installer
  | .OBSERVER_LOSS => some .installer
  | .CTRL_SAT_IMPLAUSIBLE => some .installer
  | .SHUNT_PREDICT_LIMIT => some .installer
  | .OVERSPEED => some .maker
  | .INJ_ABORT => some .installer
  | .MRAM_FENCED => none
  | .BEDROCK_INVALID => none
  | .BEDROCK_REPAIRED => some .maker
  | .ATLAS_NODE_UNCORR => some .installer
  | .WINDOW_STARVED => some .installer
  | .STRATA_CLAMP => some .installer
  | .ATLAS_EDGE => some .installer
  | .ATLAS_UNAVAIL => none
  | .DRESS_TIMEOUT => some .installer
  | .DRESS_LOSS => some .installer
  | .SCRUB_OVERDUE => some .maker
  | .REMAP_LOW => some .maker
  | .WEAR_LIMIT => some .maker
  | .IMPORT_REFUSED => some .installer
  | .MRAM_UNCORR_OTHER => some .maker
  | .TORN_UPDATE => some .installer
  | .GEN_MISMATCH => some .installer
  | .PERIOD_RANGE => some .installer
  | .ERR_SAT => some .installer
  | .TRIP_ACTED => some .installer
  | .TRIP_ESCALATE => some .installer
  | .LOCK_FAIL => some .installer
  | .BRIDGE_TIMEOUT => some .installer
  | .PWM_FROZEN => none
  | .SAT_DESAT => some .installer
  | .DESAT_REPEAT => none
  | .UVLO_POS => none
  | .UVLO_NEG => none
  | .LEG_HANDSHAKE => some .installer
  | .HANDSHAKE_ESC => none
  | .LEG_CONFLICT => some .installer
  | .GATE_STUCK => none
  | .CROSS_LOSS => none
  | .LINK_ERR => some .maker
  | .SAT_FENCED => none
  | .SAT_OT_WARN => some .installer
  | .SAT_OT_SHUT => none
  | .SAT_TIMEOUT => some .installer
  | .HINT_APPLIED => some .maker
  | .SUPPLY_REG => some .installer
  | .CURRENT_SENSOR => some .installer
  | .SHUNT_SENSOR => some .installer
  | .CHECK_UNATTRIBUTED => some .installer
  | .ADC_OVERRANGE => some .installer
  | .OFFSET_REJECT => some .installer
  | .DS_OVERRANGE => some .installer
  | .DS_INVALID => none
  | .VDC_MISMATCH => some .installer
  | .ADC_REF_FAULT => none
  | .RSV_AMPLITUDE => some .installer
  | .RSV_TRACKING => some .installer
  | .RSV_PHASE_LAG => some .installer
  | .RSV_EXC_FAULT => none
  | .ENC_QUAD_ERR => some .installer
  | .INDEX_DEVIATION => some .installer
  | .ENC_INDEX_FAULT => some .installer
  | .HALL_INVALID => some .installer
  | .HALL_SEQUENCE => some .installer
  | .SER_CRC => some .installer
  | .SER_LOST => some .installer
  | .SER_ENC_ERROR => some .installer
  | .POS_DISAGREE => some .installer
  | .POS_TIMEOUT => some .installer
  | .TORQUE_TRACK => some .installer
  | .TORQUE_EST => some .installer
  | .TORQUE_REF => some .installer
  | .MON_PWR_MISMATCH => some .installer
  | .MON_DEGRADED => some .installer
  | .MONITOR_STALE => none
  | .VDC_OVERVOLT => some .installer
  | .LOCKSTEP_SELFTEST => none
  | .LOCKSTEP_MISMATCH => none
  | .LOCKSTEP_BROKEN => none
  | .SAFETY_WDG => none
  | .STO_DISCREPANCY => none
  | .STO_PATH_FAULT => none
  | .STO_STOP => none
  | .SAFE_RESET_REFUSED => some .installer
  | .DISCHARGE_BACKUP => some .installer
  | .DISCHARGE_FAIL => none
  | .DEBUG_GUARD => none
  | .BENCH_EXIT => none
  | .PEER_SAFE => some .installer
  | .ASC_SIDE_SWAP => some .installer
  | .DCHG_TIMEOUT => some .installer
  | .HOST_LOST => some .installer
  | .RING_FORMAT => some .installer
  | .RING_DMA_ERR => some .installer
  | .RING_ACCESS => some .installer
  | .RING_TIMEOUT => some .installer
  | .HANDOVER_FAIL => some .installer
  | .RECORD_DROP => some .installer
  | .PCIE_LINK_ERR => some .maker
  | .BOOT_FALLBACK => some .maker
  | .BOOT_RECOVERY => none
  | .PROT_WRITE_LOCKED => some .maker
  | .MPU_VIOLATION => some .installer
  | .AUTH_FAIL => some .installer
  | .AUTH_LOCKOUT => some .installer
  | .TOKEN_REFUSED => some .operator
  | .TOKEN_EXPIRED => some .operator
  | .AUDIT_NEAR_FULL => some .installer
  | .AUDIT_FULL => some .installer
  | .AUDIT_WRITE_FAIL => some .maker
  | .FW_UPDATE_FAIL => some .maker
  | .ROLLBACK_REFUSED => some .maker
  | .FUSE_FAULT => none
  | .CAN_BUS_OFF => some .installer
  | .CAN_BUS_OFF_REPEAT => some .installer
  | .CAN_ERR_PASSIVE => some .installer
  | .CAN_TIMEOUT => some .installer
  | .CAN_SLOT_MISSED => some .installer
  | .AQ_REJECT => some .installer
  | .AQ_TIMEOUT => some .installer
  | .AQ_TIME_UNSYNC => some .installer
  | .AQ_DUAL_MISMATCH => some .installer
  | .AQ_DUAL_MISSING => some .installer
  | .JUMP_REFUSED => some .installer
  | .TIME_STEPPED => some .maker
  | .GM_CHANGED => some .installer
  | .SYNC_LOST => some .installer
  | .ETH_LINK_DOWN => some .installer
  | .PDELAY_EXCEEDED => some .installer
  | .TPO_LATE => some .installer
  | .CAP_OVERRUN => some .installer
  | .SYNC_LINK_LOST => some .installer
  | .SN_PARK_ASC => none
  | .SN_TOW_WAKE => some .installer
  | .SN_PARK_LATE => some .installer
  | .SN_PARK_NOIMAGE => some .installer
  | .SN_SENSOR_FAULT => some .installer
  | .SN_EVENT => some .installer
  | .SN_LOG_OVERRUN => some .installer
  | .SN_HANG => some .maker
  | .TEMP_BROKEN => some .installer
  | .TEMP_GROUP_LOST => some .installer
  | .DIE_HOT => some .installer
  | .DIE_OVERTEMP => none
  | .MRAM_HOT => some .maker
  | .HK_PLAUS => some .installer
  | .HK_ROUND_LATE => some .maker

/-- All faults, in code order. -/
def faultNames0 : List FaultName := [.CLK_LOSS, .PLL_LOCK_FAIL, .SUPPLY_WARN, .SUPPLY_FAULT, .DOMAIN_TIMEOUT, .DOMAIN_LOST, .GATE_REFUSED, .RESET_RECORDED, .LPO_TRIM, .ISOLATION_FAULT, .MODE_REFUSED, .SRAM_CORR, .SRAM_UNCORR, .WINDOW_UNCORR, .MARCH_FAIL, .MARCH_ABORTED, .RET_LOSS, .SCRUB_LATE, .CE_ILLEGAL, .CE_ALIGN, .CE_STACK, .CE_WPWM_DENIED, .CE_BUS_ERROR, .CE_MEM_CORR, .CE_MEM_UNCORR, .CE_DEADLINE_MISS, .CE_WATCHDOG, .CE_HANG, .CE_LOAD_REFUSED, .CE_START_TIMEOUT]
def faultNames1 : List FaultName := [.CE_STOP_TIMEOUT, .CE_PUBL_DROP, .CE_PORT_FAULT, .SLOT_TIMEOUT, .FLY_NO_SYNC, .FLY_BEMF_OVER_DC, .MISSING_PHASE, .OBSERVER_LOSS, .CTRL_SAT_IMPLAUSIBLE, .SHUNT_PREDICT_LIMIT, .OVERSPEED, .INJ_ABORT, .MRAM_FENCED, .BEDROCK_INVALID, .BEDROCK_REPAIRED, .ATLAS_NODE_UNCORR, .WINDOW_STARVED, .STRATA_CLAMP, .ATLAS_EDGE, .ATLAS_UNAVAIL, .DRESS_TIMEOUT, .DRESS_LOSS, .SCRUB_OVERDUE, .REMAP_LOW, .WEAR_LIMIT, .IMPORT_REFUSED, .MRAM_UNCORR_OTHER, .TORN_UPDATE, .GEN_MISMATCH, .PERIOD_RANGE]
def faultNames2 : List FaultName := [.ERR_SAT, .TRIP_ACTED, .TRIP_ESCALATE, .LOCK_FAIL, .BRIDGE_TIMEOUT, .PWM_FROZEN, .SAT_DESAT, .DESAT_REPEAT, .UVLO_POS, .UVLO_NEG, .LEG_HANDSHAKE, .HANDSHAKE_ESC, .LEG_CONFLICT, .GATE_STUCK, .CROSS_LOSS, .LINK_ERR, .SAT_FENCED, .SAT_OT_WARN, .SAT_OT_SHUT, .SAT_TIMEOUT, .HINT_APPLIED, .SUPPLY_REG, .CURRENT_SENSOR, .SHUNT_SENSOR, .CHECK_UNATTRIBUTED, .ADC_OVERRANGE, .OFFSET_REJECT, .DS_OVERRANGE, .DS_INVALID, .VDC_MISMATCH]
def faultNames3 : List FaultName := [.ADC_REF_FAULT, .RSV_AMPLITUDE, .RSV_TRACKING, .RSV_PHASE_LAG, .RSV_EXC_FAULT, .ENC_QUAD_ERR, .INDEX_DEVIATION, .ENC_INDEX_FAULT, .HALL_INVALID, .HALL_SEQUENCE, .SER_CRC, .SER_LOST, .SER_ENC_ERROR, .POS_DISAGREE, .POS_TIMEOUT, .TORQUE_TRACK, .TORQUE_EST, .TORQUE_REF, .MON_PWR_MISMATCH, .MON_DEGRADED, .MONITOR_STALE, .VDC_OVERVOLT, .LOCKSTEP_SELFTEST, .LOCKSTEP_MISMATCH, .LOCKSTEP_BROKEN, .SAFETY_WDG, .STO_DISCREPANCY, .STO_PATH_FAULT, .STO_STOP, .SAFE_RESET_REFUSED]
def faultNames4 : List FaultName := [.DISCHARGE_BACKUP, .DISCHARGE_FAIL, .DEBUG_GUARD, .BENCH_EXIT, .PEER_SAFE, .ASC_SIDE_SWAP, .DCHG_TIMEOUT, .HOST_LOST, .RING_FORMAT, .RING_DMA_ERR, .RING_ACCESS, .RING_TIMEOUT, .HANDOVER_FAIL, .RECORD_DROP, .PCIE_LINK_ERR, .BOOT_FALLBACK, .BOOT_RECOVERY, .PROT_WRITE_LOCKED, .MPU_VIOLATION, .AUTH_FAIL, .AUTH_LOCKOUT, .TOKEN_REFUSED, .TOKEN_EXPIRED, .AUDIT_NEAR_FULL, .AUDIT_FULL, .AUDIT_WRITE_FAIL, .FW_UPDATE_FAIL, .ROLLBACK_REFUSED, .FUSE_FAULT, .CAN_BUS_OFF]
def faultNames5 : List FaultName := [.CAN_BUS_OFF_REPEAT, .CAN_ERR_PASSIVE, .CAN_TIMEOUT, .CAN_SLOT_MISSED, .AQ_REJECT, .AQ_TIMEOUT, .AQ_TIME_UNSYNC, .AQ_DUAL_MISMATCH, .AQ_DUAL_MISSING, .JUMP_REFUSED, .TIME_STEPPED, .GM_CHANGED, .SYNC_LOST, .ETH_LINK_DOWN, .PDELAY_EXCEEDED, .TPO_LATE, .CAP_OVERRUN, .SYNC_LINK_LOST, .SN_PARK_ASC, .SN_TOW_WAKE, .SN_PARK_LATE, .SN_PARK_NOIMAGE, .SN_SENSOR_FAULT, .SN_EVENT, .SN_LOG_OVERRUN, .SN_HANG, .TEMP_BROKEN, .TEMP_GROUP_LOST, .DIE_HOT, .DIE_OVERTEMP]
def faultNames6 : List FaultName := [.MRAM_HOT, .HK_PLAUS, .HK_ROUND_LATE]

/-- All faults, in code order. -/
def faultNames : List FaultName :=
  faultNames0 ++ faultNames1 ++ faultNames2 ++ faultNames3 ++ faultNames4 ++ faultNames5 ++ faultNames6

/-- The fault of a code, if the code is not reserved (R14). -/
def faultOfCode (c : Nat) : Option FaultName := faultNames.find? (fun f => f.code == c)

end Sys2Proof.Machine
end

