-- ==== Sys2Proof/Machine/ParamMap.lean ====
section
/-! DEFINITION. The parameter records: every ID of the chapters' parameter tables with the flat layout of its value
(R419, R452, R633), range, default and roles, and the records of R632. -/

namespace Sys2Proof.Machine

/-- One element of a parameter's flat encoding: bytes, signedness, byte order (true: as on the wire, most
significant first), range, values allowed beside the range, and default. -/
structure PElem where
  size : Nat
  signed : Bool
  bigEndian : Bool
  lo : Int
  hi : Int
  extra : List Int
  dflt : Int
  deriving DecidableEq, Repr

/-- One parameter: its elements in flat order; for a list of up to n entries, the elements of one entry (else 0);
the roles of its Role column; defaults that differ along an array. -/
structure PDef where
  id : Nat
  elems : List PElem
  listOf : Nat
  roles : List Role
  dflts : List Int
  deriving DecidableEq, Repr

/-- A parameter value's place: ID, instance, element. -/
structure PKey where
  id : Nat
  inst : Nat
  idx : Nat
  deriving DecidableEq, Repr

/-- The order of parameter places. -/
def PKey.lt (a b : PKey) : Bool :=
  decide (a.id < b.id) || (a.id == b.id && (decide (a.inst < b.inst) || (a.inst == b.inst && decide (a.idx < b.idx))))

namespace P

/-- MACH_TYPE (R117), no unit. -/
abbrev MACH_TYPE : Nat := 0x0200
/-- WINDING (R117), no unit. -/
abbrev WINDING : Nat := 0x0201
/-- POLE_PAIRS (R117), no unit. -/
abbrev POLE_PAIRS : Nat := 0x0202
/-- I_BASE (R117), mA. -/
abbrev I_BASE : Nat := 0x0203
/-- V_BASE (R117), mV. -/
abbrev V_BASE : Nat := 0x0204
/-- PSI_BASE (R117), µWb. -/
abbrev PSI_BASE : Nat := 0x0205
/-- W_BASE (R117), 0.01 rpm. -/
abbrev W_BASE : Nat := 0x0206
/-- I_RATED (R117), mA. -/
abbrev I_RATED : Nat := 0x0207
/-- RS_25 (R117), µΩ. -/
abbrev RS_25 : Nat := 0x0208
/-- POS_MODE (R117), no unit. -/
abbrev POS_MODE : Nat := 0x0209
/-- POS_SOURCE (R117), no unit. -/
abbrev POS_SOURCE : Nat := 0x020A
/-- SET2_OFFSET (R117), 0.1° electrical. -/
abbrev SET2_OFFSET : Nat := 0x020B
/-- LOOP_RATE (R117), per PWM period. -/
abbrev LOOP_RATE : Nat := 0x020C
/-- CMD_SOURCE (R117), no unit. -/
abbrev CMD_SOURCE : Nat := 0x020D
/-- CMD_CAN_OBJ (R117), no unit. -/
abbrev CMD_CAN_OBJ : Nat := 0x020E
/-- TORQUE_MAX_MOT (R117), mN·m. -/
abbrev TORQUE_MAX_MOT : Nat := 0x0220
/-- TORQUE_MAX_GEN (R117), mN·m. -/
abbrev TORQUE_MAX_GEN : Nat := 0x0221
/-- POWER_MAX_MOT (R117), W. -/
abbrev POWER_MAX_MOT : Nat := 0x0222
/-- POWER_MAX_GEN (R117), W. -/
abbrev POWER_MAX_GEN : Nat := 0x0223
/-- I_MAX (R117), mA, peak. -/
abbrev I_MAX : Nat := 0x0224
/-- SPEED_MAX_FWD (R117), 0.01 rpm. -/
abbrev SPEED_MAX_FWD : Nat := 0x0225
/-- SPEED_MAX_REV (R117), 0.01 rpm. -/
abbrev SPEED_MAX_REV : Nat := 0x0226
/-- SPEED_LIM_BAND (R117), 0.01 rpm. -/
abbrev SPEED_LIM_BAND : Nat := 0x0227
/-- OVERSPEED_MARGIN (R117), ‰. -/
abbrev OVERSPEED_MARGIN : Nat := 0x0228
/-- V_UTIL_MAX (R117), ‰. -/
abbrev V_UTIL_MAX : Nat := 0x0229
/-- TORQUE_SLEW (R117), mN·m/ms. -/
abbrev TORQUE_SLEW : Nat := 0x022A
/-- STOP_SLEW (R117), mN·m/ms. -/
abbrev STOP_SLEW : Nat := 0x022B
/-- CREEP_TORQUE (R117), mN·m. -/
abbrev CREEP_TORQUE : Nat := 0x022C
/-- REVERSE_SPEED (R117), 0.01 rpm. -/
abbrev REVERSE_SPEED : Nat := 0x022D
/-- DERATE_TEMP (R117), 8 × (int16 0.01 °C, uint16 ‰). -/
abbrev DERATE_TEMP : Nat := 0x022E
/-- DERATE_VDC (R117), 8 × (int32 mV, uint16 ‰). -/
abbrev DERATE_VDC : Nat := 0x022F
/-- DERATE_FAULT (R117), ‰. -/
abbrev DERATE_FAULT : Nat := 0x0230
/-- PHASE_LOSS_CONTINUE (R117), no unit. -/
abbrev PHASE_LOSS_CONTINUE : Nat := 0x0231
/-- SPD_ACC_MAX (R117), rpm/s. -/
abbrev SPD_ACC_MAX : Nat := 0x0240
/-- SPD_JERK_MAX (R117), rpm/s². -/
abbrev SPD_JERK_MAX : Nat := 0x0241
/-- SPD_KP (R117), mN·m per rpm. -/
abbrev SPD_KP : Nat := 0x0242
/-- SPD_KI (R117), mN·m per rpm·s. -/
abbrev SPD_KI : Nat := 0x0243
/-- SPD_DIV (R117), current cycles. -/
abbrev SPD_DIV : Nat := 0x0244
/-- SHIFT_MAX (R117), ns. -/
abbrev SHIFT_MAX : Nat := 0x0260
/-- PREDICT_DERATE (R117), no unit. -/
abbrev PREDICT_DERATE : Nat := 0x0261
/-- OBS_RES_HI (R117), ‰ of I_RATED. -/
abbrev OBS_RES_HI : Nat := 0x0262
/-- OBS_N (R117), current samples. -/
abbrev OBS_N : Nat := 0x0263
/-- OBS_RES_LO (R117), ‰ of I_RATED. -/
abbrev OBS_RES_LO : Nat := 0x0264
/-- T_SAT (R117), µs. -/
abbrev T_SAT : Nat := 0x0265
/-- MISSING_FMIN (R117), 0.01 Hz. -/
abbrev MISSING_FMIN : Nat := 0x0266
/-- BEMF_MIN (R117), ‰ of V_BASE. -/
abbrev BEMF_MIN : Nat := 0x0267
/-- DTC_BAND (R117), ‰ of I_RATED. -/
abbrev DTC_BAND : Nat := 0x0268
/-- INJ_STEADY_T (R117), ms. -/
abbrev INJ_STEADY_T : Nat := 0x0270
/-- INJ_STEADY_BAND (R117), ‰ of TORQUE_MAX_MOT. -/
abbrev INJ_STEADY_BAND : Nat := 0x0271
/-- INJ_MARGIN (R117), ‰. -/
abbrev INJ_MARGIN : Nat := 0x0272
/-- FLEET_TORQUE (R117), ‰. -/
abbrev FLEET_TORQUE : Nat := 0x0280
/-- FLEET_POWER (R117), ‰. -/
abbrev FLEET_POWER : Nat := 0x0281
/-- FLEET_SPEED_MAX (R117), 0.01 rpm; 0 means no cap. -/
abbrev FLEET_SPEED_MAX : Nat := 0x0282
/-- N_D (R165), points. -/
abbrev N_D : Nat := 0x0400
/-- N_Q (R165), points. -/
abbrev N_Q : Nat := 0x0401
/-- N_TH (R165), points. -/
abbrev N_TH : Nat := 0x0402
/-- N_S (R165), strata. -/
abbrev N_S : Nat := 0x0403
/-- D_MIN (R165), Q15 of I_BASE. -/
abbrev D_MIN : Nat := 0x0404
/-- D_STEP (R165), Q15 LSB. -/
abbrev D_STEP : Nat := 0x0405
/-- Q_MIN (R165), Q15 of I_BASE. -/
abbrev Q_MIN : Nat := 0x0406
/-- Q_STEP (R165), Q15 LSB. -/
abbrev Q_STEP : Nat := 0x0407
/-- T_STRATA (R165), 4 × int16, 0.01 °C. -/
abbrev T_STRATA : Nat := 0x0408
/-- TRUST (R165), ‰ of PSI_BASE. -/
abbrev TRUST : Nat := 0x0420
/-- TRUST_TAU (R165), ‰ of T_BASE. -/
abbrev TRUST_TAU : Nat := 0x0421
/-- CONF_MIN (R165), CONF counts. -/
abbrev CONF_MIN : Nat := 0x0422
/-- LOWCONF_SLEW (R165), mN·m/ms. -/
abbrev LOWCONF_SLEW : Nat := 0x0423
/-- DRESS_PRIOR (R165), CONF counts. -/
abbrev DRESS_PRIOR : Nat := 0x0424
/-- DRESS_WMIN (R165), 0.01 Hz electrical. -/
abbrev DRESS_WMIN : Nat := 0x0425
/-- DRESS_STEADY_T (R165), ms. -/
abbrev DRESS_STEADY_T : Nat := 0x0426
/-- DRESS_STEADY_BAND (R165), ‰ of I_RATED. -/
abbrev DRESS_STEADY_BAND : Nat := 0x0427
/-- DRESS_RATE (R165), per second. -/
abbrev DRESS_RATE : Nat := 0x0428
/-- TAU_DRESS (R165), no unit. -/
abbrev TAU_DRESS : Nat := 0x0429
/-- COMMIT_DELTA (R165), Q15 LSB. -/
abbrev COMMIT_DELTA : Nat := 0x042A
/-- COMMIT_MIN_T (R165), s. -/
abbrev COMMIT_MIN_T : Nat := 0x042B
/-- PF_MARGIN (R165), points. -/
abbrev PF_MARGIN : Nat := 0x042C
/-- COARSE_WARN_T (R165), ms. -/
abbrev COARSE_WARN_T : Nat := 0x042D
/-- SCRUB_PASS_H (R165), h of PTIME. -/
abbrev SCRUB_PASS_H : Nat := 0x0440
/-- WEAR_WARN (R165), writes. -/
abbrev WEAR_WARN : Nat := 0x0441
/-- WDG_CYCLES (R205), CE cycles. -/
abbrev WDG_CYCLES : Nat := 0x0300
/-- WDG_MISS_N (R205), misses. -/
abbrev WDG_MISS_N : Nat := 0x0301
/-- PWM_PERIOD (R242), ticks. -/
abbrev PWM_PERIOD : Nat := 0x0500
/-- PERIOD_MIN (R242), ticks. -/
abbrev PERIOD_MIN : Nat := 0x0501
/-- PERIOD_MAX (R242), ticks. -/
abbrev PERIOD_MAX : Nat := 0x0502
/-- UPD_MODE (R242), no unit. -/
abbrev UPD_MODE : Nat := 0x0503
/-- TORN_POLICY (R242), no unit. -/
abbrev TORN_POLICY : Nat := 0x0504
/-- LEG_MODE (R242), no unit. -/
abbrev LEG_MODE : Nat := 0x0505
/-- DT_HL (R242), 3 × uint16, fine units. -/
abbrev DT_HL : Nat := 0x0506
/-- DT_LH (R242), 3 × uint16, fine units. -/
abbrev DT_LH : Nat := 0x0507
/-- MIN_PULSE (R242), fine units. -/
abbrev MIN_PULSE : Nat := 0x0508
/-- MINP_MODE (R242), no unit. -/
abbrev MINP_MODE : Nat := 0x0509
/-- ERR_CARRY (R242), no unit. -/
abbrev ERR_CARRY : Nat := 0x050A
/-- SYNC_MODE (R242), no unit. -/
abbrev SYNC_MODE : Nat := 0x050B
/-- SYNC_PHASE (R242), ticks. -/
abbrev SYNC_PHASE : Nat := 0x050C
/-- SYNC_MAX_ADJ (R242), ticks. -/
abbrev SYNC_MAX_ADJ : Nat := 0x050D
/-- SYNC_OUT_EN (R242), no unit. -/
abbrev SYNC_OUT_EN : Nat := 0x050E
/-- FREEZE_ON_HALT (R242), no unit. -/
abbrev FREEZE_ON_HALT : Nat := 0x050F
/-- TRIP_MASK (R242), bit map, as PWM.TRIP_STATUS.SRC. -/
abbrev TRIP_MASK : Nat := 0x0510
/-- TRIP_CUT (R242), no unit. -/
abbrev TRIP_CUT : Nat := 0x0511
/-- BLANK (R242), ticks. -/
abbrev BLANK : Nat := 0x0512
/-- TRIP_ESC_N (R242), periods. -/
abbrev TRIP_ESC_N : Nat := 0x0513
/-- BOOT_EN (R242), no unit. -/
abbrev BOOT_EN : Nat := 0x0514
/-- BOOT_N (R242), periods. -/
abbrev BOOT_N : Nat := 0x0515
/-- BOOT_T (R242), ns. -/
abbrev BOOT_T : Nat := 0x0516
/-- SAMPLE_OFFSET (R242), ticks of 1.25 ns, int32. -/
abbrev SAMPLE_OFFSET : Nat := 0x0517
/-- TIMELINE (R242), 32 × (TL_TIME, TL_ACT). -/
abbrev TIMELINE : Nat := 0x0520
/-- SUPPLY_MODE (R289), no unit. -/
abbrev SUPPLY_MODE : Nat := 0x0600
/-- UVLO_POS (R289), mV. -/
abbrev UVLO_POS : Nat := 0x0601
/-- UVLO_NEG (R289), mV. -/
abbrev UVLO_NEG : Nat := 0x0602
/-- UVLO_HYST (R289), mV. -/
abbrev UVLO_HYST : Nat := 0x0603
/-- TX_TARGET_POS (R289), mV. -/
abbrev TX_TARGET_POS : Nat := 0x0604
/-- TX_FREQ (R289), kHz. -/
abbrev TX_FREQ : Nat := 0x0605
/-- T_TARGET_ON (R289), ns. -/
abbrev T_TARGET_ON : Nat := 0x0608
/-- T_TARGET_OFF (R289), ns. -/
abbrev T_TARGET_OFF : Nat := 0x0609
/-- STR_ON (R289), steps; one int32 with MIN in [15:0] and MAX in [31:16], as the WRITE value of R252. -/
abbrev STR_ON : Nat := 0x060A
/-- STR_OFF (R289), steps; one int32 with MIN in [15:0] and MAX in [31:16], as the WRITE value of R252. -/
abbrev STR_OFF : Nat := 0x060B
/-- STR_INIT (R289), steps. -/
abbrev STR_INIT : Nat := 0x060C
/-- ADAPT_EN (R289), no unit. -/
abbrev ADAPT_EN : Nat := 0x060D
/-- ADAPT_BAND (R289), ns. -/
abbrev ADAPT_BAND : Nat := 0x060E
/-- ADAPT_GAIN (R289), ns. -/
abbrev ADAPT_GAIN : Nat := 0x060F
/-- STEP_MAX (R289), steps. -/
abbrev STEP_MAX : Nat := 0x0610
/-- ADAPT_VMIN (R289), mV. -/
abbrev ADAPT_VMIN : Nat := 0x0611
/-- VDS_DIV (R289), ratio. -/
abbrev VDS_DIV : Nat := 0x0612
/-- DESAT_TH (R289), mV. -/
abbrev DESAT_TH : Nat := 0x0618
/-- DESAT_BLANK (R289), ns. -/
abbrev DESAT_BLANK : Nat := 0x0619
/-- DESAT_FILT (R289), ns. -/
abbrev DESAT_FILT : Nat := 0x061A
/-- SOFT_V (R289), mV. -/
abbrev SOFT_V : Nat := 0x061B
/-- SOFT_T1 (R289), ns. -/
abbrev SOFT_T1 : Nat := 0x061C
/-- SOFT_STR (R289), steps. -/
abbrev SOFT_STR : Nat := 0x061D
/-- DESAT_ESC_N (R289), periods. -/
abbrev DESAT_ESC_N : Nat := 0x061E
/-- SAT_DT_MIN (R289), ns. -/
abbrev SAT_DT_MIN : Nat := 0x0620
/-- HANDSHAKE_TIMEOUT (R289), ns. -/
abbrev HANDSHAKE_TIMEOUT : Nat := 0x0621
/-- GATE_OFF_TH (R289), mV above VEE. -/
abbrev GATE_OFF_TH : Nat := 0x0622
/-- T_GOFF_MAX (R289), ns. -/
abbrev T_GOFF_MAX : Nat := 0x0623
/-- CH0_MODE (R289), no unit. -/
abbrev CH0_MODE : Nat := 0x0624
/-- OT_WARN (R289), 0.01 °C. -/
abbrev OT_WARN : Nat := 0x0625
/-- ADC_MODE (R319), no unit. -/
abbrev ADC_MODE : Nat := 0x0700
/-- CONT_INPUT (R319), no unit. -/
abbrev CONT_INPUT : Nat := 0x0701
/-- AVG_LOG2 (R319), no unit. -/
abbrev AVG_LOG2 : Nat := 0x0702
/-- AVG_SHIFT (R319), bits. -/
abbrev AVG_SHIFT : Nat := 0x0703
/-- SENSE_GAIN (R319), µA per LSB. -/
abbrev SENSE_GAIN : Nat := 0x0704
/-- SENSE_OFFSET (R319), 1/16 LSB. -/
abbrev SENSE_OFFSET : Nat := 0x0705
/-- OFFSET_LIM (R319), LSB. -/
abbrev OFFSET_LIM : Nat := 0x0706
/-- DS_OSR (R319), no unit. -/
abbrev DS_OSR : Nat := 0x0720
/-- R_SHUNT (R319), µΩ. -/
abbrev R_SHUNT : Nat := 0x0730
/-- VDC_DIV (R319), ratio. -/
abbrev VDC_DIV : Nat := 0x0731
/-- CHK_AVG (R319), windows. -/
abbrev CHK_AVG : Nat := 0x0740
/-- CHK_ABS (R319), ‰ of I_RATED. -/
abbrev CHK_ABS : Nat := 0x0741
/-- CHK_REL (R319), ‰. -/
abbrev CHK_REL : Nat := 0x0742
/-- CHK_N (R319), evaluations. -/
abbrev CHK_N : Nat := 0x0743
/-- VDC_SHARED (R319), no unit. -/
abbrev VDC_SHARED : Nat := 0x0744
/-- VDC_TOL (R319), mV. -/
abbrev VDC_TOL : Nat := 0x0745
/-- TRIP_CAPTURE (R319), no unit. -/
abbrev TRIP_CAPTURE : Nat := 0x0746
/-- CT_SRC (R319), no unit. -/
abbrev CT_SRC : Nat := 0x0750
/-- CT_LEVEL (R319), mV. -/
abbrev CT_LEVEL : Nat := 0x0751
/-- CT_MODE (R319), no unit. -/
abbrev CT_MODE : Nat := 0x0752
/-- POS_OFFSET (R350), POS32 units. -/
abbrev POS_OFFSET : Nat := 0x0800
/-- POS_DIR (R350), no unit. -/
abbrev POS_DIR : Nat := 0x0801
/-- SPD_WIN (R350), ns. -/
abbrev SPD_WIN : Nat := 0x0802
/-- SPD_STANDSTILL (R350), ms. -/
abbrev SPD_STANDSTILL : Nat := 0x0803
/-- POS_INTERP (R350), no unit. -/
abbrev POS_INTERP : Nat := 0x0804
/-- RSV_FREQ (R350), Hz. -/
abbrev RSV_FREQ : Nat := 0x0810
/-- RSV_EXC_AMP (R350), mV peak. -/
abbrev RSV_EXC_AMP : Nat := 0x0811
/-- RSV_POLES (R350), pole pairs. -/
abbrev RSV_POLES : Nat := 0x0812
/-- RSV_AMP_NOM (R350), mV peak. -/
abbrev RSV_AMP_NOM : Nat := 0x0813
/-- RSV_AMP_LO (R350), ‰ of RSV_AMP_NOM. -/
abbrev RSV_AMP_LO : Nat := 0x0814
/-- RSV_AMP_HI (R350), ‰ of RSV_AMP_NOM. -/
abbrev RSV_AMP_HI : Nat := 0x0815
/-- RSV_AMP_N (R350), carrier periods. -/
abbrev RSV_AMP_N : Nat := 0x0816
/-- RSV_LAG_MAX (R350), 0.1° of carrier. -/
abbrev RSV_LAG_MAX : Nat := 0x0817
/-- RSV_BW (R350), Hz. -/
abbrev RSV_BW : Nat := 0x0818
/-- RSV_TRACK_ERR (R350), 0.01° resolver electrical. -/
abbrev RSV_TRACK_ERR : Nat := 0x0819
/-- ENC_MODE (R350), no unit. -/
abbrev ENC_MODE : Nat := 0x0820
/-- ENC_LINES (R350), lines or tooth positions. -/
abbrev ENC_LINES : Nat := 0x0821
/-- ENC_FILT (R350), ns. -/
abbrev ENC_FILT : Nat := 0x0822
/-- TW_GAP (R350), teeth. -/
abbrev TW_GAP : Nat := 0x0823
/-- INDEX_EN (R350), no unit. -/
abbrev INDEX_EN : Nat := 0x0824
/-- INDEX_POS (R350), counts. -/
abbrev INDEX_POS : Nat := 0x0825
/-- INDEX_SPAN (R350), counts. -/
abbrev INDEX_SPAN : Nat := 0x0826
/-- INDEX_TOL (R350), counts. -/
abbrev INDEX_TOL : Nat := 0x0827
/-- INDEX_REALIGN (R350), no unit. -/
abbrev INDEX_REALIGN : Nat := 0x0828
/-- INDEX_FAULT_N (R350), indexes. -/
abbrev INDEX_FAULT_N : Nat := 0x0829
/-- ENC_ALIGN (R350), no unit. -/
abbrev ENC_ALIGN : Nat := 0x082A
/-- HALL_POLES (R350), pole pairs. -/
abbrev HALL_POLES : Nat := 0x0830
/-- HALL_FILT (R350), ns. -/
abbrev HALL_FILT : Nat := 0x0831
/-- SER_ROLE (R350), no unit. -/
abbrev SER_ROLE : Nat := 0x0840
/-- SER_BAUD (R350), kbit/s. -/
abbrev SER_BAUD : Nat := 0x0841
/-- SER_CMD (R350), byte. -/
abbrev SER_CMD : Nat := 0x0842
/-- SER_RESP_BYTES (R350), bytes. -/
abbrev SER_RESP_BYTES : Nat := 0x0843
/-- SER_POS_LSB (R350), bit. -/
abbrev SER_POS_LSB : Nat := 0x0844
/-- SER_POS_BITS (R350), bits. -/
abbrev SER_POS_BITS : Nat := 0x0845
/-- SER_ERR_BIT (R350), bit. -/
abbrev SER_ERR_BIT : Nat := 0x0846
/-- SER_CRC_POLY (R350), no unit. -/
abbrev SER_CRC_POLY : Nat := 0x0847
/-- SER_PERIOD (R350), µs. -/
abbrev SER_PERIOD : Nat := 0x0848
/-- SER_SAMPLE_DELAY (R350), ns. -/
abbrev SER_SAMPLE_DELAY : Nat := 0x0849
/-- SER_PT_EN (R350), no unit. -/
abbrev SER_PT_EN : Nat := 0x084A
/-- SER_FAULT_N (R350), responses. -/
abbrev SER_FAULT_N : Nat := 0x084B
/-- POS_CHECK_SRC (R350), no unit. -/
abbrev POS_CHECK_SRC : Nat := 0x0860
/-- POS_CHECK_TOL (R350), 0.1° electrical. -/
abbrev POS_CHECK_TOL : Nat := 0x0861
/-- POS_CHECK_N (R350), latches. -/
abbrev POS_CHECK_N : Nat := 0x0862
/-- PCMP_SRC (R350), no unit. -/
abbrev PCMP_SRC : Nat := 0x0870
/-- PCMP_MODE (R350), no unit. -/
abbrev PCMP_MODE : Nat := 0x0871
/-- PCMP_DIR (R350), no unit. -/
abbrev PCMP_DIR : Nat := 0x0872
/-- PCMP_WIDTH (R350), ns. -/
abbrev PCMP_WIDTH : Nat := 0x0873
/-- PCMP_LIST (R350), uint8 PCMP_COUNT 1 to 64, then 64 × POS32. -/
abbrev PCMP_LIST : Nat := 0x0874
/-- ASC_SPEED (R400), 0.01 rpm. -/
abbrev ASC_SPEED : Nat := 0x0900
/-- ASC_HYST (R400), 0.01 rpm. -/
abbrev ASC_HYST : Nat := 0x0901
/-- ASC_SIDE (R400), no unit. -/
abbrev ASC_SIDE : Nat := 0x0902
/-- VDC_OV (R400), mV. -/
abbrev VDC_OV : Nat := 0x0903
/-- SAFE_DT (R400), ns. -/
abbrev SAFE_DT : Nat := 0x0904
/-- MON_ABS (R400), mN·m. -/
abbrev MON_ABS : Nat := 0x0910
/-- MON_REL (R400), ‰. -/
abbrev MON_REL : Nat := 0x0911
/-- MON_COARSE_PEN (R400), mN·m. -/
abbrev MON_COARSE_PEN : Nat := 0x0912
/-- MON_N (R400), evaluations. -/
abbrev MON_N : Nat := 0x0913
/-- MON_PWR_WMIN (R400), 0.01 rpm. -/
abbrev MON_PWR_WMIN : Nat := 0x0914
/-- MON_PWR_TOL (R400), ‰. -/
abbrev MON_PWR_TOL : Nat := 0x0915
/-- LOSS_C0 (R400), W. -/
abbrev LOSS_C0 : Nat := 0x0916
/-- LOSS_C1 (R400), mW per A. -/
abbrev LOSS_C1 : Nat := 0x0917
/-- DCHG_METHOD (R400), no unit. -/
abbrev DCHG_METHOD : Nat := 0x0920
/-- DCHG_I (R400), mA. -/
abbrev DCHG_I : Nat := 0x0921
/-- DCHG_WMAX (R400), 0.01 rpm. -/
abbrev DCHG_WMAX : Nat := 0x0922
/-- DCHG_CHECK_T (R400), ms. -/
abbrev DCHG_CHECK_T : Nat := 0x0923
/-- STO_DISC_T (R400), ms. -/
abbrev STO_DISC_T : Nat := 0x0940
/-- FAULT_RC (R400), up to 64 × (uint16 code, uint8 class). -/
abbrev FAULT_RC : Nat := 0x0950
/-- HOST_LOSS_POLICY (R433), no unit. -/
abbrev HOST_LOSS_POLICY : Nat := 0x0A00
/-- HOLD_T (R433), ms. -/
abbrev HOLD_T : Nat := 0x0A01
/-- HB_TIMEOUT (R433), ms. -/
abbrev HB_TIMEOUT : Nat := 0x0A10
/-- FLUSH_T (R433), µs. -/
abbrev FLUSH_T : Nat := 0x0A20
/-- INSTALLER_KEY (R462), P-256 public key. -/
abbrev INSTALLER_KEY : Nat := 0x0B00
/-- OPERATOR_KEY (R462), P-256 public key. -/
abbrev OPERATOR_KEY : Nat := 0x0B01
/-- IMMOB_POLICY (R462), no unit. -/
abbrev IMMOB_POLICY : Nat := 0x0B02
/-- IMMOB_STANDSTILL_T (R462), ms. -/
abbrev IMMOB_STANDSTILL_T : Nat := 0x0B03
/-- TOKEN_RESUME_T (R462), s. -/
abbrev TOKEN_RESUME_T : Nat := 0x0B04
/-- AUTH_FAIL_N (R462), responses. -/
abbrev AUTH_FAIL_N : Nat := 0x0B05
/-- AUTH_LOCKOUT_T (R462), s. -/
abbrev AUTH_LOCKOUT_T : Nat := 0x0B06
/-- MAKER_BOUNDS (R462), 512 × 20 bytes (R452). -/
abbrev MAKER_BOUNDS : Nat := 0x0B10
/-- DEBUG_UNLOCK (R462), Bit map as PROT.DEBUG_POLICY [4:0]. -/
abbrev DEBUG_UNLOCK : Nat := 0x0B20
/-- LIFECYCLE_ADVANCE (R462), no unit. -/
abbrev LIFECYCLE_ADVANCE : Nat := 0x0B21
/-- RAMP_STEPS (R491), steps. -/
abbrev RAMP_STEPS : Nat := 0x0100
/-- RAMP_STEP_T (R491), µs. -/
abbrev RAMP_STEP_T : Nat := 0x0101
/-- CLK_RELOCK_T (R491), ms. -/
abbrev CLK_RELOCK_T : Nat := 0x0102
/-- CAN_MODE (R519), no unit. -/
abbrev CAN_MODE : Nat := 0x0C00
/-- CAN_NBR (R519), kbit/s. -/
abbrev CAN_NBR : Nat := 0x0C01
/-- CAN_NSP (R519), ‰. -/
abbrev CAN_NSP : Nat := 0x0C02
/-- CAN_DBR (R519), kbit/s. -/
abbrev CAN_DBR : Nat := 0x0C03
/-- CAN_DSP (R519), ‰. -/
abbrev CAN_DSP : Nat := 0x0C04
/-- CAN_BT_RAW (R519), 2 × (BRP, TSEG1, TSEG2, SJW), uint16 each. -/
abbrev CAN_BT_RAW : Nat := 0x0C05
/-- CAN_TDC (R519), no unit. -/
abbrev CAN_TDC : Nat := 0x0C06
/-- CAN_TDCO (R519), 5 ns. -/
abbrev CAN_TDCO : Nat := 0x0C07
/-- CAN_BUSOFF_N (R519), bus-offs. -/
abbrev CAN_BUSOFF_N : Nat := 0x0C08
/-- CAN_UNMATCHED_RP (R519), no unit. -/
abbrev CAN_UNMATCHED_RP : Nat := 0x0C09
/-- CAN_RXOBJ (R519), up to 512 × 8 bytes. -/
abbrev CAN_RXOBJ : Nat := 0x0C10
/-- CAN_TXBUF (R519), up to 64 × 8 bytes: [28:0] ID, [29] XTD, [30] FDF, [31] BRS, [38:32] LEN, [43:39] connection, [44] connection valid. -/
abbrev CAN_TXBUF : Nat := 0x0C11
/-- CAN_SCHED_EN (R519), no unit. -/
abbrev CAN_SCHED_EN : Nat := 0x0C20
/-- CAN_CYCLE_T (R519), µs. -/
abbrev CAN_CYCLE_T : Nat := 0x0C21
/-- CAN_SCHED (R519), 64 × (uint32 START µs, uint32 LEN µs, uint8 TYPE, uint8 BUFFER, uint16 CYCLE_MASK), 12 bytes per slot. -/
abbrev CAN_SCHED : Nat := 0x0C22
/-- CAN_MISS_N (R519), windows. -/
abbrev CAN_MISS_N : Nat := 0x0C23
/-- AQ_DIR (R519), no unit. -/
abbrev AQ_DIR : Nat := 0x0C40
/-- AQ_NET (R519), no unit. -/
abbrev AQ_NET : Nat := 0x0C41
/-- AQ_INDEX (R519), no unit. -/
abbrev AQ_INDEX : Nat := 0x0C42
/-- AQ_CONN_ID (R519), no unit. -/
abbrev AQ_CONN_ID : Nat := 0x0C43
/-- AQ_LEN (R519), bytes. -/
abbrev AQ_LEN : Nat := 0x0C44
/-- AQ_LIFETIME (R519), µs. -/
abbrev AQ_LIFETIME : Nat := 0x0C45
/-- AQ_WINDOW (R519), µs. -/
abbrev AQ_WINDOW : Nat := 0x0C46
/-- AQ_TIMEOUT (R519), µs. -/
abbrev AQ_TIMEOUT : Nat := 0x0C47
/-- AQ_SEQ_WIN (R519), no unit. -/
abbrev AQ_SEQ_WIN : Nat := 0x0C48
/-- AQ_TIME_REQ (R519), no unit. -/
abbrev AQ_TIME_REQ : Nat := 0x0C49
/-- AQ_PARTNER (R519), no unit. -/
abbrev AQ_PARTNER : Nat := 0x0C4A
/-- AQ_SKEW (R519), µs. -/
abbrev AQ_SKEW : Nat := 0x0C4B
/-- AQ_DUAL_N (R519), PDUs. -/
abbrev AQ_DUAL_N : Nat := 0x0C4C
/-- AQ_ETH_DST (R519), 48-bit MAC address. -/
abbrev AQ_ETH_DST : Nat := 0x0C4D
/-- AQ_ETHERTYPE (R519), no unit. -/
abbrev AQ_ETHERTYPE : Nat := 0x0C60
/-- ETH_EN (R541), no unit. -/
abbrev ETH_EN : Nat := 0x0D00
/-- ETH_IF (R541), no unit. -/
abbrev ETH_IF : Nat := 0x0D01
/-- ETH_SPEED (R541), no unit. -/
abbrev ETH_SPEED : Nat := 0x0D02
/-- ETH_MAC_ADDR (R541), 48-bit address. -/
abbrev ETH_MAC_ADDR : Nat := 0x0D03
/-- ETH_MCAST (R541), 16 × 48-bit. -/
abbrev ETH_MCAST : Nat := 0x0D04
/-- ETH_RX_RP (R541), no unit. -/
abbrev ETH_RX_RP : Nat := 0x0D05
/-- RGMII_TX_DELAY (R541), no unit. -/
abbrev RGMII_TX_DELAY : Nat := 0x0D06
/-- PHY_TX_LAT (R541), ns. -/
abbrev PHY_TX_LAT : Nat := 0x0D07
/-- PHY_RX_LAT (R541), ns. -/
abbrev PHY_RX_LAT : Nat := 0x0D08
/-- PTP_DOMAIN (R541), no unit. -/
abbrev PTP_DOMAIN : Nat := 0x0D10
/-- PDELAY_LOG_INT (R541), log2 s. -/
abbrev PDELAY_LOG_INT : Nat := 0x0D11
/-- PDELAY_THRESH (R541), ns. -/
abbrev PDELAY_THRESH : Nat := 0x0D12
/-- JUMP_LIMIT (R541), µs. -/
abbrev JUMP_LIMIT : Nat := 0x0D13
/-- SYNC_TOL (R541), ns. -/
abbrev SYNC_TOL : Nat := 0x0D14
/-- HOLDOVER_T (R541), s. -/
abbrev HOLDOVER_T : Nat := 0x0D15
/-- FREQ_MAX (R541), ppb. -/
abbrev FREQ_MAX : Nat := 0x0D16
/-- SERVO_KP (R541), ppb per µs. -/
abbrev SERVO_KP : Nat := 0x0D17
/-- SERVO_KI (R541), ppb per µs·s. -/
abbrev SERVO_KI : Nat := 0x0D18
/-- TPO_MODE (R541), no unit. -/
abbrev TPO_MODE : Nat := 0x0D20
/-- TPO_POL (R541), no unit. -/
abbrev TPO_POL : Nat := 0x0D21
/-- CAPT_EDGE (R541), no unit. -/
abbrev CAPT_EDGE : Nat := 0x0D30
/-- CAPT_FILT (R541), ticks. -/
abbrev CAPT_FILT : Nat := 0x0D31
/-- PEER_EN (R541), no unit. -/
abbrev PEER_EN : Nat := 0x0D40
/-- SN_ROUND_T (R561), ms. -/
abbrev SN_ROUND_T : Nat := 0x0E00
/-- SN_BURST_T (R561), µs. -/
abbrev SN_BURST_T : Nat := 0x0E01
/-- SN_DITHER (R561), no unit. -/
abbrev SN_DITHER : Nat := 0x0E02
/-- SN_NTC_DIV (R561), rounds. -/
abbrev SN_NTC_DIV : Nat := 0x0E03
/-- SN_IIR_SHIFT (R561), no unit. -/
abbrev SN_IIR_SHIFT : Nat := 0x0E04
/-- SN_SENSOR (R561), no unit. -/
abbrev SN_SENSOR : Nat := 0x0E05
/-- SN_ROT_N (R561), bursts. -/
abbrev SN_ROT_N : Nat := 0x0E06
/-- SN_ROT_COUNTS (R561), counts. -/
abbrev SN_ROT_COUNTS : Nat := 0x0E07
/-- SN_WAKE_FILT (R561), µs. -/
abbrev SN_WAKE_FILT : Nat := 0x0E08
/-- SN_WAKE_OUT_T (R561), ms. -/
abbrev SN_WAKE_OUT_T : Nat := 0x0E09
/-- SN_OFF_WAKE (R561), bit map, WAKE3 to WAKE0. -/
abbrev SN_OFF_WAKE : Nat := 0x0E0A
/-- SN_RULE (R561), 16 bytes (R548). -/
abbrev SN_RULE : Nat := 0x0E10
/-- SN_CAN_BR (R561), kbit/s. -/
abbrev SN_CAN_BR : Nat := 0x0E20
/-- SN_CAN_FILTER (R561), 8 × (ID, ID_MASK, XTD, DLC, 8-byte DATA, 8-byte DATA_MASK). -/
abbrev SN_CAN_FILTER : Nat := 0x0E21
/-- SN_CAN_ERR_LIM (R561), errors. -/
abbrev SN_CAN_ERR_LIM : Nat := 0x0E22
/-- SCRUB_SRAM_T (R592), ms. -/
abbrev SCRUB_SRAM_T : Nat := 0x0F00
/-- NTC_CURVE (R592), NTC_R25 Ω, NTC_B K, NTC_RPU Ω, 3 × uint32. -/
abbrev NTC_CURVE : Nat := 0x0F40
/-- NTC_GROUP (R592), no unit. -/
abbrev NTC_GROUP : Nat := 0x0F41
/-- SLOT_NTC (R592), bit map of external NTCs. -/
abbrev SLOT_NTC : Nat := 0x0F42
/-- MAG_NTC (R592), no unit. -/
abbrev MAG_NTC : Nat := 0x0F43
/-- MAG_OFFSET (R592), 0.01 °C. -/
abbrev MAG_OFFSET : Nat := 0x0F44
/-- DIE_WARN (R592), 0.01 °C. -/
abbrev DIE_WARN : Nat := 0x0F45
/-- BROKEN_N (R592), rounds. -/
abbrev BROKEN_N : Nat := 0x0F46

end P

/-- Parameters with IDs 0x0200 to 0x02FF. -/
def paramTable02 : List PDef := [
  ⟨P.MACH_TYPE, [⟨4, true, false, 1, 0, [0, 1, 2], 1⟩], 0, [.installer], []⟩,
  ⟨P.WINDING, [⟨4, true, false, 1, 0, [0, 1], 0⟩], 0, [.installer], []⟩,
  ⟨P.POLE_PAIRS, [⟨4, true, false, 1, 32, [], 4⟩], 0, [.installer], []⟩,
  ⟨P.I_BASE, [⟨4, true, false, 1000, 2000000, [], 1000000⟩], 0, [.installer], []⟩,
  ⟨P.V_BASE, [⟨4, true, false, 10000, 1000000, [], 1000000⟩], 0, [.installer], []⟩,
  ⟨P.PSI_BASE, [⟨4, true, false, 1000, 10000000, [], 1000000⟩], 0, [.installer], []⟩,
  ⟨P.W_BASE, [⟨4, true, false, 100000, 3000000, [], 3000000⟩], 0, [.installer], []⟩,
  ⟨P.I_RATED, [⟨4, true, false, 1000, 2000000, [], 500000⟩], 0, [.installer], []⟩,
  ⟨P.RS_25, [⟨4, true, false, 100, 1000000, [], 10000⟩], 0, [.installer], []⟩,
  ⟨P.POS_MODE, [⟨4, true, false, 1, 0, [0, 1, 2], 0⟩], 0, [.installer], []⟩,
  ⟨P.POS_SOURCE, [⟨4, true, false, 0, 7, [], 0⟩], 0, [.installer], []⟩,
  ⟨P.SET2_OFFSET, [⟨4, true, false, 1, 0, [0, 300], 300⟩], 0, [.installer], []⟩,
  ⟨P.LOOP_RATE, [⟨4, true, false, 1, 0, [1, 2], 1⟩], 0, [.installer], []⟩,
  ⟨P.CMD_SOURCE, [⟨4, true, false, 1, 0, [0, 1], 0⟩], 0, [.installer], []⟩,
  ⟨P.CMD_CAN_OBJ, [⟨4, true, false, 0, 2047, [], 0⟩], 0, [.installer], []⟩,
  ⟨P.TORQUE_MAX_MOT, [⟨4, true, false, 0, 5000000, [], 0⟩], 0, [.installer], []⟩,
  ⟨P.TORQUE_MAX_GEN, [⟨4, true, false, 0, 5000000, [], 0⟩], 0, [.installer], []⟩,
  ⟨P.POWER_MAX_MOT, [⟨4, true, false, 0, 700000, [], 0⟩], 0, [.installer], []⟩,
  ⟨P.POWER_MAX_GEN, [⟨4, true, false, 0, 700000, [], 0⟩], 0, [.installer], []⟩,
  ⟨P.I_MAX, [⟨4, true, false, 0, 2000000, [], 0⟩], 0, [.installer], []⟩,
  ⟨P.SPEED_MAX_FWD, [⟨4, true, false, 0, 3000000, [], 0⟩], 0, [.installer], []⟩,
  ⟨P.SPEED_MAX_REV, [⟨4, true, false, 0, 3000000, [], 0⟩], 0, [.installer], []⟩,
  ⟨P.SPEED_LIM_BAND, [⟨4, true, false, 1000, 300000, [], 20000⟩], 0, [.installer], []⟩,
  ⟨P.OVERSPEED_MARGIN, [⟨4, true, false, 0, 200, [], 100⟩], 0, [.installer], []⟩,
  ⟨P.V_UTIL_MAX, [⟨4, true, false, 500, 1100, [], 1000⟩], 0, [.installer], []⟩,
  ⟨P.TORQUE_SLEW, [⟨4, true, false, 1, 1000000, [], 2000⟩], 0, [.installer], []⟩,
  ⟨P.STOP_SLEW, [⟨4, true, false, 1, 1000000, [], 10000⟩], 0, [.installer], []⟩,
  ⟨P.CREEP_TORQUE, [⟨4, true, false, 0, 100000, [], 30000⟩], 0, [.installer], []⟩,
  ⟨P.REVERSE_SPEED, [⟨4, true, false, 0, 50000, [], 3000⟩], 0, [.installer], []⟩,
  ⟨P.DERATE_TEMP, (List.replicate 8 [⟨2, true, false, -32768, 32767, [], 0⟩, ⟨2, false, false, 0, 1000, [], 1000⟩]).flatten, 0, [.installer], [-4000, 1000, 0, 1000, 2500, 1000, 5000, 1000, 7500, 1000, 10000, 1000, 12500, 1000, 15000, 1000]⟩,
  ⟨P.DERATE_VDC, (List.replicate 8 [⟨4, true, false, -2147483648, 2147483647, [], 0⟩, ⟨2, false, false, 0, 1000, [], 1000⟩]).flatten, 0, [.installer], [0, 1000, 150000, 1000, 300000, 1000, 450000, 1000, 600000, 1000, 750000, 1000, 900000, 1000, 1050000, 1000]⟩,
  ⟨P.DERATE_FAULT, [⟨4, true, false, 0, 1000, [], 500⟩], 0, [.installer], []⟩,
  ⟨P.PHASE_LOSS_CONTINUE, [⟨4, true, false, 1, 0, [0, 1], 0⟩], 0, [.installer], []⟩,
  ⟨P.SPD_ACC_MAX, [⟨4, true, false, 1, 100000, [], 1000⟩], 0, [.installer], []⟩,
  ⟨P.SPD_JERK_MAX, [⟨4, true, false, 1, 10000000, [], 10000⟩], 0, [.installer], []⟩,
  ⟨P.SPD_KP, [⟨4, true, false, 0, 1000000, [], 500⟩], 0, [.installer], []⟩,
  ⟨P.SPD_KI, [⟨4, true, false, 0, 10000000, [], 5000⟩], 0, [.installer], []⟩,
  ⟨P.SPD_DIV, [⟨4, true, false, 1, 64, [], 8⟩], 0, [.installer], []⟩,
  ⟨P.SHIFT_MAX, [⟨4, true, false, 0, 5000, [], 1000⟩], 0, [.installer], []⟩,
  ⟨P.PREDICT_DERATE, [⟨4, true, false, 1, 0, [0, 1], 0⟩], 0, [.installer], []⟩,
  ⟨P.OBS_RES_HI, [⟨4, true, false, 10, 500, [], 150⟩], 0, [.installer], []⟩,
  ⟨P.OBS_N, [⟨4, true, false, 2, 1000, [], 20⟩], 0, [.installer], []⟩,
  ⟨P.OBS_RES_LO, [⟨4, true, false, 5, 500, [], 50⟩], 0, [.installer], []⟩,
  ⟨P.T_SAT, [⟨4, true, false, 100, 1000000, [], 20000⟩], 0, [.installer], []⟩,
  ⟨P.MISSING_FMIN, [⟨4, true, false, 100, 10000, [], 500⟩], 0, [.installer], []⟩,
  ⟨P.BEMF_MIN, [⟨4, true, false, 5, 200, [], 20⟩], 0, [.installer], []⟩,
  ⟨P.DTC_BAND, [⟨4, true, false, 0, 100, [], 20⟩], 0, [.installer], []⟩,
  ⟨P.INJ_STEADY_T, [⟨4, true, false, 10, 10000, [], 500⟩], 0, [.installer], []⟩,
  ⟨P.INJ_STEADY_BAND, [⟨4, true, false, 10, 100, [], 20⟩], 0, [.installer], []⟩,
  ⟨P.INJ_MARGIN, [⟨4, true, false, 100, 900, [], 500⟩], 0, [.installer], []⟩,
  ⟨P.FLEET_TORQUE, [⟨4, true, false, 0, 1000, [], 1000⟩], 0, [.operator], []⟩,
  ⟨P.FLEET_POWER, [⟨4, true, false, 0, 1000, [], 1000⟩], 0, [.operator], []⟩,
  ⟨P.FLEET_SPEED_MAX, [⟨4, true, false, 0, 3000000, [], 0⟩], 0, [.operator], []⟩]

/-- Parameters with IDs 0x0400 to 0x04FF. -/
def paramTable04 : List PDef := [
  ⟨P.N_D, [⟨4, true, false, 1, 0, [16, 32, 64, 128], 128⟩], 0, [.installer], []⟩,
  ⟨P.N_Q, [⟨4, true, false, 1, 0, [32, 64, 128, 256], 256⟩], 0, [.installer], []⟩,
  ⟨P.N_TH, [⟨4, true, false, 1, 0, [8, 16, 32, 64], 64⟩], 0, [.installer], []⟩,
  ⟨P.N_S, [⟨4, true, false, 2, 4, [], 4⟩], 0, [.installer], []⟩,
  ⟨P.D_MIN, [⟨4, true, false, -32768, 32767, [], -31744⟩], 0, [.installer], []⟩,
  ⟨P.D_STEP, [⟨4, true, false, 1, 32767, [], 256⟩], 0, [.installer], []⟩,
  ⟨P.Q_MIN, [⟨4, true, false, -32768, 32767, [], -32768⟩], 0, [.installer], []⟩,
  ⟨P.Q_STEP, [⟨4, true, false, 1, 32767, [], 256⟩], 0, [.installer], []⟩,
  ⟨P.T_STRATA, List.replicate 4 ⟨2, true, false, -4000, 20000, [], 0⟩, 0, [.installer], [-4000, 2000, 8000, 14000]⟩,
  ⟨P.TRUST, [⟨4, true, false, 0, 125, [], 50⟩], 0, [.installer], []⟩,
  ⟨P.TRUST_TAU, [⟨4, true, false, 0, 125, [], 10⟩], 0, [.installer], []⟩,
  ⟨P.CONF_MIN, [⟨4, true, false, 0, 255, [], 16⟩], 0, [.installer], []⟩,
  ⟨P.LOWCONF_SLEW, [⟨4, true, false, 1, 1000000, [], 500⟩], 0, [.installer], []⟩,
  ⟨P.DRESS_PRIOR, [⟨4, true, false, 1, 255, [], 16⟩], 0, [.installer], []⟩,
  ⟨P.DRESS_WMIN, [⟨4, true, false, 100, 100000, [], 2000⟩], 0, [.installer], []⟩,
  ⟨P.DRESS_STEADY_T, [⟨4, true, false, 1, 10000, [], 50⟩], 0, [.installer], []⟩,
  ⟨P.DRESS_STEADY_BAND, [⟨4, true, false, 1, 100, [], 20⟩], 0, [.installer], []⟩,
  ⟨P.DRESS_RATE, [⟨4, true, false, 100, 50000, [], 10000⟩], 0, [.installer], []⟩,
  ⟨P.TAU_DRESS, [⟨4, true, false, 1, 0, [0, 1], 1⟩], 0, [.installer], []⟩,
  ⟨P.COMMIT_DELTA, [⟨4, true, false, 1, 4096, [], 33⟩], 0, [.installer], []⟩,
  ⟨P.COMMIT_MIN_T, [⟨4, true, false, 60, 86400, [], 60⟩], 0, [.installer], []⟩,
  ⟨P.PF_MARGIN, [⟨4, true, false, 1, 15, [], 8⟩], 0, [.installer], []⟩,
  ⟨P.COARSE_WARN_T, [⟨4, true, false, 1, 10000, [], 20⟩], 0, [.installer], []⟩,
  ⟨P.SCRUB_PASS_H, [⟨4, true, false, 720, 17520, [], 8760⟩], 0, [.maker], []⟩,
  ⟨P.WEAR_WARN, [⟨4, true, false, 1000000, 100000000, [], 10000000⟩], 0, [.maker], []⟩]

/-- Parameters with IDs 0x0300 to 0x03FF. -/
def paramTable03 : List PDef := [
  ⟨P.WDG_CYCLES, [⟨4, true, false, 1000, 4000000, [], 40000⟩], 0, [.installer], []⟩,
  ⟨P.WDG_MISS_N, [⟨4, true, false, 1, 16, [], 3⟩], 0, [.installer], []⟩]

/-- Parameters with IDs 0x0500 to 0x05FF. -/
def paramTable05 : List PDef := [
  ⟨P.PWM_PERIOD, [⟨4, true, false, 8000, 800000, [], 20000⟩], 0, [.installer], []⟩,
  ⟨P.PERIOD_MIN, [⟨4, true, false, 8000, 800000, [], 8000⟩], 0, [.installer], []⟩,
  ⟨P.PERIOD_MAX, [⟨4, true, false, 8000, 800000, [], 800000⟩], 0, [.installer], []⟩,
  ⟨P.UPD_MODE, [⟨4, true, false, 1, 0, [0, 1, 2], 0⟩], 0, [.installer], []⟩,
  ⟨P.TORN_POLICY, [⟨4, true, false, 1, 0, [0, 1, 2], 1⟩], 0, [.installer], []⟩,
  ⟨P.LEG_MODE, [⟨4, true, false, 1, 0, [0, 1], 0⟩], 0, [.installer], []⟩,
  ⟨P.DT_HL, List.replicate 3 ⟨2, false, false, 0, 64000, [], 3200⟩, 0, [.installer], []⟩,
  ⟨P.DT_LH, List.replicate 3 ⟨2, false, false, 0, 64000, [], 3200⟩, 0, [.installer], []⟩,
  ⟨P.MIN_PULSE, [⟨4, true, false, 640, 64000, [], 1600⟩], 0, [.installer], []⟩,
  ⟨P.MINP_MODE, [⟨4, true, false, 1, 0, [0, 1], 0⟩], 0, [.installer], []⟩,
  ⟨P.ERR_CARRY, [⟨4, true, false, 1, 0, [0, 1], 1⟩], 0, [.installer], []⟩,
  ⟨P.SYNC_MODE, [⟨4, true, false, 1, 0, [0, 1, 2], 0⟩], 0, [.installer], []⟩,
  ⟨P.SYNC_PHASE, [⟨4, true, false, 0, 799999, [], 0⟩], 0, [.installer], []⟩,
  ⟨P.SYNC_MAX_ADJ, [⟨4, true, false, 1, 64, [], 8⟩], 0, [.installer], []⟩,
  ⟨P.SYNC_OUT_EN, [⟨4, true, false, 1, 0, [0, 1], 0⟩], 0, [.installer], []⟩,
  ⟨P.FREEZE_ON_HALT, [⟨4, true, false, 1, 0, [0, 1], 1⟩], 0, [.installer], []⟩,
  ⟨P.TRIP_MASK, [⟨4, true, false, 0, 262143, [], 63⟩], 0, [.installer], []⟩,
  ⟨P.TRIP_CUT, [⟨4, true, false, 1, 0, [0, 1], 0⟩], 0, [.installer], []⟩,
  ⟨P.BLANK, [⟨4, true, false, 0, 1600, [], 320⟩], 0, [.installer], []⟩,
  ⟨P.TRIP_ESC_N, [⟨4, true, false, 1, 255, [], 8⟩], 0, [.installer], []⟩,
  ⟨P.BOOT_EN, [⟨4, true, false, 1, 0, [0, 1], 0⟩], 0, [.installer], []⟩,
  ⟨P.BOOT_N, [⟨4, true, false, 1, 255, [], 16⟩], 0, [.installer], []⟩,
  ⟨P.BOOT_T, [⟨4, true, false, 250, 10000, [], 1000⟩], 0, [.installer], []⟩,
  ⟨P.SAMPLE_OFFSET, [⟨4, true, false, -4000, -1, [], -480⟩], 0, [.installer], []⟩,
  ⟨P.TIMELINE, List.replicate 64 ⟨4, false, false, 0, 4294967295, [], 0⟩, 0, [.installer], []⟩]

/-- Parameters with IDs 0x0600 to 0x06FF. -/
def paramTable06 : List PDef := [
  ⟨P.SUPPLY_MODE, [⟨4, true, false, 1, 0, [0, 1, 2], 0⟩], 0, [.installer], []⟩,
  ⟨P.UVLO_POS, [⟨4, true, false, 8000, 18000, [], 13000⟩], 0, [.installer], []⟩,
  ⟨P.UVLO_NEG, [⟨4, true, false, -7000, 0, [], -2000⟩], 0, [.installer], []⟩,
  ⟨P.UVLO_HYST, [⟨4, true, false, 200, 2000, [], 500⟩], 0, [.installer], []⟩,
  ⟨P.TX_TARGET_POS, [⟨4, true, false, 10000, 20000, [], 18000⟩], 0, [.installer], []⟩,
  ⟨P.TX_FREQ, [⟨4, true, false, 100, 500, [], 250⟩], 0, [.installer], []⟩,
  ⟨P.T_TARGET_ON, [⟨4, true, false, 10, 400, [], 40⟩], 0, [.installer], []⟩,
  ⟨P.T_TARGET_OFF, [⟨4, true, false, 10, 400, [], 40⟩], 0, [.installer], []⟩,
  ⟨P.STR_ON, [⟨2, false, false, 0, 31, [], 4⟩, ⟨2, false, false, 0, 31, [], 28⟩], 0, [.installer], []⟩,
  ⟨P.STR_OFF, [⟨2, false, false, 0, 31, [], 4⟩, ⟨2, false, false, 0, 31, [], 28⟩], 0, [.installer], []⟩,
  ⟨P.STR_INIT, [⟨4, true, false, 0, 31, [], 16⟩], 0, [.installer], []⟩,
  ⟨P.ADAPT_EN, [⟨4, true, false, 1, 0, [0, 1], 1⟩], 0, [.installer], []⟩,
  ⟨P.ADAPT_BAND, [⟨4, true, false, 0, 50, [], 2⟩], 0, [.installer], []⟩,
  ⟨P.ADAPT_GAIN, [⟨4, true, false, 1, 100, [], 8⟩], 0, [.installer], []⟩,
  ⟨P.STEP_MAX, [⟨4, true, false, 1, 4, [], 1⟩], 0, [.installer], []⟩,
  ⟨P.ADAPT_VMIN, [⟨4, true, false, 0, 1000000, [], 100000⟩], 0, [.installer], []⟩,
  ⟨P.VDS_DIV, [⟨4, true, false, 1, 1000, [], 200⟩], 0, [.installer], []⟩,
  ⟨P.DESAT_TH, [⟨4, true, false, 2000, 12000, [], 7000⟩], 0, [.installer], []⟩,
  ⟨P.DESAT_BLANK, [⟨4, true, false, 100, 1600, [], 400⟩], 0, [.installer], []⟩,
  ⟨P.DESAT_FILT, [⟨4, true, false, 0, 100, [], 40⟩], 0, [.installer], []⟩,
  ⟨P.SOFT_V, [⟨4, true, false, 5000, 12000, [], 9000⟩], 0, [.installer], []⟩,
  ⟨P.SOFT_T1, [⟨4, true, false, 100, 2000, [], 400⟩], 0, [.installer], []⟩,
  ⟨P.SOFT_STR, [⟨4, true, false, 0, 31, [], 2⟩], 0, [.installer], []⟩,
  ⟨P.DESAT_ESC_N, [⟨4, true, false, 1, 16, [], 3⟩], 0, [.installer], []⟩,
  ⟨P.SAT_DT_MIN, [⟨4, true, false, 20, 2000, [], 40⟩], 0, [.installer], []⟩,
  ⟨P.HANDSHAKE_TIMEOUT, [⟨4, true, false, 50, 2000, [], 200⟩], 0, [.installer], []⟩,
  ⟨P.GATE_OFF_TH, [⟨4, true, false, 500, 6000, [], 2000⟩], 0, [.installer], []⟩,
  ⟨P.T_GOFF_MAX, [⟨4, true, false, 200, 5000, [], 1000⟩], 0, [.installer], []⟩,
  ⟨P.CH0_MODE, [⟨4, true, false, 1, 0, [0, 1, 2], 0⟩], 0, [.installer], []⟩,
  ⟨P.OT_WARN, [⟨2, true, false, 10000, 16000, [], 15000⟩], 0, [.installer], []⟩]

/-- Parameters with IDs 0x0700 to 0x07FF. -/
def paramTable07 : List PDef := [
  ⟨P.ADC_MODE, [⟨4, true, false, 1, 0, [0, 1, 2], 0⟩], 0, [.installer], []⟩,
  ⟨P.CONT_INPUT, [⟨4, true, false, 0, 7, [], 1⟩], 0, [.installer], []⟩,
  ⟨P.AVG_LOG2, [⟨4, true, false, 0, 8, [], 0⟩], 0, [.installer], []⟩,
  ⟨P.AVG_SHIFT, [⟨4, true, false, 0, 8, [], 0⟩], 0, [.installer], []⟩,
  ⟨P.SENSE_GAIN, [⟨4, true, false, -1000000, 1000000, [], 244141⟩], 0, [.installer], []⟩,
  ⟨P.SENSE_OFFSET, [⟨4, true, false, -16000, 16000, [], 0⟩], 0, [.installer], []⟩,
  ⟨P.OFFSET_LIM, [⟨4, true, false, 1, 1000, [], 100⟩], 0, [.installer], []⟩,
  ⟨P.DS_OSR, [⟨4, true, false, 1, 0, [16, 32, 64, 128, 256], 32⟩], 0, [.installer], []⟩,
  ⟨P.R_SHUNT, [⟨4, true, false, 10, 10000, [], 200⟩], 0, [.installer], []⟩,
  ⟨P.VDC_DIV, [⟨4, true, false, 100, 2000, [], 1000⟩], 0, [.installer], []⟩,
  ⟨P.CHK_AVG, [⟨4, true, false, 1, 256, [], 16⟩], 0, [.installer], []⟩,
  ⟨P.CHK_ABS, [⟨4, true, false, 10, 500, [], 50⟩], 0, [.installer], []⟩,
  ⟨P.CHK_REL, [⟨4, true, false, 10, 500, [], 100⟩], 0, [.installer], []⟩,
  ⟨P.CHK_N, [⟨4, true, false, 1, 255, [], 4⟩], 0, [.installer], []⟩,
  ⟨P.VDC_SHARED, [⟨4, true, false, 1, 0, [0, 1], 1⟩], 0, [.installer], []⟩,
  ⟨P.VDC_TOL, [⟨4, true, false, 1000, 100000, [], 10000⟩], 0, [.installer], []⟩,
  ⟨P.TRIP_CAPTURE, [⟨4, true, false, 1, 0, [0, 1], 1⟩], 0, [.installer], []⟩,
  ⟨P.CT_SRC, [⟨4, true, false, 0, 63, [], 0⟩], 0, [.installer], []⟩,
  ⟨P.CT_LEVEL, [⟨4, true, false, 0, 5000, [], 4500⟩], 0, [.installer], []⟩,
  ⟨P.CT_MODE, [⟨4, true, false, 1, 0, [0, 1, 2, 3], 0⟩], 0, [.installer], []⟩]

/-- Parameters with IDs 0x0800 to 0x08FF. -/
def paramTable08 : List PDef := [
  ⟨P.POS_OFFSET, [⟨4, false, false, 0, 4294967295, [], 0⟩], 0, [.installer], []⟩,
  ⟨P.POS_DIR, [⟨4, true, false, 1, 0, [0, 1], 0⟩], 0, [.installer], []⟩,
  ⟨P.SPD_WIN, [⟨4, true, false, 0, 1000000, [], 20000⟩], 0, [.installer], []⟩,
  ⟨P.SPD_STANDSTILL, [⟨4, true, false, 1, 1000, [], 10⟩], 0, [.installer], []⟩,
  ⟨P.POS_INTERP, [⟨4, true, false, 1, 0, [0, 1], 1⟩], 0, [.installer], []⟩,
  ⟨P.RSV_FREQ, [⟨4, true, false, 4000, 20000, [], 10000⟩], 0, [.installer], []⟩,
  ⟨P.RSV_EXC_AMP, [⟨4, true, false, 2000, 14000, [], 7000⟩], 0, [.installer], []⟩,
  ⟨P.RSV_POLES, [⟨4, true, false, 1, 16, [], 4⟩], 0, [.installer], []⟩,
  ⟨P.RSV_AMP_NOM, [⟨4, true, false, 500, 5000, [], 2000⟩], 0, [.installer], []⟩,
  ⟨P.RSV_AMP_LO, [⟨4, true, false, 300, 1000, [], 700⟩], 0, [.installer], []⟩,
  ⟨P.RSV_AMP_HI, [⟨4, true, false, 1000, 2000, [], 1300⟩], 0, [.installer], []⟩,
  ⟨P.RSV_AMP_N, [⟨4, true, false, 1, 64, [], 4⟩], 0, [.installer], []⟩,
  ⟨P.RSV_LAG_MAX, [⟨4, true, false, 10, 1800, [], 600⟩], 0, [.installer], []⟩,
  ⟨P.RSV_BW, [⟨4, true, false, 200, 5000, [], 2000⟩], 0, [.installer], []⟩,
  ⟨P.RSV_TRACK_ERR, [⟨4, true, false, 100, 4500, [], 1000⟩], 0, [.installer], []⟩,
  ⟨P.ENC_MODE, [⟨4, true, false, 1, 0, [0, 1], 0⟩], 0, [.installer], []⟩,
  ⟨P.ENC_LINES, [⟨4, true, false, 1, 65536, [], 1024⟩], 0, [.installer], []⟩,
  ⟨P.ENC_FILT, [⟨4, true, false, 10, 5000, [], 50⟩], 0, [.installer], []⟩,
  ⟨P.TW_GAP, [⟨4, true, false, 0, 2, [], 2⟩], 0, [.installer], []⟩,
  ⟨P.INDEX_EN, [⟨4, true, false, 1, 0, [0, 1], 1⟩], 0, [.installer], []⟩,
  ⟨P.INDEX_POS, [⟨4, true, false, 0, 262143, [], 0⟩], 0, [.installer], []⟩,
  ⟨P.INDEX_SPAN, [⟨4, true, false, 1, 4, [], 1⟩], 0, [.installer], []⟩,
  ⟨P.INDEX_TOL, [⟨4, true, false, 0, 64, [], 2⟩], 0, [.installer], []⟩,
  ⟨P.INDEX_REALIGN, [⟨4, true, false, 1, 0, [0, 1], 1⟩], 0, [.installer], []⟩,
  ⟨P.INDEX_FAULT_N, [⟨4, true, false, 1, 16, [], 3⟩], 0, [.installer], []⟩,
  ⟨P.ENC_ALIGN, [⟨4, true, false, 1, 0, [0, 1, 2], 0⟩], 0, [.installer], []⟩,
  ⟨P.HALL_POLES, [⟨4, true, false, 1, 32, [], 4⟩], 0, [.installer], []⟩,
  ⟨P.HALL_FILT, [⟨4, true, false, 100, 100000, [], 1000⟩], 0, [.installer], []⟩,
  ⟨P.SER_ROLE, [⟨4, true, false, 1, 0, [0, 1], 0⟩], 0, [.installer], []⟩,
  ⟨P.SER_BAUD, [⟨4, true, false, 1000, 10000, [], 2500⟩], 0, [.installer], []⟩,
  ⟨P.SER_CMD, [⟨4, true, false, 0, 255, [], 2⟩], 0, [.installer], []⟩,
  ⟨P.SER_RESP_BYTES, [⟨4, true, false, 2, 8, [], 6⟩], 0, [.installer], []⟩,
  ⟨P.SER_POS_LSB, [⟨4, true, false, 0, 55, [], 0⟩], 0, [.installer], []⟩,
  ⟨P.SER_POS_BITS, [⟨4, true, false, 8, 32, [], 24⟩], 0, [.installer], []⟩,
  ⟨P.SER_ERR_BIT, [⟨4, true, false, 0, 55, [255], 255⟩], 0, [.installer], []⟩,
  ⟨P.SER_CRC_POLY, [⟨4, true, false, 1, 255, [], 7⟩], 0, [.installer], []⟩,
  ⟨P.SER_PERIOD, [⟨4, true, false, 10, 1000, [], 25⟩], 0, [.installer], []⟩,
  ⟨P.SER_SAMPLE_DELAY, [⟨4, true, false, 0, 5000, [], 0⟩], 0, [.installer], []⟩,
  ⟨P.SER_PT_EN, [⟨4, true, false, 1, 0, [0, 1], 0⟩], 0, [.installer], []⟩,
  ⟨P.SER_FAULT_N, [⟨4, true, false, 1, 16, [], 3⟩], 0, [.installer], []⟩,
  ⟨P.POS_CHECK_SRC, [⟨4, true, false, 0, 7, [15], 15⟩], 0, [.installer], []⟩,
  ⟨P.POS_CHECK_TOL, [⟨4, true, false, 10, 900, [], 150⟩], 0, [.installer], []⟩,
  ⟨P.POS_CHECK_N, [⟨4, true, false, 1, 255, [], 8⟩], 0, [.installer], []⟩,
  ⟨P.PCMP_SRC, [⟨4, true, false, 0, 7, [], 2⟩], 0, [.installer], []⟩,
  ⟨P.PCMP_MODE, [⟨4, true, false, 1, 0, [1, 2], 1⟩], 0, [.installer], []⟩,
  ⟨P.PCMP_DIR, [⟨4, true, false, 1, 0, [0, 1, 2], 0⟩], 0, [.installer], []⟩,
  ⟨P.PCMP_WIDTH, [⟨4, true, false, 20, 1000000, [], 1000⟩], 0, [.installer], []⟩,
  ⟨P.PCMP_LIST, ⟨1, false, false, 1, 64, [], 1⟩ :: List.replicate 64 ⟨4, false, false, 0, 4294967295, [], 0⟩, 0, [.installer], []⟩]

/-- Parameters with IDs 0x0900 to 0x09FF. -/
def paramTable09 : List PDef := [
  ⟨P.ASC_SPEED, [⟨4, true, false, 0, 3000000, [], 150000⟩], 0, [.installer], []⟩,
  ⟨P.ASC_HYST, [⟨4, true, false, 0, 100000, [], 10000⟩], 0, [.installer], []⟩,
  ⟨P.ASC_SIDE, [⟨4, true, false, 1, 0, [0, 1], 0⟩], 0, [.installer], []⟩,
  ⟨P.VDC_OV, [⟨4, true, false, 100000, 1050000, [], 950000⟩], 0, [.installer], []⟩,
  ⟨P.SAFE_DT, [⟨4, true, false, 100, 1460, [], 500⟩], 0, [.installer], []⟩,
  ⟨P.MON_ABS, [⟨4, true, false, 1000, 1000000, [], 10000⟩], 0, [.installer], []⟩,
  ⟨P.MON_REL, [⟨4, true, false, 10, 300, [], 50⟩], 0, [.installer], []⟩,
  ⟨P.MON_COARSE_PEN, [⟨4, true, false, 0, 1000000, [], 15000⟩], 0, [.installer], []⟩,
  ⟨P.MON_N, [⟨4, true, false, 1, 80, [], 40⟩], 0, [.installer], []⟩,
  ⟨P.MON_PWR_WMIN, [⟨4, true, false, 10000, 3000000, [], 50000⟩], 0, [.installer], []⟩,
  ⟨P.MON_PWR_TOL, [⟨4, true, false, 10, 500, [], 100⟩], 0, [.installer], []⟩,
  ⟨P.LOSS_C0, [⟨4, true, false, 0, 20000, [], 200⟩], 0, [.installer], []⟩,
  ⟨P.LOSS_C1, [⟨4, true, false, 0, 100000, [], 2000⟩], 0, [.installer], []⟩,
  ⟨P.DCHG_METHOD, [⟨4, true, false, 1, 0, [0, 1, 2], 0⟩], 0, [.installer], []⟩,
  ⟨P.DCHG_I, [⟨4, true, false, 10000, 1000000, [], 200000⟩], 0, [.installer], []⟩,
  ⟨P.DCHG_WMAX, [⟨4, true, false, 0, 1000000, [], 30000⟩], 0, [.installer], []⟩,
  ⟨P.DCHG_CHECK_T, [⟨4, true, false, 100, 1500, [], 500⟩], 0, [.installer], []⟩,
  ⟨P.STO_DISC_T, [⟨4, true, false, 1, 1000, [], 20⟩], 0, [.installer], []⟩,
  ⟨P.FAULT_RC, (List.replicate 64 [⟨2, false, false, 0, 65535, [], 0⟩, ⟨1, false, false, 0, 4, [], 0⟩]).flatten, 2, [.operator, .installer, .maker], []⟩]

/-- Parameters with IDs 0x0A00 to 0x0AFF. -/
def paramTable0A : List PDef := [
  ⟨P.HOST_LOSS_POLICY, [⟨4, true, false, 1, 0, [0, 1, 2], 0⟩], 0, [.installer], []⟩,
  ⟨P.HOLD_T, [⟨4, true, false, 0, 10000, [], 100⟩], 0, [.installer], []⟩,
  ⟨P.HB_TIMEOUT, [⟨4, true, false, 1, 1000, [], 20⟩], 0, [.installer], []⟩,
  ⟨P.FLUSH_T, [⟨4, true, false, 10, 100000, [], 1000⟩], 0, [.installer], []⟩]

/-- Parameters with IDs 0x0B00 to 0x0BFF. -/
def paramTable0B : List PDef := [
  ⟨P.INSTALLER_KEY, [⟨64, false, true, 0, 2 ^ 512 - 1, [], 0⟩], 0, [.installer, .maker], []⟩,
  ⟨P.OPERATOR_KEY, [⟨64, false, true, 0, 2 ^ 512 - 1, [], 0⟩], 0, [.operator, .installer], []⟩,
  ⟨P.IMMOB_POLICY, [⟨4, true, false, 1, 0, [0, 1], 0⟩], 0, [.operator], []⟩,
  ⟨P.IMMOB_STANDSTILL_T, [⟨4, true, false, 100, 60000, [], 2000⟩], 0, [.operator], []⟩,
  ⟨P.TOKEN_RESUME_T, [⟨4, true, false, 0, 86400, [], 600⟩], 0, [.operator], []⟩,
  ⟨P.AUTH_FAIL_N, [⟨4, true, false, 1, 16, [], 5⟩], 0, [.installer], []⟩,
  ⟨P.AUTH_LOCKOUT_T, [⟨4, true, false, 1, 3600, [], 60⟩], 0, [.installer], []⟩,
  ⟨P.MAKER_BOUNDS, (List.replicate 512 [⟨2, false, false, 0, 65535, [], 0⟩, ⟨2, false, false, 0, 65535, [], 0⟩, ⟨8, true, false, -(2 ^ 63), 2 ^ 63 - 1, [], 0⟩, ⟨8, true, false, -(2 ^ 63), 2 ^ 63 - 1, [], 0⟩]).flatten, 4, [.maker], []⟩,
  ⟨P.DEBUG_UNLOCK, [⟨4, true, false, 0, 31, [], 0⟩], 0, [.installer, .maker], []⟩,
  ⟨P.LIFECYCLE_ADVANCE, [⟨4, true, false, 1, 0, [1, 2], 0⟩], 0, [.maker], []⟩]

/-- Parameters with IDs 0x0100 to 0x01FF. -/
def paramTable01 : List PDef := [
  ⟨P.RAMP_STEPS, [⟨4, true, false, 1, 16, [], 8⟩], 0, [.maker], []⟩,
  ⟨P.RAMP_STEP_T, [⟨4, true, false, 1, 100, [], 10⟩], 0, [.maker], []⟩,
  ⟨P.CLK_RELOCK_T, [⟨4, true, false, 1, 100, [], 10⟩], 0, [.maker], []⟩]

/-- Parameters with IDs 0x0C00 to 0x0CFF. -/
def paramTable0C : List PDef := [
  ⟨P.CAN_MODE, [⟨4, true, false, 1, 0, [0, 1, 2], 0⟩], 0, [.installer], []⟩,
  ⟨P.CAN_NBR, [⟨4, true, false, 125, 1000, [], 500⟩], 0, [.installer], []⟩,
  ⟨P.CAN_NSP, [⟨4, true, false, 500, 900, [], 800⟩], 0, [.installer], []⟩,
  ⟨P.CAN_DBR, [⟨4, true, false, 500, 8000, [0], 2000⟩], 0, [.installer], []⟩,
  ⟨P.CAN_DSP, [⟨4, true, false, 500, 900, [], 750⟩], 0, [.installer], []⟩,
  ⟨P.CAN_BT_RAW, List.replicate 8 ⟨2, false, false, 0, 65535, [], 0⟩, 0, [.installer], []⟩,
  ⟨P.CAN_TDC, [⟨4, true, false, 1, 0, [0, 1], 1⟩], 0, [.installer], []⟩,
  ⟨P.CAN_TDCO, [⟨4, true, false, 0, 255, [], 0⟩], 0, [.installer], []⟩,
  ⟨P.CAN_BUSOFF_N, [⟨4, true, false, 1, 255, [], 8⟩], 0, [.installer], []⟩,
  ⟨P.CAN_UNMATCHED_RP, [⟨4, true, false, 0, 63, [255], 255⟩], 0, [.installer], []⟩,
  ⟨P.CAN_RXOBJ, List.replicate 512 ⟨8, false, false, 0, 2 ^ 64 - 1, [], 0⟩, 1, [.installer], []⟩,
  ⟨P.CAN_TXBUF, List.replicate 64 ⟨8, false, false, 0, 2 ^ 64 - 1, [], 0⟩, 1, [.installer], []⟩,
  ⟨P.CAN_SCHED_EN, [⟨4, true, false, 1, 0, [0, 1], 0⟩], 0, [.installer], []⟩,
  ⟨P.CAN_CYCLE_T, [⟨4, true, false, 100, 100000, [], 1000⟩], 0, [.installer], []⟩,
  ⟨P.CAN_SCHED, (List.replicate 64 [⟨4, false, false, 0, 4294967295, [], 0⟩, ⟨4, false, false, 0, 4294967295, [], 0⟩, ⟨1, false, false, 0, 255, [], 0⟩, ⟨1, false, false, 0, 255, [], 0⟩, ⟨2, false, false, 0, 65535, [], 0⟩]).flatten, 0, [.installer], []⟩,
  ⟨P.CAN_MISS_N, [⟨4, true, false, 1, 255, [], 4⟩], 0, [.installer], []⟩,
  ⟨P.AQ_DIR, [⟨4, true, false, 1, 0, [0, 1, 2], 0⟩], 0, [.installer], []⟩,
  ⟨P.AQ_NET, [⟨4, true, false, 0, 3, [8], 0⟩], 0, [.installer], []⟩,
  ⟨P.AQ_INDEX, [⟨4, true, false, 0, 511, [], 0⟩], 0, [.installer], []⟩,
  ⟨P.AQ_CONN_ID, [⟨4, false, false, 1, 4294967295, [], 1⟩], 0, [.installer], []⟩,
  ⟨P.AQ_LEN, [⟨4, true, false, 1, 50, [], 24⟩], 0, [.installer], []⟩,
  ⟨P.AQ_LIFETIME, [⟨4, true, false, 100, 1000000, [], 1000⟩], 0, [.installer], []⟩,
  ⟨P.AQ_WINDOW, [⟨4, true, false, 100, 1000000, [], 2000⟩], 0, [.installer], []⟩,
  ⟨P.AQ_TIMEOUT, [⟨4, true, false, 1000, 10000000, [], 50000⟩], 0, [.installer], []⟩,
  ⟨P.AQ_SEQ_WIN, [⟨4, true, false, 1, 1000, [], 8⟩], 0, [.installer], []⟩,
  ⟨P.AQ_TIME_REQ, [⟨4, true, false, 1, 0, [0, 1], 0⟩], 0, [.installer], []⟩,
  ⟨P.AQ_PARTNER, [⟨4, true, false, 0, 31, [255], 255⟩], 0, [.installer], []⟩,
  ⟨P.AQ_SKEW, [⟨4, true, false, 10, 100000, [], 500⟩], 0, [.installer], []⟩,
  ⟨P.AQ_DUAL_N, [⟨4, true, false, 1, 255, [], 4⟩], 0, [.installer], []⟩,
  ⟨P.AQ_ETH_DST, [⟨6, false, true, 0, 2 ^ 48 - 1, [], 0⟩], 0, [.installer], []⟩,
  ⟨P.AQ_ETHERTYPE, [⟨4, true, false, 1536, 65535, [], 34997⟩], 0, [.installer], []⟩]

/-- Parameters with IDs 0x0D00 to 0x0DFF. -/
def paramTable0D : List PDef := [
  ⟨P.ETH_EN, [⟨4, true, false, 1, 0, [0, 1], 0⟩], 0, [.installer], []⟩,
  ⟨P.ETH_IF, [⟨4, true, false, 1, 0, [0, 1], 0⟩], 0, [.installer], []⟩,
  ⟨P.ETH_SPEED, [⟨4, true, false, 0, 3, [], 0⟩], 0, [.installer], []⟩,
  ⟨P.ETH_MAC_ADDR, [⟨6, false, true, 0, 2 ^ 48 - 1, [], 0⟩], 0, [.installer], []⟩,
  ⟨P.ETH_MCAST, List.replicate 16 ⟨6, false, true, 0, 2 ^ 48 - 1, [], 0⟩, 0, [.installer], []⟩,
  ⟨P.ETH_RX_RP, [⟨4, true, false, 0, 63, [255], 255⟩], 0, [.installer], []⟩,
  ⟨P.RGMII_TX_DELAY, [⟨4, true, false, 1, 0, [0, 1], 1⟩], 0, [.installer], []⟩,
  ⟨P.PHY_TX_LAT, [⟨4, true, false, 0, 2000, [], 0⟩], 0, [.installer], []⟩,
  ⟨P.PHY_RX_LAT, [⟨4, true, false, 0, 2000, [], 0⟩], 0, [.installer], []⟩,
  ⟨P.PTP_DOMAIN, [⟨4, true, false, 0, 127, [], 0⟩], 0, [.installer], []⟩,
  ⟨P.PDELAY_LOG_INT, [⟨4, true, false, -3, 3, [], 0⟩], 0, [.installer], []⟩,
  ⟨P.PDELAY_THRESH, [⟨4, true, false, 100, 100000, [], 800⟩], 0, [.installer], []⟩,
  ⟨P.JUMP_LIMIT, [⟨4, true, false, 1, 1000000, [], 50⟩], 0, [.installer], []⟩,
  ⟨P.SYNC_TOL, [⟨4, true, false, 10, 100000, [], 1000⟩], 0, [.installer], []⟩,
  ⟨P.HOLDOVER_T, [⟨4, true, false, 1, 86400, [], 60⟩], 0, [.installer], []⟩,
  ⟨P.FREQ_MAX, [⟨4, true, false, 1000, 500000, [], 200000⟩], 0, [.installer], []⟩,
  ⟨P.SERVO_KP, [⟨4, true, false, 1, 100000, [], 700⟩], 0, [.installer], []⟩,
  ⟨P.SERVO_KI, [⟨4, true, false, 0, 100000, [], 300⟩], 0, [.installer], []⟩,
  ⟨P.TPO_MODE, [⟨4, true, false, 1, 0, [0, 1, 2, 3], 0⟩], 0, [.installer], []⟩,
  ⟨P.TPO_POL, [⟨4, true, false, 1, 0, [0, 1], 0⟩], 0, [.installer], []⟩,
  ⟨P.CAPT_EDGE, [⟨4, true, false, 1, 0, [0, 1, 2, 3], 0⟩], 0, [.installer], []⟩,
  ⟨P.CAPT_FILT, [⟨4, true, false, 0, 255, [], 8⟩], 0, [.installer], []⟩,
  ⟨P.PEER_EN, [⟨4, true, false, 1, 0, [0, 1], 0⟩], 0, [.installer], []⟩]

/-- Parameters with IDs 0x0E00 to 0x0EFF. -/
def paramTable0E : List PDef := [
  ⟨P.SN_ROUND_T, [⟨4, true, false, 10, 1000, [], 50⟩], 0, [.installer], []⟩,
  ⟨P.SN_BURST_T, [⟨4, true, false, 100, 2000, [], 200⟩], 0, [.installer], []⟩,
  ⟨P.SN_DITHER, [⟨4, true, false, 1, 0, [0, 1], 1⟩], 0, [.installer], []⟩,
  ⟨P.SN_NTC_DIV, [⟨4, true, false, 1, 255, [], 20⟩], 0, [.installer], []⟩,
  ⟨P.SN_IIR_SHIFT, [⟨4, true, false, 0, 8, [], 3⟩], 0, [.installer], []⟩,
  ⟨P.SN_SENSOR, [⟨4, true, false, 1, 0, [0, 1, 2, 3], 0⟩], 0, [.installer], []⟩,
  ⟨P.SN_ROT_N, [⟨4, true, false, 1, 16, [], 3⟩], 0, [.installer], []⟩,
  ⟨P.SN_ROT_COUNTS, [⟨4, true, false, 1, 255, [], 4⟩], 0, [.installer], []⟩,
  ⟨P.SN_WAKE_FILT, [⟨4, true, false, 10, 10000, [], 100⟩], 0, [.installer], []⟩,
  ⟨P.SN_WAKE_OUT_T, [⟨4, true, false, 1, 10000, [], 100⟩], 0, [.installer], []⟩,
  ⟨P.SN_OFF_WAKE, [⟨4, true, false, 0, 15, [], 1⟩], 0, [.installer], []⟩,
  ⟨P.SN_RULE, [⟨1, false, false, 0, 10, [], 0⟩, ⟨1, false, false, 0, 6, [], 0⟩, ⟨1, false, false, 0, 7, [], 0⟩, ⟨1, false, false, 0, 15, [], 0⟩, ⟨4, true, false, -2147483648, 2147483647, [], 0⟩, ⟨4, false, false, 0, 4294967295, [], 0⟩, ⟨2, false, false, 0, 4095, [], 0⟩, ⟨2, false, false, 0, 0, [], 0⟩], 0, [.operator, .installer], []⟩,
  ⟨P.SN_CAN_BR, [⟨4, true, false, 125, 500, [], 500⟩], 0, [.installer], []⟩,
  ⟨P.SN_CAN_FILTER, (List.replicate 8 [⟨4, false, false, 0, 536870911, [], 0⟩, ⟨4, false, false, 0, 536870911, [], 0⟩, ⟨1, false, false, 0, 1, [], 0⟩, ⟨1, false, false, 0, 15, [], 0⟩, ⟨8, false, true, 0, 2 ^ 64 - 1, [], 0⟩, ⟨8, false, true, 0, 2 ^ 64 - 1, [], 0⟩]).flatten, 0, [.installer], []⟩,
  ⟨P.SN_CAN_ERR_LIM, [⟨4, true, false, 8, 255, [], 32⟩], 0, [.installer], []⟩]

/-- Parameters with IDs 0x0F00 to 0x0FFF. -/
def paramTable0F : List PDef := [
  ⟨P.SCRUB_SRAM_T, [⟨4, true, false, 100, 10000, [], 1000⟩], 0, [.maker], []⟩,
  ⟨P.NTC_CURVE, [⟨4, false, false, 100, 1000000, [], 10000⟩, ⟨4, false, false, 1000, 10000, [], 3435⟩, ⟨4, false, false, 100, 1000000, [], 10000⟩], 0, [.installer], []⟩,
  ⟨P.NTC_GROUP, [⟨4, true, false, 0, 3, [], 0⟩], 0, [.installer], []⟩,
  ⟨P.SLOT_NTC, [⟨4, true, false, 0, 63, [], 0⟩], 0, [.installer], []⟩,
  ⟨P.MAG_NTC, [⟨4, true, false, 0, 5, [255], 255⟩], 0, [.installer], []⟩,
  ⟨P.MAG_OFFSET, [⟨2, true, false, -5000, 5000, [], 0⟩], 0, [.installer], []⟩,
  ⟨P.DIE_WARN, [⟨2, true, false, 12000, 15000, [], 14500⟩], 0, [.installer], []⟩,
  ⟨P.BROKEN_N, [⟨4, true, false, 1, 100, [], 3⟩], 0, [.installer], []⟩]

/-- Every parameter of the chapters' tables. -/
def paramTable : List PDef :=
  paramTable02 ++ paramTable04 ++ paramTable03 ++ paramTable05 ++ paramTable06 ++ paramTable07 ++ paramTable08 ++ paramTable09 ++ paramTable0A ++ paramTable0B ++ paramTable01 ++ paramTable0C ++ paramTable0D ++ paramTable0E ++ paramTable0F

/-- The parameters of one class of IDs (bits [15:8]). -/
def paramTableOf (cls : Nat) : List PDef :=
  match cls with
  | 0x02 => paramTable02
  | 0x04 => paramTable04
  | 0x03 => paramTable03
  | 0x05 => paramTable05
  | 0x06 => paramTable06
  | 0x07 => paramTable07
  | 0x08 => paramTable08
  | 0x09 => paramTable09
  | 0x0A => paramTable0A
  | 0x0B => paramTable0B
  | 0x01 => paramTable01
  | 0x0C => paramTable0C
  | 0x0D => paramTable0D
  | 0x0E => paramTable0E
  | 0x0F => paramTable0F
  | _ => []

/-- The parameter of an ID. -/
def paramDef (id : Nat) : Option PDef := (paramTableOf (id / 256)).find? (fun d => d.id == id)

/-- The default of one element of a parameter (the tables' Default columns; 0 where none applies). -/
def paramDefault (k : PKey) : Int :=
  match paramDef k.id with
  | none => 0
  | some d => (d.dflts[k.idx]?).getD (((d.elems[k.idx]?).map (·.dflt)).getD 0)

/-- A record of R632: first and last ID, and how many instances its TARGET names. -/
structure PRecord where
  first : Nat
  last : Nat
  insts : Nat
  deriving DecidableEq, Repr

/-- The records of R632. -/
def paramRecords : List PRecord := [
  ⟨0x0100, 0x0102, 1⟩,
  ⟨0x0200, 0x020E, 2⟩,
  ⟨0x0220, 0x0231, 2⟩,
  ⟨0x0240, 0x0244, 2⟩,
  ⟨0x0260, 0x0268, 2⟩,
  ⟨0x0270, 0x0272, 2⟩,
  ⟨0x0280, 0x0282, 2⟩,
  ⟨0x0300, 0x0301, 8⟩,
  ⟨0x0400, 0x0408, 2⟩,
  ⟨0x0420, 0x042D, 2⟩,
  ⟨0x0440, 0x0441, 1⟩,
  ⟨0x0500, 0x0517, 2⟩,
  ⟨0x0520, 0x0520, 2⟩,
  ⟨0x0600, 0x0625, 12⟩,
  ⟨0x0700, 0x0706, 6⟩,
  ⟨0x0720, 0x0720, 24⟩,
  ⟨0x0730, 0x0746, 2⟩,
  ⟨0x0750, 0x0752, 8⟩,
  ⟨0x0800, 0x084B, 8⟩,
  ⟨0x0860, 0x0862, 2⟩,
  ⟨0x0870, 0x0874, 4⟩,
  ⟨0x0900, 0x0923, 2⟩,
  ⟨0x0940, 0x0940, 1⟩,
  ⟨0x0950, 0x0950, 1⟩,
  ⟨0x0A00, 0x0A01, 2⟩,
  ⟨0x0A10, 0x0A10, 2⟩,
  ⟨0x0A20, 0x0A20, 1⟩,
  ⟨0x0B00, 0x0B00, 1⟩,
  ⟨0x0B01, 0x0B01, 1⟩,
  ⟨0x0B02, 0x0B02, 1⟩,
  ⟨0x0B03, 0x0B03, 1⟩,
  ⟨0x0B04, 0x0B04, 1⟩,
  ⟨0x0B05, 0x0B05, 1⟩,
  ⟨0x0B06, 0x0B06, 1⟩,
  ⟨0x0B10, 0x0B10, 1⟩,
  ⟨0x0B20, 0x0B20, 1⟩,
  ⟨0x0B21, 0x0B21, 1⟩,
  ⟨0x0C00, 0x0C23, 4⟩,
  ⟨0x0C40, 0x0C4D, 32⟩,
  ⟨0x0C60, 0x0C60, 1⟩,
  ⟨0x0D00, 0x0D08, 1⟩,
  ⟨0x0D10, 0x0D18, 1⟩,
  ⟨0x0D20, 0x0D21, 8⟩,
  ⟨0x0D30, 0x0D31, 5⟩,
  ⟨0x0D40, 0x0D40, 1⟩,
  ⟨0x0E00, 0x0E0A, 1⟩,
  ⟨0x0E10, 0x0E10, 16⟩,
  ⟨0x0E20, 0x0E22, 1⟩,
  ⟨0x0F00, 0x0F00, 1⟩,
  ⟨0x0F40, 0x0F40, 16⟩,
  ⟨0x0F41, 0x0F41, 6⟩,
  ⟨0x0F42, 0x0F44, 2⟩,
  ⟨0x0F45, 0x0F46, 1⟩]

/-- The record that holds an ID (R632). -/
def paramRecordOf (id : Nat) : Option PRecord := paramRecords.find? (fun r => decide (r.first ≤ id) && decide (id ≤ r.last))

end Sys2Proof.Machine
end

