-- ==== Sys2Proof/Config.lean ====
section
/-! DEFINITION. What an implementation fixes and what the spec leaves open: constants without a body, so that no
proof can see their value. -/

namespace Sys2Proof

/-- The fused identity word of the control die (R32). -/
opaque Config.dieIdControl : Word

/-- The contents of the boot ROM (R52, R441), fixed at manufacture. -/
opaque Config.bootRom : Nat → Byte

/-- SHA-256 of a byte string (a public standard the spec names and does not define). -/
opaque Config.sha256 : List Byte → List Byte

/-- Whether an ECDSA P-256 signature (third argument) over a message digest passes under a public key (first). -/
opaque Config.ecdsaOk : List Byte → List Byte → List Byte → Bool

/-- The ECDSA P-256 signature of a digest by the device private key, which no master can read (R438). -/
opaque Config.deviceSign : List Byte → List Byte

/-- Whether 64 bytes are a valid P-256 point (R462). -/
opaque Config.validPoint : List Byte → Bool

/-- The maker public key of the calibration record, accepted under the fused hash (R438). -/
opaque Config.makerKey : List Byte

/-- The 128-bit unique identifier of the module (R36, R438), byte by byte. -/
opaque Config.moduleUid : List Byte

/-- The fresh nonce that a challenge writes (R448): the n-th one taken. -/
opaque Config.nonce : Nat → List Byte

/-- Where the spec states no rounding of a quotient: whether it goes up, by the place it is formed, numerator and
denominator. -/
opaque Config.roundUp : Nat → Int → Nat → Bool

/-- The identity words of the satellites (R32, R257). -/
opaque Config.dieIdSat : Nat → Word

/-- Whether a satellite's n-th training succeeds (R256, R257). -/
opaque Config.satTrains : Nat → Nat → Bool

/-- The identity word of the MRAM die (R32, R167). -/
opaque Config.dieIdMram : Word

/-- The PCIe device and vendor identifiers of the calibration record (R436). -/
opaque Config.pcieIds : Word

/-- The calibration record (R589): the LPO trim at 25 °C; the slope of the trim in 10⁻⁶ codes per 0.01 °C; the slope of each main ADC's gain
correction in 10⁻⁶ × 10 ppm per 0.01 °C; the control-die sensor nearest each main ADC. -/
opaque Config.trim25 : Nat
opaque Config.lpoTc : Int
opaque Config.adcGainTc : Nat → Int
opaque Config.adcSensor : Nat → Nat

/-- The duty of a transformer driver before its first adjustment, and the size of an adjustment's step, of which only an upper
bound is stated (R275); units of one millionth. -/
opaque Config.txDuty : Nat → Nat
opaque Config.txStep : Nat → Int → Int → Nat

/-- The filtered phase lag of a resolver from its last value and a new measurement, both in 0.1° of carrier (R334): a time constant of 16
carrier periods, its arithmetic not stated. -/
opaque Config.rsvLag : Nat → Int → Nat

/-- By how much, in LSB, a result of the engines' function units differs from the exact value rounded to the nearest integer (R178): 0 cosine, 1 sine,
2 reciprocal, 3 reciprocal square root; by the operand. -/
opaque Config.unitDev : Nat → Int → Int

/-- The phase resistance in µΩ at a winding temperature (0.01 °C) from RS_25 (R65): the coefficient is not stated. -/
opaque Config.rsAt : Nat → Int → Nat

/-- A value the spec leaves open where nothing more is said of it: by the place it is needed and the number of the free value taken
(State.fresh). Each use bounds it as the spec does. -/
opaque Config.free : Nat → Nat → Int

end Sys2Proof
end

