-- ==== Sys2Proof/Machine/RegMap.lean ====
section
/-! DEFINITION. The software-visible registers of the T960, taken from the register tables of the spec
(one table per register; blocks and base addresses of R54): the names, the address of every instance, the
power domain, the reset value, and every non-reserved field with its bit range and access type (R8). -/

namespace Sys2Proof.Machine

/-- Access types of a register field (R8). -/
inductive Acc where
  | ro | rw | w1c | w1s | wo | rwl
  deriving DecidableEq, Repr

/-- The register blocks of R54 (ETH shares the TIME/ETH block). -/
inductive Block where

  | SYSCTL
  | PROT
  | DERRICK
  | CE
  | ATLAS
  | PWM
  | GDS
  | ADC
  | POS
  | SAFETY
  | CAN
  | TIME
  | ETH
  | PCIE
  | SENTINEL
  | MEMCTL
  | HKEEP
  deriving DecidableEq, Repr

/-- Every register of the spec's register tables, named BLOCK_REGISTER. -/
inductive Reg where
  | ATLAS_MRAM_ID
  | ATLAS_MRAM_STATUS
  | ATLAS_PTIME
  | ATLAS_INT_STATUS
  | ATLAS_INT_ENABLE
  | ATLAS_ECC_COUNT
  | ATLAS_SCRUB_STATUS
  | ATLAS_SCRUB_AGE
  | ATLAS_REMAP_STATUS
  | ATLAS_WEAR_MAX
  | ATLAS_WEAR_MAX_BLOCK
  | ATLAS_SLOT_STATUS
  | ATLAS_LOOKUP_HIT
  | ATLAS_LOOKUP_COARSE
  | ATLAS_USEQ
  | ATLAS_DRESS_DROP
  | ATLAS_COMMIT_COUNT
  | ATLAS_LOSS_COUNT
  | ATLAS_SEAM_MAX
  | CE_STATUS
  | CE_FAULT
  | CE_INT_STATUS
  | CE_INT_ENABLE
  | CE_LOOP_CYCLES
  | CE_DMEAS
  | CE_DMEAS_MAX
  | CE_WDG
  | CE_ECC_COUNT
  | CE_PUBL_DROP
  | CE_IMAGE_VERSION
  | CE_DEBUG_CTRL
  | CE_BREAK
  | CE_DBG_SEL
  | CE_DBG_DATA
  | PWM_STATUS
  | PWM_COUNTER
  | PWM_PERIOD_SEQ
  | PWM_PERIOD_EFF
  | PWM_CONFIG
  | PWM_MINPULSE
  | PWM_DEADTIME
  | PWM_CMP_EFF
  | PWM_ERR
  | PWM_LS_CMP
  | PWM_INT_STATUS
  | PWM_INT_ENABLE
  | PWM_GEN_STATS
  | PWM_TRIP_STATUS
  | PWM_TRIP_COUNT
  | PWM_SYNC_STATUS
  | PWM_BOOT_COUNT
  | PWM_DEBUG_CTRL
  | PWM_TL_TIME
  | PWM_TL_ACT
  | PWM_CAP_TS_LO
  | PWM_CAP_TS_HI
  | PWM_CAP_INFO
  | PWM_CAP_POS
  | GDS_STATUS
  | GDS_ID
  | GDS_INT_STATUS
  | GDS_INT_ENABLE
  | GDS_STRENGTH
  | GDS_TIMING
  | GDS_SENSE
  | GDS_RAILS
  | GDS_HS_STATS
  | GDS_HS_WAIT
  | GDS_DESAT_STATS
  | GDS_LINK_STATS
  | GDS_CONFIG
  | GDS_TARGET
  | GDS_DESAT_CFG
  | GDS_HS_CFG
  | ADC_STATUS
  | ADC_INT_STATUS
  | ADC_INT_ENABLE
  | ADC_SW_START
  | ADC_RESULT
  | ADC_OFFSET
  | ADC_STATS
  | ADC_DS_VAL
  | ADC_SHUNT
  | ADC_SHUNT_INFO
  | ADC_CHK_STATUS
  | ADC_CHK_ERR
  | ADC_TRIP_CAP0
  | ADC_TRIP_CAP1
  | ADC_CT_STATUS
  | POS_INT_STATUS
  | POS_INT_ENABLE
  | POS_IF_STATUS
  | POS_IF_POS
  | POS_IF_SPEED
  | POS_IF_INTERVAL
  | POS_RSV_DIAG
  | POS_RSV_TRACK
  | POS_ENC_DIAG
  | POS_ENC_COUNT
  | POS_HALL_DIAG
  | POS_SER_DIAG
  | POS_SER_RAW
  | POS_PCMP_STATUS
  | POS_PCMP_LC
  | POS_CHECK
  | SAFETY_STATUS
  | SAFETY_INT_STATUS
  | SAFETY_INT_ENABLE
  | SAFETY_STO
  | SAFETY_LOCKSTEP
  | SAFETY_LATCH
  | SAFETY_RESET_COUNT
  | SAFETY_BRIDGE
  | SAFETY_DCHG
  | SAFETY_DEBUG_GUARD
  | SAFETY_SLOT
  | SAFETY_MON_ERR
  | SAFETY_MON_ALLOW
  | SAFETY_MON_TMON
  | SAFETY_MON_CNT
  | DERRICK_HOST
  | DERRICK_INT_STATUS
  | DERRICK_INT_ENABLE
  | DERRICK_HB
  | DERRICK_RP_BIND
  | DERRICK_RP_BASE_LO
  | DERRICK_RP_BASE_HI
  | DERRICK_RP_CFG
  | DERRICK_RP_CTRL
  | DERRICK_RP_STATUS
  | DERRICK_RP_STATS
  | DERRICK_RP_ERR
  | DERRICK_DB_SQ
  | DERRICK_DB_CQ
  | PCIE_CTRL
  | PCIE_STATUS
  | PCIE_INT_STATUS
  | PCIE_INT_ENABLE
  | PCIE_IDS
  | PCIE_ERR_COUNT
  | PROT_STATUS
  | PROT_BOOTLOCK
  | PROT_UID
  | PROT_CERT_LEN
  | PROT_ROLLBACK
  | PROT_FW_VERSION
  | PROT_BOOT_CONFIRM
  | PROT_INT_STATUS
  | PROT_INT_ENABLE
  | PROT_DEBUG_POLICY
  | PROT_DEBUG_STATUS
  | PROT_LOCK_VIOL_ADDR
  | PROT_LOCK_VIOL_INFO
  | PROT_MPU_FAULT_ADDR
  | PROT_MPU_FAULT_INFO
  | PROT_MPU_CTRL
  | PROT_MPU_RBASE
  | PROT_MPU_RLIMIT
  | SYSCTL_DIE_ID
  | SYSCTL_RESET_CAUSE
  | SYSCTL_RESET_INFO
  | SYSCTL_RESET_REQ
  | SYSCTL_PWR_MODE
  | SYSCTL_PD_ON
  | SYSCTL_PD_OFF
  | SYSCTL_CLK_STATUS
  | SYSCTL_SUPPLY_STATUS
  | SYSCTL_INT_STATUS
  | SYSCTL_INT_ENABLE
  | SYSCTL_WDT_CTRL
  | SYSCTL_WDT_KICK
  | SYSCTL_PD_STATUS
  | SYSCTL_CG_RUN
  | SYSCTL_CG_SLEEP
  | SYSCTL_CG_DSLEEP
  | SYSCTL_RET_BANKS
  | CAN_STATUS
  | CAN_ERR_COUNT
  | CAN_INT_STATUS
  | CAN_INT_ENABLE
  | CAN_BT_NOM
  | CAN_BT_DATA
  | CAN_TDC
  | CAN_STATS
  | CAN_SCHED_STATUS
  | CAN_RXO_STATUS
  | CAN_RXO_DATA
  | CAN_AQ_STATUS
  | CAN_AQ_STATS
  | CAN_AQ_STATS2
  | TIME_STATUS
  | TIME_NOW_NS
  | TIME_NOW_SEC_LO
  | TIME_NOW_SEC_HI
  | TIME_INT_STATUS
  | TIME_INT_ENABLE
  | TIME_FREQ_ADJ
  | TIME_OFFSET
  | TIME_LINK_DELAY
  | TIME_JUMP_SEQ
  | TIME_JUMP_OFFSET
  | TIME_GM_ID_LO
  | TIME_GM_ID_HI
  | TIME_PEER
  | TIME_TPO_START_LO
  | TIME_TPO_START_HI
  | TIME_TPO_PERIOD
  | TIME_TPO_CTRL
  | TIME_EVCAP_TS_LO
  | TIME_EVCAP_TS_HI
  | TIME_EVCAP_INFO
  | ETH_STATUS
  | ETH_RX_STATS
  | ETH_TX_STATS
  | ETH_MDIO
  | SENTINEL_STATUS
  | SENTINEL_INT_STATUS
  | SENTINEL_INT_ENABLE
  | SENTINEL_ANALOG
  | SENTINEL_NTC
  | SENTINEL_ROT
  | SENTINEL_WAKE_INFO
  | SENTINEL_CANWAKE
  | SENTINEL_RULE
  | MEMCTL_STATUS
  | MEMCTL_INT_STATUS
  | MEMCTL_INT_ENABLE
  | MEMCTL_ECC_COUNT
  | MEMCTL_ERR_ADDR
  | MEMCTL_ERR_INFO
  | MEMCTL_MARCH_CTRL
  | MEMCTL_MARCH_BANKS
  | MEMCTL_MARCH_STATUS
  | MEMCTL_MARCH_FAIL_ADDR
  | MEMCTL_SCRUB_STATUS
  | MEMCTL_CONF_SEL
  | MEMCTL_FIXED_STALLS
  | MEMCTL_RET_STATUS
  | MEMCTL_CONF_CNT
  | HKEEP_STATUS
  | HKEEP_INT_STATUS
  | HKEEP_INT_ENABLE
  | HKEEP_BROKEN_LO
  | HKEEP_BROKEN_HI
  | HKEEP_TEMP
  | HKEEP_CH
  | HKEEP_SUPPLY
  | HKEEP_VDC
  | HKEEP_TMAG
  | HKEEP_LPO_TRIM
  | HKEEP_ADC_GAIN
  deriving DecidableEq, Repr

/-- One register instance: the register and its (unit or first) and second index. -/
structure RKey where
  reg : Reg
  i : Nat
  j : Nat
  deriving DecidableEq, Repr

/-- A named field: its register, most and least significant bit, and access type. -/
structure Fld where
  reg : Reg
  hi : Nat
  lo : Nat
  acc : Acc
  deriving DecidableEq, Repr

/-- Where the instances of a register lie: the address of instance (0, 0), and count and stride of each index. -/
structure Geom where
  blk : Block
  addr : Nat
  n1 : Nat
  s1 : Nat
  n2 : Nat
  s2 : Nat
  deriving DecidableEq, Repr

namespace F

abbrev ATLAS_MRAM_ID_ID : Fld := ⟨.ATLAS_MRAM_ID, 31, 0, .ro⟩
abbrev ATLAS_MRAM_STATUS_PARITY_CNT : Fld := ⟨.ATLAS_MRAM_STATUS, 31, 24, .ro⟩
abbrev ATLAS_MRAM_STATUS_IMPORT_BUSY : Fld := ⟨.ATLAS_MRAM_STATUS, 3, 3, .ro⟩
abbrev ATLAS_MRAM_STATUS_SCRUB_BUSY : Fld := ⟨.ATLAS_MRAM_STATUS, 2, 2, .ro⟩
abbrev ATLAS_MRAM_STATUS_FENCED : Fld := ⟨.ATLAS_MRAM_STATUS, 1, 1, .ro⟩
abbrev ATLAS_MRAM_STATUS_TRAINED : Fld := ⟨.ATLAS_MRAM_STATUS, 0, 0, .ro⟩
abbrev ATLAS_PTIME_PTIME : Fld := ⟨.ATLAS_PTIME, 31, 0, .ro⟩
abbrev ATLAS_INT_STATUS_EXPORT_DONE : Fld := ⟨.ATLAS_INT_STATUS, 9, 9, .w1c⟩
abbrev ATLAS_INT_STATUS_IMPORT_DONE : Fld := ⟨.ATLAS_INT_STATUS, 8, 8, .w1c⟩
abbrev ATLAS_INT_STATUS_WEAR : Fld := ⟨.ATLAS_INT_STATUS, 7, 7, .w1c⟩
abbrev ATLAS_INT_STATUS_REMAP_LOW : Fld := ⟨.ATLAS_INT_STATUS, 6, 6, .w1c⟩
abbrev ATLAS_INT_STATUS_SCRUB_OVERDUE : Fld := ⟨.ATLAS_INT_STATUS, 5, 5, .w1c⟩
abbrev ATLAS_INT_STATUS_UNCORR : Fld := ⟨.ATLAS_INT_STATUS, 4, 4, .w1c⟩
abbrev ATLAS_INT_STATUS_FENCED : Fld := ⟨.ATLAS_INT_STATUS, 3, 3, .w1c⟩
abbrev ATLAS_INT_STATUS_SPILL_DROP : Fld := ⟨.ATLAS_INT_STATUS, 2, 2, .w1c⟩
abbrev ATLAS_INT_STATUS_STARVED1 : Fld := ⟨.ATLAS_INT_STATUS, 1, 1, .w1c⟩
abbrev ATLAS_INT_STATUS_STARVED0 : Fld := ⟨.ATLAS_INT_STATUS, 0, 0, .w1c⟩
abbrev ATLAS_INT_ENABLE_EN : Fld := ⟨.ATLAS_INT_ENABLE, 9, 0, .rw⟩
abbrev ATLAS_ECC_COUNT_UNCORR : Fld := ⟨.ATLAS_ECC_COUNT, 31, 16, .ro⟩
abbrev ATLAS_ECC_COUNT_CORR : Fld := ⟨.ATLAS_ECC_COUNT, 15, 0, .ro⟩
abbrev ATLAS_SCRUB_STATUS_PASS_COUNT : Fld := ⟨.ATLAS_SCRUB_STATUS, 31, 16, .ro⟩
abbrev ATLAS_SCRUB_STATUS_NEXT_BLOCK : Fld := ⟨.ATLAS_SCRUB_STATUS, 14, 0, .ro⟩
abbrev ATLAS_SCRUB_AGE_PASS_AGE : Fld := ⟨.ATLAS_SCRUB_AGE, 31, 0, .ro⟩
abbrev ATLAS_REMAP_STATUS_SPARE_LEFT : Fld := ⟨.ATLAS_REMAP_STATUS, 28, 16, .ro⟩
abbrev ATLAS_REMAP_STATUS_REMAPPED : Fld := ⟨.ATLAS_REMAP_STATUS, 12, 0, .ro⟩
abbrev ATLAS_WEAR_MAX_MAX_WRITES : Fld := ⟨.ATLAS_WEAR_MAX, 31, 0, .ro⟩
abbrev ATLAS_WEAR_MAX_BLOCK_BLOCK : Fld := ⟨.ATLAS_WEAR_MAX_BLOCK, 16, 0, .ro⟩
abbrev ATLAS_SLOT_STATUS_READY : Fld := ⟨.ATLAS_SLOT_STATUS, 31, 31, .ro⟩
abbrev ATLAS_SLOT_STATUS_BEDROCK_VALID : Fld := ⟨.ATLAS_SLOT_STATUS, 30, 30, .ro⟩
abbrev ATLAS_SLOT_STATUS_POLICY_PENDING : Fld := ⟨.ATLAS_SLOT_STATUS, 29, 29, .ro⟩
abbrev ATLAS_SLOT_STATUS_GEOM_VALID : Fld := ⟨.ATLAS_SLOT_STATUS, 28, 28, .ro⟩
abbrev ATLAS_SLOT_STATUS_S_LO : Fld := ⟨.ATLAS_SLOT_STATUS, 27, 26, .ro⟩
abbrev ATLAS_SLOT_STATUS_TD0 : Fld := ⟨.ATLAS_SLOT_STATUS, 23, 20, .ro⟩
abbrev ATLAS_SLOT_STATUS_TQ0 : Fld := ⟨.ATLAS_SLOT_STATUS, 19, 15, .ro⟩
abbrev ATLAS_SLOT_STATUS_TILES : Fld := ⟨.ATLAS_SLOT_STATUS, 14, 10, .ro⟩
abbrev ATLAS_SLOT_STATUS_LC_DISCARD : Fld := ⟨.ATLAS_SLOT_STATUS, 4, 4, .w1c⟩
abbrev ATLAS_SLOT_STATUS_LC_PENDING : Fld := ⟨.ATLAS_SLOT_STATUS, 3, 2, .ro⟩
abbrev ATLAS_SLOT_STATUS_LC_STATE : Fld := ⟨.ATLAS_SLOT_STATUS, 1, 0, .ro⟩
abbrev ATLAS_LOOKUP_HIT_COUNT : Fld := ⟨.ATLAS_LOOKUP_HIT, 31, 0, .ro⟩
abbrev ATLAS_LOOKUP_COARSE_COUNT : Fld := ⟨.ATLAS_LOOKUP_COARSE, 31, 0, .ro⟩
abbrev ATLAS_USEQ_USEQ : Fld := ⟨.ATLAS_USEQ, 31, 0, .ro⟩
abbrev ATLAS_DRESS_DROP_OUTSIDE : Fld := ⟨.ATLAS_DRESS_DROP, 31, 24, .ro⟩
abbrev ATLAS_DRESS_DROP_RATE : Fld := ⟨.ATLAS_DRESS_DROP, 23, 16, .ro⟩
abbrev ATLAS_DRESS_DROP_UNSTEADY : Fld := ⟨.ATLAS_DRESS_DROP, 15, 8, .ro⟩
abbrev ATLAS_DRESS_DROP_OTHER : Fld := ⟨.ATLAS_DRESS_DROP, 7, 0, .ro⟩
abbrev ATLAS_COMMIT_COUNT_COUNT : Fld := ⟨.ATLAS_COMMIT_COUNT, 31, 0, .ro⟩
abbrev ATLAS_LOSS_COUNT_SPILL_DROP : Fld := ⟨.ATLAS_LOSS_COUNT, 31, 16, .ro⟩
abbrev ATLAS_LOSS_COUNT_STOP_DISCARD : Fld := ⟨.ATLAS_LOSS_COUNT, 15, 0, .ro⟩
abbrev ATLAS_SEAM_MAX_SEAM_PSI_Q : Fld := ⟨.ATLAS_SEAM_MAX, 31, 16, .rw⟩
abbrev ATLAS_SEAM_MAX_SEAM_PSI_D : Fld := ⟨.ATLAS_SEAM_MAX, 15, 0, .rw⟩
abbrev CE_STATUS_PC : Fld := ⟨.CE_STATUS, 28, 16, .ro⟩
abbrev CE_STATUS_FAULTED : Fld := ⟨.CE_STATUS, 15, 15, .ro⟩
abbrev CE_STATUS_HALTED : Fld := ⟨.CE_STATUS, 14, 14, .ro⟩
abbrev CE_STATUS_BRIDGES : Fld := ⟨.CE_STATUS, 13, 12, .ro⟩
abbrev CE_STATUS_SLOT : Fld := ⟨.CE_STATUS, 11, 11, .ro⟩
abbrev CE_STATUS_TASK : Fld := ⟨.CE_STATUS, 10, 9, .ro⟩
abbrev CE_STATUS_LEVEL : Fld := ⟨.CE_STATUS, 8, 8, .ro⟩
abbrev CE_STATUS_LC_DISCARD : Fld := ⟨.CE_STATUS, 4, 4, .w1c⟩
abbrev CE_STATUS_LC_PENDING : Fld := ⟨.CE_STATUS, 3, 2, .ro⟩
abbrev CE_STATUS_LC_STATE : Fld := ⟨.CE_STATUS, 1, 0, .ro⟩
abbrev CE_FAULT_FAULT_PC : Fld := ⟨.CE_FAULT, 28, 16, .ro⟩
abbrev CE_FAULT_CODE : Fld := ⟨.CE_FAULT, 15, 0, .ro⟩
abbrev CE_INT_STATUS_STOPPED : Fld := ⟨.CE_INT_STATUS, 8, 8, .w1c⟩
abbrev CE_INT_STATUS_LOADED : Fld := ⟨.CE_INT_STATUS, 7, 7, .w1c⟩
abbrev CE_INT_STATUS_EV_OVERRUN : Fld := ⟨.CE_INT_STATUS, 6, 6, .w1c⟩
abbrev CE_INT_STATUS_PUBL_DROP : Fld := ⟨.CE_INT_STATUS, 5, 5, .w1c⟩
abbrev CE_INT_STATUS_MEM_UNCORR : Fld := ⟨.CE_INT_STATUS, 4, 4, .w1c⟩
abbrev CE_INT_STATUS_MEM_CORR : Fld := ⟨.CE_INT_STATUS, 3, 3, .w1c⟩
abbrev CE_INT_STATUS_WATCHDOG : Fld := ⟨.CE_INT_STATUS, 2, 2, .w1c⟩
abbrev CE_INT_STATUS_DEADLINE : Fld := ⟨.CE_INT_STATUS, 1, 1, .w1c⟩
abbrev CE_INT_STATUS_FAULT : Fld := ⟨.CE_INT_STATUS, 0, 0, .w1c⟩
abbrev CE_INT_ENABLE_EN : Fld := ⟨.CE_INT_ENABLE, 8, 0, .rw⟩
abbrev CE_LOOP_CYCLES_MAX : Fld := ⟨.CE_LOOP_CYCLES, 31, 16, .rw⟩
abbrev CE_LOOP_CYCLES_LAST : Fld := ⟨.CE_LOOP_CYCLES, 15, 0, .ro⟩
abbrev CE_DMEAS_LAST_B : Fld := ⟨.CE_DMEAS, 31, 16, .ro⟩
abbrev CE_DMEAS_LAST_A : Fld := ⟨.CE_DMEAS, 15, 0, .ro⟩
abbrev CE_DMEAS_MAX_MAX_B : Fld := ⟨.CE_DMEAS_MAX, 31, 16, .rw⟩
abbrev CE_DMEAS_MAX_MAX_A : Fld := ⟨.CE_DMEAS_MAX, 15, 0, .rw⟩
abbrev CE_WDG_MISSES : Fld := ⟨.CE_WDG, 31, 16, .ro⟩
abbrev CE_WDG_CONSEC : Fld := ⟨.CE_WDG, 7, 0, .ro⟩
abbrev CE_ECC_COUNT_UNCORR : Fld := ⟨.CE_ECC_COUNT, 31, 16, .ro⟩
abbrev CE_ECC_COUNT_CORR : Fld := ⟨.CE_ECC_COUNT, 15, 0, .ro⟩
abbrev CE_PUBL_DROP_DRESS : Fld := ⟨.CE_PUBL_DROP, 31, 24, .ro⟩
abbrev CE_PUBL_DROP_MONITOR : Fld := ⟨.CE_PUBL_DROP, 23, 16, .ro⟩
abbrev CE_PUBL_DROP_RING : Fld := ⟨.CE_PUBL_DROP, 15, 8, .ro⟩
abbrev CE_PUBL_DROP_PEER : Fld := ⟨.CE_PUBL_DROP, 7, 0, .ro⟩
abbrev CE_IMAGE_VERSION_VERSION : Fld := ⟨.CE_IMAGE_VERSION, 31, 0, .ro⟩
abbrev CE_DEBUG_CTRL_BP_EN : Fld := ⟨.CE_DEBUG_CTRL, 5, 4, .rw⟩
abbrev CE_DEBUG_CTRL_STEP : Fld := ⟨.CE_DEBUG_CTRL, 2, 2, .wo⟩
abbrev CE_DEBUG_CTRL_RESUME : Fld := ⟨.CE_DEBUG_CTRL, 1, 1, .wo⟩
abbrev CE_DEBUG_CTRL_HALT_REQ : Fld := ⟨.CE_DEBUG_CTRL, 0, 0, .w1s⟩
abbrev CE_BREAK_BP1 : Fld := ⟨.CE_BREAK, 28, 16, .rw⟩
abbrev CE_BREAK_BP0 : Fld := ⟨.CE_BREAK, 12, 0, .rw⟩
abbrev CE_DBG_SEL_INDEX : Fld := ⟨.CE_DBG_SEL, 5, 0, .rw⟩
abbrev CE_DBG_DATA_DATA : Fld := ⟨.CE_DBG_DATA, 31, 0, .rw⟩
abbrev PWM_STATUS_GEN_EFF : Fld := ⟨.PWM_STATUS, 31, 24, .ro⟩
abbrev PWM_STATUS_GEN_OPEN : Fld := ⟨.PWM_STATUS, 23, 16, .ro⟩
abbrev PWM_STATUS_FROZEN : Fld := ⟨.PWM_STATUS, 15, 15, .ro⟩
abbrev PWM_STATUS_SAFE : Fld := ⟨.PWM_STATUS, 14, 14, .ro⟩
abbrev PWM_STATUS_LOCKED : Fld := ⟨.PWM_STATUS, 13, 13, .ro⟩
abbrev PWM_STATUS_TRIP_ACTIVE : Fld := ⟨.PWM_STATUS, 12, 12, .ro⟩
abbrev PWM_STATUS_PENDING : Fld := ⟨.PWM_STATUS, 11, 11, .ro⟩
abbrev PWM_STATUS_LC_DISCARD : Fld := ⟨.PWM_STATUS, 4, 4, .w1c⟩
abbrev PWM_STATUS_LC_PENDING : Fld := ⟨.PWM_STATUS, 3, 2, .ro⟩
abbrev PWM_STATUS_LC_STATE : Fld := ⟨.PWM_STATUS, 1, 0, .ro⟩
abbrev PWM_COUNTER_COUNT : Fld := ⟨.PWM_COUNTER, 19, 0, .ro⟩
abbrev PWM_PERIOD_SEQ_SEQ : Fld := ⟨.PWM_PERIOD_SEQ, 31, 0, .ro⟩
abbrev PWM_PERIOD_EFF_PERIOD : Fld := ⟨.PWM_PERIOD_EFF, 19, 0, .ro⟩
abbrev PWM_CONFIG_SYNC_MODE : Fld := ⟨.PWM_CONFIG, 11, 10, .ro⟩
abbrev PWM_CONFIG_SYNC_OUT_EN : Fld := ⟨.PWM_CONFIG, 9, 9, .ro⟩
abbrev PWM_CONFIG_BOOT_EN : Fld := ⟨.PWM_CONFIG, 8, 8, .ro⟩
abbrev PWM_CONFIG_TRIP_CUT : Fld := ⟨.PWM_CONFIG, 7, 7, .ro⟩
abbrev PWM_CONFIG_ERR_CARRY : Fld := ⟨.PWM_CONFIG, 6, 6, .ro⟩
abbrev PWM_CONFIG_MINP_MODE : Fld := ⟨.PWM_CONFIG, 5, 5, .ro⟩
abbrev PWM_CONFIG_LEG_MODE : Fld := ⟨.PWM_CONFIG, 4, 4, .ro⟩
abbrev PWM_CONFIG_TORN_POLICY : Fld := ⟨.PWM_CONFIG, 3, 2, .ro⟩
abbrev PWM_CONFIG_UPD_MODE : Fld := ⟨.PWM_CONFIG, 1, 0, .ro⟩
abbrev PWM_MINPULSE_MIN_PULSE : Fld := ⟨.PWM_MINPULSE, 31, 16, .ro⟩
abbrev PWM_MINPULSE_BLANK : Fld := ⟨.PWM_MINPULSE, 15, 0, .ro⟩
abbrev PWM_DEADTIME_DT_LH : Fld := ⟨.PWM_DEADTIME, 31, 16, .ro⟩
abbrev PWM_DEADTIME_DT_HL : Fld := ⟨.PWM_DEADTIME, 15, 0, .ro⟩
abbrev PWM_CMP_EFF_VALUE : Fld := ⟨.PWM_CMP_EFF, 22, 0, .ro⟩
abbrev PWM_ERR_ERR : Fld := ⟨.PWM_ERR, 31, 0, .ro⟩
abbrev PWM_LS_CMP_VALUE : Fld := ⟨.PWM_LS_CMP, 22, 0, .rw⟩
abbrev PWM_INT_STATUS_CAP_OVR : Fld := ⟨.PWM_INT_STATUS, 9, 9, .w1c⟩
abbrev PWM_INT_STATUS_TL_SKIP : Fld := ⟨.PWM_INT_STATUS, 8, 8, .w1c⟩
abbrev PWM_INT_STATUS_FROZEN : Fld := ⟨.PWM_INT_STATUS, 7, 7, .w1c⟩
abbrev PWM_INT_STATUS_UNLOCK : Fld := ⟨.PWM_INT_STATUS, 6, 6, .w1c⟩
abbrev PWM_INT_STATUS_ERR_SAT : Fld := ⟨.PWM_INT_STATUS, 5, 5, .w1c⟩
abbrev PWM_INT_STATUS_TRIP_ESC : Fld := ⟨.PWM_INT_STATUS, 4, 4, .w1c⟩
abbrev PWM_INT_STATUS_TRIP : Fld := ⟨.PWM_INT_STATUS, 3, 3, .w1c⟩
abbrev PWM_INT_STATUS_PERIOD_REFUSED : Fld := ⟨.PWM_INT_STATUS, 2, 2, .w1c⟩
abbrev PWM_INT_STATUS_GEN_MISMATCH : Fld := ⟨.PWM_INT_STATUS, 1, 1, .w1c⟩
abbrev PWM_INT_STATUS_TORN : Fld := ⟨.PWM_INT_STATUS, 0, 0, .w1c⟩
abbrev PWM_INT_ENABLE_EN : Fld := ⟨.PWM_INT_ENABLE, 9, 0, .rw⟩
abbrev PWM_GEN_STATS_TORN : Fld := ⟨.PWM_GEN_STATS, 31, 24, .ro⟩
abbrev PWM_GEN_STATS_MISMATCH : Fld := ⟨.PWM_GEN_STATS, 23, 16, .ro⟩
abbrev PWM_GEN_STATS_SUPERSEDED : Fld := ⟨.PWM_GEN_STATS, 15, 8, .ro⟩
abbrev PWM_GEN_STATS_REFUSED : Fld := ⟨.PWM_GEN_STATS, 7, 0, .ro⟩
abbrev PWM_TRIP_STATUS_CONSEC : Fld := ⟨.PWM_TRIP_STATUS, 31, 24, .ro⟩
abbrev PWM_TRIP_STATUS_SRC_CT : Fld := ⟨.PWM_TRIP_STATUS, 17, 10, .ro⟩
abbrev PWM_TRIP_STATUS_SRC_PIN : Fld := ⟨.PWM_TRIP_STATUS, 9, 6, .ro⟩
abbrev PWM_TRIP_STATUS_SRC_SAT : Fld := ⟨.PWM_TRIP_STATUS, 5, 0, .ro⟩
abbrev PWM_TRIP_COUNT_COUNT : Fld := ⟨.PWM_TRIP_COUNT, 31, 0, .ro⟩
abbrev PWM_SYNC_STATUS_PHASE_ERR : Fld := ⟨.PWM_SYNC_STATUS, 20, 0, .ro⟩
abbrev PWM_BOOT_COUNT_COUNT : Fld := ⟨.PWM_BOOT_COUNT, 31, 0, .ro⟩
abbrev PWM_DEBUG_CTRL_RELEASE : Fld := ⟨.PWM_DEBUG_CTRL, 1, 1, .wo⟩
abbrev PWM_DEBUG_CTRL_FREEZE : Fld := ⟨.PWM_DEBUG_CTRL, 0, 0, .w1s⟩
abbrev PWM_TL_TIME_EN : Fld := ⟨.PWM_TL_TIME, 31, 31, .ro⟩
abbrev PWM_TL_TIME_ANCHOR : Fld := ⟨.PWM_TL_TIME, 30, 27, .ro⟩
abbrev PWM_TL_TIME_FINE : Fld := ⟨.PWM_TL_TIME, 26, 24, .ro⟩
abbrev PWM_TL_TIME_COUNT : Fld := ⟨.PWM_TL_TIME, 20, 0, .ro⟩
abbrev PWM_TL_ACT_TYPE : Fld := ⟨.PWM_TL_ACT, 31, 28, .ro⟩
abbrev PWM_TL_ACT_EVERY : Fld := ⟨.PWM_TL_ACT, 27, 24, .ro⟩
abbrev PWM_TL_ACT_PHASE : Fld := ⟨.PWM_TL_ACT, 23, 20, .ro⟩
abbrev PWM_TL_ACT_ARG : Fld := ⟨.PWM_TL_ACT, 15, 0, .ro⟩
abbrev PWM_CAP_TS_LO_TS : Fld := ⟨.PWM_CAP_TS_LO, 31, 0, .ro⟩
abbrev PWM_CAP_TS_HI_TS : Fld := ⟨.PWM_CAP_TS_HI, 31, 0, .ro⟩
abbrev PWM_CAP_INFO_VALID : Fld := ⟨.PWM_CAP_INFO, 31, 31, .ro⟩
abbrev PWM_CAP_INFO_OVR : Fld := ⟨.PWM_CAP_INFO, 30, 30, .ro⟩
abbrev PWM_CAP_INFO_SEQ : Fld := ⟨.PWM_CAP_INFO, 29, 20, .ro⟩
abbrev PWM_CAP_INFO_COUNT : Fld := ⟨.PWM_CAP_INFO, 19, 0, .ro⟩
abbrev PWM_CAP_POS_POS32 : Fld := ⟨.PWM_CAP_POS, 31, 0, .ro⟩
abbrev GDS_STATUS_FENCED : Fld := ⟨.GDS_STATUS, 31, 31, .ro⟩
abbrev GDS_STATUS_LINK_UP : Fld := ⟨.GDS_STATUS, 30, 30, .ro⟩
abbrev GDS_STATUS_PARTNER_OFF : Fld := ⟨.GDS_STATUS, 29, 29, .ro⟩
abbrev GDS_STATUS_CROSS_OK : Fld := ⟨.GDS_STATUS, 28, 28, .ro⟩
abbrev GDS_STATUS_GATE_ON : Fld := ⟨.GDS_STATUS, 27, 27, .ro⟩
abbrev GDS_STATUS_DESAT_LATCH : Fld := ⟨.GDS_STATUS, 26, 26, .ro⟩
abbrev GDS_STATUS_UVLO_POS : Fld := ⟨.GDS_STATUS, 25, 25, .ro⟩
abbrev GDS_STATUS_UVLO_NEG : Fld := ⟨.GDS_STATUS, 24, 24, .ro⟩
abbrev GDS_STATUS_RANGE : Fld := ⟨.GDS_STATUS, 23, 23, .ro⟩
abbrev GDS_STATUS_SUPPLY_MODE : Fld := ⟨.GDS_STATUS, 22, 21, .ro⟩
abbrev GDS_STATUS_LOSS_SEEN : Fld := ⟨.GDS_STATUS, 20, 20, .ro⟩
abbrev GDS_STATUS_LOSS_HINT : Fld := ⟨.GDS_STATUS, 19, 18, .ro⟩
abbrev GDS_STATUS_HINT_ACK : Fld := ⟨.GDS_STATUS, 17, 16, .ro⟩
abbrev GDS_STATUS_LC_DISCARD : Fld := ⟨.GDS_STATUS, 4, 4, .w1c⟩
abbrev GDS_STATUS_LC_PENDING : Fld := ⟨.GDS_STATUS, 3, 2, .ro⟩
abbrev GDS_STATUS_LC_STATE : Fld := ⟨.GDS_STATUS, 1, 0, .ro⟩
abbrev GDS_ID_ID : Fld := ⟨.GDS_ID, 31, 0, .ro⟩
abbrev GDS_INT_STATUS_SUPPLY_REG : Fld := ⟨.GDS_INT_STATUS, 12, 12, .w1c⟩
abbrev GDS_INT_STATUS_OT : Fld := ⟨.GDS_INT_STATUS, 11, 11, .w1c⟩
abbrev GDS_INT_STATUS_FENCED : Fld := ⟨.GDS_INT_STATUS, 10, 10, .w1c⟩
abbrev GDS_INT_STATUS_LINK_ERR : Fld := ⟨.GDS_INT_STATUS, 9, 9, .w1c⟩
abbrev GDS_INT_STATUS_CROSS_LOSS : Fld := ⟨.GDS_INT_STATUS, 8, 8, .w1c⟩
abbrev GDS_INT_STATUS_GATE_STUCK : Fld := ⟨.GDS_INT_STATUS, 7, 7, .w1c⟩
abbrev GDS_INT_STATUS_LEG_CONFLICT : Fld := ⟨.GDS_INT_STATUS, 6, 6, .w1c⟩
abbrev GDS_INT_STATUS_HS_ESC : Fld := ⟨.GDS_INT_STATUS, 5, 5, .w1c⟩
abbrev GDS_INT_STATUS_HS_SKIP : Fld := ⟨.GDS_INT_STATUS, 4, 4, .w1c⟩
abbrev GDS_INT_STATUS_UVLO_NEG : Fld := ⟨.GDS_INT_STATUS, 3, 3, .w1c⟩
abbrev GDS_INT_STATUS_UVLO_POS : Fld := ⟨.GDS_INT_STATUS, 2, 2, .w1c⟩
abbrev GDS_INT_STATUS_DESAT_REPEAT : Fld := ⟨.GDS_INT_STATUS, 1, 1, .w1c⟩
abbrev GDS_INT_STATUS_DESAT : Fld := ⟨.GDS_INT_STATUS, 0, 0, .w1c⟩
abbrev GDS_INT_ENABLE_EN : Fld := ⟨.GDS_INT_ENABLE, 12, 0, .rw⟩
abbrev GDS_STRENGTH_ON_AT_LIMIT : Fld := ⟨.GDS_STRENGTH, 14, 14, .ro⟩
abbrev GDS_STRENGTH_OFF_AT_LIMIT : Fld := ⟨.GDS_STRENGTH, 13, 13, .ro⟩
abbrev GDS_STRENGTH_ON_STR : Fld := ⟨.GDS_STRENGTH, 12, 8, .ro⟩
abbrev GDS_STRENGTH_OFF_STR : Fld := ⟨.GDS_STRENGTH, 4, 0, .ro⟩
abbrev GDS_TIMING_T_OFF : Fld := ⟨.GDS_TIMING, 31, 16, .ro⟩
abbrev GDS_TIMING_T_ON : Fld := ⟨.GDS_TIMING, 15, 0, .ro⟩
abbrev GDS_SENSE_TEMP : Fld := ⟨.GDS_SENSE, 31, 16, .ro⟩
abbrev GDS_SENSE_V_COND : Fld := ⟨.GDS_SENSE, 15, 0, .ro⟩
abbrev GDS_RAILS_VCC : Fld := ⟨.GDS_RAILS, 31, 16, .ro⟩
abbrev GDS_RAILS_VEE : Fld := ⟨.GDS_RAILS, 15, 0, .ro⟩
abbrev GDS_HS_STATS_CONSEC : Fld := ⟨.GDS_HS_STATS, 31, 24, .ro⟩
abbrev GDS_HS_STATS_PRECHARGE : Fld := ⟨.GDS_HS_STATS, 23, 16, .ro⟩
abbrev GDS_HS_STATS_SKIPS : Fld := ⟨.GDS_HS_STATS, 15, 0, .ro⟩
abbrev GDS_HS_WAIT_MAX : Fld := ⟨.GDS_HS_WAIT, 31, 16, .rw⟩
abbrev GDS_HS_WAIT_LAST : Fld := ⟨.GDS_HS_WAIT, 15, 0, .ro⟩
abbrev GDS_DESAT_STATS_CONSEC : Fld := ⟨.GDS_DESAT_STATS, 31, 24, .ro⟩
abbrev GDS_DESAT_STATS_REFUSED : Fld := ⟨.GDS_DESAT_STATS, 23, 16, .ro⟩
abbrev GDS_DESAT_STATS_COUNT : Fld := ⟨.GDS_DESAT_STATS, 15, 0, .ro⟩
abbrev GDS_LINK_STATS_RX_CRC : Fld := ⟨.GDS_LINK_STATS, 31, 24, .ro⟩
abbrev GDS_LINK_STATS_RX_SEQ : Fld := ⟨.GDS_LINK_STATS, 23, 16, .ro⟩
abbrev GDS_LINK_STATS_FWD_ERR : Fld := ⟨.GDS_LINK_STATS, 15, 8, .ro⟩
abbrev GDS_LINK_STATS_TRAIN : Fld := ⟨.GDS_LINK_STATS, 7, 0, .ro⟩
abbrev GDS_CONFIG_SUPPLY_MODE : Fld := ⟨.GDS_CONFIG, 15, 14, .ro⟩
abbrev GDS_CONFIG_CH0_MODE : Fld := ⟨.GDS_CONFIG, 13, 12, .ro⟩
abbrev GDS_CONFIG_ADAPT_EN : Fld := ⟨.GDS_CONFIG, 11, 11, .ro⟩
abbrev GDS_CONFIG_STEP_MAX : Fld := ⟨.GDS_CONFIG, 10, 8, .ro⟩
abbrev GDS_TARGET_T_TARGET_OFF : Fld := ⟨.GDS_TARGET, 31, 16, .ro⟩
abbrev GDS_TARGET_T_TARGET_ON : Fld := ⟨.GDS_TARGET, 15, 0, .ro⟩
abbrev GDS_DESAT_CFG_DESAT_TH : Fld := ⟨.GDS_DESAT_CFG, 31, 16, .ro⟩
abbrev GDS_DESAT_CFG_DESAT_BLANK : Fld := ⟨.GDS_DESAT_CFG, 15, 0, .ro⟩
abbrev GDS_HS_CFG_HANDSHAKE_TIMEOUT : Fld := ⟨.GDS_HS_CFG, 31, 16, .ro⟩
abbrev GDS_HS_CFG_SAT_DT_MIN : Fld := ⟨.GDS_HS_CFG, 15, 0, .ro⟩
abbrev ADC_STATUS_REF_OK : Fld := ⟨.ADC_STATUS, 16, 16, .ro⟩
abbrev ADC_STATUS_CONT : Fld := ⟨.ADC_STATUS, 13, 8, .ro⟩
abbrev ADC_STATUS_BUSY : Fld := ⟨.ADC_STATUS, 5, 0, .ro⟩
abbrev ADC_INT_STATUS_VDC_MISMATCH : Fld := ⟨.ADC_INT_STATUS, 9, 9, .w1c⟩
abbrev ADC_INT_STATUS_REF_FAULT : Fld := ⟨.ADC_INT_STATUS, 8, 8, .w1c⟩
abbrev ADC_INT_STATUS_DS_INVALID : Fld := ⟨.ADC_INT_STATUS, 7, 7, .w1c⟩
abbrev ADC_INT_STATUS_DS_OVR : Fld := ⟨.ADC_INT_STATUS, 6, 6, .w1c⟩
abbrev ADC_INT_STATUS_OFFSET_REJECT : Fld := ⟨.ADC_INT_STATUS, 5, 5, .w1c⟩
abbrev ADC_INT_STATUS_ADC_OVR : Fld := ⟨.ADC_INT_STATUS, 4, 4, .w1c⟩
abbrev ADC_INT_STATUS_CHECK : Fld := ⟨.ADC_INT_STATUS, 3, 3, .w1c⟩
abbrev ADC_INT_STATUS_CT : Fld := ⟨.ADC_INT_STATUS, 2, 2, .w1c⟩
abbrev ADC_INT_STATUS_TRIP_CAP : Fld := ⟨.ADC_INT_STATUS, 1, 1, .w1c⟩
abbrev ADC_INT_STATUS_SW_DONE : Fld := ⟨.ADC_INT_STATUS, 0, 0, .w1c⟩
abbrev ADC_INT_ENABLE_EN : Fld := ⟨.ADC_INT_ENABLE, 9, 0, .rw⟩
abbrev ADC_SW_START_GO : Fld := ⟨.ADC_SW_START, 8, 8, .wo⟩
abbrev ADC_SW_START_INPUT : Fld := ⟨.ADC_SW_START, 2, 0, .wo⟩
abbrev ADC_RESULT_VALID : Fld := ⟨.ADC_RESULT, 31, 31, .ro⟩
abbrev ADC_RESULT_RESTARTED : Fld := ⟨.ADC_RESULT, 30, 30, .ro⟩
abbrev ADC_RESULT_OVERRANGE : Fld := ⟨.ADC_RESULT, 29, 29, .ro⟩
abbrev ADC_RESULT_SOURCE : Fld := ⟨.ADC_RESULT, 28, 27, .ro⟩
abbrev ADC_RESULT_INPUT : Fld := ⟨.ADC_RESULT, 26, 24, .ro⟩
abbrev ADC_RESULT_SEQ : Fld := ⟨.ADC_RESULT, 23, 16, .ro⟩
abbrev ADC_RESULT_VALUE : Fld := ⟨.ADC_RESULT, 15, 0, .ro⟩
abbrev ADC_OFFSET_CAPTURED : Fld := ⟨.ADC_OFFSET, 31, 31, .ro⟩
abbrev ADC_OFFSET_OFFSET_EFF : Fld := ⟨.ADC_OFFSET, 15, 0, .ro⟩
abbrev ADC_STATS_RESTARTS : Fld := ⟨.ADC_STATS, 31, 16, .ro⟩
abbrev ADC_STATS_TL_LATE : Fld := ⟨.ADC_STATS, 15, 8, .ro⟩
abbrev ADC_STATS_SW_DROP : Fld := ⟨.ADC_STATS, 7, 0, .ro⟩
abbrev ADC_DS_VAL_VALID : Fld := ⟨.ADC_DS_VAL, 31, 31, .ro⟩
abbrev ADC_DS_VAL_OVR : Fld := ⟨.ADC_DS_VAL, 30, 30, .ro⟩
abbrev ADC_DS_VAL_RANGE : Fld := ⟨.ADC_DS_VAL, 29, 29, .ro⟩
abbrev ADC_DS_VAL_SEQ : Fld := ⟨.ADC_DS_VAL, 28, 16, .ro⟩
abbrev ADC_DS_VAL_VALUE : Fld := ⟨.ADC_DS_VAL, 15, 0, .ro⟩
abbrev ADC_SHUNT_SHUNT2 : Fld := ⟨.ADC_SHUNT, 31, 16, .ro⟩
abbrev ADC_SHUNT_SHUNT1 : Fld := ⟨.ADC_SHUNT, 15, 0, .ro⟩
abbrev ADC_SHUNT_INFO_BITS2 : Fld := ⟨.ADC_SHUNT_INFO, 31, 24, .ro⟩
abbrev ADC_SHUNT_INFO_BITS1 : Fld := ⟨.ADC_SHUNT_INFO, 23, 16, .ro⟩
abbrev ADC_SHUNT_INFO_VALID2 : Fld := ⟨.ADC_SHUNT_INFO, 15, 15, .ro⟩
abbrev ADC_SHUNT_INFO_NEG2 : Fld := ⟨.ADC_SHUNT_INFO, 14, 14, .ro⟩
abbrev ADC_SHUNT_INFO_LEG2 : Fld := ⟨.ADC_SHUNT_INFO, 13, 12, .ro⟩
abbrev ADC_SHUNT_INFO_VALID1 : Fld := ⟨.ADC_SHUNT_INFO, 7, 7, .ro⟩
abbrev ADC_SHUNT_INFO_NEG1 : Fld := ⟨.ADC_SHUNT_INFO, 6, 6, .ro⟩
abbrev ADC_SHUNT_INFO_LEG1 : Fld := ⟨.ADC_SHUNT_INFO, 5, 4, .ro⟩
abbrev ADC_CHK_STATUS_AVAIL : Fld := ⟨.ADC_CHK_STATUS, 31, 31, .ro⟩
abbrev ADC_CHK_STATUS_FAULTED : Fld := ⟨.ADC_CHK_STATUS, 30, 30, .ro⟩
abbrev ADC_CHK_STATUS_ATTRIB : Fld := ⟨.ADC_CHK_STATUS, 29, 28, .ro⟩
abbrev ADC_CHK_STATUS_PHASE : Fld := ⟨.ADC_CHK_STATUS, 27, 26, .ro⟩
abbrev ADC_CHK_STATUS_FAIL_CONSEC : Fld := ⟨.ADC_CHK_STATUS, 23, 16, .ro⟩
abbrev ADC_CHK_STATUS_PRED_CONSEC : Fld := ⟨.ADC_CHK_STATUS, 15, 8, .ro⟩
abbrev ADC_CHK_STATUS_VALID_CONSEC : Fld := ⟨.ADC_CHK_STATUS, 7, 0, .ro⟩
abbrev ADC_CHK_ERR_ERR_W : Fld := ⟨.ADC_CHK_ERR, 29, 20, .ro⟩
abbrev ADC_CHK_ERR_ERR_V : Fld := ⟨.ADC_CHK_ERR, 19, 10, .ro⟩
abbrev ADC_CHK_ERR_ERR_U : Fld := ⟨.ADC_CHK_ERR, 9, 0, .ro⟩
abbrev ADC_TRIP_CAP0_IB : Fld := ⟨.ADC_TRIP_CAP0, 31, 16, .ro⟩
abbrev ADC_TRIP_CAP0_IA : Fld := ⟨.ADC_TRIP_CAP0, 15, 0, .ro⟩
abbrev ADC_TRIP_CAP1_VALID : Fld := ⟨.ADC_TRIP_CAP1, 31, 31, .ro⟩
abbrev ADC_TRIP_CAP1_IC : Fld := ⟨.ADC_TRIP_CAP1, 15, 0, .ro⟩
abbrev ADC_CT_STATUS_LATCHED : Fld := ⟨.ADC_CT_STATUS, 15, 8, .w1c⟩
abbrev ADC_CT_STATUS_LEVEL : Fld := ⟨.ADC_CT_STATUS, 7, 0, .ro⟩
abbrev POS_INT_STATUS_DISAGREE : Fld := ⟨.POS_INT_STATUS, 14, 13, .w1c⟩
abbrev POS_INT_STATUS_INDEX_DEV : Fld := ⟨.POS_INT_STATUS, 12, 12, .w1c⟩
abbrev POS_INT_STATUS_PCMP_DONE : Fld := ⟨.POS_INT_STATUS, 11, 8, .w1c⟩
abbrev POS_INT_STATUS_IF_FAULT : Fld := ⟨.POS_INT_STATUS, 7, 0, .w1c⟩
abbrev POS_INT_ENABLE_EN : Fld := ⟨.POS_INT_ENABLE, 14, 0, .rw⟩
abbrev POS_IF_STATUS_POS_VALID : Fld := ⟨.POS_IF_STATUS, 31, 31, .ro⟩
abbrev POS_IF_STATUS_SPEED_VALID : Fld := ⟨.POS_IF_STATUS, 30, 30, .ro⟩
abbrev POS_IF_STATUS_DIR : Fld := ⟨.POS_IF_STATUS, 29, 29, .ro⟩
abbrev POS_IF_STATUS_ALIGNED : Fld := ⟨.POS_IF_STATUS, 28, 28, .ro⟩
abbrev POS_IF_STATUS_STANDSTILL : Fld := ⟨.POS_IF_STATUS, 27, 27, .ro⟩
abbrev POS_IF_STATUS_FAULTED : Fld := ⟨.POS_IF_STATUS, 26, 26, .ro⟩
abbrev POS_IF_STATUS_HIST : Fld := ⟨.POS_IF_STATUS, 25, 20, .ro⟩
abbrev POS_IF_STATUS_LC_DISCARD : Fld := ⟨.POS_IF_STATUS, 4, 4, .w1c⟩
abbrev POS_IF_STATUS_LC_PENDING : Fld := ⟨.POS_IF_STATUS, 3, 2, .ro⟩
abbrev POS_IF_STATUS_LC_STATE : Fld := ⟨.POS_IF_STATUS, 1, 0, .ro⟩
abbrev POS_IF_POS_POS32 : Fld := ⟨.POS_IF_POS, 31, 0, .ro⟩
abbrev POS_IF_SPEED_SPEED : Fld := ⟨.POS_IF_SPEED, 31, 0, .ro⟩
abbrev POS_IF_INTERVAL_INTERVAL : Fld := ⟨.POS_IF_INTERVAL, 31, 0, .ro⟩
abbrev POS_RSV_DIAG_AMP : Fld := ⟨.POS_RSV_DIAG, 31, 16, .ro⟩
abbrev POS_RSV_DIAG_LAG : Fld := ⟨.POS_RSV_DIAG, 15, 0, .ro⟩
abbrev POS_RSV_TRACK_MAX : Fld := ⟨.POS_RSV_TRACK, 31, 16, .rw⟩
abbrev POS_RSV_TRACK_LAST : Fld := ⟨.POS_RSV_TRACK, 15, 0, .ro⟩
abbrev POS_ENC_DIAG_DEV : Fld := ⟨.POS_ENC_DIAG, 31, 16, .ro⟩
abbrev POS_ENC_DIAG_CONSEC : Fld := ⟨.POS_ENC_DIAG, 15, 8, .ro⟩
abbrev POS_ENC_DIAG_MISSING : Fld := ⟨.POS_ENC_DIAG, 7, 7, .ro⟩
abbrev POS_ENC_DIAG_QUAD_ERR : Fld := ⟨.POS_ENC_DIAG, 6, 0, .ro⟩
abbrev POS_ENC_COUNT_COUNT : Fld := ⟨.POS_ENC_COUNT, 31, 0, .ro⟩
abbrev POS_HALL_DIAG_INVALID : Fld := ⟨.POS_HALL_DIAG, 31, 24, .ro⟩
abbrev POS_HALL_DIAG_SEQ_ERR : Fld := ⟨.POS_HALL_DIAG, 23, 16, .ro⟩
abbrev POS_HALL_DIAG_STATE : Fld := ⟨.POS_HALL_DIAG, 2, 0, .ro⟩
abbrev POS_SER_DIAG_BAD : Fld := ⟨.POS_SER_DIAG, 31, 24, .ro⟩
abbrev POS_SER_DIAG_CONSEC : Fld := ⟨.POS_SER_DIAG, 23, 16, .ro⟩
abbrev POS_SER_DIAG_ENC_ERR : Fld := ⟨.POS_SER_DIAG, 0, 0, .ro⟩
abbrev POS_SER_RAW_RAW : Fld := ⟨.POS_SER_RAW, 31, 0, .ro⟩
abbrev POS_PCMP_STATUS_FIRED : Fld := ⟨.POS_PCMP_STATUS, 31, 16, .ro⟩
abbrev POS_PCMP_STATUS_MERGED : Fld := ⟨.POS_PCMP_STATUS, 15, 8, .ro⟩
abbrev POS_PCMP_STATUS_ACTIVE : Fld := ⟨.POS_PCMP_STATUS, 7, 7, .ro⟩
abbrev POS_PCMP_STATUS_DONE : Fld := ⟨.POS_PCMP_STATUS, 6, 6, .ro⟩
abbrev POS_PCMP_STATUS_LAST : Fld := ⟨.POS_PCMP_STATUS, 5, 0, .ro⟩
abbrev POS_PCMP_LC_LC_DISCARD : Fld := ⟨.POS_PCMP_LC, 4, 4, .w1c⟩
abbrev POS_PCMP_LC_LC_PENDING : Fld := ⟨.POS_PCMP_LC, 3, 2, .ro⟩
abbrev POS_PCMP_LC_LC_STATE : Fld := ⟨.POS_PCMP_LC, 1, 0, .ro⟩
abbrev POS_CHECK_CONSEC : Fld := ⟨.POS_CHECK, 31, 24, .ro⟩
abbrev POS_CHECK_DIFF : Fld := ⟨.POS_CHECK, 15, 0, .ro⟩
abbrev SAFETY_STATUS_SELFTEST_OK : Fld := ⟨.SAFETY_STATUS, 31, 31, .ro⟩
abbrev SAFETY_STATUS_LOCKSTEP_BROKEN : Fld := ⟨.SAFETY_STATUS, 30, 30, .ro⟩
abbrev SAFETY_STATUS_BENCH : Fld := ⟨.SAFETY_STATUS, 29, 29, .ro⟩
abbrev SAFETY_STATUS_LATCHED : Fld := ⟨.SAFETY_STATUS, 28, 28, .ro⟩
abbrev SAFETY_STATUS_FAULT_N : Fld := ⟨.SAFETY_STATUS, 27, 27, .ro⟩
abbrev SAFETY_STATUS_DCHG_OUT : Fld := ⟨.SAFETY_STATUS, 26, 26, .ro⟩
abbrev SAFETY_STATUS_SP1_OK : Fld := ⟨.SAFETY_STATUS, 25, 25, .ro⟩
abbrev SAFETY_STATUS_SP0_OK : Fld := ⟨.SAFETY_STATUS, 24, 24, .ro⟩
abbrev SAFETY_STATUS_STO_TEST : Fld := ⟨.SAFETY_STATUS, 23, 22, .ro⟩
abbrev SAFETY_STATUS_TORQUE_EN : Fld := ⟨.SAFETY_STATUS, 17, 16, .ro⟩
abbrev SAFETY_STATUS_ACTIVE_SAFE : Fld := ⟨.SAFETY_STATUS, 15, 8, .ro⟩
abbrev SAFETY_STATUS_ACTIVE_DERATE : Fld := ⟨.SAFETY_STATUS, 7, 0, .ro⟩
abbrev SAFETY_INT_STATUS_RESET_REFUSED : Fld := ⟨.SAFETY_INT_STATUS, 11, 11, .w1c⟩
abbrev SAFETY_INT_STATUS_RESET_ACCEPTED : Fld := ⟨.SAFETY_INT_STATUS, 10, 10, .w1c⟩
abbrev SAFETY_INT_STATUS_LOCKSTEP : Fld := ⟨.SAFETY_INT_STATUS, 9, 9, .w1c⟩
abbrev SAFETY_INT_STATUS_DEBUG_GUARD : Fld := ⟨.SAFETY_INT_STATUS, 8, 8, .w1c⟩
abbrev SAFETY_INT_STATUS_DCHG_FAIL : Fld := ⟨.SAFETY_INT_STATUS, 7, 7, .w1c⟩
abbrev SAFETY_INT_STATUS_DCHG_DONE : Fld := ⟨.SAFETY_INT_STATUS, 6, 6, .w1c⟩
abbrev SAFETY_INT_STATUS_STO_TEST_DONE : Fld := ⟨.SAFETY_INT_STATUS, 5, 5, .w1c⟩
abbrev SAFETY_INT_STATUS_STO_CHANGE : Fld := ⟨.SAFETY_INT_STATUS, 4, 4, .w1c⟩
abbrev SAFETY_INT_STATUS_LATCH : Fld := ⟨.SAFETY_INT_STATUS, 3, 3, .w1c⟩
abbrev SAFETY_INT_STATUS_SAFE : Fld := ⟨.SAFETY_INT_STATUS, 2, 2, .w1c⟩
abbrev SAFETY_INT_STATUS_DERATE : Fld := ⟨.SAFETY_INT_STATUS, 1, 1, .w1c⟩
abbrev SAFETY_INT_STATUS_WARN : Fld := ⟨.SAFETY_INT_STATUS, 0, 0, .w1c⟩
abbrev SAFETY_INT_ENABLE_EN : Fld := ⟨.SAFETY_INT_ENABLE, 11, 0, .rw⟩
abbrev SAFETY_STO_A_ASSERTED : Fld := ⟨.SAFETY_STO, 31, 31, .ro⟩
abbrev SAFETY_STO_B_ASSERTED : Fld := ⟨.SAFETY_STO, 30, 30, .ro⟩
abbrev SAFETY_STO_PATH_A_OK : Fld := ⟨.SAFETY_STO, 29, 29, .ro⟩
abbrev SAFETY_STO_PATH_B_OK : Fld := ⟨.SAFETY_STO, 28, 28, .ro⟩
abbrev SAFETY_STO_DISC_MS : Fld := ⟨.SAFETY_STO, 15, 0, .ro⟩
abbrev SAFETY_LOCKSTEP_SP1_GROUPS : Fld := ⟨.SAFETY_LOCKSTEP, 31, 20, .ro⟩
abbrev SAFETY_LOCKSTEP_SP0_GROUPS : Fld := ⟨.SAFETY_LOCKSTEP, 19, 8, .ro⟩
abbrev SAFETY_LOCKSTEP_LAST_GROUP : Fld := ⟨.SAFETY_LOCKSTEP, 7, 4, .ro⟩
abbrev SAFETY_LOCKSTEP_BROKEN_SP1 : Fld := ⟨.SAFETY_LOCKSTEP, 3, 3, .ro⟩
abbrev SAFETY_LOCKSTEP_BROKEN_SP0 : Fld := ⟨.SAFETY_LOCKSTEP, 2, 2, .ro⟩
abbrev SAFETY_LOCKSTEP_MISMATCH_SP1 : Fld := ⟨.SAFETY_LOCKSTEP, 1, 1, .ro⟩
abbrev SAFETY_LOCKSTEP_MISMATCH_SP0 : Fld := ⟨.SAFETY_LOCKSTEP, 0, 0, .ro⟩
abbrev SAFETY_LATCH_COUNT : Fld := ⟨.SAFETY_LATCH, 31, 16, .ro⟩
abbrev SAFETY_LATCH_CODE : Fld := ⟨.SAFETY_LATCH, 15, 0, .ro⟩
abbrev SAFETY_RESET_COUNT_COUNT : Fld := ⟨.SAFETY_RESET_COUNT, 31, 0, .ro⟩
abbrev SAFETY_BRIDGE_STATE : Fld := ⟨.SAFETY_BRIDGE, 31, 29, .ro⟩
abbrev SAFETY_BRIDGE_CHOICE : Fld := ⟨.SAFETY_BRIDGE, 28, 27, .ro⟩
abbrev SAFETY_BRIDGE_FORCED : Fld := ⟨.SAFETY_BRIDGE, 26, 26, .ro⟩
abbrev SAFETY_BRIDGE_LOCKED_HINT : Fld := ⟨.SAFETY_BRIDGE, 25, 25, .ro⟩
abbrev SAFETY_BRIDGE_OVERVOLT : Fld := ⟨.SAFETY_BRIDGE, 24, 24, .ro⟩
abbrev SAFETY_BRIDGE_SPEED_SRC : Fld := ⟨.SAFETY_BRIDGE, 23, 20, .ro⟩
abbrev SAFETY_BRIDGE_REQ : Fld := ⟨.SAFETY_BRIDGE, 9, 0, .ro⟩
abbrev SAFETY_DCHG_METHOD : Fld := ⟨.SAFETY_DCHG, 28, 27, .ro⟩
abbrev SAFETY_DCHG_BACKUP : Fld := ⟨.SAFETY_DCHG, 26, 26, .ro⟩
abbrev SAFETY_DCHG_BRIDGES : Fld := ⟨.SAFETY_DCHG, 25, 24, .ro⟩
abbrev SAFETY_DCHG_ELAPSED : Fld := ⟨.SAFETY_DCHG, 23, 8, .ro⟩
abbrev SAFETY_DCHG_LC_DISCARD : Fld := ⟨.SAFETY_DCHG, 4, 4, .w1c⟩
abbrev SAFETY_DCHG_LC_PENDING : Fld := ⟨.SAFETY_DCHG, 3, 2, .ro⟩
abbrev SAFETY_DCHG_LC_STATE : Fld := ⟨.SAFETY_DCHG, 1, 0, .ro⟩
abbrev SAFETY_DEBUG_GUARD_COUNT : Fld := ⟨.SAFETY_DEBUG_GUARD, 31, 24, .ro⟩
abbrev SAFETY_DEBUG_GUARD_TARGET : Fld := ⟨.SAFETY_DEBUG_GUARD, 20, 16, .ro⟩
abbrev SAFETY_DEBUG_GUARD_DELAY : Fld := ⟨.SAFETY_DEBUG_GUARD, 15, 0, .ro⟩
abbrev SAFETY_SLOT_TORQUE_EN : Fld := ⟨.SAFETY_SLOT, 31, 31, .ro⟩
abbrev SAFETY_SLOT_MON_ON : Fld := ⟨.SAFETY_SLOT, 30, 30, .ro⟩
abbrev SAFETY_SLOT_SOURCE : Fld := ⟨.SAFETY_SLOT, 29, 27, .ro⟩
abbrev SAFETY_SLOT_COARSE_PEN : Fld := ⟨.SAFETY_SLOT, 26, 26, .ro⟩
abbrev SAFETY_SLOT_MARGIN : Fld := ⟨.SAFETY_SLOT, 25, 16, .ro⟩
abbrev SAFETY_SLOT_REFUSE : Fld := ⟨.SAFETY_SLOT, 6, 0, .ro⟩
abbrev SAFETY_MON_ERR_E_EST : Fld := ⟨.SAFETY_MON_ERR, 31, 16, .ro⟩
abbrev SAFETY_MON_ERR_E_TRACK : Fld := ⟨.SAFETY_MON_ERR, 15, 0, .ro⟩
abbrev SAFETY_MON_ALLOW_A_T : Fld := ⟨.SAFETY_MON_ALLOW, 31, 16, .ro⟩
abbrev SAFETY_MON_ALLOW_ALLOW : Fld := ⟨.SAFETY_MON_ALLOW, 15, 0, .ro⟩
abbrev SAFETY_MON_TMON_T_MON : Fld := ⟨.SAFETY_MON_TMON, 31, 0, .ro⟩
abbrev SAFETY_MON_CNT_PWR : Fld := ⟨.SAFETY_MON_CNT, 31, 24, .ro⟩
abbrev SAFETY_MON_CNT_REF : Fld := ⟨.SAFETY_MON_CNT, 23, 16, .ro⟩
abbrev SAFETY_MON_CNT_EST : Fld := ⟨.SAFETY_MON_CNT, 15, 8, .ro⟩
abbrev SAFETY_MON_CNT_TRACK : Fld := ⟨.SAFETY_MON_CNT, 7, 0, .ro⟩
abbrev DERRICK_HOST_PCIE_LOST : Fld := ⟨.DERRICK_HOST, 17, 17, .ro⟩
abbrev DERRICK_HOST_PCIE_PRESENT : Fld := ⟨.DERRICK_HOST, 16, 16, .ro⟩
abbrev DERRICK_HOST_LOCAL_LOST : Fld := ⟨.DERRICK_HOST, 1, 1, .ro⟩
abbrev DERRICK_HOST_LOCAL_PRESENT : Fld := ⟨.DERRICK_HOST, 0, 0, .ro⟩
abbrev DERRICK_INT_STATUS_DROP : Fld := ⟨.DERRICK_INT_STATUS, 5, 5, .w1c⟩
abbrev DERRICK_INT_STATUS_RING_FAULT : Fld := ⟨.DERRICK_INT_STATUS, 4, 4, .w1c⟩
abbrev DERRICK_INT_STATUS_PCIE_ATTACH : Fld := ⟨.DERRICK_INT_STATUS, 3, 3, .w1c⟩
abbrev DERRICK_INT_STATUS_PCIE_LOST : Fld := ⟨.DERRICK_INT_STATUS, 2, 2, .w1c⟩
abbrev DERRICK_INT_STATUS_LOCAL_LOST : Fld := ⟨.DERRICK_INT_STATUS, 1, 1, .w1c⟩
abbrev DERRICK_INT_STATUS_ACCESS : Fld := ⟨.DERRICK_INT_STATUS, 0, 0, .w1c⟩
abbrev DERRICK_INT_ENABLE_EN : Fld := ⟨.DERRICK_INT_ENABLE, 5, 0, .rw⟩
abbrev DERRICK_HB_AGE : Fld := ⟨.DERRICK_HB, 31, 0, .ro⟩
abbrev DERRICK_RP_BIND_HOST : Fld := ⟨.DERRICK_RP_BIND, 12, 12, .rwl⟩
abbrev DERRICK_RP_BIND_DRIVE : Fld := ⟨.DERRICK_RP_BIND, 8, 8, .rwl⟩
abbrev DERRICK_RP_BIND_ROLE : Fld := ⟨.DERRICK_RP_BIND, 5, 4, .rwl⟩
abbrev DERRICK_RP_BIND_CLASS : Fld := ⟨.DERRICK_RP_BIND, 2, 0, .rwl⟩
abbrev DERRICK_RP_BASE_LO_ADDR : Fld := ⟨.DERRICK_RP_BASE_LO, 31, 6, .rw⟩
abbrev DERRICK_RP_BASE_HI_ADDR : Fld := ⟨.DERRICK_RP_BASE_HI, 31, 0, .rw⟩
abbrev DERRICK_RP_CFG_VECTOR : Fld := ⟨.DERRICK_RP_CFG, 31, 26, .rw⟩
abbrev DERRICK_RP_CFG_IRQ_TIME : Fld := ⟨.DERRICK_RP_CFG, 25, 14, .rw⟩
abbrev DERRICK_RP_CFG_IRQ_CNT : Fld := ⟨.DERRICK_RP_CFG, 13, 6, .rw⟩
abbrev DERRICK_RP_CFG_LOG2_SIZE : Fld := ⟨.DERRICK_RP_CFG, 3, 0, .rw⟩
abbrev DERRICK_RP_CTRL_DISABLE : Fld := ⟨.DERRICK_RP_CTRL, 1, 1, .wo⟩
abbrev DERRICK_RP_CTRL_ENABLE : Fld := ⟨.DERRICK_RP_CTRL, 0, 0, .wo⟩
abbrev DERRICK_RP_STATUS_SQ_HEAD : Fld := ⟨.DERRICK_RP_STATUS, 27, 16, .ro⟩
abbrev DERRICK_RP_STATUS_SESSION : Fld := ⟨.DERRICK_RP_STATUS, 8, 8, .ro⟩
abbrev DERRICK_RP_STATUS_PHASE : Fld := ⟨.DERRICK_RP_STATUS, 7, 7, .ro⟩
abbrev DERRICK_RP_STATUS_LC_DISCARD : Fld := ⟨.DERRICK_RP_STATUS, 4, 4, .w1c⟩
abbrev DERRICK_RP_STATUS_LC_PENDING : Fld := ⟨.DERRICK_RP_STATUS, 3, 2, .ro⟩
abbrev DERRICK_RP_STATUS_LC_STATE : Fld := ⟨.DERRICK_RP_STATUS, 1, 0, .ro⟩
abbrev DERRICK_RP_STATS_DROP : Fld := ⟨.DERRICK_RP_STATS, 31, 16, .ro⟩
abbrev DERRICK_RP_STATS_REFUSED : Fld := ⟨.DERRICK_RP_STATS, 15, 0, .ro⟩
abbrev DERRICK_RP_ERR_CAUSE : Fld := ⟨.DERRICK_RP_ERR, 7, 0, .ro⟩
abbrev DERRICK_DB_SQ_TAIL : Fld := ⟨.DERRICK_DB_SQ, 11, 0, .wo⟩
abbrev DERRICK_DB_CQ_HEAD : Fld := ⟨.DERRICK_DB_CQ, 11, 0, .wo⟩
abbrev PCIE_CTRL_LINK_EN : Fld := ⟨.PCIE_CTRL, 0, 0, .rw⟩
abbrev PCIE_STATUS_BME : Fld := ⟨.PCIE_STATUS, 12, 12, .ro⟩
abbrev PCIE_STATUS_MEM_EN : Fld := ⟨.PCIE_STATUS, 11, 11, .ro⟩
abbrev PCIE_STATUS_D_STATE : Fld := ⟨.PCIE_STATUS, 10, 9, .ro⟩
abbrev PCIE_STATUS_DL_ACTIVE : Fld := ⟨.PCIE_STATUS, 8, 8, .ro⟩
abbrev PCIE_STATUS_WIDTH : Fld := ⟨.PCIE_STATUS, 7, 4, .ro⟩
abbrev PCIE_STATUS_SPEED : Fld := ⟨.PCIE_STATUS, 3, 0, .ro⟩
abbrev PCIE_INT_STATUS_AER_CORR : Fld := ⟨.PCIE_INT_STATUS, 5, 5, .w1c⟩
abbrev PCIE_INT_STATUS_AER_UNCORR : Fld := ⟨.PCIE_INT_STATUS, 4, 4, .w1c⟩
abbrev PCIE_INT_STATUS_BME_CLEARED : Fld := ⟨.PCIE_INT_STATUS, 3, 3, .w1c⟩
abbrev PCIE_INT_STATUS_SURPRISE : Fld := ⟨.PCIE_INT_STATUS, 2, 2, .w1c⟩
abbrev PCIE_INT_STATUS_LINK_DOWN : Fld := ⟨.PCIE_INT_STATUS, 1, 1, .w1c⟩
abbrev PCIE_INT_STATUS_LINK_UP : Fld := ⟨.PCIE_INT_STATUS, 0, 0, .w1c⟩
abbrev PCIE_INT_ENABLE_EN : Fld := ⟨.PCIE_INT_ENABLE, 5, 0, .rw⟩
abbrev PCIE_IDS_DEVICE_ID : Fld := ⟨.PCIE_IDS, 31, 16, .ro⟩
abbrev PCIE_IDS_VENDOR_ID : Fld := ⟨.PCIE_IDS, 15, 0, .ro⟩
abbrev PCIE_ERR_COUNT_LINK_DOWNS : Fld := ⟨.PCIE_ERR_COUNT, 31, 24, .ro⟩
abbrev PCIE_ERR_COUNT_AER_UNCORR : Fld := ⟨.PCIE_ERR_COUNT, 23, 16, .ro⟩
abbrev PCIE_ERR_COUNT_AER_CORR : Fld := ⟨.PCIE_ERR_COUNT, 15, 0, .ro⟩
abbrev PROT_STATUS_BOOTLOCK : Fld := ⟨.PROT_STATUS, 31, 31, .ro⟩
abbrev PROT_STATUS_BOOT_SLOT : Fld := ⟨.PROT_STATUS, 30, 30, .ro⟩
abbrev PROT_STATUS_FALLBACK : Fld := ⟨.PROT_STATUS, 29, 29, .ro⟩
abbrev PROT_STATUS_RECOVERY : Fld := ⟨.PROT_STATUS, 28, 28, .ro⟩
abbrev PROT_STATUS_LIFECYCLE : Fld := ⟨.PROT_STATUS, 27, 26, .ro⟩
abbrev PROT_STATUS_LOCK_VIOLATION : Fld := ⟨.PROT_STATUS, 25, 25, .ro⟩
abbrev PROT_STATUS_CONFIRMED : Fld := ⟨.PROT_STATUS, 24, 24, .ro⟩
abbrev PROT_STATUS_IMMOBILISED : Fld := ⟨.PROT_STATUS, 17, 16, .ro⟩
abbrev PROT_STATUS_TOKEN_HELD : Fld := ⟨.PROT_STATUS, 15, 15, .ro⟩
abbrev PROT_BOOTLOCK_LOCK : Fld := ⟨.PROT_BOOTLOCK, 0, 0, .rwl⟩
abbrev PROT_UID_UID : Fld := ⟨.PROT_UID, 31, 0, .ro⟩
abbrev PROT_CERT_LEN_LEN : Fld := ⟨.PROT_CERT_LEN, 10, 0, .ro⟩
abbrev PROT_ROLLBACK_COUNT : Fld := ⟨.PROT_ROLLBACK, 6, 0, .ro⟩
abbrev PROT_FW_VERSION_VERSION : Fld := ⟨.PROT_FW_VERSION, 31, 0, .ro⟩
abbrev PROT_BOOT_CONFIRM_CONFIRM : Fld := ⟨.PROT_BOOT_CONFIRM, 0, 0, .wo⟩
abbrev PROT_INT_STATUS_AUDIT : Fld := ⟨.PROT_INT_STATUS, 5, 5, .w1c⟩
abbrev PROT_INT_STATUS_TOKEN : Fld := ⟨.PROT_INT_STATUS, 4, 4, .w1c⟩
abbrev PROT_INT_STATUS_AUTH : Fld := ⟨.PROT_INT_STATUS, 3, 3, .w1c⟩
abbrev PROT_INT_STATUS_MPU : Fld := ⟨.PROT_INT_STATUS, 2, 2, .w1c⟩
abbrev PROT_INT_STATUS_LOCKED_WRITE : Fld := ⟨.PROT_INT_STATUS, 1, 1, .w1c⟩
abbrev PROT_INT_STATUS_FW_UPDATE : Fld := ⟨.PROT_INT_STATUS, 0, 0, .w1c⟩
abbrev PROT_INT_ENABLE_EN : Fld := ⟨.PROT_INT_ENABLE, 5, 0, .rw⟩
abbrev PROT_DEBUG_POLICY_DAP_EN : Fld := ⟨.PROT_DEBUG_POLICY, 7, 7, .rwl⟩
abbrev PROT_DEBUG_POLICY_SAFETY_HALT : Fld := ⟨.PROT_DEBUG_POLICY, 4, 4, .rwl⟩
abbrev PROT_DEBUG_POLICY_MEM : Fld := ⟨.PROT_DEBUG_POLICY, 3, 3, .rwl⟩
abbrev PROT_DEBUG_POLICY_PWM_FREEZE : Fld := ⟨.PROT_DEBUG_POLICY, 2, 2, .rwl⟩
abbrev PROT_DEBUG_POLICY_APP_HALT : Fld := ⟨.PROT_DEBUG_POLICY, 1, 1, .rwl⟩
abbrev PROT_DEBUG_POLICY_CE_HALT : Fld := ⟨.PROT_DEBUG_POLICY, 0, 0, .rwl⟩
abbrev PROT_DEBUG_STATUS_DAP_CONNECTED : Fld := ⟨.PROT_DEBUG_STATUS, 31, 31, .ro⟩
abbrev PROT_DEBUG_STATUS_OPEN : Fld := ⟨.PROT_DEBUG_STATUS, 4, 0, .ro⟩
abbrev PROT_LOCK_VIOL_ADDR_ADDR : Fld := ⟨.PROT_LOCK_VIOL_ADDR, 31, 0, .ro⟩
abbrev PROT_LOCK_VIOL_INFO_COUNT : Fld := ⟨.PROT_LOCK_VIOL_INFO, 15, 8, .ro⟩
abbrev PROT_LOCK_VIOL_INFO_MASTER : Fld := ⟨.PROT_LOCK_VIOL_INFO, 4, 0, .ro⟩
abbrev PROT_MPU_FAULT_ADDR_ADDR : Fld := ⟨.PROT_MPU_FAULT_ADDR, 31, 0, .ro⟩
abbrev PROT_MPU_FAULT_INFO_MASTER : Fld := ⟨.PROT_MPU_FAULT_INFO, 20, 16, .ro⟩
abbrev PROT_MPU_FAULT_INFO_COUNT : Fld := ⟨.PROT_MPU_FAULT_INFO, 15, 8, .ro⟩
abbrev PROT_MPU_FAULT_INFO_ACCESS : Fld := ⟨.PROT_MPU_FAULT_INFO, 1, 0, .ro⟩
abbrev PROT_MPU_CTRL_VALID : Fld := ⟨.PROT_MPU_CTRL, 31, 31, .rwl⟩
abbrev PROT_MPU_RBASE_BASE : Fld := ⟨.PROT_MPU_RBASE, 31, 12, .rwl⟩
abbrev PROT_MPU_RBASE_EN : Fld := ⟨.PROT_MPU_RBASE, 3, 3, .rwl⟩
abbrev PROT_MPU_RBASE_X : Fld := ⟨.PROT_MPU_RBASE, 2, 2, .rwl⟩
abbrev PROT_MPU_RBASE_W : Fld := ⟨.PROT_MPU_RBASE, 1, 1, .rwl⟩
abbrev PROT_MPU_RBASE_R : Fld := ⟨.PROT_MPU_RBASE, 0, 0, .rwl⟩
abbrev PROT_MPU_RLIMIT_LIMIT : Fld := ⟨.PROT_MPU_RLIMIT, 31, 12, .rwl⟩
abbrev SYSCTL_DIE_ID_ID : Fld := ⟨.SYSCTL_DIE_ID, 31, 0, .ro⟩
abbrev SYSCTL_RESET_CAUSE_PKG_COUNT : Fld := ⟨.SYSCTL_RESET_CAUSE, 31, 24, .ro⟩
abbrev SYSCTL_RESET_CAUSE_MULTI : Fld := ⟨.SYSCTL_RESET_CAUSE, 16, 16, .ro⟩
abbrev SYSCTL_RESET_CAUSE_PREV_CAUSE : Fld := ⟨.SYSCTL_RESET_CAUSE, 15, 8, .ro⟩
abbrev SYSCTL_RESET_CAUSE_CAUSE : Fld := ⟨.SYSCTL_RESET_CAUSE, 7, 0, .ro⟩
abbrev SYSCTL_RESET_INFO_FAULT : Fld := ⟨.SYSCTL_RESET_INFO, 31, 16, .ro⟩
abbrev SYSCTL_RESET_INFO_DOMAIN : Fld := ⟨.SYSCTL_RESET_INFO, 3, 0, .ro⟩
abbrev SYSCTL_RESET_REQ_KEY : Fld := ⟨.SYSCTL_RESET_REQ, 31, 16, .wo⟩
abbrev SYSCTL_RESET_REQ_GO : Fld := ⟨.SYSCTL_RESET_REQ, 0, 0, .wo⟩
abbrev SYSCTL_PWR_MODE_PRESENT : Fld := ⟨.SYSCTL_PWR_MODE, 18, 16, .ro⟩
abbrev SYSCTL_PWR_MODE_REFUSE : Fld := ⟨.SYSCTL_PWR_MODE, 10, 8, .ro⟩
abbrev SYSCTL_PWR_MODE_REQUEST : Fld := ⟨.SYSCTL_PWR_MODE, 2, 0, .rw⟩
abbrev SYSCTL_PD_ON_ENABLE : Fld := ⟨.SYSCTL_PD_ON, 11, 1, .wo⟩
abbrev SYSCTL_PD_OFF_DISABLE : Fld := ⟨.SYSCTL_PD_OFF, 11, 1, .wo⟩
abbrev SYSCTL_CLK_STATUS_PLL_LOCK : Fld := ⟨.SYSCTL_CLK_STATUS, 31, 31, .ro⟩
abbrev SYSCTL_CLK_STATUS_CLK_LOSS : Fld := ⟨.SYSCTL_CLK_STATUS, 30, 30, .ro⟩
abbrev SYSCTL_CLK_STATUS_COAST : Fld := ⟨.SYSCTL_CLK_STATUS, 29, 29, .ro⟩
abbrev SYSCTL_CLK_STATUS_RAMP_BUSY : Fld := ⟨.SYSCTL_CLK_STATUS, 28, 28, .ro⟩
abbrev SYSCTL_CLK_STATUS_RAMP_STEP : Fld := ⟨.SYSCTL_CLK_STATUS, 27, 24, .ro⟩
abbrev SYSCTL_CLK_STATUS_REF_COUNT : Fld := ⟨.SYSCTL_CLK_STATUS, 23, 16, .ro⟩
abbrev SYSCTL_CLK_STATUS_ON_PLL : Fld := ⟨.SYSCTL_CLK_STATUS, 5, 0, .ro⟩
abbrev SYSCTL_SUPPLY_STATUS_WAKE_OUT : Fld := ⟨.SYSCTL_SUPPLY_STATUS, 8, 8, .ro⟩
abbrev SYSCTL_SUPPLY_STATUS_AON : Fld := ⟨.SYSCTL_SUPPLY_STATUS, 7, 6, .ro⟩
abbrev SYSCTL_SUPPLY_STATUS_IO : Fld := ⟨.SYSCTL_SUPPLY_STATUS, 5, 4, .ro⟩
abbrev SYSCTL_SUPPLY_STATUS_V18 : Fld := ⟨.SYSCTL_SUPPLY_STATUS, 3, 2, .ro⟩
abbrev SYSCTL_SUPPLY_STATUS_CORE : Fld := ⟨.SYSCTL_SUPPLY_STATUS, 1, 0, .ro⟩
abbrev SYSCTL_INT_STATUS_LPO_TRIM : Fld := ⟨.SYSCTL_INT_STATUS, 8, 8, .w1c⟩
abbrev SYSCTL_INT_STATUS_MODE_REFUSED : Fld := ⟨.SYSCTL_INT_STATUS, 7, 7, .w1c⟩
abbrev SYSCTL_INT_STATUS_GATE_REFUSED : Fld := ⟨.SYSCTL_INT_STATUS, 6, 6, .w1c⟩
abbrev SYSCTL_INT_STATUS_SUPPLY_FAULT : Fld := ⟨.SYSCTL_INT_STATUS, 5, 5, .w1c⟩
abbrev SYSCTL_INT_STATUS_SUPPLY_WARN : Fld := ⟨.SYSCTL_INT_STATUS, 4, 4, .w1c⟩
abbrev SYSCTL_INT_STATUS_CLK_RESTORED : Fld := ⟨.SYSCTL_INT_STATUS, 3, 3, .w1c⟩
abbrev SYSCTL_INT_STATUS_CLK_LOSS : Fld := ⟨.SYSCTL_INT_STATUS, 2, 2, .w1c⟩
abbrev SYSCTL_INT_STATUS_DOMAIN_FAULT : Fld := ⟨.SYSCTL_INT_STATUS, 1, 1, .w1c⟩
abbrev SYSCTL_INT_STATUS_DOMAIN_DONE : Fld := ⟨.SYSCTL_INT_STATUS, 0, 0, .w1c⟩
abbrev SYSCTL_INT_ENABLE_EN : Fld := ⟨.SYSCTL_INT_ENABLE, 8, 0, .rw⟩
abbrev SYSCTL_WDT_CTRL_EN : Fld := ⟨.SYSCTL_WDT_CTRL, 31, 31, .rwl⟩
abbrev SYSCTL_WDT_CTRL_TIMEOUT : Fld := ⟨.SYSCTL_WDT_CTRL, 15, 0, .rwl⟩
abbrev SYSCTL_WDT_KICK_KEY : Fld := ⟨.SYSCTL_WDT_KICK, 15, 0, .wo⟩
abbrev SYSCTL_PD_STATUS_POWERED : Fld := ⟨.SYSCTL_PD_STATUS, 31, 31, .ro⟩
abbrev SYSCTL_PD_STATUS_CLAMPED : Fld := ⟨.SYSCTL_PD_STATUS, 30, 30, .ro⟩
abbrev SYSCTL_PD_STATUS_IN_RESET : Fld := ⟨.SYSCTL_PD_STATUS, 29, 29, .ro⟩
abbrev SYSCTL_PD_STATUS_SUPPLY_OK : Fld := ⟨.SYSCTL_PD_STATUS, 28, 28, .ro⟩
abbrev SYSCTL_PD_STATUS_LAST_RST : Fld := ⟨.SYSCTL_PD_STATUS, 27, 24, .ro⟩
abbrev SYSCTL_PD_STATUS_RST_COUNT : Fld := ⟨.SYSCTL_PD_STATUS, 23, 16, .ro⟩
abbrev SYSCTL_PD_STATUS_LC_DISCARD : Fld := ⟨.SYSCTL_PD_STATUS, 4, 4, .w1c⟩
abbrev SYSCTL_PD_STATUS_LC_PENDING : Fld := ⟨.SYSCTL_PD_STATUS, 3, 2, .ro⟩
abbrev SYSCTL_PD_STATUS_LC_STATE : Fld := ⟨.SYSCTL_PD_STATUS, 1, 0, .ro⟩
abbrev SYSCTL_CG_RUN_EN : Fld := ⟨.SYSCTL_CG_RUN, 31, 0, .rw⟩
abbrev SYSCTL_CG_SLEEP_EN : Fld := ⟨.SYSCTL_CG_SLEEP, 31, 0, .rw⟩
abbrev SYSCTL_CG_DSLEEP_SN : Fld := ⟨.SYSCTL_CG_DSLEEP, 14, 14, .rw⟩
abbrev SYSCTL_RET_BANKS_BANK : Fld := ⟨.SYSCTL_RET_BANKS, 15, 0, .rw⟩
abbrev CAN_STATUS_BUS_OFF : Fld := ⟨.CAN_STATUS, 31, 31, .ro⟩
abbrev CAN_STATUS_ERR_PASSIVE : Fld := ⟨.CAN_STATUS, 30, 30, .ro⟩
abbrev CAN_STATUS_SUSPENDED : Fld := ⟨.CAN_STATUS, 29, 29, .ro⟩
abbrev CAN_STATUS_INTEGRATING : Fld := ⟨.CAN_STATUS, 28, 28, .ro⟩
abbrev CAN_STATUS_SCHED : Fld := ⟨.CAN_STATUS, 27, 27, .ro⟩
abbrev CAN_STATUS_MODE : Fld := ⟨.CAN_STATUS, 26, 25, .ro⟩
abbrev CAN_STATUS_DECODER : Fld := ⟨.CAN_STATUS, 24, 24, .ro⟩
abbrev CAN_STATUS_LC_DISCARD : Fld := ⟨.CAN_STATUS, 4, 4, .w1c⟩
abbrev CAN_STATUS_LC_PENDING : Fld := ⟨.CAN_STATUS, 3, 2, .ro⟩
abbrev CAN_STATUS_LC_STATE : Fld := ⟨.CAN_STATUS, 1, 0, .ro⟩
abbrev CAN_ERR_COUNT_TEC : Fld := ⟨.CAN_ERR_COUNT, 24, 16, .ro⟩
abbrev CAN_ERR_COUNT_REC : Fld := ⟨.CAN_ERR_COUNT, 7, 0, .ro⟩
abbrev CAN_INT_STATUS_AQ : Fld := ⟨.CAN_INT_STATUS, 6, 6, .w1c⟩
abbrev CAN_INT_STATUS_SLOT_MISSED : Fld := ⟨.CAN_INT_STATUS, 5, 5, .w1c⟩
abbrev CAN_INT_STATUS_LOST : Fld := ⟨.CAN_INT_STATUS, 4, 4, .w1c⟩
abbrev CAN_INT_STATUS_RX : Fld := ⟨.CAN_INT_STATUS, 3, 3, .w1c⟩
abbrev CAN_INT_STATUS_TX_DONE : Fld := ⟨.CAN_INT_STATUS, 2, 2, .w1c⟩
abbrev CAN_INT_STATUS_ERR_PASSIVE : Fld := ⟨.CAN_INT_STATUS, 1, 1, .w1c⟩
abbrev CAN_INT_STATUS_BUS_OFF : Fld := ⟨.CAN_INT_STATUS, 0, 0, .w1c⟩
abbrev CAN_INT_ENABLE_EN : Fld := ⟨.CAN_INT_ENABLE, 6, 0, .rw⟩
abbrev CAN_BT_NOM_BRP : Fld := ⟨.CAN_BT_NOM, 31, 23, .ro⟩
abbrev CAN_BT_NOM_TSEG1 : Fld := ⟨.CAN_BT_NOM, 22, 15, .ro⟩
abbrev CAN_BT_NOM_TSEG2 : Fld := ⟨.CAN_BT_NOM, 14, 8, .ro⟩
abbrev CAN_BT_NOM_SJW : Fld := ⟨.CAN_BT_NOM, 6, 0, .ro⟩
abbrev CAN_BT_DATA_BRP : Fld := ⟨.CAN_BT_DATA, 26, 22, .ro⟩
abbrev CAN_BT_DATA_TSEG1 : Fld := ⟨.CAN_BT_DATA, 20, 16, .ro⟩
abbrev CAN_BT_DATA_TSEG2 : Fld := ⟨.CAN_BT_DATA, 11, 8, .ro⟩
abbrev CAN_BT_DATA_SJW : Fld := ⟨.CAN_BT_DATA, 3, 0, .ro⟩
abbrev CAN_TDC_EN : Fld := ⟨.CAN_TDC, 31, 31, .ro⟩
abbrev CAN_TDC_SAT : Fld := ⟨.CAN_TDC, 30, 30, .ro⟩
abbrev CAN_TDC_TDCV : Fld := ⟨.CAN_TDC, 23, 16, .ro⟩
abbrev CAN_TDC_TDCO : Fld := ⟨.CAN_TDC, 7, 0, .ro⟩
abbrev CAN_STATS_BUS_OFFS : Fld := ⟨.CAN_STATS, 31, 24, .ro⟩
abbrev CAN_STATS_PROTOCOL_EXC : Fld := ⟨.CAN_STATS, 23, 16, .ro⟩
abbrev CAN_STATS_ERRORS : Fld := ⟨.CAN_STATS, 15, 0, .ro⟩
abbrev CAN_SCHED_STATUS_CYCLE : Fld := ⟨.CAN_SCHED_STATUS, 31, 28, .ro⟩
abbrev CAN_SCHED_STATUS_SLOT : Fld := ⟨.CAN_SCHED_STATUS, 21, 16, .ro⟩
abbrev CAN_SCHED_STATUS_MISSED : Fld := ⟨.CAN_SCHED_STATUS, 15, 0, .ro⟩
abbrev CAN_RXO_STATUS_NEW : Fld := ⟨.CAN_RXO_STATUS, 31, 31, .ro⟩
abbrev CAN_RXO_STATUS_LOST : Fld := ⟨.CAN_RXO_STATUS, 30, 30, .ro⟩
abbrev CAN_RXO_STATUS_FDF : Fld := ⟨.CAN_RXO_STATUS, 29, 29, .ro⟩
abbrev CAN_RXO_STATUS_BRS : Fld := ⟨.CAN_RXO_STATUS, 28, 28, .ro⟩
abbrev CAN_RXO_STATUS_ESI : Fld := ⟨.CAN_RXO_STATUS, 27, 27, .ro⟩
abbrev CAN_RXO_STATUS_LEN : Fld := ⟨.CAN_RXO_STATUS, 26, 20, .ro⟩
abbrev CAN_RXO_STATUS_COUNT : Fld := ⟨.CAN_RXO_STATUS, 15, 0, .ro⟩
abbrev CAN_RXO_DATA_DATA : Fld := ⟨.CAN_RXO_DATA, 31, 0, .ro⟩
abbrev CAN_AQ_STATUS_ACTIVE : Fld := ⟨.CAN_AQ_STATUS, 31, 31, .ro⟩
abbrev CAN_AQ_STATUS_TIMED_OUT : Fld := ⟨.CAN_AQ_STATUS, 30, 30, .ro⟩
abbrev CAN_AQ_STATUS_UNCHECKED : Fld := ⟨.CAN_AQ_STATUS, 29, 29, .ro⟩
abbrev CAN_AQ_STATUS_DUAL_OK : Fld := ⟨.CAN_AQ_STATUS, 28, 28, .ro⟩
abbrev CAN_AQ_STATUS_REFUSED : Fld := ⟨.CAN_AQ_STATUS, 23, 16, .ro⟩
abbrev CAN_AQ_STATUS_LAST_SEQ : Fld := ⟨.CAN_AQ_STATUS, 15, 0, .ro⟩
abbrev CAN_AQ_STATS_CRC : Fld := ⟨.CAN_AQ_STATS, 31, 24, .ro⟩
abbrev CAN_AQ_STATS_CONN : Fld := ⟨.CAN_AQ_STATS, 23, 16, .ro⟩
abbrev CAN_AQ_STATS_SEQ : Fld := ⟨.CAN_AQ_STATS, 15, 8, .ro⟩
abbrev CAN_AQ_STATS_TIME : Fld := ⟨.CAN_AQ_STATS, 7, 0, .ro⟩
abbrev CAN_AQ_STATS2_GAPS : Fld := ⟨.CAN_AQ_STATS2, 31, 16, .ro⟩
abbrev CAN_AQ_STATS2_DUAL_MISMATCH : Fld := ⟨.CAN_AQ_STATS2, 15, 8, .ro⟩
abbrev CAN_AQ_STATS2_DUAL_MISSING : Fld := ⟨.CAN_AQ_STATS2, 7, 0, .ro⟩
abbrev TIME_STATUS_STATE : Fld := ⟨.TIME_STATUS, 31, 30, .ro⟩
abbrev TIME_STATUS_COASTED : Fld := ⟨.TIME_STATUS, 29, 29, .ro⟩
abbrev TIME_STATUS_LPO_RUN : Fld := ⟨.TIME_STATUS, 28, 28, .ro⟩
abbrev TIME_STATUS_JUMP_PENDING : Fld := ⟨.TIME_STATUS, 27, 27, .ro⟩
abbrev TIME_STATUS_AS_CAPABLE : Fld := ⟨.TIME_STATUS, 26, 26, .ro⟩
abbrev TIME_STATUS_GM_KNOWN : Fld := ⟨.TIME_STATUS, 25, 25, .ro⟩
abbrev TIME_STATUS_LINK_UP : Fld := ⟨.TIME_STATUS, 24, 24, .ro⟩
abbrev TIME_STATUS_STEP_COUNT : Fld := ⟨.TIME_STATUS, 23, 20, .ro⟩
abbrev TIME_NOW_NS_NS : Fld := ⟨.TIME_NOW_NS, 29, 0, .ro⟩
abbrev TIME_NOW_SEC_LO_SEC : Fld := ⟨.TIME_NOW_SEC_LO, 31, 0, .ro⟩
abbrev TIME_NOW_SEC_HI_FRAC : Fld := ⟨.TIME_NOW_SEC_HI, 31, 24, .ro⟩
abbrev TIME_NOW_SEC_HI_SEC : Fld := ⟨.TIME_NOW_SEC_HI, 15, 0, .ro⟩
abbrev TIME_INT_STATUS_SYNC_LINK_LOST : Fld := ⟨.TIME_INT_STATUS, 10, 10, .w1c⟩
abbrev TIME_INT_STATUS_PEER_SAFE : Fld := ⟨.TIME_INT_STATUS, 9, 9, .w1c⟩
abbrev TIME_INT_STATUS_CAP_OVR : Fld := ⟨.TIME_INT_STATUS, 8, 8, .w1c⟩
abbrev TIME_INT_STATUS_CAP : Fld := ⟨.TIME_INT_STATUS, 7, 7, .w1c⟩
abbrev TIME_INT_STATUS_TPO_LATE : Fld := ⟨.TIME_INT_STATUS, 6, 6, .w1c⟩
abbrev TIME_INT_STATUS_LINK : Fld := ⟨.TIME_INT_STATUS, 5, 5, .w1c⟩
abbrev TIME_INT_STATUS_GM_CHANGED : Fld := ⟨.TIME_INT_STATUS, 4, 4, .w1c⟩
abbrev TIME_INT_STATUS_STEPPED : Fld := ⟨.TIME_INT_STATUS, 3, 3, .w1c⟩
abbrev TIME_INT_STATUS_JUMP_REFUSED : Fld := ⟨.TIME_INT_STATUS, 2, 2, .w1c⟩
abbrev TIME_INT_STATUS_SYNC_LOST : Fld := ⟨.TIME_INT_STATUS, 1, 1, .w1c⟩
abbrev TIME_INT_STATUS_SYNCED : Fld := ⟨.TIME_INT_STATUS, 0, 0, .w1c⟩
abbrev TIME_INT_ENABLE_EN : Fld := ⟨.TIME_INT_ENABLE, 10, 0, .rw⟩
abbrev TIME_FREQ_ADJ_ADJ : Fld := ⟨.TIME_FREQ_ADJ, 31, 0, .ro⟩
abbrev TIME_OFFSET_O : Fld := ⟨.TIME_OFFSET, 31, 0, .ro⟩
abbrev TIME_LINK_DELAY_DELAY : Fld := ⟨.TIME_LINK_DELAY, 31, 0, .ro⟩
abbrev TIME_JUMP_SEQ_SEQ : Fld := ⟨.TIME_JUMP_SEQ, 31, 0, .ro⟩
abbrev TIME_JUMP_OFFSET_O : Fld := ⟨.TIME_JUMP_OFFSET, 31, 0, .ro⟩
abbrev TIME_GM_ID_LO_ID : Fld := ⟨.TIME_GM_ID_LO, 31, 0, .ro⟩
abbrev TIME_GM_ID_HI_ID : Fld := ⟨.TIME_GM_ID_HI, 31, 0, .ro⟩
abbrev TIME_PEER_SAFE : Fld := ⟨.TIME_PEER, 31, 31, .ro⟩
abbrev TIME_PEER_SENDING : Fld := ⟨.TIME_PEER, 30, 30, .ro⟩
abbrev TIME_PEER_LOSSES : Fld := ⟨.TIME_PEER, 7, 0, .ro⟩
abbrev TIME_TPO_START_LO_START : Fld := ⟨.TIME_TPO_START_LO, 31, 0, .rw⟩
abbrev TIME_TPO_START_HI_START : Fld := ⟨.TIME_TPO_START_HI, 31, 0, .rw⟩
abbrev TIME_TPO_PERIOD_PERIOD : Fld := ⟨.TIME_TPO_PERIOD, 31, 0, .rw⟩
abbrev TIME_TPO_CTRL_ARM : Fld := ⟨.TIME_TPO_CTRL, 31, 31, .w1s⟩
abbrev TIME_TPO_CTRL_DISARM : Fld := ⟨.TIME_TPO_CTRL, 30, 30, .wo⟩
abbrev TIME_TPO_CTRL_ARM_ERR : Fld := ⟨.TIME_TPO_CTRL, 29, 29, .w1c⟩
abbrev TIME_TPO_CTRL_LATE : Fld := ⟨.TIME_TPO_CTRL, 28, 28, .w1c⟩
abbrev TIME_TPO_CTRL_SKIP : Fld := ⟨.TIME_TPO_CTRL, 27, 24, .ro⟩
abbrev TIME_TPO_CTRL_WIDTH : Fld := ⟨.TIME_TPO_CTRL, 23, 0, .rw⟩
abbrev TIME_EVCAP_TS_LO_TS : Fld := ⟨.TIME_EVCAP_TS_LO, 31, 0, .ro⟩
abbrev TIME_EVCAP_TS_HI_TS : Fld := ⟨.TIME_EVCAP_TS_HI, 31, 0, .ro⟩
abbrev TIME_EVCAP_INFO_VALID : Fld := ⟨.TIME_EVCAP_INFO, 31, 31, .ro⟩
abbrev TIME_EVCAP_INFO_OVR : Fld := ⟨.TIME_EVCAP_INFO, 30, 30, .ro⟩
abbrev TIME_EVCAP_INFO_COAST : Fld := ⟨.TIME_EVCAP_INFO, 29, 29, .ro⟩
abbrev TIME_EVCAP_INFO_EDGE : Fld := ⟨.TIME_EVCAP_INFO, 28, 28, .ro⟩
abbrev TIME_EVCAP_INFO_STEP : Fld := ⟨.TIME_EVCAP_INFO, 27, 24, .ro⟩
abbrev TIME_EVCAP_INFO_FILL : Fld := ⟨.TIME_EVCAP_INFO, 2, 0, .ro⟩
abbrev ETH_STATUS_LINK_UP : Fld := ⟨.ETH_STATUS, 31, 31, .ro⟩
abbrev ETH_STATUS_SPEED : Fld := ⟨.ETH_STATUS, 30, 29, .ro⟩
abbrev ETH_STATUS_IF : Fld := ⟨.ETH_STATUS, 28, 28, .ro⟩
abbrev ETH_RX_STATS_FRAMES : Fld := ⟨.ETH_RX_STATS, 31, 16, .ro⟩
abbrev ETH_RX_STATS_FCS : Fld := ⟨.ETH_RX_STATS, 15, 8, .ro⟩
abbrev ETH_RX_STATS_LENGTH : Fld := ⟨.ETH_RX_STATS, 7, 0, .ro⟩
abbrev ETH_TX_STATS_FRAMES : Fld := ⟨.ETH_TX_STATS, 31, 16, .ro⟩
abbrev ETH_TX_STATS_ABORTED : Fld := ⟨.ETH_TX_STATS, 15, 0, .ro⟩
abbrev ETH_MDIO_GO : Fld := ⟨.ETH_MDIO, 31, 31, .w1s⟩
abbrev ETH_MDIO_CL45 : Fld := ⟨.ETH_MDIO, 30, 30, .rw⟩
abbrev ETH_MDIO_OP : Fld := ⟨.ETH_MDIO, 29, 28, .rw⟩
abbrev ETH_MDIO_PHYAD : Fld := ⟨.ETH_MDIO, 27, 23, .rw⟩
abbrev ETH_MDIO_REGAD : Fld := ⟨.ETH_MDIO, 22, 18, .rw⟩
abbrev ETH_MDIO_DATA : Fld := ⟨.ETH_MDIO, 15, 0, .rw⟩
abbrev SENTINEL_STATUS_RUNNING : Fld := ⟨.SENTINEL_STATUS, 31, 31, .ro⟩
abbrev SENTINEL_STATUS_IMAGE_OK : Fld := ⟨.SENTINEL_STATUS, 30, 30, .ro⟩
abbrev SENTINEL_STATUS_PARK : Fld := ⟨.SENTINEL_STATUS, 29, 29, .ro⟩
abbrev SENTINEL_STATUS_POS_PINS : Fld := ⟨.SENTINEL_STATUS, 28, 28, .ro⟩
abbrev SENTINEL_STATUS_CAN_PIN : Fld := ⟨.SENTINEL_STATUS, 27, 27, .ro⟩
abbrev SENTINEL_STATUS_ROTATION : Fld := ⟨.SENTINEL_STATUS, 26, 26, .ro⟩
abbrev SENTINEL_STATUS_FIRED : Fld := ⟨.SENTINEL_STATUS, 15, 0, .ro⟩
abbrev SENTINEL_INT_STATUS_HANG : Fld := ⟨.SENTINEL_INT_STATUS, 3, 3, .w1c⟩
abbrev SENTINEL_INT_STATUS_SENSOR : Fld := ⟨.SENTINEL_INT_STATUS, 2, 2, .w1c⟩
abbrev SENTINEL_INT_STATUS_PARK : Fld := ⟨.SENTINEL_INT_STATUS, 1, 1, .w1c⟩
abbrev SENTINEL_INT_STATUS_WAKE : Fld := ⟨.SENTINEL_INT_STATUS, 0, 0, .w1c⟩
abbrev SENTINEL_INT_ENABLE_EN : Fld := ⟨.SENTINEL_INT_ENABLE, 3, 0, .rw⟩
abbrev SENTINEL_ANALOG_VBAT : Fld := ⟨.SENTINEL_ANALOG, 31, 16, .ro⟩
abbrev SENTINEL_NTC_NTC1 : Fld := ⟨.SENTINEL_NTC, 31, 16, .ro⟩
abbrev SENTINEL_NTC_NTC0 : Fld := ⟨.SENTINEL_NTC, 15, 0, .ro⟩
abbrev SENTINEL_ROT_RUN : Fld := ⟨.SENTINEL_ROT, 31, 24, .ro⟩
abbrev SENTINEL_ROT_HALL : Fld := ⟨.SENTINEL_ROT, 23, 16, .ro⟩
abbrev SENTINEL_ROT_COUNT : Fld := ⟨.SENTINEL_ROT, 15, 0, .ro⟩
abbrev SENTINEL_WAKE_INFO_RULE : Fld := ⟨.SENTINEL_WAKE_INFO, 31, 28, .ro⟩
abbrev SENTINEL_WAKE_INFO_SOURCE : Fld := ⟨.SENTINEL_WAKE_INFO, 27, 24, .ro⟩
abbrev SENTINEL_WAKE_INFO_ACTIONS : Fld := ⟨.SENTINEL_WAKE_INFO, 19, 16, .ro⟩
abbrev SENTINEL_WAKE_INFO_DOMAINS : Fld := ⟨.SENTINEL_WAKE_INFO, 15, 0, .ro⟩
abbrev SENTINEL_CANWAKE_ERR : Fld := ⟨.SENTINEL_CANWAKE, 31, 24, .ro⟩
abbrev SENTINEL_CANWAKE_MATCHED : Fld := ⟨.SENTINEL_CANWAKE, 23, 16, .ro⟩
abbrev SENTINEL_CANWAKE_FRAMES : Fld := ⟨.SENTINEL_CANWAKE, 15, 0, .ro⟩
abbrev SENTINEL_RULE_HOLDING : Fld := ⟨.SENTINEL_RULE, 31, 31, .ro⟩
abbrev SENTINEL_RULE_FIRES : Fld := ⟨.SENTINEL_RULE, 30, 16, .ro⟩
abbrev SENTINEL_RULE_LC_DISCARD : Fld := ⟨.SENTINEL_RULE, 4, 4, .w1c⟩
abbrev SENTINEL_RULE_LC_PENDING : Fld := ⟨.SENTINEL_RULE, 3, 2, .ro⟩
abbrev SENTINEL_RULE_LC_STATE : Fld := ⟨.SENTINEL_RULE, 1, 0, .ro⟩
abbrev MEMCTL_STATUS_MARCH_BUSY : Fld := ⟨.MEMCTL_STATUS, 31, 31, .ro⟩
abbrev MEMCTL_STATUS_FIXED : Fld := ⟨.MEMCTL_STATUS, 12, 0, .ro⟩
abbrev MEMCTL_INT_STATUS_RET_LOSS : Fld := ⟨.MEMCTL_INT_STATUS, 5, 5, .w1c⟩
abbrev MEMCTL_INT_STATUS_SCRUB_LATE : Fld := ⟨.MEMCTL_INT_STATUS, 4, 4, .w1c⟩
abbrev MEMCTL_INT_STATUS_MARCH_DONE : Fld := ⟨.MEMCTL_INT_STATUS, 3, 3, .w1c⟩
abbrev MEMCTL_INT_STATUS_MARCH_FAIL : Fld := ⟨.MEMCTL_INT_STATUS, 2, 2, .w1c⟩
abbrev MEMCTL_INT_STATUS_UNCORR : Fld := ⟨.MEMCTL_INT_STATUS, 1, 1, .w1c⟩
abbrev MEMCTL_INT_STATUS_CORR : Fld := ⟨.MEMCTL_INT_STATUS, 0, 0, .w1c⟩
abbrev MEMCTL_INT_ENABLE_EN : Fld := ⟨.MEMCTL_INT_ENABLE, 5, 0, .rw⟩
abbrev MEMCTL_ECC_COUNT_UNCORR : Fld := ⟨.MEMCTL_ECC_COUNT, 31, 16, .ro⟩
abbrev MEMCTL_ECC_COUNT_CORR : Fld := ⟨.MEMCTL_ECC_COUNT, 15, 0, .ro⟩
abbrev MEMCTL_ERR_ADDR_ADDR : Fld := ⟨.MEMCTL_ERR_ADDR, 31, 0, .ro⟩
abbrev MEMCTL_ERR_INFO_UNCORR : Fld := ⟨.MEMCTL_ERR_INFO, 31, 31, .ro⟩
abbrev MEMCTL_ERR_INFO_MEM : Fld := ⟨.MEMCTL_ERR_INFO, 30, 28, .ro⟩
abbrev MEMCTL_ERR_INFO_SYNDROME : Fld := ⟨.MEMCTL_ERR_INFO, 23, 16, .ro⟩
abbrev MEMCTL_ERR_INFO_MASTER : Fld := ⟨.MEMCTL_ERR_INFO, 12, 8, .ro⟩
abbrev MEMCTL_MARCH_CTRL_GO : Fld := ⟨.MEMCTL_MARCH_CTRL, 31, 31, .w1s⟩
abbrev MEMCTL_MARCH_CTRL_ABORT : Fld := ⟨.MEMCTL_MARCH_CTRL, 30, 30, .wo⟩
abbrev MEMCTL_MARCH_CTRL_MEM : Fld := ⟨.MEMCTL_MARCH_CTRL, 29, 27, .rw⟩
abbrev MEMCTL_MARCH_BANKS_BANKS : Fld := ⟨.MEMCTL_MARCH_BANKS, 31, 0, .rw⟩
abbrev MEMCTL_MARCH_STATUS_PASS : Fld := ⟨.MEMCTL_MARCH_STATUS, 31, 31, .ro⟩
abbrev MEMCTL_MARCH_STATUS_FAIL : Fld := ⟨.MEMCTL_MARCH_STATUS, 30, 30, .ro⟩
abbrev MEMCTL_MARCH_STATUS_ABORTED : Fld := ⟨.MEMCTL_MARCH_STATUS, 29, 29, .ro⟩
abbrev MEMCTL_MARCH_STATUS_REFUSED : Fld := ⟨.MEMCTL_MARCH_STATUS, 28, 28, .ro⟩
abbrev MEMCTL_MARCH_STATUS_BANK : Fld := ⟨.MEMCTL_MARCH_STATUS, 27, 23, .ro⟩
abbrev MEMCTL_MARCH_STATUS_PREEMPT : Fld := ⟨.MEMCTL_MARCH_STATUS, 22, 16, .ro⟩
abbrev MEMCTL_MARCH_STATUS_SEG : Fld := ⟨.MEMCTL_MARCH_STATUS, 15, 0, .ro⟩
abbrev MEMCTL_MARCH_FAIL_ADDR_ADDR : Fld := ⟨.MEMCTL_MARCH_FAIL_ADDR, 31, 0, .ro⟩
abbrev MEMCTL_SCRUB_STATUS_PASSES : Fld := ⟨.MEMCTL_SCRUB_STATUS, 31, 16, .ro⟩
abbrev MEMCTL_SCRUB_STATUS_AGE : Fld := ⟨.MEMCTL_SCRUB_STATUS, 15, 0, .ro⟩
abbrev MEMCTL_CONF_SEL_ARB : Fld := ⟨.MEMCTL_CONF_SEL, 3, 0, .rw⟩
abbrev MEMCTL_FIXED_STALLS_COUNT : Fld := ⟨.MEMCTL_FIXED_STALLS, 31, 0, .ro⟩
abbrev MEMCTL_RET_STATUS_LOST : Fld := ⟨.MEMCTL_RET_STATUS, 31, 16, .ro⟩
abbrev MEMCTL_RET_STATUS_KEPT : Fld := ⟨.MEMCTL_RET_STATUS, 15, 0, .ro⟩
abbrev MEMCTL_CONF_CNT_COUNT : Fld := ⟨.MEMCTL_CONF_CNT, 31, 0, .rw⟩
abbrev HKEEP_STATUS_RUNNING : Fld := ⟨.HKEEP_STATUS, 31, 31, .ro⟩
abbrev HKEEP_STATUS_LATE : Fld := ⟨.HKEEP_STATUS, 30, 30, .ro⟩
abbrev HKEEP_STATUS_ROUND : Fld := ⟨.HKEEP_STATUS, 15, 0, .ro⟩
abbrev HKEEP_INT_STATUS_PLAUS : Fld := ⟨.HKEEP_INT_STATUS, 6, 6, .w1c⟩
abbrev HKEEP_INT_STATUS_ROUND_LATE : Fld := ⟨.HKEEP_INT_STATUS, 5, 5, .w1c⟩
abbrev HKEEP_INT_STATUS_MRAM_HOT : Fld := ⟨.HKEEP_INT_STATUS, 4, 4, .w1c⟩
abbrev HKEEP_INT_STATUS_DIE_OT : Fld := ⟨.HKEEP_INT_STATUS, 3, 3, .w1c⟩
abbrev HKEEP_INT_STATUS_DIE_HOT : Fld := ⟨.HKEEP_INT_STATUS, 2, 2, .w1c⟩
abbrev HKEEP_INT_STATUS_GROUP_LOST : Fld := ⟨.HKEEP_INT_STATUS, 1, 1, .w1c⟩
abbrev HKEEP_INT_STATUS_BROKEN : Fld := ⟨.HKEEP_INT_STATUS, 0, 0, .w1c⟩
abbrev HKEEP_INT_ENABLE_EN : Fld := ⟨.HKEEP_INT_ENABLE, 6, 0, .rw⟩
abbrev HKEEP_BROKEN_LO_SENSOR : Fld := ⟨.HKEEP_BROKEN_LO, 31, 0, .ro⟩
abbrev HKEEP_BROKEN_HI_SENSOR : Fld := ⟨.HKEEP_BROKEN_HI, 12, 0, .ro⟩
abbrev HKEEP_TEMP_VALID : Fld := ⟨.HKEEP_TEMP, 31, 31, .ro⟩
abbrev HKEEP_TEMP_BROKEN : Fld := ⟨.HKEEP_TEMP, 30, 30, .ro⟩
abbrev HKEEP_TEMP_REPLACED : Fld := ⟨.HKEEP_TEMP, 29, 29, .ro⟩
abbrev HKEEP_TEMP_UNCHECKED : Fld := ⟨.HKEEP_TEMP, 28, 28, .ro⟩
abbrev HKEEP_TEMP_DEV_RUN : Fld := ⟨.HKEEP_TEMP, 27, 24, .ro⟩
abbrev HKEEP_TEMP_TEMP : Fld := ⟨.HKEEP_TEMP, 15, 0, .ro⟩
abbrev HKEEP_CH_VALID : Fld := ⟨.HKEEP_CH, 31, 31, .ro⟩
abbrev HKEEP_CH_CODE : Fld := ⟨.HKEEP_CH, 11, 0, .ro⟩
abbrev HKEEP_SUPPLY_VALID : Fld := ⟨.HKEEP_SUPPLY, 31, 31, .ro⟩
abbrev HKEEP_SUPPLY_MV : Fld := ⟨.HKEEP_SUPPLY, 15, 0, .ro⟩
abbrev HKEEP_VDC_VALID : Fld := ⟨.HKEEP_VDC, 31, 31, .ro⟩
abbrev HKEEP_VDC_MV : Fld := ⟨.HKEEP_VDC, 23, 0, .ro⟩
abbrev HKEEP_TMAG_VALID : Fld := ⟨.HKEEP_TMAG, 31, 31, .ro⟩
abbrev HKEEP_TMAG_TEMP : Fld := ⟨.HKEEP_TMAG, 15, 0, .ro⟩
abbrev HKEEP_LPO_TRIM_CODE : Fld := ⟨.HKEEP_LPO_TRIM, 7, 0, .ro⟩
abbrev HKEEP_ADC_GAIN_CORR : Fld := ⟨.HKEEP_ADC_GAIN, 15, 0, .ro⟩

end F

/-- Address layout of each register (captions of the register tables; blocks of R54). -/
def Reg.geom : Reg → Geom
  | .ATLAS_MRAM_ID => ⟨.ATLAS, 0x40400000, 1, 0x0, 1, 0x0⟩
  | .ATLAS_MRAM_STATUS => ⟨.ATLAS, 0x40400004, 1, 0x0, 1, 0x0⟩
  | .ATLAS_PTIME => ⟨.ATLAS, 0x40400008, 1, 0x0, 1, 0x0⟩
  | .ATLAS_INT_STATUS => ⟨.ATLAS, 0x40400010, 1, 0x0, 1, 0x0⟩
  | .ATLAS_INT_ENABLE => ⟨.ATLAS, 0x40400014, 1, 0x0, 1, 0x0⟩
  | .ATLAS_ECC_COUNT => ⟨.ATLAS, 0x40400020, 1, 0x0, 1, 0x0⟩
  | .ATLAS_SCRUB_STATUS => ⟨.ATLAS, 0x40400024, 1, 0x0, 1, 0x0⟩
  | .ATLAS_SCRUB_AGE => ⟨.ATLAS, 0x40400028, 1, 0x0, 1, 0x0⟩
  | .ATLAS_REMAP_STATUS => ⟨.ATLAS, 0x4040002C, 1, 0x0, 1, 0x0⟩
  | .ATLAS_WEAR_MAX => ⟨.ATLAS, 0x40400030, 1, 0x0, 1, 0x0⟩
  | .ATLAS_WEAR_MAX_BLOCK => ⟨.ATLAS, 0x40400034, 1, 0x0, 1, 0x0⟩
  | .ATLAS_SLOT_STATUS => ⟨.ATLAS, 0x40400100, 2, 0x100, 1, 0x0⟩
  | .ATLAS_LOOKUP_HIT => ⟨.ATLAS, 0x40400104, 2, 0x100, 1, 0x0⟩
  | .ATLAS_LOOKUP_COARSE => ⟨.ATLAS, 0x40400108, 2, 0x100, 1, 0x0⟩
  | .ATLAS_USEQ => ⟨.ATLAS, 0x4040010C, 2, 0x100, 1, 0x0⟩
  | .ATLAS_DRESS_DROP => ⟨.ATLAS, 0x40400110, 2, 0x100, 1, 0x0⟩
  | .ATLAS_COMMIT_COUNT => ⟨.ATLAS, 0x40400114, 2, 0x100, 1, 0x0⟩
  | .ATLAS_LOSS_COUNT => ⟨.ATLAS, 0x40400118, 2, 0x100, 1, 0x0⟩
  | .ATLAS_SEAM_MAX => ⟨.ATLAS, 0x4040011C, 2, 0x100, 1, 0x0⟩
  | .CE_STATUS => ⟨.CE, 0x40300000, 8, 0x10000, 1, 0x0⟩
  | .CE_FAULT => ⟨.CE, 0x40300004, 8, 0x10000, 1, 0x0⟩
  | .CE_INT_STATUS => ⟨.CE, 0x40300008, 8, 0x10000, 1, 0x0⟩
  | .CE_INT_ENABLE => ⟨.CE, 0x4030000C, 8, 0x10000, 1, 0x0⟩
  | .CE_LOOP_CYCLES => ⟨.CE, 0x40300010, 8, 0x10000, 1, 0x0⟩
  | .CE_DMEAS => ⟨.CE, 0x40300014, 8, 0x10000, 1, 0x0⟩
  | .CE_DMEAS_MAX => ⟨.CE, 0x40300018, 8, 0x10000, 1, 0x0⟩
  | .CE_WDG => ⟨.CE, 0x4030001C, 8, 0x10000, 1, 0x0⟩
  | .CE_ECC_COUNT => ⟨.CE, 0x40300020, 8, 0x10000, 1, 0x0⟩
  | .CE_PUBL_DROP => ⟨.CE, 0x40300024, 8, 0x10000, 1, 0x0⟩
  | .CE_IMAGE_VERSION => ⟨.CE, 0x40300028, 8, 0x10000, 1, 0x0⟩
  | .CE_DEBUG_CTRL => ⟨.CE, 0x40300040, 8, 0x10000, 1, 0x0⟩
  | .CE_BREAK => ⟨.CE, 0x40300044, 8, 0x10000, 1, 0x0⟩
  | .CE_DBG_SEL => ⟨.CE, 0x40300050, 8, 0x10000, 1, 0x0⟩
  | .CE_DBG_DATA => ⟨.CE, 0x40300054, 8, 0x10000, 1, 0x0⟩
  | .PWM_STATUS => ⟨.PWM, 0x40500000, 2, 0x4000, 1, 0x0⟩
  | .PWM_COUNTER => ⟨.PWM, 0x40500004, 2, 0x4000, 1, 0x0⟩
  | .PWM_PERIOD_SEQ => ⟨.PWM, 0x40500008, 2, 0x4000, 1, 0x0⟩
  | .PWM_PERIOD_EFF => ⟨.PWM, 0x4050000C, 2, 0x4000, 1, 0x0⟩
  | .PWM_CONFIG => ⟨.PWM, 0x40500010, 2, 0x4000, 1, 0x0⟩
  | .PWM_MINPULSE => ⟨.PWM, 0x40500014, 2, 0x4000, 1, 0x0⟩
  | .PWM_DEADTIME => ⟨.PWM, 0x40500018, 2, 0x4000, 3, 0x4⟩
  | .PWM_CMP_EFF => ⟨.PWM, 0x40500030, 2, 0x4000, 6, 0x4⟩
  | .PWM_ERR => ⟨.PWM, 0x40500048, 2, 0x4000, 3, 0x4⟩
  | .PWM_LS_CMP => ⟨.PWM, 0x40500060, 2, 0x4000, 6, 0x4⟩
  | .PWM_INT_STATUS => ⟨.PWM, 0x40500080, 2, 0x4000, 1, 0x0⟩
  | .PWM_INT_ENABLE => ⟨.PWM, 0x40500084, 2, 0x4000, 1, 0x0⟩
  | .PWM_GEN_STATS => ⟨.PWM, 0x40500088, 2, 0x4000, 1, 0x0⟩
  | .PWM_TRIP_STATUS => ⟨.PWM, 0x40500090, 2, 0x4000, 1, 0x0⟩
  | .PWM_TRIP_COUNT => ⟨.PWM, 0x40500094, 2, 0x4000, 1, 0x0⟩
  | .PWM_SYNC_STATUS => ⟨.PWM, 0x40500098, 2, 0x4000, 1, 0x0⟩
  | .PWM_BOOT_COUNT => ⟨.PWM, 0x4050009C, 2, 0x4000, 1, 0x0⟩
  | .PWM_DEBUG_CTRL => ⟨.PWM, 0x405000A0, 2, 0x4000, 1, 0x0⟩
  | .PWM_TL_TIME => ⟨.PWM, 0x40500100, 2, 0x4000, 32, 0x8⟩
  | .PWM_TL_ACT => ⟨.PWM, 0x40500104, 2, 0x4000, 32, 0x8⟩
  | .PWM_CAP_TS_LO => ⟨.PWM, 0x40500200, 2, 0x4000, 8, 0x10⟩
  | .PWM_CAP_TS_HI => ⟨.PWM, 0x40500204, 2, 0x4000, 8, 0x10⟩
  | .PWM_CAP_INFO => ⟨.PWM, 0x40500208, 2, 0x4000, 8, 0x10⟩
  | .PWM_CAP_POS => ⟨.PWM, 0x4050020C, 2, 0x4000, 8, 0x10⟩
  | .GDS_STATUS => ⟨.GDS, 0x40600000, 12, 0x1000, 1, 0x0⟩
  | .GDS_ID => ⟨.GDS, 0x40600004, 12, 0x1000, 1, 0x0⟩
  | .GDS_INT_STATUS => ⟨.GDS, 0x40600008, 12, 0x1000, 1, 0x0⟩
  | .GDS_INT_ENABLE => ⟨.GDS, 0x4060000C, 12, 0x1000, 1, 0x0⟩
  | .GDS_STRENGTH => ⟨.GDS, 0x40600010, 12, 0x1000, 1, 0x0⟩
  | .GDS_TIMING => ⟨.GDS, 0x40600014, 12, 0x1000, 1, 0x0⟩
  | .GDS_SENSE => ⟨.GDS, 0x40600018, 12, 0x1000, 1, 0x0⟩
  | .GDS_RAILS => ⟨.GDS, 0x4060001C, 12, 0x1000, 1, 0x0⟩
  | .GDS_HS_STATS => ⟨.GDS, 0x40600020, 12, 0x1000, 1, 0x0⟩
  | .GDS_HS_WAIT => ⟨.GDS, 0x40600024, 12, 0x1000, 1, 0x0⟩
  | .GDS_DESAT_STATS => ⟨.GDS, 0x40600028, 12, 0x1000, 1, 0x0⟩
  | .GDS_LINK_STATS => ⟨.GDS, 0x4060002C, 12, 0x1000, 1, 0x0⟩
  | .GDS_CONFIG => ⟨.GDS, 0x40600040, 12, 0x1000, 1, 0x0⟩
  | .GDS_TARGET => ⟨.GDS, 0x40600044, 12, 0x1000, 1, 0x0⟩
  | .GDS_DESAT_CFG => ⟨.GDS, 0x40600048, 12, 0x1000, 1, 0x0⟩
  | .GDS_HS_CFG => ⟨.GDS, 0x4060004C, 12, 0x1000, 1, 0x0⟩
  | .ADC_STATUS => ⟨.ADC, 0x40700000, 1, 0x0, 1, 0x0⟩
  | .ADC_INT_STATUS => ⟨.ADC, 0x40700008, 1, 0x0, 1, 0x0⟩
  | .ADC_INT_ENABLE => ⟨.ADC, 0x4070000C, 1, 0x0, 1, 0x0⟩
  | .ADC_SW_START => ⟨.ADC, 0x40700100, 6, 0x20, 1, 0x0⟩
  | .ADC_RESULT => ⟨.ADC, 0x40700104, 6, 0x20, 1, 0x0⟩
  | .ADC_OFFSET => ⟨.ADC, 0x40700108, 6, 0x20, 1, 0x0⟩
  | .ADC_STATS => ⟨.ADC, 0x4070010C, 6, 0x20, 1, 0x0⟩
  | .ADC_DS_VAL => ⟨.ADC, 0x40700400, 24, 0x4, 1, 0x0⟩
  | .ADC_SHUNT => ⟨.ADC, 0x40700500, 2, 0x20, 1, 0x0⟩
  | .ADC_SHUNT_INFO => ⟨.ADC, 0x40700504, 2, 0x20, 1, 0x0⟩
  | .ADC_CHK_STATUS => ⟨.ADC, 0x40700508, 2, 0x20, 1, 0x0⟩
  | .ADC_CHK_ERR => ⟨.ADC, 0x4070050C, 2, 0x20, 1, 0x0⟩
  | .ADC_TRIP_CAP0 => ⟨.ADC, 0x40700510, 2, 0x20, 1, 0x0⟩
  | .ADC_TRIP_CAP1 => ⟨.ADC, 0x40700514, 2, 0x20, 1, 0x0⟩
  | .ADC_CT_STATUS => ⟨.ADC, 0x40700600, 1, 0x0, 1, 0x0⟩
  | .POS_INT_STATUS => ⟨.POS, 0x40780000, 1, 0x0, 1, 0x0⟩
  | .POS_INT_ENABLE => ⟨.POS, 0x40780004, 1, 0x0, 1, 0x0⟩
  | .POS_IF_STATUS => ⟨.POS, 0x40780100, 8, 0x40, 1, 0x0⟩
  | .POS_IF_POS => ⟨.POS, 0x40780104, 8, 0x40, 1, 0x0⟩
  | .POS_IF_SPEED => ⟨.POS, 0x40780108, 8, 0x40, 1, 0x0⟩
  | .POS_IF_INTERVAL => ⟨.POS, 0x4078010C, 8, 0x40, 1, 0x0⟩
  | .POS_RSV_DIAG => ⟨.POS, 0x40780110, 2, 0x40, 1, 0x0⟩
  | .POS_RSV_TRACK => ⟨.POS, 0x40780114, 2, 0x40, 1, 0x0⟩
  | .POS_ENC_DIAG => ⟨.POS, 0x40780190, 2, 0x40, 1, 0x0⟩
  | .POS_ENC_COUNT => ⟨.POS, 0x40780194, 2, 0x40, 1, 0x0⟩
  | .POS_HALL_DIAG => ⟨.POS, 0x40780210, 2, 0x40, 1, 0x0⟩
  | .POS_SER_DIAG => ⟨.POS, 0x40780290, 2, 0x40, 1, 0x0⟩
  | .POS_SER_RAW => ⟨.POS, 0x40780294, 2, 0x40, 1, 0x0⟩
  | .POS_PCMP_STATUS => ⟨.POS, 0x40780400, 4, 0x10, 1, 0x0⟩
  | .POS_PCMP_LC => ⟨.POS, 0x40780404, 4, 0x10, 1, 0x0⟩
  | .POS_CHECK => ⟨.POS, 0x40780500, 2, 0x4, 1, 0x0⟩
  | .SAFETY_STATUS => ⟨.SAFETY, 0x40800000, 1, 0x0, 1, 0x0⟩
  | .SAFETY_INT_STATUS => ⟨.SAFETY, 0x40800008, 1, 0x0, 1, 0x0⟩
  | .SAFETY_INT_ENABLE => ⟨.SAFETY, 0x4080000C, 1, 0x0, 1, 0x0⟩
  | .SAFETY_STO => ⟨.SAFETY, 0x40800010, 1, 0x0, 1, 0x0⟩
  | .SAFETY_LOCKSTEP => ⟨.SAFETY, 0x40800014, 1, 0x0, 1, 0x0⟩
  | .SAFETY_LATCH => ⟨.SAFETY, 0x40800018, 1, 0x0, 1, 0x0⟩
  | .SAFETY_RESET_COUNT => ⟨.SAFETY, 0x4080001C, 1, 0x0, 1, 0x0⟩
  | .SAFETY_BRIDGE => ⟨.SAFETY, 0x40800020, 2, 0x4, 1, 0x0⟩
  | .SAFETY_DCHG => ⟨.SAFETY, 0x40800030, 1, 0x0, 1, 0x0⟩
  | .SAFETY_DEBUG_GUARD => ⟨.SAFETY, 0x40800034, 1, 0x0, 1, 0x0⟩
  | .SAFETY_SLOT => ⟨.SAFETY, 0x40800100, 2, 0x20, 1, 0x0⟩
  | .SAFETY_MON_ERR => ⟨.SAFETY, 0x40800104, 2, 0x20, 1, 0x0⟩
  | .SAFETY_MON_ALLOW => ⟨.SAFETY, 0x40800108, 2, 0x20, 1, 0x0⟩
  | .SAFETY_MON_TMON => ⟨.SAFETY, 0x4080010C, 2, 0x20, 1, 0x0⟩
  | .SAFETY_MON_CNT => ⟨.SAFETY, 0x40800110, 2, 0x20, 1, 0x0⟩
  | .DERRICK_HOST => ⟨.DERRICK, 0x40200000, 1, 0x0, 1, 0x0⟩
  | .DERRICK_INT_STATUS => ⟨.DERRICK, 0x40200008, 1, 0x0, 1, 0x0⟩
  | .DERRICK_INT_ENABLE => ⟨.DERRICK, 0x4020000C, 1, 0x0, 1, 0x0⟩
  | .DERRICK_HB => ⟨.DERRICK, 0x40200020, 2, 0x4, 1, 0x0⟩
  | .DERRICK_RP_BIND => ⟨.DERRICK, 0x40201000, 64, 0x40, 1, 0x0⟩
  | .DERRICK_RP_BASE_LO => ⟨.DERRICK, 0x40201008, 64, 0x40, 1, 0x0⟩
  | .DERRICK_RP_BASE_HI => ⟨.DERRICK, 0x4020100C, 64, 0x40, 1, 0x0⟩
  | .DERRICK_RP_CFG => ⟨.DERRICK, 0x40201010, 64, 0x40, 1, 0x0⟩
  | .DERRICK_RP_CTRL => ⟨.DERRICK, 0x40201014, 64, 0x40, 1, 0x0⟩
  | .DERRICK_RP_STATUS => ⟨.DERRICK, 0x40201018, 64, 0x40, 1, 0x0⟩
  | .DERRICK_RP_STATS => ⟨.DERRICK, 0x4020101C, 64, 0x40, 1, 0x0⟩
  | .DERRICK_RP_ERR => ⟨.DERRICK, 0x40201020, 64, 0x40, 1, 0x0⟩
  | .DERRICK_DB_SQ => ⟨.DERRICK, 0x40208000, 64, 0x8, 1, 0x0⟩
  | .DERRICK_DB_CQ => ⟨.DERRICK, 0x40208004, 64, 0x8, 1, 0x0⟩
  | .PCIE_CTRL => ⟨.PCIE, 0x40B00000, 1, 0x0, 1, 0x0⟩
  | .PCIE_STATUS => ⟨.PCIE, 0x40B00004, 1, 0x0, 1, 0x0⟩
  | .PCIE_INT_STATUS => ⟨.PCIE, 0x40B00008, 1, 0x0, 1, 0x0⟩
  | .PCIE_INT_ENABLE => ⟨.PCIE, 0x40B0000C, 1, 0x0, 1, 0x0⟩
  | .PCIE_IDS => ⟨.PCIE, 0x40B00010, 1, 0x0, 1, 0x0⟩
  | .PCIE_ERR_COUNT => ⟨.PCIE, 0x40B00014, 1, 0x0, 1, 0x0⟩
  | .PROT_STATUS => ⟨.PROT, 0x40100000, 1, 0x0, 1, 0x0⟩
  | .PROT_BOOTLOCK => ⟨.PROT, 0x40100004, 1, 0x0, 1, 0x0⟩
  | .PROT_UID => ⟨.PROT, 0x40100010, 4, 0x4, 1, 0x0⟩
  | .PROT_CERT_LEN => ⟨.PROT, 0x40100020, 1, 0x0, 1, 0x0⟩
  | .PROT_ROLLBACK => ⟨.PROT, 0x40100024, 1, 0x0, 1, 0x0⟩
  | .PROT_FW_VERSION => ⟨.PROT, 0x40100028, 1, 0x0, 1, 0x0⟩
  | .PROT_BOOT_CONFIRM => ⟨.PROT, 0x4010002C, 1, 0x0, 1, 0x0⟩
  | .PROT_INT_STATUS => ⟨.PROT, 0x40100030, 1, 0x0, 1, 0x0⟩
  | .PROT_INT_ENABLE => ⟨.PROT, 0x40100034, 1, 0x0, 1, 0x0⟩
  | .PROT_DEBUG_POLICY => ⟨.PROT, 0x40100040, 1, 0x0, 1, 0x0⟩
  | .PROT_DEBUG_STATUS => ⟨.PROT, 0x40100044, 1, 0x0, 1, 0x0⟩
  | .PROT_LOCK_VIOL_ADDR => ⟨.PROT, 0x40100048, 1, 0x0, 1, 0x0⟩
  | .PROT_LOCK_VIOL_INFO => ⟨.PROT, 0x4010004C, 1, 0x0, 1, 0x0⟩
  | .PROT_MPU_FAULT_ADDR => ⟨.PROT, 0x40100050, 1, 0x0, 1, 0x0⟩
  | .PROT_MPU_FAULT_INFO => ⟨.PROT, 0x40100054, 1, 0x0, 1, 0x0⟩
  | .PROT_MPU_CTRL => ⟨.PROT, 0x40100800, 21, 0x4, 1, 0x0⟩
  | .PROT_MPU_RBASE => ⟨.PROT, 0x40101000, 21, 0x100, 16, 0x8⟩
  | .PROT_MPU_RLIMIT => ⟨.PROT, 0x40101004, 21, 0x100, 16, 0x8⟩
  | .SYSCTL_DIE_ID => ⟨.SYSCTL, 0x40000000, 1, 0x0, 1, 0x0⟩
  | .SYSCTL_RESET_CAUSE => ⟨.SYSCTL, 0x40000004, 1, 0x0, 1, 0x0⟩
  | .SYSCTL_RESET_INFO => ⟨.SYSCTL, 0x40000008, 1, 0x0, 1, 0x0⟩
  | .SYSCTL_RESET_REQ => ⟨.SYSCTL, 0x4000000C, 1, 0x0, 1, 0x0⟩
  | .SYSCTL_PWR_MODE => ⟨.SYSCTL, 0x40000010, 1, 0x0, 1, 0x0⟩
  | .SYSCTL_PD_ON => ⟨.SYSCTL, 0x40000014, 1, 0x0, 1, 0x0⟩
  | .SYSCTL_PD_OFF => ⟨.SYSCTL, 0x40000018, 1, 0x0, 1, 0x0⟩
  | .SYSCTL_CLK_STATUS => ⟨.SYSCTL, 0x40000020, 1, 0x0, 1, 0x0⟩
  | .SYSCTL_SUPPLY_STATUS => ⟨.SYSCTL, 0x40000024, 1, 0x0, 1, 0x0⟩
  | .SYSCTL_INT_STATUS => ⟨.SYSCTL, 0x40000028, 1, 0x0, 1, 0x0⟩
  | .SYSCTL_INT_ENABLE => ⟨.SYSCTL, 0x4000002C, 1, 0x0, 1, 0x0⟩
  | .SYSCTL_WDT_CTRL => ⟨.SYSCTL, 0x40000030, 1, 0x0, 1, 0x0⟩
  | .SYSCTL_WDT_KICK => ⟨.SYSCTL, 0x40000034, 1, 0x0, 1, 0x0⟩
  | .SYSCTL_PD_STATUS => ⟨.SYSCTL, 0x40000040, 12, 0x4, 1, 0x0⟩
  | .SYSCTL_CG_RUN => ⟨.SYSCTL, 0x40000100, 3, 0x4, 1, 0x0⟩
  | .SYSCTL_CG_SLEEP => ⟨.SYSCTL, 0x40000110, 3, 0x4, 1, 0x0⟩
  | .SYSCTL_CG_DSLEEP => ⟨.SYSCTL, 0x40000120, 1, 0x0, 1, 0x0⟩
  | .SYSCTL_RET_BANKS => ⟨.SYSCTL, 0x40000130, 1, 0x0, 1, 0x0⟩
  | .CAN_STATUS => ⟨.CAN, 0x40900000, 4, 0x10000, 1, 0x0⟩
  | .CAN_ERR_COUNT => ⟨.CAN, 0x40900004, 4, 0x10000, 1, 0x0⟩
  | .CAN_INT_STATUS => ⟨.CAN, 0x40900008, 4, 0x10000, 1, 0x0⟩
  | .CAN_INT_ENABLE => ⟨.CAN, 0x4090000C, 4, 0x10000, 1, 0x0⟩
  | .CAN_BT_NOM => ⟨.CAN, 0x40900010, 4, 0x10000, 1, 0x0⟩
  | .CAN_BT_DATA => ⟨.CAN, 0x40900014, 4, 0x10000, 1, 0x0⟩
  | .CAN_TDC => ⟨.CAN, 0x40900018, 4, 0x10000, 1, 0x0⟩
  | .CAN_STATS => ⟨.CAN, 0x4090001C, 4, 0x10000, 1, 0x0⟩
  | .CAN_SCHED_STATUS => ⟨.CAN, 0x40900020, 4, 0x10000, 1, 0x0⟩
  | .CAN_RXO_STATUS => ⟨.CAN, 0x40901000, 4, 0x10000, 512, 0x4⟩
  | .CAN_RXO_DATA => ⟨.CAN, 0x40908000, 4, 0x10000, 8192, 0x4⟩
  | .CAN_AQ_STATUS => ⟨.CAN, 0x40980000, 32, 0x10, 1, 0x0⟩
  | .CAN_AQ_STATS => ⟨.CAN, 0x40980004, 32, 0x10, 1, 0x0⟩
  | .CAN_AQ_STATS2 => ⟨.CAN, 0x40980008, 32, 0x10, 1, 0x0⟩
  | .TIME_STATUS => ⟨.TIME, 0x40A00000, 1, 0x0, 1, 0x0⟩
  | .TIME_NOW_NS => ⟨.TIME, 0x40A00004, 1, 0x0, 1, 0x0⟩
  | .TIME_NOW_SEC_LO => ⟨.TIME, 0x40A00008, 1, 0x0, 1, 0x0⟩
  | .TIME_NOW_SEC_HI => ⟨.TIME, 0x40A0000C, 1, 0x0, 1, 0x0⟩
  | .TIME_INT_STATUS => ⟨.TIME, 0x40A00010, 1, 0x0, 1, 0x0⟩
  | .TIME_INT_ENABLE => ⟨.TIME, 0x40A00014, 1, 0x0, 1, 0x0⟩
  | .TIME_FREQ_ADJ => ⟨.TIME, 0x40A00018, 1, 0x0, 1, 0x0⟩
  | .TIME_OFFSET => ⟨.TIME, 0x40A0001C, 1, 0x0, 1, 0x0⟩
  | .TIME_LINK_DELAY => ⟨.TIME, 0x40A00020, 1, 0x0, 1, 0x0⟩
  | .TIME_JUMP_SEQ => ⟨.TIME, 0x40A00024, 1, 0x0, 1, 0x0⟩
  | .TIME_JUMP_OFFSET => ⟨.TIME, 0x40A00028, 1, 0x0, 1, 0x0⟩
  | .TIME_GM_ID_LO => ⟨.TIME, 0x40A00030, 1, 0x0, 1, 0x0⟩
  | .TIME_GM_ID_HI => ⟨.TIME, 0x40A00034, 1, 0x0, 1, 0x0⟩
  | .TIME_PEER => ⟨.TIME, 0x40A00040, 1, 0x0, 1, 0x0⟩
  | .TIME_TPO_START_LO => ⟨.TIME, 0x40A00100, 8, 0x10, 1, 0x0⟩
  | .TIME_TPO_START_HI => ⟨.TIME, 0x40A00104, 8, 0x10, 1, 0x0⟩
  | .TIME_TPO_PERIOD => ⟨.TIME, 0x40A00108, 8, 0x10, 1, 0x0⟩
  | .TIME_TPO_CTRL => ⟨.TIME, 0x40A0010C, 8, 0x10, 1, 0x0⟩
  | .TIME_EVCAP_TS_LO => ⟨.TIME, 0x40A00200, 5, 0x10, 1, 0x0⟩
  | .TIME_EVCAP_TS_HI => ⟨.TIME, 0x40A00204, 5, 0x10, 1, 0x0⟩
  | .TIME_EVCAP_INFO => ⟨.TIME, 0x40A00208, 5, 0x10, 1, 0x0⟩
  | .ETH_STATUS => ⟨.ETH, 0x40A00400, 1, 0x0, 1, 0x0⟩
  | .ETH_RX_STATS => ⟨.ETH, 0x40A00404, 1, 0x0, 1, 0x0⟩
  | .ETH_TX_STATS => ⟨.ETH, 0x40A00408, 1, 0x0, 1, 0x0⟩
  | .ETH_MDIO => ⟨.ETH, 0x40A0040C, 1, 0x0, 1, 0x0⟩
  | .SENTINEL_STATUS => ⟨.SENTINEL, 0x40C00000, 1, 0x0, 1, 0x0⟩
  | .SENTINEL_INT_STATUS => ⟨.SENTINEL, 0x40C00008, 1, 0x0, 1, 0x0⟩
  | .SENTINEL_INT_ENABLE => ⟨.SENTINEL, 0x40C0000C, 1, 0x0, 1, 0x0⟩
  | .SENTINEL_ANALOG => ⟨.SENTINEL, 0x40C00010, 1, 0x0, 1, 0x0⟩
  | .SENTINEL_NTC => ⟨.SENTINEL, 0x40C00014, 1, 0x0, 1, 0x0⟩
  | .SENTINEL_ROT => ⟨.SENTINEL, 0x40C00018, 1, 0x0, 1, 0x0⟩
  | .SENTINEL_WAKE_INFO => ⟨.SENTINEL, 0x40C00020, 1, 0x0, 1, 0x0⟩
  | .SENTINEL_CANWAKE => ⟨.SENTINEL, 0x40C00024, 1, 0x0, 1, 0x0⟩
  | .SENTINEL_RULE => ⟨.SENTINEL, 0x40C00100, 16, 0x4, 1, 0x0⟩
  | .MEMCTL_STATUS => ⟨.MEMCTL, 0x40D00000, 1, 0x0, 1, 0x0⟩
  | .MEMCTL_INT_STATUS => ⟨.MEMCTL, 0x40D00008, 1, 0x0, 1, 0x0⟩
  | .MEMCTL_INT_ENABLE => ⟨.MEMCTL, 0x40D0000C, 1, 0x0, 1, 0x0⟩
  | .MEMCTL_ECC_COUNT => ⟨.MEMCTL, 0x40D00010, 5, 0x4, 1, 0x0⟩
  | .MEMCTL_ERR_ADDR => ⟨.MEMCTL, 0x40D00030, 1, 0x0, 1, 0x0⟩
  | .MEMCTL_ERR_INFO => ⟨.MEMCTL, 0x40D00034, 1, 0x0, 1, 0x0⟩
  | .MEMCTL_MARCH_CTRL => ⟨.MEMCTL, 0x40D00040, 1, 0x0, 1, 0x0⟩
  | .MEMCTL_MARCH_BANKS => ⟨.MEMCTL, 0x40D00044, 1, 0x0, 1, 0x0⟩
  | .MEMCTL_MARCH_STATUS => ⟨.MEMCTL, 0x40D00048, 1, 0x0, 1, 0x0⟩
  | .MEMCTL_MARCH_FAIL_ADDR => ⟨.MEMCTL, 0x40D0004C, 1, 0x0, 1, 0x0⟩
  | .MEMCTL_SCRUB_STATUS => ⟨.MEMCTL, 0x40D00050, 1, 0x0, 1, 0x0⟩
  | .MEMCTL_CONF_SEL => ⟨.MEMCTL, 0x40D00060, 1, 0x0, 1, 0x0⟩
  | .MEMCTL_FIXED_STALLS => ⟨.MEMCTL, 0x40D00064, 1, 0x0, 1, 0x0⟩
  | .MEMCTL_RET_STATUS => ⟨.MEMCTL, 0x40D00068, 1, 0x0, 1, 0x0⟩
  | .MEMCTL_CONF_CNT => ⟨.MEMCTL, 0x40D00100, 21, 0x4, 1, 0x0⟩
  | .HKEEP_STATUS => ⟨.HKEEP, 0x40E00000, 1, 0x0, 1, 0x0⟩
  | .HKEEP_INT_STATUS => ⟨.HKEEP, 0x40E00008, 1, 0x0, 1, 0x0⟩
  | .HKEEP_INT_ENABLE => ⟨.HKEEP, 0x40E0000C, 1, 0x0, 1, 0x0⟩
  | .HKEEP_BROKEN_LO => ⟨.HKEEP, 0x40E00010, 1, 0x0, 1, 0x0⟩
  | .HKEEP_BROKEN_HI => ⟨.HKEEP, 0x40E00014, 1, 0x0, 1, 0x0⟩
  | .HKEEP_TEMP => ⟨.HKEEP, 0x40E00100, 45, 0x4, 1, 0x0⟩
  | .HKEEP_CH => ⟨.HKEEP, 0x40E00200, 24, 0x4, 1, 0x0⟩
  | .HKEEP_SUPPLY => ⟨.HKEEP, 0x40E00280, 5, 0x4, 1, 0x0⟩
  | .HKEEP_VDC => ⟨.HKEEP, 0x40E002A0, 2, 0x4, 1, 0x0⟩
  | .HKEEP_TMAG => ⟨.HKEEP, 0x40E002B0, 2, 0x4, 1, 0x0⟩
  | .HKEEP_LPO_TRIM => ⟨.HKEEP, 0x40E002C0, 1, 0x0, 1, 0x0⟩
  | .HKEEP_ADC_GAIN => ⟨.HKEEP, 0x40E002D0, 6, 0x4, 1, 0x0⟩

/-- The fields of each register, reserved bits left out. -/
def Reg.fields : Reg → List Fld
  | .ATLAS_MRAM_ID => [F.ATLAS_MRAM_ID_ID]
  | .ATLAS_MRAM_STATUS => [F.ATLAS_MRAM_STATUS_PARITY_CNT, F.ATLAS_MRAM_STATUS_IMPORT_BUSY, F.ATLAS_MRAM_STATUS_SCRUB_BUSY, F.ATLAS_MRAM_STATUS_FENCED, F.ATLAS_MRAM_STATUS_TRAINED]
  | .ATLAS_PTIME => [F.ATLAS_PTIME_PTIME]
  | .ATLAS_INT_STATUS => [F.ATLAS_INT_STATUS_EXPORT_DONE, F.ATLAS_INT_STATUS_IMPORT_DONE, F.ATLAS_INT_STATUS_WEAR, F.ATLAS_INT_STATUS_REMAP_LOW, F.ATLAS_INT_STATUS_SCRUB_OVERDUE, F.ATLAS_INT_STATUS_UNCORR, F.ATLAS_INT_STATUS_FENCED, F.ATLAS_INT_STATUS_SPILL_DROP, F.ATLAS_INT_STATUS_STARVED1, F.ATLAS_INT_STATUS_STARVED0]
  | .ATLAS_INT_ENABLE => [F.ATLAS_INT_ENABLE_EN]
  | .ATLAS_ECC_COUNT => [F.ATLAS_ECC_COUNT_UNCORR, F.ATLAS_ECC_COUNT_CORR]
  | .ATLAS_SCRUB_STATUS => [F.ATLAS_SCRUB_STATUS_PASS_COUNT, F.ATLAS_SCRUB_STATUS_NEXT_BLOCK]
  | .ATLAS_SCRUB_AGE => [F.ATLAS_SCRUB_AGE_PASS_AGE]
  | .ATLAS_REMAP_STATUS => [F.ATLAS_REMAP_STATUS_SPARE_LEFT, F.ATLAS_REMAP_STATUS_REMAPPED]
  | .ATLAS_WEAR_MAX => [F.ATLAS_WEAR_MAX_MAX_WRITES]
  | .ATLAS_WEAR_MAX_BLOCK => [F.ATLAS_WEAR_MAX_BLOCK_BLOCK]
  | .ATLAS_SLOT_STATUS => [F.ATLAS_SLOT_STATUS_READY, F.ATLAS_SLOT_STATUS_BEDROCK_VALID, F.ATLAS_SLOT_STATUS_POLICY_PENDING, F.ATLAS_SLOT_STATUS_GEOM_VALID, F.ATLAS_SLOT_STATUS_S_LO, F.ATLAS_SLOT_STATUS_TD0, F.ATLAS_SLOT_STATUS_TQ0, F.ATLAS_SLOT_STATUS_TILES, F.ATLAS_SLOT_STATUS_LC_DISCARD, F.ATLAS_SLOT_STATUS_LC_PENDING, F.ATLAS_SLOT_STATUS_LC_STATE]
  | .ATLAS_LOOKUP_HIT => [F.ATLAS_LOOKUP_HIT_COUNT]
  | .ATLAS_LOOKUP_COARSE => [F.ATLAS_LOOKUP_COARSE_COUNT]
  | .ATLAS_USEQ => [F.ATLAS_USEQ_USEQ]
  | .ATLAS_DRESS_DROP => [F.ATLAS_DRESS_DROP_OUTSIDE, F.ATLAS_DRESS_DROP_RATE, F.ATLAS_DRESS_DROP_UNSTEADY, F.ATLAS_DRESS_DROP_OTHER]
  | .ATLAS_COMMIT_COUNT => [F.ATLAS_COMMIT_COUNT_COUNT]
  | .ATLAS_LOSS_COUNT => [F.ATLAS_LOSS_COUNT_SPILL_DROP, F.ATLAS_LOSS_COUNT_STOP_DISCARD]
  | .ATLAS_SEAM_MAX => [F.ATLAS_SEAM_MAX_SEAM_PSI_Q, F.ATLAS_SEAM_MAX_SEAM_PSI_D]
  | .CE_STATUS => [F.CE_STATUS_PC, F.CE_STATUS_FAULTED, F.CE_STATUS_HALTED, F.CE_STATUS_BRIDGES, F.CE_STATUS_SLOT, F.CE_STATUS_TASK, F.CE_STATUS_LEVEL, F.CE_STATUS_LC_DISCARD, F.CE_STATUS_LC_PENDING, F.CE_STATUS_LC_STATE]
  | .CE_FAULT => [F.CE_FAULT_FAULT_PC, F.CE_FAULT_CODE]
  | .CE_INT_STATUS => [F.CE_INT_STATUS_STOPPED, F.CE_INT_STATUS_LOADED, F.CE_INT_STATUS_EV_OVERRUN, F.CE_INT_STATUS_PUBL_DROP, F.CE_INT_STATUS_MEM_UNCORR, F.CE_INT_STATUS_MEM_CORR, F.CE_INT_STATUS_WATCHDOG, F.CE_INT_STATUS_DEADLINE, F.CE_INT_STATUS_FAULT]
  | .CE_INT_ENABLE => [F.CE_INT_ENABLE_EN]
  | .CE_LOOP_CYCLES => [F.CE_LOOP_CYCLES_MAX, F.CE_LOOP_CYCLES_LAST]
  | .CE_DMEAS => [F.CE_DMEAS_LAST_B, F.CE_DMEAS_LAST_A]
  | .CE_DMEAS_MAX => [F.CE_DMEAS_MAX_MAX_B, F.CE_DMEAS_MAX_MAX_A]
  | .CE_WDG => [F.CE_WDG_MISSES, F.CE_WDG_CONSEC]
  | .CE_ECC_COUNT => [F.CE_ECC_COUNT_UNCORR, F.CE_ECC_COUNT_CORR]
  | .CE_PUBL_DROP => [F.CE_PUBL_DROP_DRESS, F.CE_PUBL_DROP_MONITOR, F.CE_PUBL_DROP_RING, F.CE_PUBL_DROP_PEER]
  | .CE_IMAGE_VERSION => [F.CE_IMAGE_VERSION_VERSION]
  | .CE_DEBUG_CTRL => [F.CE_DEBUG_CTRL_BP_EN, F.CE_DEBUG_CTRL_STEP, F.CE_DEBUG_CTRL_RESUME, F.CE_DEBUG_CTRL_HALT_REQ]
  | .CE_BREAK => [F.CE_BREAK_BP1, F.CE_BREAK_BP0]
  | .CE_DBG_SEL => [F.CE_DBG_SEL_INDEX]
  | .CE_DBG_DATA => [F.CE_DBG_DATA_DATA]
  | .PWM_STATUS => [F.PWM_STATUS_GEN_EFF, F.PWM_STATUS_GEN_OPEN, F.PWM_STATUS_FROZEN, F.PWM_STATUS_SAFE, F.PWM_STATUS_LOCKED, F.PWM_STATUS_TRIP_ACTIVE, F.PWM_STATUS_PENDING, F.PWM_STATUS_LC_DISCARD, F.PWM_STATUS_LC_PENDING, F.PWM_STATUS_LC_STATE]
  | .PWM_COUNTER => [F.PWM_COUNTER_COUNT]
  | .PWM_PERIOD_SEQ => [F.PWM_PERIOD_SEQ_SEQ]
  | .PWM_PERIOD_EFF => [F.PWM_PERIOD_EFF_PERIOD]
  | .PWM_CONFIG => [F.PWM_CONFIG_SYNC_MODE, F.PWM_CONFIG_SYNC_OUT_EN, F.PWM_CONFIG_BOOT_EN, F.PWM_CONFIG_TRIP_CUT, F.PWM_CONFIG_ERR_CARRY, F.PWM_CONFIG_MINP_MODE, F.PWM_CONFIG_LEG_MODE, F.PWM_CONFIG_TORN_POLICY, F.PWM_CONFIG_UPD_MODE]
  | .PWM_MINPULSE => [F.PWM_MINPULSE_MIN_PULSE, F.PWM_MINPULSE_BLANK]
  | .PWM_DEADTIME => [F.PWM_DEADTIME_DT_LH, F.PWM_DEADTIME_DT_HL]
  | .PWM_CMP_EFF => [F.PWM_CMP_EFF_VALUE]
  | .PWM_ERR => [F.PWM_ERR_ERR]
  | .PWM_LS_CMP => [F.PWM_LS_CMP_VALUE]
  | .PWM_INT_STATUS => [F.PWM_INT_STATUS_CAP_OVR, F.PWM_INT_STATUS_TL_SKIP, F.PWM_INT_STATUS_FROZEN, F.PWM_INT_STATUS_UNLOCK, F.PWM_INT_STATUS_ERR_SAT, F.PWM_INT_STATUS_TRIP_ESC, F.PWM_INT_STATUS_TRIP, F.PWM_INT_STATUS_PERIOD_REFUSED, F.PWM_INT_STATUS_GEN_MISMATCH, F.PWM_INT_STATUS_TORN]
  | .PWM_INT_ENABLE => [F.PWM_INT_ENABLE_EN]
  | .PWM_GEN_STATS => [F.PWM_GEN_STATS_TORN, F.PWM_GEN_STATS_MISMATCH, F.PWM_GEN_STATS_SUPERSEDED, F.PWM_GEN_STATS_REFUSED]
  | .PWM_TRIP_STATUS => [F.PWM_TRIP_STATUS_CONSEC, F.PWM_TRIP_STATUS_SRC_CT, F.PWM_TRIP_STATUS_SRC_PIN, F.PWM_TRIP_STATUS_SRC_SAT]
  | .PWM_TRIP_COUNT => [F.PWM_TRIP_COUNT_COUNT]
  | .PWM_SYNC_STATUS => [F.PWM_SYNC_STATUS_PHASE_ERR]
  | .PWM_BOOT_COUNT => [F.PWM_BOOT_COUNT_COUNT]
  | .PWM_DEBUG_CTRL => [F.PWM_DEBUG_CTRL_RELEASE, F.PWM_DEBUG_CTRL_FREEZE]
  | .PWM_TL_TIME => [F.PWM_TL_TIME_EN, F.PWM_TL_TIME_ANCHOR, F.PWM_TL_TIME_FINE, F.PWM_TL_TIME_COUNT]
  | .PWM_TL_ACT => [F.PWM_TL_ACT_TYPE, F.PWM_TL_ACT_EVERY, F.PWM_TL_ACT_PHASE, F.PWM_TL_ACT_ARG]
  | .PWM_CAP_TS_LO => [F.PWM_CAP_TS_LO_TS]
  | .PWM_CAP_TS_HI => [F.PWM_CAP_TS_HI_TS]
  | .PWM_CAP_INFO => [F.PWM_CAP_INFO_VALID, F.PWM_CAP_INFO_OVR, F.PWM_CAP_INFO_SEQ, F.PWM_CAP_INFO_COUNT]
  | .PWM_CAP_POS => [F.PWM_CAP_POS_POS32]
  | .GDS_STATUS => [F.GDS_STATUS_FENCED, F.GDS_STATUS_LINK_UP, F.GDS_STATUS_PARTNER_OFF, F.GDS_STATUS_CROSS_OK, F.GDS_STATUS_GATE_ON, F.GDS_STATUS_DESAT_LATCH, F.GDS_STATUS_UVLO_POS, F.GDS_STATUS_UVLO_NEG, F.GDS_STATUS_RANGE, F.GDS_STATUS_SUPPLY_MODE, F.GDS_STATUS_LOSS_SEEN, F.GDS_STATUS_LOSS_HINT, F.GDS_STATUS_HINT_ACK, F.GDS_STATUS_LC_DISCARD, F.GDS_STATUS_LC_PENDING, F.GDS_STATUS_LC_STATE]
  | .GDS_ID => [F.GDS_ID_ID]
  | .GDS_INT_STATUS => [F.GDS_INT_STATUS_SUPPLY_REG, F.GDS_INT_STATUS_OT, F.GDS_INT_STATUS_FENCED, F.GDS_INT_STATUS_LINK_ERR, F.GDS_INT_STATUS_CROSS_LOSS, F.GDS_INT_STATUS_GATE_STUCK, F.GDS_INT_STATUS_LEG_CONFLICT, F.GDS_INT_STATUS_HS_ESC, F.GDS_INT_STATUS_HS_SKIP, F.GDS_INT_STATUS_UVLO_NEG, F.GDS_INT_STATUS_UVLO_POS, F.GDS_INT_STATUS_DESAT_REPEAT, F.GDS_INT_STATUS_DESAT]
  | .GDS_INT_ENABLE => [F.GDS_INT_ENABLE_EN]
  | .GDS_STRENGTH => [F.GDS_STRENGTH_ON_AT_LIMIT, F.GDS_STRENGTH_OFF_AT_LIMIT, F.GDS_STRENGTH_ON_STR, F.GDS_STRENGTH_OFF_STR]
  | .GDS_TIMING => [F.GDS_TIMING_T_OFF, F.GDS_TIMING_T_ON]
  | .GDS_SENSE => [F.GDS_SENSE_TEMP, F.GDS_SENSE_V_COND]
  | .GDS_RAILS => [F.GDS_RAILS_VCC, F.GDS_RAILS_VEE]
  | .GDS_HS_STATS => [F.GDS_HS_STATS_CONSEC, F.GDS_HS_STATS_PRECHARGE, F.GDS_HS_STATS_SKIPS]
  | .GDS_HS_WAIT => [F.GDS_HS_WAIT_MAX, F.GDS_HS_WAIT_LAST]
  | .GDS_DESAT_STATS => [F.GDS_DESAT_STATS_CONSEC, F.GDS_DESAT_STATS_REFUSED, F.GDS_DESAT_STATS_COUNT]
  | .GDS_LINK_STATS => [F.GDS_LINK_STATS_RX_CRC, F.GDS_LINK_STATS_RX_SEQ, F.GDS_LINK_STATS_FWD_ERR, F.GDS_LINK_STATS_TRAIN]
  | .GDS_CONFIG => [F.GDS_CONFIG_SUPPLY_MODE, F.GDS_CONFIG_CH0_MODE, F.GDS_CONFIG_ADAPT_EN, F.GDS_CONFIG_STEP_MAX]
  | .GDS_TARGET => [F.GDS_TARGET_T_TARGET_OFF, F.GDS_TARGET_T_TARGET_ON]
  | .GDS_DESAT_CFG => [F.GDS_DESAT_CFG_DESAT_TH, F.GDS_DESAT_CFG_DESAT_BLANK]
  | .GDS_HS_CFG => [F.GDS_HS_CFG_HANDSHAKE_TIMEOUT, F.GDS_HS_CFG_SAT_DT_MIN]
  | .ADC_STATUS => [F.ADC_STATUS_REF_OK, F.ADC_STATUS_CONT, F.ADC_STATUS_BUSY]
  | .ADC_INT_STATUS => [F.ADC_INT_STATUS_VDC_MISMATCH, F.ADC_INT_STATUS_REF_FAULT, F.ADC_INT_STATUS_DS_INVALID, F.ADC_INT_STATUS_DS_OVR, F.ADC_INT_STATUS_OFFSET_REJECT, F.ADC_INT_STATUS_ADC_OVR, F.ADC_INT_STATUS_CHECK, F.ADC_INT_STATUS_CT, F.ADC_INT_STATUS_TRIP_CAP, F.ADC_INT_STATUS_SW_DONE]
  | .ADC_INT_ENABLE => [F.ADC_INT_ENABLE_EN]
  | .ADC_SW_START => [F.ADC_SW_START_GO, F.ADC_SW_START_INPUT]
  | .ADC_RESULT => [F.ADC_RESULT_VALID, F.ADC_RESULT_RESTARTED, F.ADC_RESULT_OVERRANGE, F.ADC_RESULT_SOURCE, F.ADC_RESULT_INPUT, F.ADC_RESULT_SEQ, F.ADC_RESULT_VALUE]
  | .ADC_OFFSET => [F.ADC_OFFSET_CAPTURED, F.ADC_OFFSET_OFFSET_EFF]
  | .ADC_STATS => [F.ADC_STATS_RESTARTS, F.ADC_STATS_TL_LATE, F.ADC_STATS_SW_DROP]
  | .ADC_DS_VAL => [F.ADC_DS_VAL_VALID, F.ADC_DS_VAL_OVR, F.ADC_DS_VAL_RANGE, F.ADC_DS_VAL_SEQ, F.ADC_DS_VAL_VALUE]
  | .ADC_SHUNT => [F.ADC_SHUNT_SHUNT2, F.ADC_SHUNT_SHUNT1]
  | .ADC_SHUNT_INFO => [F.ADC_SHUNT_INFO_BITS2, F.ADC_SHUNT_INFO_BITS1, F.ADC_SHUNT_INFO_VALID2, F.ADC_SHUNT_INFO_NEG2, F.ADC_SHUNT_INFO_LEG2, F.ADC_SHUNT_INFO_VALID1, F.ADC_SHUNT_INFO_NEG1, F.ADC_SHUNT_INFO_LEG1]
  | .ADC_CHK_STATUS => [F.ADC_CHK_STATUS_AVAIL, F.ADC_CHK_STATUS_FAULTED, F.ADC_CHK_STATUS_ATTRIB, F.ADC_CHK_STATUS_PHASE, F.ADC_CHK_STATUS_FAIL_CONSEC, F.ADC_CHK_STATUS_PRED_CONSEC, F.ADC_CHK_STATUS_VALID_CONSEC]
  | .ADC_CHK_ERR => [F.ADC_CHK_ERR_ERR_W, F.ADC_CHK_ERR_ERR_V, F.ADC_CHK_ERR_ERR_U]
  | .ADC_TRIP_CAP0 => [F.ADC_TRIP_CAP0_IB, F.ADC_TRIP_CAP0_IA]
  | .ADC_TRIP_CAP1 => [F.ADC_TRIP_CAP1_VALID, F.ADC_TRIP_CAP1_IC]
  | .ADC_CT_STATUS => [F.ADC_CT_STATUS_LATCHED, F.ADC_CT_STATUS_LEVEL]
  | .POS_INT_STATUS => [F.POS_INT_STATUS_DISAGREE, F.POS_INT_STATUS_INDEX_DEV, F.POS_INT_STATUS_PCMP_DONE, F.POS_INT_STATUS_IF_FAULT]
  | .POS_INT_ENABLE => [F.POS_INT_ENABLE_EN]
  | .POS_IF_STATUS => [F.POS_IF_STATUS_POS_VALID, F.POS_IF_STATUS_SPEED_VALID, F.POS_IF_STATUS_DIR, F.POS_IF_STATUS_ALIGNED, F.POS_IF_STATUS_STANDSTILL, F.POS_IF_STATUS_FAULTED, F.POS_IF_STATUS_HIST, F.POS_IF_STATUS_LC_DISCARD, F.POS_IF_STATUS_LC_PENDING, F.POS_IF_STATUS_LC_STATE]
  | .POS_IF_POS => [F.POS_IF_POS_POS32]
  | .POS_IF_SPEED => [F.POS_IF_SPEED_SPEED]
  | .POS_IF_INTERVAL => [F.POS_IF_INTERVAL_INTERVAL]
  | .POS_RSV_DIAG => [F.POS_RSV_DIAG_AMP, F.POS_RSV_DIAG_LAG]
  | .POS_RSV_TRACK => [F.POS_RSV_TRACK_MAX, F.POS_RSV_TRACK_LAST]
  | .POS_ENC_DIAG => [F.POS_ENC_DIAG_DEV, F.POS_ENC_DIAG_CONSEC, F.POS_ENC_DIAG_MISSING, F.POS_ENC_DIAG_QUAD_ERR]
  | .POS_ENC_COUNT => [F.POS_ENC_COUNT_COUNT]
  | .POS_HALL_DIAG => [F.POS_HALL_DIAG_INVALID, F.POS_HALL_DIAG_SEQ_ERR, F.POS_HALL_DIAG_STATE]
  | .POS_SER_DIAG => [F.POS_SER_DIAG_BAD, F.POS_SER_DIAG_CONSEC, F.POS_SER_DIAG_ENC_ERR]
  | .POS_SER_RAW => [F.POS_SER_RAW_RAW]
  | .POS_PCMP_STATUS => [F.POS_PCMP_STATUS_FIRED, F.POS_PCMP_STATUS_MERGED, F.POS_PCMP_STATUS_ACTIVE, F.POS_PCMP_STATUS_DONE, F.POS_PCMP_STATUS_LAST]
  | .POS_PCMP_LC => [F.POS_PCMP_LC_LC_DISCARD, F.POS_PCMP_LC_LC_PENDING, F.POS_PCMP_LC_LC_STATE]
  | .POS_CHECK => [F.POS_CHECK_CONSEC, F.POS_CHECK_DIFF]
  | .SAFETY_STATUS => [F.SAFETY_STATUS_SELFTEST_OK, F.SAFETY_STATUS_LOCKSTEP_BROKEN, F.SAFETY_STATUS_BENCH, F.SAFETY_STATUS_LATCHED, F.SAFETY_STATUS_FAULT_N, F.SAFETY_STATUS_DCHG_OUT, F.SAFETY_STATUS_SP1_OK, F.SAFETY_STATUS_SP0_OK, F.SAFETY_STATUS_STO_TEST, F.SAFETY_STATUS_TORQUE_EN, F.SAFETY_STATUS_ACTIVE_SAFE, F.SAFETY_STATUS_ACTIVE_DERATE]
  | .SAFETY_INT_STATUS => [F.SAFETY_INT_STATUS_RESET_REFUSED, F.SAFETY_INT_STATUS_RESET_ACCEPTED, F.SAFETY_INT_STATUS_LOCKSTEP, F.SAFETY_INT_STATUS_DEBUG_GUARD, F.SAFETY_INT_STATUS_DCHG_FAIL, F.SAFETY_INT_STATUS_DCHG_DONE, F.SAFETY_INT_STATUS_STO_TEST_DONE, F.SAFETY_INT_STATUS_STO_CHANGE, F.SAFETY_INT_STATUS_LATCH, F.SAFETY_INT_STATUS_SAFE, F.SAFETY_INT_STATUS_DERATE, F.SAFETY_INT_STATUS_WARN]
  | .SAFETY_INT_ENABLE => [F.SAFETY_INT_ENABLE_EN]
  | .SAFETY_STO => [F.SAFETY_STO_A_ASSERTED, F.SAFETY_STO_B_ASSERTED, F.SAFETY_STO_PATH_A_OK, F.SAFETY_STO_PATH_B_OK, F.SAFETY_STO_DISC_MS]
  | .SAFETY_LOCKSTEP => [F.SAFETY_LOCKSTEP_SP1_GROUPS, F.SAFETY_LOCKSTEP_SP0_GROUPS, F.SAFETY_LOCKSTEP_LAST_GROUP, F.SAFETY_LOCKSTEP_BROKEN_SP1, F.SAFETY_LOCKSTEP_BROKEN_SP0, F.SAFETY_LOCKSTEP_MISMATCH_SP1, F.SAFETY_LOCKSTEP_MISMATCH_SP0]
  | .SAFETY_LATCH => [F.SAFETY_LATCH_COUNT, F.SAFETY_LATCH_CODE]
  | .SAFETY_RESET_COUNT => [F.SAFETY_RESET_COUNT_COUNT]
  | .SAFETY_BRIDGE => [F.SAFETY_BRIDGE_STATE, F.SAFETY_BRIDGE_CHOICE, F.SAFETY_BRIDGE_FORCED, F.SAFETY_BRIDGE_LOCKED_HINT, F.SAFETY_BRIDGE_OVERVOLT, F.SAFETY_BRIDGE_SPEED_SRC, F.SAFETY_BRIDGE_REQ]
  | .SAFETY_DCHG => [F.SAFETY_DCHG_METHOD, F.SAFETY_DCHG_BACKUP, F.SAFETY_DCHG_BRIDGES, F.SAFETY_DCHG_ELAPSED, F.SAFETY_DCHG_LC_DISCARD, F.SAFETY_DCHG_LC_PENDING, F.SAFETY_DCHG_LC_STATE]
  | .SAFETY_DEBUG_GUARD => [F.SAFETY_DEBUG_GUARD_COUNT, F.SAFETY_DEBUG_GUARD_TARGET, F.SAFETY_DEBUG_GUARD_DELAY]
  | .SAFETY_SLOT => [F.SAFETY_SLOT_TORQUE_EN, F.SAFETY_SLOT_MON_ON, F.SAFETY_SLOT_SOURCE, F.SAFETY_SLOT_COARSE_PEN, F.SAFETY_SLOT_MARGIN, F.SAFETY_SLOT_REFUSE]
  | .SAFETY_MON_ERR => [F.SAFETY_MON_ERR_E_EST, F.SAFETY_MON_ERR_E_TRACK]
  | .SAFETY_MON_ALLOW => [F.SAFETY_MON_ALLOW_A_T, F.SAFETY_MON_ALLOW_ALLOW]
  | .SAFETY_MON_TMON => [F.SAFETY_MON_TMON_T_MON]
  | .SAFETY_MON_CNT => [F.SAFETY_MON_CNT_PWR, F.SAFETY_MON_CNT_REF, F.SAFETY_MON_CNT_EST, F.SAFETY_MON_CNT_TRACK]
  | .DERRICK_HOST => [F.DERRICK_HOST_PCIE_LOST, F.DERRICK_HOST_PCIE_PRESENT, F.DERRICK_HOST_LOCAL_LOST, F.DERRICK_HOST_LOCAL_PRESENT]
  | .DERRICK_INT_STATUS => [F.DERRICK_INT_STATUS_DROP, F.DERRICK_INT_STATUS_RING_FAULT, F.DERRICK_INT_STATUS_PCIE_ATTACH, F.DERRICK_INT_STATUS_PCIE_LOST, F.DERRICK_INT_STATUS_LOCAL_LOST, F.DERRICK_INT_STATUS_ACCESS]
  | .DERRICK_INT_ENABLE => [F.DERRICK_INT_ENABLE_EN]
  | .DERRICK_HB => [F.DERRICK_HB_AGE]
  | .DERRICK_RP_BIND => [F.DERRICK_RP_BIND_HOST, F.DERRICK_RP_BIND_DRIVE, F.DERRICK_RP_BIND_ROLE, F.DERRICK_RP_BIND_CLASS]
  | .DERRICK_RP_BASE_LO => [F.DERRICK_RP_BASE_LO_ADDR]
  | .DERRICK_RP_BASE_HI => [F.DERRICK_RP_BASE_HI_ADDR]
  | .DERRICK_RP_CFG => [F.DERRICK_RP_CFG_VECTOR, F.DERRICK_RP_CFG_IRQ_TIME, F.DERRICK_RP_CFG_IRQ_CNT, F.DERRICK_RP_CFG_LOG2_SIZE]
  | .DERRICK_RP_CTRL => [F.DERRICK_RP_CTRL_DISABLE, F.DERRICK_RP_CTRL_ENABLE]
  | .DERRICK_RP_STATUS => [F.DERRICK_RP_STATUS_SQ_HEAD, F.DERRICK_RP_STATUS_SESSION, F.DERRICK_RP_STATUS_PHASE, F.DERRICK_RP_STATUS_LC_DISCARD, F.DERRICK_RP_STATUS_LC_PENDING, F.DERRICK_RP_STATUS_LC_STATE]
  | .DERRICK_RP_STATS => [F.DERRICK_RP_STATS_DROP, F.DERRICK_RP_STATS_REFUSED]
  | .DERRICK_RP_ERR => [F.DERRICK_RP_ERR_CAUSE]
  | .DERRICK_DB_SQ => [F.DERRICK_DB_SQ_TAIL]
  | .DERRICK_DB_CQ => [F.DERRICK_DB_CQ_HEAD]
  | .PCIE_CTRL => [F.PCIE_CTRL_LINK_EN]
  | .PCIE_STATUS => [F.PCIE_STATUS_BME, F.PCIE_STATUS_MEM_EN, F.PCIE_STATUS_D_STATE, F.PCIE_STATUS_DL_ACTIVE, F.PCIE_STATUS_WIDTH, F.PCIE_STATUS_SPEED]
  | .PCIE_INT_STATUS => [F.PCIE_INT_STATUS_AER_CORR, F.PCIE_INT_STATUS_AER_UNCORR, F.PCIE_INT_STATUS_BME_CLEARED, F.PCIE_INT_STATUS_SURPRISE, F.PCIE_INT_STATUS_LINK_DOWN, F.PCIE_INT_STATUS_LINK_UP]
  | .PCIE_INT_ENABLE => [F.PCIE_INT_ENABLE_EN]
  | .PCIE_IDS => [F.PCIE_IDS_DEVICE_ID, F.PCIE_IDS_VENDOR_ID]
  | .PCIE_ERR_COUNT => [F.PCIE_ERR_COUNT_LINK_DOWNS, F.PCIE_ERR_COUNT_AER_UNCORR, F.PCIE_ERR_COUNT_AER_CORR]
  | .PROT_STATUS => [F.PROT_STATUS_BOOTLOCK, F.PROT_STATUS_BOOT_SLOT, F.PROT_STATUS_FALLBACK, F.PROT_STATUS_RECOVERY, F.PROT_STATUS_LIFECYCLE, F.PROT_STATUS_LOCK_VIOLATION, F.PROT_STATUS_CONFIRMED, F.PROT_STATUS_IMMOBILISED, F.PROT_STATUS_TOKEN_HELD]
  | .PROT_BOOTLOCK => [F.PROT_BOOTLOCK_LOCK]
  | .PROT_UID => [F.PROT_UID_UID]
  | .PROT_CERT_LEN => [F.PROT_CERT_LEN_LEN]
  | .PROT_ROLLBACK => [F.PROT_ROLLBACK_COUNT]
  | .PROT_FW_VERSION => [F.PROT_FW_VERSION_VERSION]
  | .PROT_BOOT_CONFIRM => [F.PROT_BOOT_CONFIRM_CONFIRM]
  | .PROT_INT_STATUS => [F.PROT_INT_STATUS_AUDIT, F.PROT_INT_STATUS_TOKEN, F.PROT_INT_STATUS_AUTH, F.PROT_INT_STATUS_MPU, F.PROT_INT_STATUS_LOCKED_WRITE, F.PROT_INT_STATUS_FW_UPDATE]
  | .PROT_INT_ENABLE => [F.PROT_INT_ENABLE_EN]
  | .PROT_DEBUG_POLICY => [F.PROT_DEBUG_POLICY_DAP_EN, F.PROT_DEBUG_POLICY_SAFETY_HALT, F.PROT_DEBUG_POLICY_MEM, F.PROT_DEBUG_POLICY_PWM_FREEZE, F.PROT_DEBUG_POLICY_APP_HALT, F.PROT_DEBUG_POLICY_CE_HALT]
  | .PROT_DEBUG_STATUS => [F.PROT_DEBUG_STATUS_DAP_CONNECTED, F.PROT_DEBUG_STATUS_OPEN]
  | .PROT_LOCK_VIOL_ADDR => [F.PROT_LOCK_VIOL_ADDR_ADDR]
  | .PROT_LOCK_VIOL_INFO => [F.PROT_LOCK_VIOL_INFO_COUNT, F.PROT_LOCK_VIOL_INFO_MASTER]
  | .PROT_MPU_FAULT_ADDR => [F.PROT_MPU_FAULT_ADDR_ADDR]
  | .PROT_MPU_FAULT_INFO => [F.PROT_MPU_FAULT_INFO_MASTER, F.PROT_MPU_FAULT_INFO_COUNT, F.PROT_MPU_FAULT_INFO_ACCESS]
  | .PROT_MPU_CTRL => [F.PROT_MPU_CTRL_VALID]
  | .PROT_MPU_RBASE => [F.PROT_MPU_RBASE_BASE, F.PROT_MPU_RBASE_EN, F.PROT_MPU_RBASE_X, F.PROT_MPU_RBASE_W, F.PROT_MPU_RBASE_R]
  | .PROT_MPU_RLIMIT => [F.PROT_MPU_RLIMIT_LIMIT]
  | .SYSCTL_DIE_ID => [F.SYSCTL_DIE_ID_ID]
  | .SYSCTL_RESET_CAUSE => [F.SYSCTL_RESET_CAUSE_PKG_COUNT, F.SYSCTL_RESET_CAUSE_MULTI, F.SYSCTL_RESET_CAUSE_PREV_CAUSE, F.SYSCTL_RESET_CAUSE_CAUSE]
  | .SYSCTL_RESET_INFO => [F.SYSCTL_RESET_INFO_FAULT, F.SYSCTL_RESET_INFO_DOMAIN]
  | .SYSCTL_RESET_REQ => [F.SYSCTL_RESET_REQ_KEY, F.SYSCTL_RESET_REQ_GO]
  | .SYSCTL_PWR_MODE => [F.SYSCTL_PWR_MODE_PRESENT, F.SYSCTL_PWR_MODE_REFUSE, F.SYSCTL_PWR_MODE_REQUEST]
  | .SYSCTL_PD_ON => [F.SYSCTL_PD_ON_ENABLE]
  | .SYSCTL_PD_OFF => [F.SYSCTL_PD_OFF_DISABLE]
  | .SYSCTL_CLK_STATUS => [F.SYSCTL_CLK_STATUS_PLL_LOCK, F.SYSCTL_CLK_STATUS_CLK_LOSS, F.SYSCTL_CLK_STATUS_COAST, F.SYSCTL_CLK_STATUS_RAMP_BUSY, F.SYSCTL_CLK_STATUS_RAMP_STEP, F.SYSCTL_CLK_STATUS_REF_COUNT, F.SYSCTL_CLK_STATUS_ON_PLL]
  | .SYSCTL_SUPPLY_STATUS => [F.SYSCTL_SUPPLY_STATUS_WAKE_OUT, F.SYSCTL_SUPPLY_STATUS_AON, F.SYSCTL_SUPPLY_STATUS_IO, F.SYSCTL_SUPPLY_STATUS_V18, F.SYSCTL_SUPPLY_STATUS_CORE]
  | .SYSCTL_INT_STATUS => [F.SYSCTL_INT_STATUS_LPO_TRIM, F.SYSCTL_INT_STATUS_MODE_REFUSED, F.SYSCTL_INT_STATUS_GATE_REFUSED, F.SYSCTL_INT_STATUS_SUPPLY_FAULT, F.SYSCTL_INT_STATUS_SUPPLY_WARN, F.SYSCTL_INT_STATUS_CLK_RESTORED, F.SYSCTL_INT_STATUS_CLK_LOSS, F.SYSCTL_INT_STATUS_DOMAIN_FAULT, F.SYSCTL_INT_STATUS_DOMAIN_DONE]
  | .SYSCTL_INT_ENABLE => [F.SYSCTL_INT_ENABLE_EN]
  | .SYSCTL_WDT_CTRL => [F.SYSCTL_WDT_CTRL_EN, F.SYSCTL_WDT_CTRL_TIMEOUT]
  | .SYSCTL_WDT_KICK => [F.SYSCTL_WDT_KICK_KEY]
  | .SYSCTL_PD_STATUS => [F.SYSCTL_PD_STATUS_POWERED, F.SYSCTL_PD_STATUS_CLAMPED, F.SYSCTL_PD_STATUS_IN_RESET, F.SYSCTL_PD_STATUS_SUPPLY_OK, F.SYSCTL_PD_STATUS_LAST_RST, F.SYSCTL_PD_STATUS_RST_COUNT, F.SYSCTL_PD_STATUS_LC_DISCARD, F.SYSCTL_PD_STATUS_LC_PENDING, F.SYSCTL_PD_STATUS_LC_STATE]
  | .SYSCTL_CG_RUN => [F.SYSCTL_CG_RUN_EN]
  | .SYSCTL_CG_SLEEP => [F.SYSCTL_CG_SLEEP_EN]
  | .SYSCTL_CG_DSLEEP => [F.SYSCTL_CG_DSLEEP_SN]
  | .SYSCTL_RET_BANKS => [F.SYSCTL_RET_BANKS_BANK]
  | .CAN_STATUS => [F.CAN_STATUS_BUS_OFF, F.CAN_STATUS_ERR_PASSIVE, F.CAN_STATUS_SUSPENDED, F.CAN_STATUS_INTEGRATING, F.CAN_STATUS_SCHED, F.CAN_STATUS_MODE, F.CAN_STATUS_DECODER, F.CAN_STATUS_LC_DISCARD, F.CAN_STATUS_LC_PENDING, F.CAN_STATUS_LC_STATE]
  | .CAN_ERR_COUNT => [F.CAN_ERR_COUNT_TEC, F.CAN_ERR_COUNT_REC]
  | .CAN_INT_STATUS => [F.CAN_INT_STATUS_AQ, F.CAN_INT_STATUS_SLOT_MISSED, F.CAN_INT_STATUS_LOST, F.CAN_INT_STATUS_RX, F.CAN_INT_STATUS_TX_DONE, F.CAN_INT_STATUS_ERR_PASSIVE, F.CAN_INT_STATUS_BUS_OFF]
  | .CAN_INT_ENABLE => [F.CAN_INT_ENABLE_EN]
  | .CAN_BT_NOM => [F.CAN_BT_NOM_BRP, F.CAN_BT_NOM_TSEG1, F.CAN_BT_NOM_TSEG2, F.CAN_BT_NOM_SJW]
  | .CAN_BT_DATA => [F.CAN_BT_DATA_BRP, F.CAN_BT_DATA_TSEG1, F.CAN_BT_DATA_TSEG2, F.CAN_BT_DATA_SJW]
  | .CAN_TDC => [F.CAN_TDC_EN, F.CAN_TDC_SAT, F.CAN_TDC_TDCV, F.CAN_TDC_TDCO]
  | .CAN_STATS => [F.CAN_STATS_BUS_OFFS, F.CAN_STATS_PROTOCOL_EXC, F.CAN_STATS_ERRORS]
  | .CAN_SCHED_STATUS => [F.CAN_SCHED_STATUS_CYCLE, F.CAN_SCHED_STATUS_SLOT, F.CAN_SCHED_STATUS_MISSED]
  | .CAN_RXO_STATUS => [F.CAN_RXO_STATUS_NEW, F.CAN_RXO_STATUS_LOST, F.CAN_RXO_STATUS_FDF, F.CAN_RXO_STATUS_BRS, F.CAN_RXO_STATUS_ESI, F.CAN_RXO_STATUS_LEN, F.CAN_RXO_STATUS_COUNT]
  | .CAN_RXO_DATA => [F.CAN_RXO_DATA_DATA]
  | .CAN_AQ_STATUS => [F.CAN_AQ_STATUS_ACTIVE, F.CAN_AQ_STATUS_TIMED_OUT, F.CAN_AQ_STATUS_UNCHECKED, F.CAN_AQ_STATUS_DUAL_OK, F.CAN_AQ_STATUS_REFUSED, F.CAN_AQ_STATUS_LAST_SEQ]
  | .CAN_AQ_STATS => [F.CAN_AQ_STATS_CRC, F.CAN_AQ_STATS_CONN, F.CAN_AQ_STATS_SEQ, F.CAN_AQ_STATS_TIME]
  | .CAN_AQ_STATS2 => [F.CAN_AQ_STATS2_GAPS, F.CAN_AQ_STATS2_DUAL_MISMATCH, F.CAN_AQ_STATS2_DUAL_MISSING]
  | .TIME_STATUS => [F.TIME_STATUS_STATE, F.TIME_STATUS_COASTED, F.TIME_STATUS_LPO_RUN, F.TIME_STATUS_JUMP_PENDING, F.TIME_STATUS_AS_CAPABLE, F.TIME_STATUS_GM_KNOWN, F.TIME_STATUS_LINK_UP, F.TIME_STATUS_STEP_COUNT]
  | .TIME_NOW_NS => [F.TIME_NOW_NS_NS]
  | .TIME_NOW_SEC_LO => [F.TIME_NOW_SEC_LO_SEC]
  | .TIME_NOW_SEC_HI => [F.TIME_NOW_SEC_HI_FRAC, F.TIME_NOW_SEC_HI_SEC]
  | .TIME_INT_STATUS => [F.TIME_INT_STATUS_SYNC_LINK_LOST, F.TIME_INT_STATUS_PEER_SAFE, F.TIME_INT_STATUS_CAP_OVR, F.TIME_INT_STATUS_CAP, F.TIME_INT_STATUS_TPO_LATE, F.TIME_INT_STATUS_LINK, F.TIME_INT_STATUS_GM_CHANGED, F.TIME_INT_STATUS_STEPPED, F.TIME_INT_STATUS_JUMP_REFUSED, F.TIME_INT_STATUS_SYNC_LOST, F.TIME_INT_STATUS_SYNCED]
  | .TIME_INT_ENABLE => [F.TIME_INT_ENABLE_EN]
  | .TIME_FREQ_ADJ => [F.TIME_FREQ_ADJ_ADJ]
  | .TIME_OFFSET => [F.TIME_OFFSET_O]
  | .TIME_LINK_DELAY => [F.TIME_LINK_DELAY_DELAY]
  | .TIME_JUMP_SEQ => [F.TIME_JUMP_SEQ_SEQ]
  | .TIME_JUMP_OFFSET => [F.TIME_JUMP_OFFSET_O]
  | .TIME_GM_ID_LO => [F.TIME_GM_ID_LO_ID]
  | .TIME_GM_ID_HI => [F.TIME_GM_ID_HI_ID]
  | .TIME_PEER => [F.TIME_PEER_SAFE, F.TIME_PEER_SENDING, F.TIME_PEER_LOSSES]
  | .TIME_TPO_START_LO => [F.TIME_TPO_START_LO_START]
  | .TIME_TPO_START_HI => [F.TIME_TPO_START_HI_START]
  | .TIME_TPO_PERIOD => [F.TIME_TPO_PERIOD_PERIOD]
  | .TIME_TPO_CTRL => [F.TIME_TPO_CTRL_ARM, F.TIME_TPO_CTRL_DISARM, F.TIME_TPO_CTRL_ARM_ERR, F.TIME_TPO_CTRL_LATE, F.TIME_TPO_CTRL_SKIP, F.TIME_TPO_CTRL_WIDTH]
  | .TIME_EVCAP_TS_LO => [F.TIME_EVCAP_TS_LO_TS]
  | .TIME_EVCAP_TS_HI => [F.TIME_EVCAP_TS_HI_TS]
  | .TIME_EVCAP_INFO => [F.TIME_EVCAP_INFO_VALID, F.TIME_EVCAP_INFO_OVR, F.TIME_EVCAP_INFO_COAST, F.TIME_EVCAP_INFO_EDGE, F.TIME_EVCAP_INFO_STEP, F.TIME_EVCAP_INFO_FILL]
  | .ETH_STATUS => [F.ETH_STATUS_LINK_UP, F.ETH_STATUS_SPEED, F.ETH_STATUS_IF]
  | .ETH_RX_STATS => [F.ETH_RX_STATS_FRAMES, F.ETH_RX_STATS_FCS, F.ETH_RX_STATS_LENGTH]
  | .ETH_TX_STATS => [F.ETH_TX_STATS_FRAMES, F.ETH_TX_STATS_ABORTED]
  | .ETH_MDIO => [F.ETH_MDIO_GO, F.ETH_MDIO_CL45, F.ETH_MDIO_OP, F.ETH_MDIO_PHYAD, F.ETH_MDIO_REGAD, F.ETH_MDIO_DATA]
  | .SENTINEL_STATUS => [F.SENTINEL_STATUS_RUNNING, F.SENTINEL_STATUS_IMAGE_OK, F.SENTINEL_STATUS_PARK, F.SENTINEL_STATUS_POS_PINS, F.SENTINEL_STATUS_CAN_PIN, F.SENTINEL_STATUS_ROTATION, F.SENTINEL_STATUS_FIRED]
  | .SENTINEL_INT_STATUS => [F.SENTINEL_INT_STATUS_HANG, F.SENTINEL_INT_STATUS_SENSOR, F.SENTINEL_INT_STATUS_PARK, F.SENTINEL_INT_STATUS_WAKE]
  | .SENTINEL_INT_ENABLE => [F.SENTINEL_INT_ENABLE_EN]
  | .SENTINEL_ANALOG => [F.SENTINEL_ANALOG_VBAT]
  | .SENTINEL_NTC => [F.SENTINEL_NTC_NTC1, F.SENTINEL_NTC_NTC0]
  | .SENTINEL_ROT => [F.SENTINEL_ROT_RUN, F.SENTINEL_ROT_HALL, F.SENTINEL_ROT_COUNT]
  | .SENTINEL_WAKE_INFO => [F.SENTINEL_WAKE_INFO_RULE, F.SENTINEL_WAKE_INFO_SOURCE, F.SENTINEL_WAKE_INFO_ACTIONS, F.SENTINEL_WAKE_INFO_DOMAINS]
  | .SENTINEL_CANWAKE => [F.SENTINEL_CANWAKE_ERR, F.SENTINEL_CANWAKE_MATCHED, F.SENTINEL_CANWAKE_FRAMES]
  | .SENTINEL_RULE => [F.SENTINEL_RULE_HOLDING, F.SENTINEL_RULE_FIRES, F.SENTINEL_RULE_LC_DISCARD, F.SENTINEL_RULE_LC_PENDING, F.SENTINEL_RULE_LC_STATE]
  | .MEMCTL_STATUS => [F.MEMCTL_STATUS_MARCH_BUSY, F.MEMCTL_STATUS_FIXED]
  | .MEMCTL_INT_STATUS => [F.MEMCTL_INT_STATUS_RET_LOSS, F.MEMCTL_INT_STATUS_SCRUB_LATE, F.MEMCTL_INT_STATUS_MARCH_DONE, F.MEMCTL_INT_STATUS_MARCH_FAIL, F.MEMCTL_INT_STATUS_UNCORR, F.MEMCTL_INT_STATUS_CORR]
  | .MEMCTL_INT_ENABLE => [F.MEMCTL_INT_ENABLE_EN]
  | .MEMCTL_ECC_COUNT => [F.MEMCTL_ECC_COUNT_UNCORR, F.MEMCTL_ECC_COUNT_CORR]
  | .MEMCTL_ERR_ADDR => [F.MEMCTL_ERR_ADDR_ADDR]
  | .MEMCTL_ERR_INFO => [F.MEMCTL_ERR_INFO_UNCORR, F.MEMCTL_ERR_INFO_MEM, F.MEMCTL_ERR_INFO_SYNDROME, F.MEMCTL_ERR_INFO_MASTER]
  | .MEMCTL_MARCH_CTRL => [F.MEMCTL_MARCH_CTRL_GO, F.MEMCTL_MARCH_CTRL_ABORT, F.MEMCTL_MARCH_CTRL_MEM]
  | .MEMCTL_MARCH_BANKS => [F.MEMCTL_MARCH_BANKS_BANKS]
  | .MEMCTL_MARCH_STATUS => [F.MEMCTL_MARCH_STATUS_PASS, F.MEMCTL_MARCH_STATUS_FAIL, F.MEMCTL_MARCH_STATUS_ABORTED, F.MEMCTL_MARCH_STATUS_REFUSED, F.MEMCTL_MARCH_STATUS_BANK, F.MEMCTL_MARCH_STATUS_PREEMPT, F.MEMCTL_MARCH_STATUS_SEG]
  | .MEMCTL_MARCH_FAIL_ADDR => [F.MEMCTL_MARCH_FAIL_ADDR_ADDR]
  | .MEMCTL_SCRUB_STATUS => [F.MEMCTL_SCRUB_STATUS_PASSES, F.MEMCTL_SCRUB_STATUS_AGE]
  | .MEMCTL_CONF_SEL => [F.MEMCTL_CONF_SEL_ARB]
  | .MEMCTL_FIXED_STALLS => [F.MEMCTL_FIXED_STALLS_COUNT]
  | .MEMCTL_RET_STATUS => [F.MEMCTL_RET_STATUS_LOST, F.MEMCTL_RET_STATUS_KEPT]
  | .MEMCTL_CONF_CNT => [F.MEMCTL_CONF_CNT_COUNT]
  | .HKEEP_STATUS => [F.HKEEP_STATUS_RUNNING, F.HKEEP_STATUS_LATE, F.HKEEP_STATUS_ROUND]
  | .HKEEP_INT_STATUS => [F.HKEEP_INT_STATUS_PLAUS, F.HKEEP_INT_STATUS_ROUND_LATE, F.HKEEP_INT_STATUS_MRAM_HOT, F.HKEEP_INT_STATUS_DIE_OT, F.HKEEP_INT_STATUS_DIE_HOT, F.HKEEP_INT_STATUS_GROUP_LOST, F.HKEEP_INT_STATUS_BROKEN]
  | .HKEEP_INT_ENABLE => [F.HKEEP_INT_ENABLE_EN]
  | .HKEEP_BROKEN_LO => [F.HKEEP_BROKEN_LO_SENSOR]
  | .HKEEP_BROKEN_HI => [F.HKEEP_BROKEN_HI_SENSOR]
  | .HKEEP_TEMP => [F.HKEEP_TEMP_VALID, F.HKEEP_TEMP_BROKEN, F.HKEEP_TEMP_REPLACED, F.HKEEP_TEMP_UNCHECKED, F.HKEEP_TEMP_DEV_RUN, F.HKEEP_TEMP_TEMP]
  | .HKEEP_CH => [F.HKEEP_CH_VALID, F.HKEEP_CH_CODE]
  | .HKEEP_SUPPLY => [F.HKEEP_SUPPLY_VALID, F.HKEEP_SUPPLY_MV]
  | .HKEEP_VDC => [F.HKEEP_VDC_VALID, F.HKEEP_VDC_MV]
  | .HKEEP_TMAG => [F.HKEEP_TMAG_VALID, F.HKEEP_TMAG_TEMP]
  | .HKEEP_LPO_TRIM => [F.HKEEP_LPO_TRIM_CODE]
  | .HKEEP_ADC_GAIN => [F.HKEEP_ADC_GAIN_CORR]

/-- Reset value of a register (captions of the register tables). `SYSCTL.DIE_ID` is fused: a constant of Config. -/
def Reg.resetVal (r : Reg) (i : Nat) : BitVec 32 :=
  match r with
  | .SYSCTL_DIE_ID => Config.dieIdControl
  | .SYSCTL_PD_STATUS => if i = 0 then 0x90000002#32 else 0#32
  | .SYSCTL_CG_RUN => if i = 2 then 0x0000000F#32 else 0xFFFFFFFF#32
  | .SYSCTL_CG_SLEEP => if i = 2 then 0x0000000F#32 else 0xFFFFFFFF#32
  | .ATLAS_REMAP_STATUS => 0x10000000#32
  | .PWM_PERIOD_EFF => 0x00004E20#32
  | .PWM_CONFIG => 0x00000040#32
  | .PWM_MINPULSE => 0x06400140#32
  | .PWM_DEADTIME => 0x0C800C80#32
  | .PWM_CMP_EFF => 0x007FFFFF#32
  | .PWM_LS_CMP => 0x007FFFFF#32
  | .GDS_STRENGTH => 0x00001010#32
  | .GDS_CONFIG => 0x00000900#32
  | .GDS_TARGET => 0x00280028#32
  | .GDS_DESAT_CFG => 0x1B580190#32
  | .GDS_HS_CFG => 0x00C80028#32
  | .DERRICK_RP_CFG => 0x00000004#32
  | .SYSCTL_RESET_CAUSE => 0x00000001#32
  | .SYSCTL_CG_DSLEEP => 0x00004000#32
  | .MEMCTL_STATUS => 0x00001FFF#32
  | _ => 0#32

/-- Power domain of a register instance (captions; R54 for the CE and GDS windows). -/
def Reg.domain (r : Reg) (i : Nat) : Nat :=
  match r.geom.blk with
  | .SYSCTL => 0 | .SENTINEL => 0
  | .SAFETY => 1
  | .CE => if i < 4 then 3 else 4
  | .ATLAS => 5
  | .PROT => 6 | .DERRICK => 6 | .MEMCTL => 6
  | .PWM => 7 | .POS => 7
  | .ADC => 8 | .HKEEP => 8
  | .CAN => 9 | .TIME => 9 | .ETH => 9 | .PCIE => 9
  | .GDS => if i < 6 then 10 else 11

/-- The register instance at an address, for one register. -/
def Reg.at? (r : Reg) (addr : Nat) : Option RKey :=
  let g := r.geom
  if addr < g.addr then none
  else
    let d := addr - g.addr
    let i := if g.s1 = 0 then 0 else d / g.s1
    let e := if g.s1 = 0 then d else d % g.s1
    let j := if g.s2 = 0 then 0 else e / g.s2
    let f := if g.s2 = 0 then e else e % g.s2
    if f = 0 ∧ i < g.n1 ∧ j < g.n2 then some ⟨r, i, j⟩ else none

/-- All registers, block by block. -/
def regsOfSYSCTL : List Reg :=
  [.SYSCTL_DIE_ID, .SYSCTL_RESET_CAUSE, .SYSCTL_RESET_INFO, .SYSCTL_RESET_REQ, .SYSCTL_PWR_MODE, .SYSCTL_PD_ON, .SYSCTL_PD_OFF, .SYSCTL_CLK_STATUS, .SYSCTL_SUPPLY_STATUS, .SYSCTL_INT_STATUS, .SYSCTL_INT_ENABLE, .SYSCTL_WDT_CTRL, .SYSCTL_WDT_KICK, .SYSCTL_PD_STATUS, .SYSCTL_CG_RUN, .SYSCTL_CG_SLEEP, .SYSCTL_CG_DSLEEP, .SYSCTL_RET_BANKS]
def regsOfPROT : List Reg :=
  [.PROT_STATUS, .PROT_BOOTLOCK, .PROT_UID, .PROT_CERT_LEN, .PROT_ROLLBACK, .PROT_FW_VERSION, .PROT_BOOT_CONFIRM, .PROT_INT_STATUS, .PROT_INT_ENABLE, .PROT_DEBUG_POLICY, .PROT_DEBUG_STATUS, .PROT_LOCK_VIOL_ADDR, .PROT_LOCK_VIOL_INFO, .PROT_MPU_FAULT_ADDR, .PROT_MPU_FAULT_INFO, .PROT_MPU_CTRL, .PROT_MPU_RBASE, .PROT_MPU_RLIMIT]
def regsOfDERRICK : List Reg :=
  [.DERRICK_HOST, .DERRICK_INT_STATUS, .DERRICK_INT_ENABLE, .DERRICK_HB, .DERRICK_RP_BIND, .DERRICK_RP_BASE_LO, .DERRICK_RP_BASE_HI, .DERRICK_RP_CFG, .DERRICK_RP_CTRL, .DERRICK_RP_STATUS, .DERRICK_RP_STATS, .DERRICK_RP_ERR, .DERRICK_DB_SQ, .DERRICK_DB_CQ]
def regsOfCE : List Reg :=
  [.CE_STATUS, .CE_FAULT, .CE_INT_STATUS, .CE_INT_ENABLE, .CE_LOOP_CYCLES, .CE_DMEAS, .CE_DMEAS_MAX, .CE_WDG, .CE_ECC_COUNT, .CE_PUBL_DROP, .CE_IMAGE_VERSION, .CE_DEBUG_CTRL, .CE_BREAK, .CE_DBG_SEL, .CE_DBG_DATA]
def regsOfATLAS : List Reg :=
  [.ATLAS_MRAM_ID, .ATLAS_MRAM_STATUS, .ATLAS_PTIME, .ATLAS_INT_STATUS, .ATLAS_INT_ENABLE, .ATLAS_ECC_COUNT, .ATLAS_SCRUB_STATUS, .ATLAS_SCRUB_AGE, .ATLAS_REMAP_STATUS, .ATLAS_WEAR_MAX, .ATLAS_WEAR_MAX_BLOCK, .ATLAS_SLOT_STATUS, .ATLAS_LOOKUP_HIT, .ATLAS_LOOKUP_COARSE, .ATLAS_USEQ, .ATLAS_DRESS_DROP, .ATLAS_COMMIT_COUNT, .ATLAS_LOSS_COUNT, .ATLAS_SEAM_MAX]
def regsOfPWM : List Reg :=
  [.PWM_STATUS, .PWM_COUNTER, .PWM_PERIOD_SEQ, .PWM_PERIOD_EFF, .PWM_CONFIG, .PWM_MINPULSE, .PWM_DEADTIME, .PWM_CMP_EFF, .PWM_ERR, .PWM_LS_CMP, .PWM_INT_STATUS, .PWM_INT_ENABLE, .PWM_GEN_STATS, .PWM_TRIP_STATUS, .PWM_TRIP_COUNT, .PWM_SYNC_STATUS, .PWM_BOOT_COUNT, .PWM_DEBUG_CTRL, .PWM_TL_TIME, .PWM_TL_ACT, .PWM_CAP_TS_LO, .PWM_CAP_TS_HI, .PWM_CAP_INFO, .PWM_CAP_POS]
def regsOfGDS : List Reg :=
  [.GDS_STATUS, .GDS_ID, .GDS_INT_STATUS, .GDS_INT_ENABLE, .GDS_STRENGTH, .GDS_TIMING, .GDS_SENSE, .GDS_RAILS, .GDS_HS_STATS, .GDS_HS_WAIT, .GDS_DESAT_STATS, .GDS_LINK_STATS, .GDS_CONFIG, .GDS_TARGET, .GDS_DESAT_CFG, .GDS_HS_CFG]
def regsOfADC : List Reg :=
  [.ADC_STATUS, .ADC_INT_STATUS, .ADC_INT_ENABLE, .ADC_SW_START, .ADC_RESULT, .ADC_OFFSET, .ADC_STATS, .ADC_DS_VAL, .ADC_SHUNT, .ADC_SHUNT_INFO, .ADC_CHK_STATUS, .ADC_CHK_ERR, .ADC_TRIP_CAP0, .ADC_TRIP_CAP1, .ADC_CT_STATUS]
def regsOfPOS : List Reg :=
  [.POS_INT_STATUS, .POS_INT_ENABLE, .POS_IF_STATUS, .POS_IF_POS, .POS_IF_SPEED, .POS_IF_INTERVAL, .POS_RSV_DIAG, .POS_RSV_TRACK, .POS_ENC_DIAG, .POS_ENC_COUNT, .POS_HALL_DIAG, .POS_SER_DIAG, .POS_SER_RAW, .POS_PCMP_STATUS, .POS_PCMP_LC, .POS_CHECK]
def regsOfSAFETY : List Reg :=
  [.SAFETY_STATUS, .SAFETY_INT_STATUS, .SAFETY_INT_ENABLE, .SAFETY_STO, .SAFETY_LOCKSTEP, .SAFETY_LATCH, .SAFETY_RESET_COUNT, .SAFETY_BRIDGE, .SAFETY_DCHG, .SAFETY_DEBUG_GUARD, .SAFETY_SLOT, .SAFETY_MON_ERR, .SAFETY_MON_ALLOW, .SAFETY_MON_TMON, .SAFETY_MON_CNT]
def regsOfCAN : List Reg :=
  [.CAN_STATUS, .CAN_ERR_COUNT, .CAN_INT_STATUS, .CAN_INT_ENABLE, .CAN_BT_NOM, .CAN_BT_DATA, .CAN_TDC, .CAN_STATS, .CAN_SCHED_STATUS, .CAN_RXO_STATUS, .CAN_RXO_DATA, .CAN_AQ_STATUS, .CAN_AQ_STATS, .CAN_AQ_STATS2]
def regsOfTIME : List Reg :=
  [.TIME_STATUS, .TIME_NOW_NS, .TIME_NOW_SEC_LO, .TIME_NOW_SEC_HI, .TIME_INT_STATUS, .TIME_INT_ENABLE, .TIME_FREQ_ADJ, .TIME_OFFSET, .TIME_LINK_DELAY, .TIME_JUMP_SEQ, .TIME_JUMP_OFFSET, .TIME_GM_ID_LO, .TIME_GM_ID_HI, .TIME_PEER, .TIME_TPO_START_LO, .TIME_TPO_START_HI, .TIME_TPO_PERIOD, .TIME_TPO_CTRL, .TIME_EVCAP_TS_LO, .TIME_EVCAP_TS_HI, .TIME_EVCAP_INFO]
def regsOfETH : List Reg :=
  [.ETH_STATUS, .ETH_RX_STATS, .ETH_TX_STATS, .ETH_MDIO]
def regsOfPCIE : List Reg :=
  [.PCIE_CTRL, .PCIE_STATUS, .PCIE_INT_STATUS, .PCIE_INT_ENABLE, .PCIE_IDS, .PCIE_ERR_COUNT]
def regsOfSENTINEL : List Reg :=
  [.SENTINEL_STATUS, .SENTINEL_INT_STATUS, .SENTINEL_INT_ENABLE, .SENTINEL_ANALOG, .SENTINEL_NTC, .SENTINEL_ROT, .SENTINEL_WAKE_INFO, .SENTINEL_CANWAKE, .SENTINEL_RULE]
def regsOfMEMCTL : List Reg :=
  [.MEMCTL_STATUS, .MEMCTL_INT_STATUS, .MEMCTL_INT_ENABLE, .MEMCTL_ECC_COUNT, .MEMCTL_ERR_ADDR, .MEMCTL_ERR_INFO, .MEMCTL_MARCH_CTRL, .MEMCTL_MARCH_BANKS, .MEMCTL_MARCH_STATUS, .MEMCTL_MARCH_FAIL_ADDR, .MEMCTL_SCRUB_STATUS, .MEMCTL_CONF_SEL, .MEMCTL_FIXED_STALLS, .MEMCTL_RET_STATUS, .MEMCTL_CONF_CNT]
def regsOfHKEEP : List Reg :=
  [.HKEEP_STATUS, .HKEEP_INT_STATUS, .HKEEP_INT_ENABLE, .HKEEP_BROKEN_LO, .HKEEP_BROKEN_HI, .HKEEP_TEMP, .HKEEP_CH, .HKEEP_SUPPLY, .HKEEP_VDC, .HKEEP_TMAG, .HKEEP_LPO_TRIM, .HKEEP_ADC_GAIN]

/-- The registers of a block. -/
def Block.regs : Block → List Reg
  | .SYSCTL => regsOfSYSCTL
  | .PROT => regsOfPROT
  | .DERRICK => regsOfDERRICK
  | .CE => regsOfCE
  | .ATLAS => regsOfATLAS
  | .PWM => regsOfPWM
  | .GDS => regsOfGDS
  | .ADC => regsOfADC
  | .POS => regsOfPOS
  | .SAFETY => regsOfSAFETY
  | .CAN => regsOfCAN
  | .TIME => regsOfTIME
  | .ETH => regsOfETH
  | .PCIE => regsOfPCIE
  | .SENTINEL => regsOfSENTINEL
  | .MEMCTL => regsOfMEMCTL
  | .HKEEP => regsOfHKEEP

/-- The register instance that an address names (R54), if any. -/
def regAt (addr : Nat) : Option RKey :=
  let go (b : Block) : Option RKey := b.regs.findSome? (fun r => r.at? addr)
  if 0x40000000 ≤ addr ∧ addr < 0x40100000 then go .SYSCTL else
  if 0x40100000 ≤ addr ∧ addr < 0x40200000 then go .PROT else
  if 0x40200000 ≤ addr ∧ addr < 0x40300000 then go .DERRICK else
  if 0x40300000 ≤ addr ∧ addr < 0x40400000 then go .CE else
  if 0x40400000 ≤ addr ∧ addr < 0x40500000 then go .ATLAS else
  if 0x40500000 ≤ addr ∧ addr < 0x40600000 then go .PWM else
  if 0x40600000 ≤ addr ∧ addr < 0x40700000 then go .GDS else
  if 0x40700000 ≤ addr ∧ addr < 0x40780000 then go .ADC else
  if 0x40780000 ≤ addr ∧ addr < 0x40800000 then go .POS else
  if 0x40800000 ≤ addr ∧ addr < 0x40900000 then go .SAFETY else
  if 0x40900000 ≤ addr ∧ addr < 0x40A00000 then go .CAN else
  if 0x40B00000 ≤ addr ∧ addr < 0x40C00000 then go .PCIE else
  if 0x40C00000 ≤ addr ∧ addr < 0x40D00000 then go .SENTINEL else
  if 0x40D00000 ≤ addr ∧ addr < 0x40E00000 then go .MEMCTL else
  if 0x40E00000 ≤ addr ∧ addr < 0x40F00000 then go .HKEEP else
  if 0x40A00000 ≤ addr ∧ addr < 0x40B00000 then (go .TIME).or (go .ETH) else none

end Sys2Proof.Machine
end

