-- ==== Sys2Proof/Machine/Store.lean ====
section
/-! DEFINITION. Sparse tables: a list of (key, value) pairs in one canonical form, keys strictly rising and no
entry equal to what an unlisted key reads as. Registers, parameter values, per-unit records and every memory of
the machine are held in such tables, so that equal contents are equal data. -/

namespace Sys2Proof.Machine

/-- A sparse table from keys to values. -/
abbrev Table (κ α : Type) := List (κ × α)

/-- The value at a key; a key that is not listed reads as `dflt` of it. -/
def Table.get {κ α : Type} [DecidableEq κ] (dflt : κ → α) : Table κ α → κ → α
  | [], k => dflt k
  | (k', v) :: t, k => if k' = k then v else Table.get dflt t k

/-- The table without the entry of a key. -/
def Table.drop {κ α : Type} [DecidableEq κ] : Table κ α → κ → Table κ α
  | [], _ => []
  | (k', v) :: t, k => if k' = k then Table.drop t k else (k', v) :: Table.drop t k

/-- The table with an entry put before the first greater key. -/
def Table.put {κ α : Type} (lt : κ → κ → Bool) : Table κ α → κ → α → Table κ α
  | [], k, v => [(k, v)]
  | (k', v') :: t, k, v => if lt k k' then (k, v) :: (k', v') :: t else (k', v') :: Table.put lt t k v

/-- The table with the value of a key replaced; a value equal to the default removes the entry. -/
def Table.set {κ α : Type} [DecidableEq κ] [DecidableEq α] (lt : κ → κ → Bool) (dflt : κ → α)
    (t : Table κ α) (k : κ) (v : α) : Table κ α :=
  if v = dflt k then Table.drop t k else Table.put lt (Table.drop t k) k v

/-- The canonical form: keys strictly rising, no entry equal to the default. -/
def Table.wf {κ α : Type} [DecidableEq α] (lt : κ → κ → Bool) (dflt : κ → α) : Table κ α → Bool
  | [] => true
  | (k, v) :: t => (t.all fun p => lt k p.1) && decide (v ≠ dflt k) && Table.wf lt dflt t

/-- The order of numeric keys. -/
def ltNat (a b : Nat) : Bool := decide (a < b)

/-- A table of per-unit records with numeric keys: read. -/
def Table.at {α : Type} (d : α) (t : Table Nat α) (n : Nat) : α := Table.get (fun _ => d) t n

/-- A table of per-unit records with numeric keys: replace. -/
def Table.setAt {α : Type} [DecidableEq α] (d : α) (t : Table Nat α) (n : Nat) (v : α) : Table Nat α :=
  Table.set ltNat (fun _ => d) t n v

end Sys2Proof.Machine
end

