-- ==== Sys2Proof/Machine/UnitsCore.lean ====
section
/-! DEFINITION. The records of state shared by the whole machine: lifecycles (R40 to R42), faults and latch
(R369 to R375, R389), safe states (R355 to R367), ring pairs (R403 to R421), power, clocks and reset
(R465 to R487). -/

namespace Sys2Proof.Machine

/-- The four states of a switchable function (R40). -/
inductive LcState where
  | off | starting | on | stopping
  deriving DecidableEq, Repr

/-- The pending request of a switchable function (R41). -/
inductive LcPending where
  | none | enable | disable
  deriving DecidableEq, Repr

/-- The lifecycle of one function, with the sticky discard flag of R42 and the time at which the present state was
entered (for the bounds of R45). `fault` marks a STOPPING entered through the fault path. -/
structure Lc where
  state : LcState := .off
  pending : LcPending := .none
  discard : Bool := false
  fault : Bool := false
  since : Nat := 0
  deriving DecidableEq, Repr

/-- One switchable function. -/
structure Func where
  kind : FuncKind
  idx : Nat
  deriving DecidableEq, Repr

/-- A numeric rank of the kinds, for the canonical order of tables. -/
def FuncKind.rank : FuncKind → Nat
  | .slot => 0 | .bridge => 1 | .satellite => 2 | .posIf => 3 | .posCmp => 4 | .dressing => 5 | .injector => 6
  | .engine => 7 | .discharge => 8 | .can => 9 | .rule => 10 | .ring => 11 | .domain => 12

/-- The order of functions in the lifecycle table. -/
def Func.lt (a b : Func) : Bool :=
  decide (a.kind.rank < b.kind.rank) || (a.kind.rank == b.kind.rank && decide (a.idx < b.idx))

/-- The scope of a fault (R370): the slots and bridges it includes, and the SCOPE code of R375. -/
structure Scope where
  code : Nat
  slot0 : Bool
  slot1 : Bool
  bridgeA : Bool
  bridgeB : Bool
  deriving DecidableEq, Repr

/-- A raised fault whose reaction still has an effect: the fault is active (R371), or its RC3 or RC4 reaction still
holds a safe state because a slot in its scope is not OFF. -/
structure ActiveFault where
  name : FaultName
  unit : Nat
  scope : Scope
  cls : Nat
  active : Bool
  single : Bool
  last : Nat
  deriving DecidableEq, Repr

/-- One scree log entry (R375), with the tick of its writing for the windows of R25. -/
structure ScreeEntry where
  time : Nat
  tick : Nat
  code : Nat
  cls : Nat
  scope : Nat
  unit : Nat
  event : Nat
  count : Nat
  info : Nat
  seq : Nat
  deriving DecidableEq, Repr

/-- A latched fault (R389), as the latch record keeps it (R486). -/
structure Latched where
  name : FaultName
  unit : Nat
  scope : Scope
  deriving DecidableEq, Repr

/-- Faults, scree log and latch. `latchRecord` is the record in MRAM at 0x540_3000, `latchPending` what a running write
puts there (R486); `unitResets` the unit resets as (fault class, unit, time)
and `escalate` the units whose fault has come again within 10 ms of theirs, so that a cluster reset is due (R25). -/
structure FaultSys where
  active : List ActiveFault := []
  scree : List ScreeEntry := []
  seq : Nat := 0
  latched : List Latched := []
  latchSince : Nat := 0
  latchRecord : List Latched := []
  latchPending : List Latched := []
  latchWriting : Bool := false
  latchWriteSince : Nat := 0
  unitResets : List (Nat × Nat × Nat) := []
  escalate : List (Nat × Nat) := []
  deriving DecidableEq, Repr

/-- What a bridge in a safe state does with its gates (R361). -/
inductive SafeState where
  | run | spo | ascLow | ascHigh | discharge
  deriving DecidableEq, Repr

/-- The source of the speed of the safe-state choice (R363; the codes of SAFETY.BRIDGE_b.SPEED_SRC). -/
inductive SpeedSrc where
  | position | currents | backEmf | held | unknown
  deriving DecidableEq, Repr

/-- The safe-state side of a bridge: its state, the choice held by the bank supervision (R362), the state a raising
rule fixes (R364) or a fenced satellite holds (`locked`, R285), the requests (b) to (h) of R355 (request (a) follows
from the active faults, request (i) from the discharge), the lost domain whose request R22 withdraws later, the speed
last found (R363), whether SPO is the state of the debug guard (R397), whether the bridge waits for the wrap to leave
its safe state (R367), since when its V_DC has been below 60 V, and the pending ASC turn-ons (R366). -/
structure BridgeSafe where
  state : SafeState := .run
  choice : SafeState := .spo
  forced : Option SafeState := none
  locked : Bool := false
  overvolt : Bool := false
  speedSrc : SpeedSrc := .unknown
  speed : Nat := 0
  lastSpeed : Option Nat := none
  stoA : Bool := false
  stoB : Bool := false
  debug : Bool := false
  debugSpo : Bool := false
  lockstep : Bool := false
  guard : Bool := false
  guardLost : Option Nat := none
  rest : Bool := false
  peer : Bool := false
  linkLoss : Bool := false
  leaving : Bool := false
  vdcLow : Option Nat := none
  dtPending : Bool := false
  decided : Nat := 0
  deriving DecidableEq, Repr

/-- A lockstep pair of the safety island (R353 to R359). -/
structure SafetyPair where
  running : Bool := false
  word : Nat := 0
  lastChange : Nat := 0
  restarting : Bool := false
  selftest : Bool := false
  resetAt : Nat := 0
  groups : Nat := 0
  broken : Bool := false
  mismatch : Bool := false
  halted : Bool := false
  failCode : Nat := 0
  deriving DecidableEq, Repr

/-- The state of the STO start-up test (R388). -/
inductive StoTest where
  | pending | assertedSeen | done
  deriving DecidableEq, Repr

/-- The two STO inputs after their filters, the path checks of R387, the discrepancy of R386 and the start-up test
of R388. -/
structure Sto where
  a : Bool := false
  b : Bool := false
  aSince : Nat := 0
  bSince : Nat := 0
  pathA : Bool := false
  pathB : Bool := false
  discSince : Option Nat := none
  bothSince : Option Nat := none
  firstRelease : Option Nat := none
  test : StoTest := .pending
  deriving DecidableEq, Repr

/-- The method of an active discharge (SAFETY.DCHG.METHOD). -/
inductive DchgMethod where
  | none | winding | resistor
  deriving DecidableEq, Repr

/-- Active discharge (R392 to R396), with the DCHG output, which R37 keeps across package resets: the method, the
bridges named with the time and the V_DC (mV) of each one's start, and a pending request's bridges. -/
structure Discharge where
  method : DchgMethod := .none
  backup : Bool := false
  bridgeA : Bool := false
  bridgeB : Bool := false
  startA : Nat := 0
  startB : Nat := 0
  vStartA : Int := 0
  vStartB : Int := 0
  holdAsc : Bool := false
  pendA : Bool := false
  pendB : Bool := false
  failed : Bool := false
  out : Bool := false
  deriving DecidableEq, Repr

/-- The safety island beside the bridges: pairs, STO, discharge, bench mode, debug guard, and the heartbeat
checker's actions (R486). `haltPending` is the master ID whose halt waits for the guard (R397); `guardSince` the time of
that request; `halted` the halted pairs and application cores by master ID and `appHaltAt` since when, in LPO time, one
of the latter is; `lastRelease` the last release of the latch (R399). -/
structure Island where
  sp0 : SafetyPair := {}
  sp1 : SafetyPair := {}
  sto : Sto := {}
  dchg : Discharge := {}
  bench : Bool := false
  lastGroup : Nat := 0
  guardCount : Nat := 0
  guardTarget : Nat := 0
  guardDelay : Nat := 0
  guardSince : Nat := 0
  haltPending : Option Nat := none
  halted : List Nat := []
  appHaltAt : Nat := 0
  lastRelease : Option Nat := none
  resetCount : Nat := 0
  checkerActs : List Nat := []
  deriving DecidableEq, Repr

/-- A descriptor that Derrick has fetched (R413): its place in the pair's order, its 64 bytes, whether it has started,
and the status and result of a finished one that waits for its turn to be posted (R410). -/
structure WorkItem where
  wid : Nat
  raw : List Byte
  started : Bool
  done : Option (Nat × Nat)
  deriving DecidableEq, Repr

/-- A posted receive buffer (R421). -/
structure RecvBuf where
  wid : Nat
  addr : Nat
  len : Nat
  used : Nat
  records : Nat
  firstAt : Option Nat
  tag : Nat
  flags : Nat
  deriving DecidableEq, Repr

/-- A ring pair (R403 to R412). Its binding, base and configuration are the registers DERRICK.RP_*. `session` is the
COMMAND pair whose AUTH_RESPONSE opened its role session (R449). -/
structure RingPair where
  tail : Nat := 0
  head : Nat := 0
  compl : Nat := 0
  phase : Bool := true
  released : Nat := 0
  outstanding : Nat := 0
  dbWaiting : Option Nat := none
  nextWid : Nat := 0
  work : List WorkItem := []
  bufs : List RecvBuf := []
  session : Option Nat := none
  unsig : Nat := 0
  unsigSince : Option Nat := none
  dmaErr : Bool := false
  deriving DecidableEq, Repr

/-- A host followed by Derrick (R424). -/
structure HostState where
  lost : Bool := false
  lastDb : Nat := 0
  deriving DecidableEq, Repr

/-- The kinds of bulk transfer (R416). -/
inductive BulkKind where
  | fwUpdate | atlasExport | bedrockImport | logExport
  deriving DecidableEq, Repr

/-- The bulk transfer that runs, one in the module (R416): for which descriptor, its slot or image, the records still to
be written into the pair's buffers (R421), what its completion reports, and for an import or an image whether it has
been checked and is being installed. -/
structure Bulk where
  kind : BulkKind
  pair : Nat
  wid : Nat
  target : Nat
  queue : List (List Byte)
  result : Nat
  checked : Bool
  param : Nat
  deriving DecidableEq, Repr

/-- The band of a monitored rail (R467). -/
inductive RailBand where
  | inBand | warning | fault | belowReset
  deriving DecidableEq, Repr

/-- The five power modes (R480). -/
inductive PowerMode where
  | run | idle | sleep | deepSleep | off
  deriving DecidableEq, Repr

/-- The clocks beside SYSCTL.CLK_STATUS (R472 to R475): since when a ramp's step runs,
consecutive bad reference windows, since when the reference is good, and the running lock attempt. -/
structure Clocks where
  stepSince : Nat := 0
  badRun : Nat := 0
  goodSince : Option Nat := none
  tryingSince : Option Nat := none
  deriving DecidableEq, Repr

/-- The switching of a domain (R476 to R479) beside its lifecycle and SYSCTL.PD_STATUS_d: a request off that waits for the
domains requiring it, a request on that waits for the domains it requires, and the bound formed at its request off. -/
structure DomainPower where
  heldOff : Bool := false
  heldOn : Bool := false
  lost : Bool := false
  bound : Nat := 0
  deriving DecidableEq, Repr

/-- The reset controller (R483 to R488). -/
structure ResetCtl where
  guard : Option Nat := none
  guardSince : Nat := 0
  multi : Bool := false
  info : Nat := 0
  asserted : Bool := false
  started : Bool := false
  coldStart : Bool := true
  testHeld : Bool := false
  deriving DecidableEq, Repr

/-- Mode and watchdog beside SYSCTL.SUPPLY_STATUS and SYSCTL.PWR_MODE (R466, R480 to R482, R487): the WAKE_OUT pin, the mode in force and the
one being entered, a wake that waits for the entry to complete, and the last kick in LPO time. -/
structure Power where
  wakeOut : Bool := true
  mode : PowerMode := .run
  entering : Option PowerMode := none
  wakeWaiting : Bool := false
  wdtKick : Nat := 0
  deriving DecidableEq, Repr

end Sys2Proof.Machine
end

