-- ==== Sys2Proof/Machine/UnitsAtlas.lean ====
section
/-! DEFINITION. State of the flux atlas, dressing and the MRAM controller (chapter 3) beside the ATLAS registers and the bytes of
the window SRAM and of MRAM. -/

namespace Sys2Proof.Machine

/-- The metadata that MRAM keeps (R153): for each slot whether a geometry record is in force, the pending policy (0 RESET, 1 KEEP) and
the commits since its bedrock was installed; the header of each bedrock copy (slot + 2 × copy; empty: none); the write counters
per 512 bytes; PTIME and the scrubber's place; remapped blocks with their spare block; words corrected by one bit in the last pass and in this one. -/
structure AtlasNv where
  geom : Table Nat Bool := []
  policy : Table Nat (Option Nat) := []
  commits : Table Nat Nat := []
  hdr : Table Nat (List Byte) := []
  writes : Table Nat Nat := []
  ptime : Nat := 0
  passStart : Nat := 0
  passCount : Nat := 0
  nextBlock : Nat := 0
  remap : Table Nat Nat := []
  corrPrev : List Nat := []
  corrNow : List Nat := []
  deriving DecidableEq, Repr

/-- The atlas of a slot in PD5. `resolved`: step 3 of start-up has resolved the bedrock copies, `bedrock` with a valid result;
`tiles` gives, for window position p and half h at 2p + h, the tile (td, tq, s) present there; `fillQ` the tiles (td, tq) and
`halfQ` the half-tiles (td, tq, s) queued; `drift` and `last` DRIFT and the last-commit PTIME per commit block (R148); `rewrite` the blocks to be rewritten (R156). -/
structure AtlasSlot where
  resolved : Bool := false
  bedrock : Bool := false
  coarse : Bool := false
  window : Bool := false
  td0 : Nat := 0
  tq0 : Nat := 0
  sLo : Nat := 0
  tiles : Table Nat (Option (Nat × Nat × Nat)) := []
  fillQ : List (Nat × Nat) := []
  halfQ : List (Nat × Nat × Nat) := []
  nowD : Int := 0
  nowQ : Int := 0
  theta : Nat := 0
  tmag : Int := 0
  looked : Bool := false
  target : Option (Int × Int) := none
  coarseSince : Option Nat := none
  edgeSeen : Bool := false
  credit : Nat := 0
  creditAt : Nat := 0
  fifo : List (List Byte) := []
  drift : Table Nat Nat := []
  last : Table Nat Nat := []
  rewrite : List Nat := []
  deriving DecidableEq, Repr

/-- What both slots share: PTIME counts from `ptimeBase` at tick `ptimeFrom`; the address-parity errors of the last second; failed
trainings; per slot the result of the signature check made once after a package reset (R164); the spilled blocks (slot, block) by place. -/
structure AtlasCommon where
  ptimeFrom : Nat := 0
  ptimeBase : Nat := 0
  savedAt : Nat := 0
  parity : List Nat := []
  trainFails : Nat := 0
  sig : Table Nat (Option Bool) := []
  spill : Table Nat (Option (Nat × Nat)) := []
  deriving DecidableEq, Repr

end Sys2Proof.Machine
end

