-- ==== Sys2Proof/Machine/UnitsComms.lean ====
section
/-! DEFINITION. State of the CAN FD controllers and the Aqosh layer (chapter 13), and of network time, Ethernet, pulse outputs and
captures (chapter 14), beside their registers. -/

namespace Sys2Proof.Machine

/-- A frame's identifier, format and data (R494). `LEN` is the number of data bytes. -/
structure CanFrame where
  id : Nat := 0
  xtd : Bool := false
  fdf : Bool := false
  brs : Bool := false
  esi : Bool := false
  data : List Byte := []
  deriving DecidableEq, Repr

/-- A frame waiting to be sent (R502): the descriptor to complete, and the PDU it was wrapped in once it has been handed to the protocol
engine (R514), which a retransmission carries again. -/
structure CanTx where
  frame : CanFrame := {}
  reply : Option (Nat × Nat) := none
  pdu : Option (List Byte) := none
  deriving DecidableEq, Repr

/-- A transmit buffer: data not yet transmitted, and the consecutive windows it has missed (R505). -/
structure CanBuf where
  tx : Option CanTx := none
  missRun : Nat := 0
  deriving DecidableEq, Repr

/-- The frame on the bus: the buffer it comes from (none: the queue), and the device time of its SOF bit. -/
structure OnBus where
  buf : Option Nat
  tx : CanTx
  sof : Nat
  deriving DecidableEq, Repr

/-- A CAN controller: the data of its receive objects with their timestamps (R499), the snapshot of each master (R500), buffers, queue, the
frame on the bus, the open schedule window and whether its frame has begun (R504), since when it integrates and since when it is bus-off, and the
bus-off entries of the last 10 s (R506). -/
structure CanUnit where
  objs : Table Nat (List Byte × Nat) := []
  snaps : Table Nat (Option (Nat × List Byte)) := []
  bufs : Table Nat CanBuf := []
  queue : List CanTx := []
  onBus : Option OnBus := none
  window : Option Nat := none
  windowAt : Nat := 0
  began : Bool := false
  integSince : Nat := 0
  offSince : Nat := 0
  offTimes : List Nat := []
  deriving DecidableEq, Repr

/-- A first copy of a pair's PDU that waits for the second one (R516). -/
structure AqFirst where
  seq : Nat
  from_ : Nat
  payload : List Byte
  te : Nat
  at_ : Nat
  deriving DecidableEq, Repr

/-- An Aqosh connection beside CAN.AQ_*_c: whether a PDU has been accepted since it became active, the SEQ the next sent PDU takes, the tick of
the last acceptance, whether a rejection since has been reported (R520) and the loss of synchronisation noted (R512); for the pair, kept
with its lower number: the first copies and the run of missing second ones. -/
structure AqConn where
  first : Bool := true
  nextSeq : Nat := 0
  lastAcc : Nat := 0
  rejected : Bool := false
  unsync : Bool := false
  firsts : List AqFirst := []
  missRun : Nat := 0
  deriving DecidableEq, Repr

/-- A frame the MAC is to send (R531), in the order of their priority: an 802.1AS message, an Aqosh PDU's frame, an ETH_TX frame. -/
inductive EthTx where
  | pdelayReq (seq : Nat)
  | pdelayResp (requester : Nat) (seq rx : Nat)
  | pdelayRespFollowUp (requester : Nat) (seq tx : Nat)
  | aqosh (frame : List Byte)
  | host (pair wid : Nat) (frame : List Byte) (tsReq : Bool)
  deriving DecidableEq, Repr

/-- A Sync that waits for its Follow_Up: its source port and sequence and its receive time in `dev` units. -/
structure SyncRx where
  port : Nat
  seq : Nat
  at_ : Nat
  deriving DecidableEq, Repr

/-- A TIME-mode pulse output (R534 to R536): START, PERIOD and WIDTH as armed, the pulse being placed, and whether it is active. -/
structure Tpo where
  armed : Bool := false
  start : Nat := 0
  period : Nat := 0
  width : Nat := 0
  k : Nat := 0
  active : Bool := false
  late : Bool := false
  fine : Nat := 0
  deriving DecidableEq, Repr

/-- A capture (R537). -/
structure Capture where
  ts : Nat
  coast : Bool
  falling : Bool
  step : Nat
  deriving DecidableEq, Repr

/-- Network time and Ethernet: the servo's counts (R525; `good` and `bad` consecutive offsets inside and outside ±SYNC_TOL), its integrator in
units of 1 ppb / (65,536 × 1,000 × 800,000,000), the tick of the previous Sync that ran it, when a Sync was last received and how often they come;
the TIME_STEP_ACCEPT descriptors that wait (pair, place, tick); when HOLDOVER began; the neighbour's rate offset in 1/256 ppb; the grandmaster and
its last Announce; the peer-delay exchange (request number, when it was sent, its transmit time, the last response's times, requests unanswered);
the MAC's queue, the pulse outputs and the capture FIFOs. -/
structure TimeUnit where
  good : Nat := 0
  bad : Nat := 0
  inLim : Nat := 0
  integ : Int := 0
  lastSync : Option Nat := none
  syncAt : Nat := 0
  syncInterval : Nat := 0
  pendingSync : Option SyncRx := none
  accept : List (Nat × Nat × Nat) := []
  holdSince : Nat := 0
  nbrRatio : Int := 0
  gm : Option Announce := none
  announceAt : Nat := 0
  announceInterval : Nat := 0
  pdelaySeq : Nat := 0
  pdelayAt : Nat := 0
  pdelaySent : Option (Nat × Nat) := none
  pdelayPrev : Option (Nat × Nat) := none
  pdelayResp : Option (Nat × Nat × Nat) := none
  pdelayLost : Nat := 0
  ethQueue : List EthTx := []
  tpos : Table Nat Tpo := []
  tpoPins : Table Nat Bool := []
  caps : Table Nat (List Capture) := []
  deriving DecidableEq, Repr

end Sys2Proof.Machine
end

