-- ==== Sys2Proof/Machine/UnitsDrive.lean ====
section
/-! DEFINITION. State of the control engines (chapter 4), the PWM counters (chapter 5) and the gate-drive satellites
(chapter 6) beside their registers. -/

namespace Sys2Proof.Machine

/-! ### Control engines -/

/-- What keeps an engine from its next instruction: nothing, sleep in WAITEV with its mask and destination (R181), an FLD in flight
(destination, address, whether the MPU has denied it; R176), an ATLAS lookup in flight (destinations, the two input words; R179), or a PUBL whose box still
drains (box, address; R193). -/
inductive CeWait where
  | none
  | event (mask dd : Nat)
  | fld (dest addr : Nat) (denied : Bool)
  | atlas (d1 d2 dx dy : Nat)
  | publ (box addr : Nat)
  deriving DecidableEq, Repr

/-- The status flags of an engine (R173). -/
structure CeFlags where
  n : Bool := false
  z : Bool := false
  c : Bool := false
  v : Bool := false
  deriving DecidableEq, Repr

/-- A local timer (R190): its register word, and since when it counts. -/
structure CeTimer where
  word : Nat := 0
  start : Nat := 0
  deriving DecidableEq, Repr

/-- A program-load descriptor's content (R196): image address, task, slot, TELEMETRY pair, and the pair and work id of the
descriptor that carries it. -/
structure CeLoad where
  image : Nat
  task : Nat
  slot : Nat
  pair : Nat
  fromPair : Nat
  wid : Nat
  deriving DecidableEq, Repr

/-- One control engine: the registers of R173, stacks and memories, events, buffers, grants. `announced` and `filled` keep, for
each double-buffered event, the buffer most recently returned by WAITEV and whether the other holds an unreturned write (R182); `staged` the PUBL records that still drain. -/
structure Engine where
  d : Table Nat Word := []
  p : Table Nat Nat := []
  acc : Table Nat (BitVec 40) := []
  flags : CeFlags := {}
  srHigh : Nat := 0
  pc : Nat := 0
  stack : List Nat := []
  loops : List (Nat × Nat × Nat) := []
  prog : Table Nat Word := []
  mem : Table Nat Byte := []
  evPend : Nat := 0
  evOvr : Nat := 0
  evInfo : Table Nat Nat := []
  wait : CeWait := .none
  genA : Nat := 0
  genB : Nat := 0
  timer0 : CeTimer := {}
  timer1 : CeTimer := {}
  nowHi : Nat := 0
  cyclesFrom : Nat := 0
  lastReturn : Nat := 0
  loopFrom : Nat := 0
  announced : Table Nat Nat := []
  filled : Table Nat Bool := []
  sampleA : Option Nat := none
  sampleB : Option Nat := none
  frameAt : Table Nat Nat := []
  dueA : Bool := false
  dueB : Bool := false
  dmeasA : Nat := 0
  dmeasB : Nat := 0
  staged : Table Nat (List Byte) := []
  halted : Bool := false
  haltAsked : Bool := false
  haltedSince : Nat := 0
  faulted : Bool := false
  stopReturned : Bool := false
  task : Nat := 0
  slot : Nat := 0
  pair : Nat := 0
  signer : Nat := 0
  frames : List Nat := []
  writes : List Nat := []
  load : Option CeLoad := none
  held : Option CeLoad := none
  imageSeq : Nat := 0
  deriving DecidableEq, Repr

/-! ### PWM -/

/-- A demand of R211: leg k of a bridge is channel 2k; in independent mode its low-side gate is channel 2k + 1. The compares in
force as given and as R216 makes them effective, the error accumulator now and at the start of the period, and what the
period has already made of it. -/
structure PwmCh where
  on : Nat := 0x7FFFFF
  off : Nat := 0x7FFFFF
  effOn : Nat := 0x7FFFFF
  effOff : Nat := 0x7FFFFF
  err : Int := 0
  err0 : Int := 0
  demand : Bool := false
  floats : Bool := true
  startDemand : Bool := false
  hadOn : Bool := false
  onMade : Bool := false
  offMade : Bool := false
  deriving DecidableEq, Repr

/-- A gate output of the PWM block: its level, when it was last turned on, and the times (in fine units) of a turn-on
that waits for its dead time (R213) and of a turn-off that the MIN_PULSE guard delays (R217). -/
structure PwmGate where
  out : Bool := false
  onAt : Nat := 0
  turnOn : Option Nat := none
  turnOff : Option Nat := none
  deriving DecidableEq, Repr

/-- A leg of a bridge: whether a trip or a refresh holds its demand until the wrap (R228, R235), whether both its gate demands are on
(R265), the count of periods without low-side conduction, since when (fine units) the low side conducts, and the longest conduction of this period (R235). -/
structure PwmLeg where
  cut : Bool := false
  blocked : Bool := false
  conflict : Bool := false
  bootCount : Nat := 0
  lowSince : Option Nat := none
  lowBest : Nat := 0
  refreshed : Bool := false
  refreshDue : Bool := false
  deriving DecidableEq, Repr

/-- A set of compare writes (index j for CMP_ON/CMP_OFF of leg j / 2, 6 + j for LS_CMP_j) and a period (R219, R220), with the
tick of its last commit. -/
structure PwmSet where
  writes : Table Nat (Option Nat) := []
  period : Option Nat := none
  arrival : Nat := 0
  gen : Nat := 0
  deriving DecidableEq, Repr

/-- A WPWM write under way (R191): index in a `PwmSet` (12 the period), value, tag, whether it commits, its engine, when issued. -/
structure PwmFlight where
  idx : Nat
  value : Nat
  tag : Nat
  commit : Bool
  ce : Nat
  issued : Nat
  deriving DecidableEq, Repr

/-- One bridge's PWM block (R208 to R241). Times are ticks. `length` is the length of the present period, PERIOD_EFF and the
correction of R234. -/
structure Pwm where
  running : Bool := false
  wrapAt : Nat := 0
  length : Nat := 20000
  nextAdj : Int := 0
  midDone : Bool := false
  clearDone : Bool := false
  chans : Table Nat PwmCh := []
  gates : Table Nat PwmGate := []
  legs : Table Nat PwmLeg := []
  shadow : PwmSet := {}
  flight : List PwmFlight := []
  pending : Option PwmSet := none
  immediate : Option Nat := none
  blankUntil : Nat := 0
  blankOpen : Bool := false
  levels : List Nat := []
  tripped : Bool := false
  lastTrip : Option Nat := none
  resync : Bool := false
  frozenSince : Option Nat := none
  haltFreeze : Bool := false
  clockStop : Bool := false
  lockRun : Nat := 0
  lastSync : Option Nat := none
  fired : List Nat := []
  stopPhase : Nat := 0
  lastD : Nat := 0
  tlReload : Bool := false
  deriving DecidableEq, Repr

/-! ### Gate-drive satellites -/

/-- A measured switching event as its EDGE frame carries it (R253, R266). -/
structure EdgeMsg where
  off : Bool
  valid : Bool
  soft : Bool
  strength : Nat
  time : Nat
  deriving DecidableEq, Repr

/-- A satellite and the bank's supervision of it (R245 to R288). Times are ticks. The first group is the satellite's own state, the
second the bank's beside GDS registers. -/
structure Sat where
  edge : Bool := false
  driven : Bool := false
  gateOn : Bool := false
  req : Option Nat := none
  edgeAt : Nat := 0
  hintReq : Bool := false
  confSince : Option Nat := none
  releasedAt : Option Nat := none
  changedAt : Nat := 0
  stuckTold : Bool := false
  offDelayed : Bool := false
  skipRun : Nat := 0
  strOn : Nat := 16
  strOff : Nat := 16
  detectAt : Option Nat := none
  soft : Nat := 0
  softAt : Nat := 0
  latched : Bool := false
  uvloPos : Bool := false
  uvloNeg : Bool := false
  otShut : Bool := false
  conduction : Bool := false
  settings : Table Nat (Option Int) := []
  ch0Mode : Nat := 0
  supplyMode : Nat := 0
  softOff : Bool := false
  edges : List EdgeMsg := []
  hs : List (Bool × Nat) := []
  ackDue : Bool := false
  breakDue : Bool := false
  clearDue : Bool := false
  hint : Nat := 0
  applying : Bool := false
  cfgAt : Nat := 0
  listening : Bool := false
  resumed : Bool := false
  lossSeen : Bool := false
  lossHint : Nat := 0
  crossOk : Bool := true
  fwdErr : Nat := 0
  vcc : Int := 0
  vee : Int := 0
  -- the bank
  carriers : Bool := false
  startStep : Nat := 0
  badRun : Nat := 0
  badTimes : List Nat := []
  hintSent : Nat := 0
  hintSentAt : Nat := 0
  ackMissing : Option Nat := none
  report : Bool := false
  desatNow : Bool := false
  latchedSinceWrap : Bool := false
  noClear : Bool := false
  txDuty : Nat := 0
  txAt : Nat := 0
  regSince : Option Nat := none
  measSeq : Nat := 0
  measAt : Nat := 0
  ch0Force : Nat := 0
  tempAt : Option Nat := none
  trainTries : Nat := 0
  deriving DecidableEq, Repr

end Sys2Proof.Machine
end

