-- ==== Sys2Proof/Machine/UnitsPower.lean ====
section
/-! DEFINITION. State of the sentinel (chapter 15), of the memory controller and the housekeeping round (chapter 16), and of the life
record (R627), beside the registers of their blocks. -/

namespace Sys2Proof.Machine

/-! ### The sentinel -/

/-- A rule of the sentinel (R549): since when its level condition holds, and that it has fired and its condition has not been false since. -/
structure SnRule where
  since : Option Nat := none
  fired : Bool := false
  deriving DecidableEq, Repr

/-- The actions of the rules that fired in one evaluation, merged (R550): the lowest rule, its source, the action bits and the domains. -/
structure SnAct where
  rule : Nat
  source : Nat
  actions : Nat
  domains : Nat
  deriving DecidableEq, Repr

/-- A park short (R553): the tick of its reference, the bridges named, the side, the limit in mV, the bridges already compared, and whether
SN_PARK_LATE applies (step 2 or 4 later than 1.5 ms). -/
structure Park where
  since : Nat
  bridges : List Nat
  high : Bool
  limit : Int
  compared : List Nat := []
  shorted : List Nat := []
  towed : Bool := false
  late : Bool := false
  deriving DecidableEq, Repr

/-- Sieve (R544 to R560) beside the SENTINEL registers: whether its program has been loaded and runs, the first sample, rounds since the last NTC
sample, times of the last round's start and end, the open burst, the previous burst's state or count, the filtered WAKE levels, the entry
into SLEEP or DEEP_SLEEP, entries written to the event ring and those already copied, the WAKE_OUT action, actions that wait for a DEEP_SLEEP entry, and
the park short, or that there was no image for it. -/
structure Sentinel where
  running : Bool := false
  sampled : Bool := false
  ntcSampled : Bool := false
  ntcWait : Nat := 0
  roundAt : Option Nat := none
  doneAt : Nat := 0
  burstSince : Option Nat := none
  burstFresh : Bool := true
  prev : Int := 0
  wakes : Nat := 0
  parkedAt : Option Nat := none
  rules : Table Nat SnRule := []
  logged : Nat := 0
  copied : Nat := 0
  wakeOutSince : Option Nat := none
  waiting : List SnAct := []
  park : Option Park := none
  noImage : Bool := false
  deriving DecidableEq, Repr

/-! ### Memories -/

/-- A march on request (R577): the banks still to test, the first of which is under test, its segment, and since when that one is locked. -/
structure March where
  mem : Nat
  banks : List Nat
  seg : Nat
  since : Nat
  deriving DecidableEq, Repr

/-- The memory controller beside the MEMCTL registers: 64-bit words, by system address, found uncorrectable and not rewritten since (R566),
corrections that wait to be written back, the running march, since when an arbiter is in FIXED mode after a requester's reset (R569), the conflict counters by
32 × arbiter + requester, the words that the scrubber's pass has read per bank, by 32 × memory + bank, and the start of the pass, banks in retention and those found kept or lost. -/
structure MemCtl where
  poison : List Nat := []
  writeback : List (Nat × Nat) := []
  march : Option March := none
  recover : Table Nat (Option Nat) := []
  conf : Table Nat Nat := []
  scrubNext : Table Nat Nat := []
  passStart : Nat := 0
  lateTold : Bool := false
  retained : Nat := 0
  deriving DecidableEq, Repr

/-! ### Housekeeping -/

/-- The housekeeping round beside the HKEEP registers (R580 to R590): the tick at which the present round starts, broken sensors, the last value of each
sensor while it was not broken, its run of deviations, the LPO trim in force (`none` before the first round: TRIM25), and the run of
implausible supply values. -/
structure Housekeeping where
  roundAt : Option Nat := none
  broken : List Nat := []
  values : Table Nat (Option Int) := []
  devRun : Table Nat Nat := []
  trim : Option Int := none
  plausRun : Nat := 0
  deriving DecidableEq, Repr

/-- The counts of the life record (R627) that accumulate between writes: its SEQ, minutes per temperature bin, minutes at 60 V or more, cycles with
the running extremes of the hottest sensor (minimum since the last cycle, and the highest since), soft turn-offs per satellite, and where the next copy goes. -/
structure Life where
  seq : Nat := 0
  tbin : Table Nat Nat := []
  hvA : Nat := 0
  hvB : Nat := 0
  cyc20 : Nat := 0
  cyc80 : Nat := 0
  low20 : Option Int := none
  high20 : Option Int := none
  low80 : Option Int := none
  high80 : Option Int := none
  soft : Table Nat Nat := []
  deriving DecidableEq, Repr

end Sys2Proof.Machine
end

