-- ==== Sys2Proof/Machine/UnitsProt.lean ====
section
/-! DEFINITION. State of boot, roles and protection (chapter 11) beside the PROT registers. -/

namespace Sys2Proof.Machine

/-- The audit log beside its bytes in MRAM (R457 to R459): next SEQ, the previous entry's bytes for the chain, the next
place in each ring, the (SEQ, position) of the entries present, the SEQs of reserved entries not yet acknowledged, and the last SEQ returned by a completed audit
LOG_EXPORT. -/
structure AuditLog where
  seq : Nat := 0
  prev : List Byte := []
  genNext : Nat := 0
  resNext : Nat := 0
  index : List (Nat × Nat) := []
  unacked : List Nat := []
  exported : Option Nat := none
  deriving DecidableEq, Repr

/-- A drive-enable token (R453). -/
structure Token where
  revoke : Bool
  slots : Nat
  seq : Nat
  notBefore : Nat
  expiry : Nat
  deriving DecidableEq, Repr

/-- Immobilisation of a slot (R456): in force, a change that waits for OFF or standstill, an end that waits for the next
reference step, and since when the speed is below REVERSE_SPEED or SPEED_VALID clear. -/
structure Immob where
  on : Bool := false
  pending : Bool := false
  ending : Bool := false
  lowSince : Option Nat := none
  deriving DecidableEq, Repr

/-- Boot, roles and protection. `lifecycle` and `rollback` are fuses; the boot-state record (`active`, `pendingSlot`,
`tries`), the token with its TOKEN_SEQ and the audit log are in MRAM. -/
structure Prot where
  lifecycle : Nat := 0
  rollback : Nat := 0
  active : Nat := 0
  pendingSlot : Option Nat := none
  tries : Nat := 0
  running : Option Nat := none
  runRollback : Nat := 0
  lockSince : Option Nat := none
  audit : AuditLog := {}
  nonces : Table Nat (Option (Nat × Nat)) := []
  fails : Table Nat Nat := []
  lockout : Table Nat (Option Nat) := []
  token : Option Token := none
  tokenSeq : Option Nat := none
  resume : Bool := false
  resumeSince : Nat := 0
  everSynced : Bool := false
  immob : Table Nat Immob := []
  deriving DecidableEq, Repr

/-- What Derrick knows of the commanding host of a slot and of its host-loss policy (R426, R427): `policy` is 0 none,
1 RAMP_ZERO, 2 HANDOVER_CAN, 3 HOLD_T; `due` means RAMP_ZERO acts at the next reference step; `source` that the slot's
source is the CAN object by handover, `sourceDue` that it becomes so at the next reference step. -/
structure SlotHost where
  host : Option Nat := none
  policy : Nat := 0
  lossAt : Nat := 0
  holdT : Nat := 0
  due : Bool := false
  ramped : Bool := false
  source : Bool := false
  sourceDue : Bool := false
  firstCan : Bool := false
  deriving DecidableEq, Repr

end Sys2Proof.Machine
end

