-- ==== Sys2Proof/Machine/UnitsSense.lean ====
section
/-! DEFINITION. State of current and voltage sensing (chapter 7) and of position and speed (chapter 8) beside their
registers. -/

namespace Sys2Proof.Machine

/-! ### Sensing -/

/-- The source of a conversion (R298), with the bridge of a frame or of a trip-time capture. -/
inductive ConvSrc where
  | safety
  | tripCap (b : Nat)
  | frame (b : Nat)
  | timeline
  | software
  | continuous
  | reference
  deriving DecidableEq, Repr

/-- The order of R298: a lower number takes the ADC. -/
def ConvSrc.prio : ConvSrc → Nat
  | .safety => 1 | .tripCap _ => 1 | .frame _ => 2 | .timeline => 2 | .software => 3 | .continuous => 4 | .reference => 5

/-- A conversion: source, input, the tick of its sample, whether it was restarted, and the sum and count of an averaging
sequence (R302). -/
structure Conv where
  src : ConvSrc
  input : Nat
  at_ : Nat
  restarted : Bool := false
  sum : Int := 0
  count : Nat := 0
  ovr : Bool := false
  deriving DecidableEq, Repr

/-- A main ADC (R292 to R303): the running conversion, an aborted frame or timeline one and an aborted software or continuous one that wait to be
restarted, a held timeline start, a held software input, waiting urgent requests, and the reference check. -/
structure AdcUnit where
  run : Option Conv := none
  aborted : Option Conv := none
  low : Option Conv := none
  held : Option ConvSrc := none
  heldSw : Option Nat := none
  urgent : List (ConvSrc × Nat) := []
  sharers : List ConvSrc := []
  refBad : Nat := 0
  refOk : Bool := false
  safety : Option (Nat × Int) := none
  deriving DecidableEq, Repr

/-- What a position interface gives to a latch (R326). -/
structure PosLatch where
  pos : Nat := 0
  theta : Nat := 0
  speed : Int := 0
  posValid : Bool := false
  speedValid : Bool := false
  deriving DecidableEq, Repr

/-- A frame that the current check keeps (R314): the tick of its sample and its three currents. -/
structure FrameCur where
  at_ : Nat
  i : List Int
  deriving DecidableEq, Repr

/-- A shunt window with its value (R311, R312): phase, sign, value in Q15, bits, validity, and the tick of its closing mark. -/
structure ShuntWin where
  leg : Nat := 0
  neg : Bool := false
  value : Int := 0
  n : Nat := 0
  valid : Bool := false
  at_ : Nat := 0
  deriving DecidableEq, Repr

/-- The diverse current check of one phase (R314): error and current sums, windows in them, failed run, last evaluation. -/
structure ChkPhase where
  err : Int := 0
  cur : Int := 0
  n : Nat := 0
  fails : Nat := 0
  lastFailed : Bool := false
  mErr : Int := 0
  mCur : Int := 0
  deriving DecidableEq, Repr

/-- A period with both shunt windows valid, as the torque monitor takes it (R378): the two windows, and the sample tick, electrical angle and
speed of the period's frame. -/
structure MonPeriod where
  w1 : ShuntWin
  w2 : ShuntWin
  at_ : Nat
  theta : Nat
  speed : Int
  deriving DecidableEq, Repr

/-- Sensing of one bridge: the open frame (sample tick, TS64, codes by ADC position, latch, GEN_EFF, DMEAS, restarted), its
count, the offset capture (R296), the windows of this period and of the last (R311 to R313), the check (R314 to R316), VDC (R309), a trip-time
capture's codes, and whether the period has issued one (R301); what the torque monitor's window has gathered: valid periods, and sums of the shunt and DC-link outputs with
their numbers (R377). -/
structure BridgeSensing where
  open_ : Bool := false
  sampleAt : Nat := 0
  sampleTs : Nat := 0
  codes : Table Nat (Option Int) := []
  latch : PosLatch := {}
  gen : Nat := 0
  dPrev : Nat := 0
  vdc : Int := 0
  restarted : Bool := false
  latchPos : Bool := false
  seq : Nat := 0
  capturing : Bool := false
  captured : List (List Int) := []
  ascUsed : Bool := false
  openMark : Table Nat Nat := []
  wins : Table Nat ShuntWin := []
  shunt1 : Int := 0
  shunt2 : Int := 0
  bothValid : Bool := false
  skipped : Bool := false
  frames : List FrameCur := []
  sums : List Int := []
  waiting : List ShuntWin := []
  chk : Table Nat ChkPhase := []
  paused : Bool := false
  lastI : List Int := []
  lastCodes : List Int := []
  tripCap : Table Nat (Option Int) := []
  tripCapDone : Bool := false
  tripCapDue : Bool := false
  monPeriods : List MonPeriod := []
  dcSum : Int := 0
  dcN : Nat := 0
  vSum : Int := 0
  vN : Nat := 0
  deriving DecidableEq, Repr

/-- The module-wide part: since when the two DC-link channels differ (R310), and per ΔΣ channel since when its bits
count (R308) and when it last gave an output; the ADC gains published and not yet in force (R589). -/
structure SenseCommon where
  mismatchSince : Option Nat := none
  since : Table Nat (Option Nat) := []
  outAt : Table Nat Nat := []
  gainNext : Table Nat (Option Int) := []
  deriving DecidableEq, Repr

/-! ### Position -/

/-- A position interface (R322 to R345). `hist` holds the qualifying edges newest first as (tick, unwrapped position);
`pos` the unwrapped position, in POS32 units after POS_DIR and POS_OFFSET; `ok` the type-specific condition of R327, `bad` that a fault which
R327 counts has been raised since the start. -/
structure PosIf where
  hist : List (Nat × Int) := []
  pos : Int := 0
  reverse : Bool := false
  standstill : Bool := true
  ok : Bool := false
  bad : Bool := false
  ready : Bool := false
  lastEdge : Nat := 0
  -- resolver
  ampRun : Nat := 0
  lagRun : Nat := 0
  trackRun : Nat := 0
  lockRun : Nat := 0
  carriers : Nat := 0
  -- encoder
  count : Int := 0
  travel : Nat := 0
  run : Nat := 0
  lastDevAt : Option Nat := none
  teeth : List Nat := []
  hallAligned : Bool := false
  -- Hall set
  seqRun : Nat := 2
  seqDir : Bool := false
  -- serial port
  sentAt : Nat := 0
  asked : Bool := false
  badRun : Nat := 0
  known : Bool := false
  raw : Nat := 0
  deriving DecidableEq, Repr

/-- A position-compare output (R346, R347): which entries are armed, the fired ones with the position at that time, the pulse, the source's
last position. -/
structure PosCmp where
  armed : List Nat := []
  fired : List (Nat × Int) := []
  pulseAt : Option Nat := none
  prev : Int := 0
  deriving DecidableEq, Repr

end Sys2Proof.Machine
end

