-- ==== Sys2Proof/Machine/UnitsSlot.lean ====
section
/-! DEFINITION. State of a motor slot, its field-control program and its tuning injector (chapter 2). -/

namespace Sys2Proof.Machine

/-- A command of R67 with its arrival (TS64), its mailbox SEQ and buffer (R187), its source (0 ring, 1 CAN) and the pair and descriptor
that its completion goes to. -/
structure SlotCmd where
  mode : Nat := 0
  torque : Int := 0
  speed : Int := 0
  acc : Int := 0
  iD : Int := 0
  iQ : Int := 0
  arrival : Nat := 0
  source : Nat := 0
  seq : Nat := 0
  buf : Nat := 0
  reply : Option (Nat × Nat) := none
  deriving DecidableEq, Repr

/-- Where a flying start stands (R86, R88): observing, at initial-angle pulse k or in its decay, synchronised since a tick, or without
synchronisation. -/
inductive FlyPhase where
  | idle
  | observe
  | pulse (k : Nat)
  | decay (k : Nat)
  | synced (at_ : Nat)
  | failed
  deriving DecidableEq, Repr

/-- An INJECT_START descriptor with its pair and number. -/
structure InjReq where
  raw : List Byte
  pair : Nat
  wid : Nat
  deriving DecidableEq, Repr

/-- The tuning injector of a slot (R110 to R116): the start descriptor's content, the descriptors that wait for its ON, one held as a pending enable
(R45), whether bench mode applies, the record count and the first SEQ of this start, dropped records to be told of, current cycles since the start,
since when the torque request is steady and around what, when it became ON, whether it ends by an abort. -/
structure Injector where
  signal : Nat := 0
  axis : Nat := 0
  pair : Nat := 0
  sweep : Nat := 0
  amp : Int := 0
  duration : Nat := 0
  fStart : Nat := 0
  fEnd : Nat := 0
  reps : Nat := 0
  prbsLen : Nat := 0
  prbsBit : Nat := 0
  decim : Nat := 1
  waitLimit : Nat := 0
  replies : List (Nat × Nat) := []
  held : Option InjReq := none
  bench : Bool := false
  seq : Nat := 0
  seq0 : Nat := 0
  overrun : Bool := false
  first : Bool := true
  cycles : Nat := 0
  value : Int := 0
  steadyAt : Nat := 0
  steadyReq : Int := 0
  since : Nat := 0
  aborting : Bool := false
  closed : Bool := false
  deriving DecidableEq, Repr

/-- A motor slot. Torques are in µN·m, the speed-loop speeds in 10⁻⁶ rpm and accelerations in 10⁻⁶ rpm/s, currents in mA. -/
structure Slot where
  expert : Bool := false
  held : Option SlotCmd := none
  mail : List SlotCmd := []
  cmd : SlotCmd := {}
  cmdSeq : Nat := 0
  zeroDue : Bool := false
  fly : FlyPhase := .idle
  rates : List (Nat × Nat) := []
  angle0 : Nat := 0
  stopHold : Option Nat := none
  stopBound : Nat := 0
  -- speed loop (R71)
  wRef : Int := 0
  aRef : Int := 0
  integ : Int := 0
  outLimited : Bool := false
  outExcess : Int := 0
  -- reference step (R65, R74)
  tReq : Int := 0
  tCmd : Int := 0
  tRef : Int := 0
  limitSrc : Nat := 0
  iD : Int := 0
  iQ : Int := 0
  refCount : Nat := 0
  spdCount : Nat := 0
  recDue : List (Nat × Nat) := []
  -- current cycle
  vLimit : Bool := false
  satSince : Option Nat := none
  obsRun : Nat := 0
  obsSpeed : Int := 0
  obsLost : Bool := false
  seenSpeed : Int := 0
  thetaOut : Nat := 0
  dUsed : Nat := 0
  angleErr : Int := 0
  measD : Int := 0
  measQ : Int := 0
  telSeq : Nat := 0
  monSeq : Nat := 0
  pubSeq : Nat := 0
  steadyAt : Nat := 0
  steadyD : Int := 0
  steadyQ : Int := 0
  lastFlags : Nat := 0
  lastTest : Int := 0
  -- missing phase (R104, R106)
  squares : List Nat := []
  periodOk : Bool := true
  missingOff : Bool := false
  lostSet : Option Nat := none
  -- the torque monitor: its mailbox (R193) with the tick of its record, the records it has read in this window and the last one, the tick
  -- of the last arrival, windows without an estimate, the distances of R381 by window, and the last window evaluated
  monBox : Option (List Byte × Nat) := none
  monRecs : List (List Byte) := []
  monLast : Option (List Byte) := none
  monAt : Nat := 0
  monNone : Nat := 0
  monDist : List (Nat × Int) := []
  monWin : Nat := 0
  inj : Injector := {}
  deriving DecidableEq, Repr

end Sys2Proof.Machine
end

