-- ==== Sys2Proof/Machine/State.lean ====
section
/-! DEFINITION. The state of the block and its state after reset. -/

namespace Sys2Proof.Machine

/-- Why a run stops with a fault. No command of this block ends so: every error the spec describes is a fault code
of the machine, taken as an effect on the state. The constructor stands for a command the spec gives no effect at
all. -/
inductive Fault where
  /-- Raised by no command. Safe: the run would stop. -/
  | notSpecified (what : String)
  deriving DecidableEq, Repr

/-- Why a command is refused. -/
inductive Refusal where
  /-- A command whose meaning has not been written. Safe: the run stops. -/
  | notModelled (mnemonic : String)
  deriving DecidableEq, Repr

/-- The order of register instances in the register table. -/
def RKey.lt (a b : RKey) : Bool :=
  let x := a.reg.ctorIdx
  let y := b.reg.ctorIdx
  decide (x < y) || (x == y && (decide (a.i < b.i) || (a.i == b.i && decide (a.j < b.j))))

/-- The whole state of the block. -/
structure State where
  /-- Commands waiting, first in, first out. -/
  pending : List Instr := []
  /-- Ticks of CLK_PWM since the model's start, by which timers run: 1.25 ns each, 5 ns while the PLL coasts (R474). -/
  now : Nat := 0
  /-- LPO time since the model's start, in units of 1.25 ns, by which what the LPO clocks runs (R469): a tick adds one, and four while the PLL
  coasts. -/
  lpo : Nat := 0
  /-- Device time since the device epoch (R12, R523), in units of 1 ns / (1,024 × 10⁹): a tick adds
  5 × (256 × 10⁹ + FREQ_ADJ) of them, so that every FREQ_ADJ of 1/256 ppb is exact. -/
  dev : Nat := 0
  /-- The model's own counter of free values. -/
  fresh : Nat := 0
  /-- Registers that differ from their reset value (R8, R11): one word for each instance, by block register and indices. -/
  regs : Table RKey Word := []
  /-- Parameter values in force (R11, R47). -/
  params : Table PKey Int := []
  /-- Parameter records as stored in MRAM (R47, R51); they come into force when their chapter says. -/
  stored : Table PKey Int := []
  /-- The lifecycle of every switchable function that is not as at reset (R40 to R45). -/
  lcs : Table Func Lc := []
  /-- System memory and engine memories (R50, R168, R564): a byte for each listed address; an unlisted one reads 0 (log entry 3). -/
  mem : Table Nat Byte := []
  /-- The MRAM die (R153 to R158, R439, R462): a byte for each listed offset; an unlisted one reads 0 (log entry 3). -/
  mram : Table Nat Byte := []
  /-- The PCIe host's memory, where ring pairs of that host lie (R404, R406). -/
  hostMem : Table Nat Byte := []
  /-- What each satellite's edge lane demands (R245 to R248). -/
  lanes : Table Nat Bool := []
  /-- Active faults, the latch record, the scree log and the escalation lists (R371 to R376). -/
  faults : FaultSys := {}
  /-- The safe state of each bridge (R353 to R370). -/
  safe : Table Nat BridgeSafe := []
  /-- Per satellite, when a skipped safe-state turn-on was reported (R365). -/
  skipAt : Table Nat (Option Nat) := []
  /-- The safety island: pairs, STO, discharge (R353 to R360, R385 to R399). -/
  island : Island := {}
  /-- The 64 ring pairs (R404 to R412, R421). -/
  rings : Table Nat RingPair := []
  /-- The hosts LOCAL and PCIE: heartbeat and loss (R424 to R427). -/
  hosts : Table Nat HostState := []
  /-- Which host commands each slot (R426, R427). -/
  slotHosts : Table Nat SlotHost := []
  /-- The pairs served in the present round of R411. -/
  served : List Nat := []
  /-- The bulk transfer under way (R416). -/
  bulk : Option Bulk := none
  /-- Boot lock, confirm window, sessions, tokens, immobilisers (R437 to R463). -/
  prot : Prot := {}
  /-- MSI-X vectors sent by PCIE pairs (R412). -/
  msix : List Nat := []
  /-- Interrupt lines raised by LOCAL pairs (R412). -/
  irqLines : List Nat := []
  /-- The reference monitor, the relock and the ramp (R472 to R475). -/
  clocks : Clocks := {}
  /-- The power mode, a mode being entered, WAKE_OUT, the watchdog (R480 to R487). -/
  power : Power := {}
  /-- The reset controller: the guard, the causes, the start (R483 to R489). -/
  rst : ResetCtl := {}
  /-- The domains' held requests (R476 to R479). -/
  domains : Table Nat DomainPower := []
  /-- The control engines (R168 to R207). -/
  engines : Table Nat Engine := []
  /-- The PWM bridges (R208 to R244). -/
  pwms : Table Nat Pwm := []
  /-- The gate-drive satellites and their links (R245 to R291). -/
  sats : Table Nat Sat := []
  /-- The converters ADC0 to ADC5 (R292 to R304). -/
  adcs : Table Nat AdcUnit := []
  /-- The sensing of each bridge (R293 to R304). -/
  sensing : Table Nat BridgeSensing := []
  /-- The sigma-delta channels and the sensors common to both bridges (R305 to R317). -/
  sense : SenseCommon := {}
  /-- The motor slots (R57 to R118). -/
  slots : Table Nat Slot := []
  /-- The position interfaces (R322 to R345). -/
  posIfs : Table Nat PosIf := []
  /-- The position-compare outputs (R346, R347). -/
  posCmps : Table Nat PosCmp := []
  /-- Bits [63:32] of the timeline captures, by 8 × bridge + register, until a read latches them (R244). -/
  capHi : Table Nat Nat := []
  /-- What of the atlas outlives a package reset (R153 to R158). -/
  atlasNv : AtlasNv := {}
  /-- The flux atlas of each slot (R119 to R165). -/
  atlas : Table Nat AtlasSlot := []
  /-- The atlas unit, the MRAM controller, import and export (R135 to R167). -/
  atlasC : AtlasCommon := {}
  /-- The CAN controllers (R494 to R509). -/
  cans : Table Nat CanUnit := []
  /-- The Aqosh connections (R510 to R516). -/
  aqs : Table Nat AqConn := []
  /-- Network time, Ethernet, timed outputs and captures (R522 to R543). -/
  time : TimeUnit := {}
  /-- The sentinel (R544 to R563). -/
  sn : Sentinel := {}
  /-- Memory test, scrubbing and arbiters (R564 to R579). -/
  memc : MemCtl := {}
  /-- Housekeeping (R580 to R591). -/
  hk : Housekeeping := {}
  /-- The counts of the life record (R627). -/
  life : Life := {}
  deriving DecidableEq, Repr

/-- The machine right after reset. -/
def State.reset : State := {}

end Sys2Proof.Machine
end

