-- ==== Sys2Proof/Machine/Ops.lean ====
section
/-! DEFINITION. The named operations over registers, parameters, lifecycles, memory and time that every family of
commands uses. -/

namespace Sys2Proof.Machine

/-- What a command answers. -/
abbrev Out := Host.Outcome State Fault Refusal

/-! ### Time (R16): ticks of 1.25 ns -/

/-- Ticks in a microsecond, a millisecond and a second. -/
abbrev usT : Nat := 800
abbrev msT : Nat := 800000
abbrev secT : Nat := 800000000

/-- Nanoseconds to ticks, rounding down (R16). -/
def nsToTicks (ns : Nat) : Nat := ns * 4 / 5

/-- Units of `dev` in a nanosecond. -/
abbrev devNs : Nat := 1024000000000

/-- The device time as a TS64 value, ns since the device epoch (R12). -/
def State.ts (s : State) : Nat := s.dev / devNs

/-- Whether at least `d` ticks have passed since `t`. -/
def State.elapsed (s : State) (t d : Nat) : Bool := decide (t + d ≤ s.now)

/-- Whether at least `d` units of 1.25 ns of LPO time have passed since `t` (R469). -/
def State.elapsedLpo (s : State) (t d : Nat) : Bool := decide (t + d ≤ s.lpo)

/-- Whether at least `ns` nanoseconds have passed since tick `t` (a tick is 1.25 ns). -/
def State.elapsedNs (s : State) (t ns : Nat) : Bool := decide (5 * t + 4 * ns ≤ 5 * s.now)

/-! ### Registers -/

/-- A word with the bits `hi` down to `lo` replaced. -/
def putBits (w hi lo v : Nat) : Nat :=
  w - bits w hi lo * 2 ^ lo + v % 2 ^ (hi + 1 - lo) * 2 ^ lo

/-- The stored value of a register instance. -/
def State.reg (s : State) (k : RKey) : Word := Table.get (fun k => k.reg.resetVal k.i) s.regs k

/-- Replace the stored value of a register instance. -/
def State.setReg (s : State) (k : RKey) (w : Word) : State :=
  { s with regs := Table.set RKey.lt (fun k => k.reg.resetVal k.i) s.regs k w }

/-- The value of a field. -/
def State.fld (s : State) (f : Fld) (i : Nat := 0) (j : Nat := 0) : Nat :=
  bits (s.reg ⟨f.reg, i, j⟩).toNat f.hi f.lo

/-- The value of a field read as two's complement. -/
def State.fldS (s : State) (f : Fld) (i : Nat := 0) (j : Nat := 0) : Int :=
  toSigned (f.hi + 1 - f.lo) (s.fld f i j)

/-- Whether a one-bit field is set. -/
def State.flag (s : State) (f : Fld) (i : Nat := 0) (j : Nat := 0) : Bool := s.fld f i j == 1

/-- Write a field, keeping the other bits of its register. -/
def State.setFld (s : State) (f : Fld) (v : Nat) (i : Nat := 0) (j : Nat := 0) : State :=
  s.setReg ⟨f.reg, i, j⟩ (BitVec.ofNat 32 (putBits (s.reg ⟨f.reg, i, j⟩).toNat f.hi f.lo v))

/-- Write a field with a signed value, wrapping to its width. -/
def State.setFldS (s : State) (f : Fld) (v : Int) (i : Nat := 0) (j : Nat := 0) : State :=
  s.setFld f (ofSigned (f.hi + 1 - f.lo) v) i j

/-- Write a one-bit field. -/
def State.setFlag (s : State) (f : Fld) (b : Bool) (i : Nat := 0) (j : Nat := 0) : State :=
  s.setFld f (b2n b) i j

/-- The registers satisfying a predicate return to their reset values. -/
def State.resetRegs (s : State) (p : RKey → Bool) : State :=
  { s with regs := s.regs.filter (fun e => !p e.1) }

/-! ### Parameters -/

/-- The value in force of one element of a parameter. -/
def State.par (s : State) (id : Nat) (inst : Nat := 0) (idx : Nat := 0) : Int :=
  Table.get paramDefault s.params ⟨id, inst, idx⟩

/-- The value in force, as a number (0 for a negative one). -/
def State.parN (s : State) (id : Nat) (inst : Nat := 0) (idx : Nat := 0) : Nat := (s.par id inst idx).toNat

/-- The stored value of one element of a parameter. -/
def State.parStored (s : State) (id : Nat) (inst : Nat := 0) (idx : Nat := 0) : Int :=
  Table.get paramDefault s.stored ⟨id, inst, idx⟩

/-- Store a value in its record. -/
def State.setStored (s : State) (id inst idx : Nat) (v : Int) : State :=
  { s with stored := Table.set PKey.lt paramDefault s.stored ⟨id, inst, idx⟩ v }

/-- Whether a key lies in a range of IDs of one instance. -/
def PKey.inRange (a z inst : Nat) (k : PKey) : Bool := decide (a ≤ k.id) && decide (k.id ≤ z) && k.inst == inst

/-- The stored record of an instance, IDs `a` to `z`, comes into force as a whole. -/
def State.takeEffect (s : State) (a z inst : Nat) : State :=
  let fromStore := s.stored.filter (fun e => e.1.inRange a z inst)
  let others := s.params.filter (fun e => !e.1.inRange a z inst)
  { s with params := fromStore.foldl (fun t e => Table.set PKey.lt paramDefault t e.1 e.2) others }

/-! ### Lifecycles (R40 to R46) -/

/-- The lifecycle of a function. -/
def State.lc (s : State) (k : FuncKind) (n : Nat) : Lc := Table.get (fun _ => {}) s.lcs ⟨k, n⟩

/-- Replace the lifecycle of a function. -/
def State.setLc (s : State) (k : FuncKind) (n : Nat) (l : Lc) : State :=
  { s with lcs := Table.set Func.lt (fun _ => {}) s.lcs ⟨k, n⟩ l }

def State.isOn (s : State) (k : FuncKind) (n : Nat) : Bool := (s.lc k n).state == .on
def State.isOff (s : State) (k : FuncKind) (n : Nat) : Bool := (s.lc k n).state == .off
def State.isStarting (s : State) (k : FuncKind) (n : Nat) : Bool := (s.lc k n).state == .starting
def State.isStopping (s : State) (k : FuncKind) (n : Nat) : Bool := (s.lc k n).state == .stopping

/-- Whether a kind of function defines an abort of STARTING (R43; R84, R110, R140, R197, R240, R257, R325, R346,
R392, R406, R476, R508, R548). -/
def FuncKind.hasAbort : FuncKind → Bool
  | .slot => true | .bridge => true | .satellite => true | .posIf => true | .posCmp => true | .dressing => false
  | .injector => true | .engine => false | .discharge => false | .can => true | .rule => false | .ring => false
  | .domain => false

/-- An enable that reaches the lifecycle (R45). -/
def Lc.enable (l : Lc) (t : Nat) : Lc :=
  match l.state with
  | .off => { l with state := .starting, pending := .none, fault := false, since := t }
  | .starting => { l with pending := .none }
  | .on => { l with pending := .none }
  | .stopping => { l with pending := .enable }

/-- A disable that reaches the lifecycle (R45). -/
def Lc.disable (abort : Bool) (l : Lc) (t : Nat) : Lc :=
  match l.state with
  | .off => { l with pending := .none }
  | .starting =>
    if abort then { l with state := .stopping, pending := .none, fault := false, since := t }
    else { l with pending := .disable }
  | .on => { l with state := .stopping, pending := .none, fault := false, since := t }
  | .stopping => { l with pending := .none }

/-- A fault that stops the function (R45): STOPPING through the fault path, a pending request discarded. -/
def Lc.faultStop (l : Lc) (t : Nat) : Lc :=
  let d := l.discard || l.pending != .none
  match l.state with
  | .off => { l with pending := .none, discard := d }
  | .stopping => { l with pending := .none, discard := d, fault := true }
  | _ => { l with state := .stopping, pending := .none, discard := d, fault := true, since := t }

/-- A reset of the function's unit, cluster or region (R45), and the end of a STOPPING that exceeded its bound:
OFF at once, a pending request discarded. -/
def Lc.forceOff (l : Lc) (t : Nat) : Lc :=
  { l with state := .off, pending := .none, discard := l.discard || l.pending != .none, fault := false, since := t }

/-- The end of a start sequence (R45): ON; a pending DISABLE is taken in the next cycle of CLK_PER. -/
def Lc.startDone (l : Lc) (t : Nat) : Lc := if l.state = .starting then { l with state := .on, since := t } else l

/-- The end of a stop sequence (R45): OFF; a pending ENABLE is taken in the next cycle of CLK_PER. -/
def Lc.stopDone (l : Lc) (t : Nat) : Lc := if l.state = .stopping then { l with state := .off, fault := false, since := t } else l

/-- Apply a lifecycle change to a function. -/
def State.updLc (s : State) (k : FuncKind) (n : Nat) (f : Lc → Nat → Lc) : State :=
  s.setLc k n (f (s.lc k n) s.now)

/-! ### Per-unit records -/

def State.safeOf (s : State) (b : Nat) : BridgeSafe := s.safe.at {} b
def State.setSafe (s : State) (b : Nat) (x : BridgeSafe) : State := { s with safe := s.safe.setAt {} b x }
def State.ring (s : State) (n : Nat) : RingPair := s.rings.at {} n
def State.setRing (s : State) (n : Nat) (x : RingPair) : State := { s with rings := s.rings.setAt {} n x }
def State.hostOf (s : State) (h : Nat) : HostState := s.hosts.at {} h
def State.setHost (s : State) (h : Nat) (x : HostState) : State := { s with hosts := s.hosts.setAt {} h x }
def State.domainOf (s : State) (d : Nat) : DomainPower := s.domains.at {} d
def State.setDomain (s : State) (d : Nat) (x : DomainPower) : State := { s with domains := s.domains.setAt {} d x }
def State.lane (s : State) (n : Nat) : Bool := s.lanes.at false n
def State.setLane (s : State) (n : Nat) (v : Bool) : State := { s with lanes := s.lanes.setAt false n v }

def State.engine (s : State) (n : Nat) : Engine := s.engines.at {} n
def State.setEngine (s : State) (n : Nat) (x : Engine) : State := { s with engines := s.engines.setAt {} n x }
def State.pwm (s : State) (b : Nat) : Pwm := s.pwms.at {} b
def State.setPwm (s : State) (b : Nat) (x : Pwm) : State := { s with pwms := s.pwms.setAt {} b x }
def State.sat (s : State) (n : Nat) : Sat := s.sats.at {} n
def State.setSat (s : State) (n : Nat) (x : Sat) : State := { s with sats := s.sats.setAt {} n x }
def State.adc (s : State) (n : Nat) : AdcUnit := s.adcs.at {} n
def State.setAdc (s : State) (n : Nat) (x : AdcUnit) : State := { s with adcs := s.adcs.setAt {} n x }
def State.sens (s : State) (b : Nat) : BridgeSensing := s.sensing.at {} b
def State.setSens (s : State) (b : Nat) (x : BridgeSensing) : State := { s with sensing := s.sensing.setAt {} b x }
def State.posIf (s : State) (i : Nat) : PosIf := s.posIfs.at {} i
def State.setPosIf (s : State) (i : Nat) (x : PosIf) : State := { s with posIfs := s.posIfs.setAt {} i x }
def State.posCmp (s : State) (k : Nat) : PosCmp := s.posCmps.at {} k
def State.setPosCmp (s : State) (k : Nat) (x : PosCmp) : State := { s with posCmps := s.posCmps.setAt {} k x }
def State.slot (s : State) (n : Nat) : Slot := s.slots.at {} n
def State.setSlot (s : State) (n : Nat) (x : Slot) : State := { s with slots := s.slots.setAt {} n x }
def State.atl (s : State) (n : Nat) : AtlasSlot := s.atlas.at {} n
def State.setAtl (s : State) (n : Nat) (x : AtlasSlot) : State := { s with atlas := s.atlas.setAt {} n x }

def State.can (s : State) (n : Nat) : CanUnit := s.cans.at {} n
def State.setCan (s : State) (n : Nat) (x : CanUnit) : State := { s with cans := s.cans.setAt {} n x }
def State.aq (s : State) (c : Nat) : AqConn := s.aqs.at {} c
def State.setAq (s : State) (c : Nat) (x : AqConn) : State := { s with aqs := s.aqs.setAt {} c x }
def State.setTime (s : State) (x : TimeUnit) : State := { s with time := x }

/-- Apply a change to each number of a list, in order. -/
def State.forAll (s : State) (l : List Nat) (f : State → Nat → State) : State := l.foldl f s

/-! ### Memory: little-endian byte lists in one table per memory -/

/-- The bytes of a number, least significant first. -/
def leBytes : Nat → Nat → List Byte
  | 0, _ => []
  | k + 1, v => BitVec.ofNat 8 (v % 256) :: leBytes k (v / 256)

/-- The number that bytes hold, least significant first. -/
def leNat : List Byte → Nat
  | [] => 0
  | b :: t => b.toNat + 256 * leNat t

/-- The bytes of a number, most significant first. -/
def beBytes (k v : Nat) : List Byte := (leBytes k v).reverse

/-- The number that bytes hold, most significant first. -/
def beNat (l : List Byte) : Nat := leNat l.reverse

/-- A memory: what an unlisted address reads as is 0 (log entry 3). -/
abbrev Memory := Table Nat Byte

def Memory.dflt : Nat → Byte := fun _ => 0#8
def Memory.byte (m : Memory) (a : Nat) : Byte := Table.get Memory.dflt m a
def Memory.putByte (m : Memory) (a : Nat) (v : Byte) : Memory := Table.set ltNat Memory.dflt m a v
def Memory.wf (m : Memory) : Bool := Table.wf ltNat Memory.dflt m

/-- Read `n` bytes from an address. -/
def Memory.read (m : Memory) (a : Nat) : Nat → List Byte
  | 0 => []
  | n + 1 => m.byte a :: Memory.read m (a + 1) n

/-- Write bytes from an address on. -/
def Memory.write (m : Memory) (a : Nat) : List Byte → Memory
  | [] => m
  | b :: t => Memory.write (m.putByte a b) (a + 1) t

/-- A little-endian number of `n` bytes at an address. -/
def Memory.readNat (m : Memory) (a n : Nat) : Nat := leNat (m.read a n)

/-! ### Domains (R27 to R31) -/

/-- The domains a domain requires (R27). -/
def domainRequires : Nat → List Nat
  | 0 => []
  | 6 => [0]
  | 1 => [0, 6] | 2 => [0, 6] | 3 => [0, 6] | 4 => [0, 6] | 5 => [0, 6]
  | 7 => [0, 1, 6]
  | 8 => [0, 6] | 9 => [0, 6]
  | 10 => [0, 1, 6, 7] | 11 => [0, 1, 6, 7]
  | _ => []

/-- The domains that require a domain (R27). -/
def domainDependents (d : Nat) : List Nat := (List.range 12).filter (fun e => (domainRequires e).contains d)

/-- Whether a domain is on: PD0 always, the others by their lifecycle (R476). -/
def State.pdOn (s : State) (d : Nat) : Bool := d == 0 || s.isOn .domain d

/-! ### The fixed assignment of satellites, legs, bridges and slots (R19, R57) -/

/-- The bridge of a satellite. -/
def bridgeOfSat (n : Nat) : Nat := if n < 6 then 0 else 1
/-- The satellites of a bridge. -/
def satsOfBridge (b : Nat) : List Nat := if b = 0 then [0, 1, 2, 3, 4, 5] else [6, 7, 8, 9, 10, 11]
/-- The satellite on the other side of the leg. -/
def partnerSat (n : Nat) : Nat := if n % 2 = 0 then n + 1 else n - 1

/-- Whether M0 spans both bridges (R57, R58). -/
def State.dual3 (s : State) : Bool := s.par P.WINDING 0 == 1

/-- The slot that uses a bridge (R57). -/
def State.slotOfBridge (s : State) (b : Nat) : Nat := if b = 0 then 0 else if s.dual3 then 0 else 1

/-- The bridges of a slot (R57). -/
def State.bridgesOfSlot (s : State) (n : Nat) : List Nat :=
  if n = 0 then (if s.dual3 then [0, 1] else [0]) else (if s.dual3 then [] else [1])

/-! ### Rounding -/

/-- `num / den` to the nearest integer, halves upwards. -/
def roundUpHalf (num : Int) (den : Nat) : Int := (2 * num + den) / (2 * den)

/-- `num / den` to the nearest integer, halves away from zero. -/
def roundAway (num : Int) (den : Nat) : Int :=
  if num < 0 then -(((2 * num.natAbs + den) / (2 * den) : Nat) : Int) else ((2 * num.natAbs + den) / (2 * den) : Nat)

/-- `num / den` as an integer where the spec states no rounding: the floor or, by a free choice, the next integer. -/
def roundFree (site : Nat) (num : Int) (den : Nat) : Int :=
  num / den + (if num % den ≠ 0 ∧ Config.roundUp site num den then 1 else 0)

/-- Saturation to int16. -/
def sat16 (x : Int) : Int := clampI (-32768) 32767 x

/-! ### Free values -/

/-- The next free value's number, and the state in which it has been taken. -/
def State.takeFresh (s : State) : Nat × State := (s.fresh, { s with fresh := s.fresh + 1 })

/-! ### Counters -/

/-- Count up a register field, saturating at its width (R244, R291 and their like). -/
def State.bump (s : State) (f : Fld) (i : Nat := 0) (j : Nat := 0) (by_ : Nat := 1) : State :=
  s.setFld f (min (2 ^ (f.hi + 1 - f.lo) - 1) (s.fld f i j + by_)) i j

/-! ### Engine events (R180, R181) -/

/-- The events of R180 by number. -/
abbrev Ev.timer0 : Nat := 2
abbrev Ev.timer1 : Nat := 3
abbrev Ev.cmd : Nat := 4
abbrev Ev.param : Nat := 5
abbrev Ev.peer : Nat := 6
abbrev Ev.satmeas : Nat := 9
abbrev Ev.safe : Nat := 10
abbrev Ev.stop : Nat := 11

/-- Raise an event in an engine whose program runs: its bit in EVPEND, or EVOVR when the bit is already set (R181). -/
def State.raiseEvent (s : State) (c bit info : Nat) : State :=
  if !(s.isOn .engine c || s.isStopping .engine c) then s
  else
    let e := s.engine c
    let again := bits e.evPend bit bit == 1
    let s := s.setEngine c { e with
      evPend := e.evPend ||| 2 ^ bit
      evOvr := if again then e.evOvr ||| 2 ^ bit else e.evOvr
      evInfo := e.evInfo.setAt 0 bit info }
    if again then s.setFlag F.CE_INT_STATUS_EV_OVERRUN true c else s

/-- Raise an event in every engine that satisfies a test. -/
def State.raiseEvents (s : State) (p : Engine → Bool) (bit info : Nat) : State :=
  (List.range 8).foldl (fun s c => if p (s.engine c) then s.raiseEvent c bit info else s) s

/-- SAFE: the safe state or torque enable of a bridge has changed (R180). -/
def State.safeEvent (s : State) (b : Nat) : State := s.raiseEvents (fun e => e.writes.contains b) Ev.safe b

end Sys2Proof.Machine
end

