-- ==== Sys2Proof/Machine/RingOps.lean ====
section
/-! DEFINITION. Memory as bus masters reach it (R52, R53, R31, R445), and what Derrick does with a ring pair:
completions in order (R409, R410, R412, R414), records into posted buffers (R420, R421). -/

namespace Sys2Proof.Machine

/-! ### Memory on the bus -/

/-- The memories of the system map that hold bytes (R52), and whether a write can change them (R53). -/
inductive MemArea where
  | rom | sram | window | mramWindow | tcm | retention
  deriving DecidableEq, Repr

/-- The memory at a system address (R52). -/
def memArea (a : Nat) : Option MemArea :=
  if a < 0x20000 then some .rom
  else if 0x10000000 ≤ a ∧ a < 0x10800000 then some .sram
  else if 0x20000000 ≤ a ∧ a < 0x20400000 then some .window
  else if 0x30000000 ≤ a ∧ a < 0x38000000 then some .mramWindow
  else if 0x38000000 ≤ a ∧ a < 0x38100000 then some .tcm
  else if 0x39000000 ≤ a ∧ a < 0x39010000 then some .retention
  else none

/-- The domain of a memory (R52). -/
def MemArea.domain : MemArea → Nat
  | .rom => 6 | .sram => 6 | .window => 5 | .mramWindow => 5 | .tcm => 1 | .retention => 0

/-- Whether BOOTLOCK is set (R443). -/
def State.bootlock (s : State) : Bool := s.flag F.PROT_BOOTLOCK_LOCK

/-- Whether one region of a master's MPU table covers an access with the right needed (R445): bit 0 read, 1 write,
2 fetch. -/
def State.regionGrants (s : State) (m r a len right : Nat) : Bool :=
  s.flag F.PROT_MPU_RBASE_EN m r &&
  decide (4096 * s.fld F.PROT_MPU_RBASE_BASE m r ≤ a) &&
  decide (a + len ≤ 4096 * (s.fld F.PROT_MPU_RLIMIT_LIMIT m r + 1)) &&
  (s.fld F.PROT_MPU_RBASE_R m r == 1 && right == 0 || s.fld F.PROT_MPU_RBASE_W m r == 1 && right == 1 ||
    s.fld F.PROT_MPU_RBASE_X m r == 1 && right == 2)

/-- Whether the MPU allows a master's access (R441, R445): until BOOTLOCK masters 8, 18 and 19 are not checked; every
other access needs a table with VALID set and a region that covers it. -/
def State.mpuAllows (s : State) (m a len right : Nat) : Bool :=
  (!s.bootlock && (m == 8 || m == 18 || m == 19)) ||
  (s.flag F.PROT_MPU_CTRL_VALID m && (List.range 16).any (fun r => s.regionGrants m r a len right))

/-- The byte stored at a system address; the boot ROM is fixed at manufacture, the MRAM window shows MRAM. -/
def State.sysByte (s : State) (a : Nat) : Byte :=
  match memArea a with
  | some .rom => Config.bootRom a
  | some .mramWindow => Memory.byte s.mram (a - 0x30000000)
  | some _ => Memory.byte s.mem a
  | none => 0#8

/-- Bytes stored from a system address on. -/
def State.sysBytes (s : State) (a n : Nat) : List Byte := (List.range n).map (fun k => s.sysByte (a + k))

/-- Whether bytes overlap a word found uncorrectable and not rewritten since (R566): a read of it answers an error. -/
def State.poisoned (s : State) (a len : Nat) : Bool := s.memc.poison.any (fun w => decide (w < a + len) && decide (a < w + 8))

/-- Whether a write leaves part of such a word as it is: the write is discarded with an error (R567). -/
def State.partPoisoned (s : State) (a len : Nat) : Bool :=
  s.memc.poison.any (fun w => decide (w < a + len) && decide (a < w + 8) && !(decide (a ≤ w) && decide (w + 8 ≤ a + len)))

/-- Whether a master can access `len` bytes of memory at an address: one memory, its domain on, the MPU allowing it,
and no write to the ROM or the MRAM window (R31, R52, R53, R445). -/
def State.memOk (s : State) (m a len : Nat) (write : Bool) : Bool :=
  match memArea a with
  | none => false
  | some x =>
    s.pdOn x.domain && (memArea (a + (len - 1)) == some x) && s.mpuAllows m a len (b2n write) &&
    !(write && (x == .rom || x == .mramWindow)) && (if write then !s.partPoisoned a len else !s.poisoned a len)

/-- Store bytes in a memory of the system map. A word found uncorrectable holds good data again after a full 64-bit write and takes no narrower
one (R566, R567); a correction that waits for a word written is dropped (R591). -/
def State.sysWrite (s : State) (a : Nat) (l : List Byte) : State :=
  let full (w : Nat) : Bool := decide (a ≤ w) && decide (w + 8 ≤ a + l.length)
  let hurt := s.memc.poison.filter (fun w => !full w)
  let wb := s.memc.writeback.filter (fun e => decide (e.2 + 8 ≤ a) || decide (a + l.length ≤ e.2))
  let s := { s with memc := { s.memc with poison := hurt, writeback := wb } }
  if hurt.isEmpty then { s with mem := Memory.write s.mem a l }
  else { s with mem := (List.range l.length).foldl (fun m k =>
    if hurt.contains ((a + k) / 8 * 8) then m else Memory.putByte m (a + k) (l.getD k 0#8)) s.mem }

/-! ### Ring pairs: binding and layout -/

/-- Whether a pair's host is PCIE (R404). -/
def State.rpPcie (s : State) (n : Nat) : Bool := s.flag F.DERRICK_RP_BIND_HOST n
/-- The host number of a pair: 0 LOCAL, 1 PCIE. -/
def State.rpHost (s : State) (n : Nat) : Nat := b2n (s.rpPcie n)
/-- The class of a pair: 0 UNBOUND, 1 COMMAND, 2 TELEMETRY, 3 CAPTURE, 4 EVENT, 5 FRAME, 6 ATLAS. -/
def State.rpClass (s : State) (n : Nat) : Nat := s.fld F.DERRICK_RP_BIND_CLASS n
/-- The number of entries of a pair (R403). -/
def State.rpSize (s : State) (n : Nat) : Nat := 2 ^ s.fld F.DERRICK_RP_CFG_LOG2_SIZE n
/-- The base address of a pair. -/
def State.rpBase (s : State) (n : Nat) : Nat :=
  s.fld F.DERRICK_RP_BASE_HI_ADDR n * 2 ^ 32 + s.fld F.DERRICK_RP_BASE_LO_ADDR n * 64

/-- Whether Derrick can reach bytes in the address space of a pair's host: LOCAL as master 15 under its MPU table
(R413), PCIE while the link is in DL_Active with bus mastering enabled. -/
def State.hostOk (s : State) (n a len : Nat) (write : Bool) : Bool :=
  if s.rpPcie n then s.flag F.PCIE_STATUS_DL_ACTIVE && s.flag F.PCIE_STATUS_BME && s.pdOn 9
  else s.memOk 15 a len write

/-- Store bytes in the address space of a pair's host. -/
def State.hostWrite (s : State) (n a : Nat) (l : List Byte) : State :=
  if s.rpPcie n then { s with hostMem := Memory.write s.hostMem a l } else s.sysWrite a l

/-! ### Completions -/

/-- The completion statuses of R415. -/
abbrev St.ok : Nat := 0x0000
abbrev St.limited : Nat := 0x0001
abbrev St.superseded : Nat := 0x0002
abbrev St.badOpcode : Nat := 0x0100
abbrev St.badField : Nat := 0x0101
abbrev St.roleRefused : Nat := 0x0102
abbrev St.stateRefused : Nat := 0x0103
abbrev St.validationRefused : Nat := 0x0104
abbrev St.boundRefused : Nat := 0x0105
abbrev St.slotNotOn : Nat := 0x0106
abbrev St.modeRefused : Nat := 0x0107
abbrev St.reverseRefused : Nat := 0x0108
abbrev St.sourceRefused : Nat := 0x0109
abbrev St.dataError : Nat := 0x010A
abbrev St.signatureRefused : Nat := 0x010B
abbrev St.counterRefused : Nat := 0x010C
abbrev St.busy : Nat := 0x010D
abbrev St.tokenRefused : Nat := 0x010E
abbrev St.notReady : Nat := 0x010F
abbrev St.aborted : Nat := 0x0200

/-- Raise the interrupt of a pair (R412): an MSI-X vector for PCIE, a local line for LOCAL. -/
def State.signalPair (s : State) (n : Nat) : State :=
  let v := s.fld F.DERRICK_RP_CFG_VECTOR n
  let s := s.setRing n { s.ring n with unsig := 0, unsigSince := none }
  if s.rpPcie n then { s with msix := if s.msix.contains v then s.msix else s.msix ++ [v] }
  else { s with irqLines := if s.irqLines.contains (v % 4) then s.irqLines else s.irqLines ++ [v % 4] }

/-- Post one completion (R409, R412, R414). Nothing is posted for a pair that is OFF, or whose host is lost (R425).
A completion write that fails leaves the pair marked: RING_DMA_ERR follows when Derrick next turns to it. -/
def State.postCompletion (s : State) (n op tag : Nat) (irq : Bool) (status result : Nat) : State :=
  if s.isOff .ring n || (s.hostOf (s.rpHost n)).lost then s
  else
    let r := s.ring n
    let size := s.rpSize n
    let a := s.rpBase n + size * 64 + 16 * r.compl
    if !s.hostOk n a 16 true then s.setRing n { r with dmaErr := true }
    else
    let bytes := leBytes 8 (result % 2 ^ 64) ++ leBytes 2 tag ++ leBytes 2 r.head ++ leBytes 2 status ++
      leBytes 1 op ++ leBytes 1 (128 * b2n r.phase)
    let s := if 0x0100 ≤ status ∧ status ≤ 0x01FF then
        s.setFld F.DERRICK_RP_STATS_REFUSED (min 0xFFFF (s.fld F.DERRICK_RP_STATS_REFUSED n + 1)) n else s
    let wraps := r.compl + 1 ≥ size
    let s := s.setRing n { r with
      compl := if wraps then 0 else r.compl + 1
      phase := if wraps then !r.phase else r.phase
      outstanding := r.outstanding + 1
      unsig := r.unsig + 1
      unsigSince := some (r.unsigSince.getD s.now) }
    let s := s.hostWrite n a bytes
    if irq || decide (max 1 (s.fld F.DERRICK_RP_CFG_IRQ_CNT n) ≤ r.unsig + 1) then s.signalPair n else s

/-- The fields of a fetched descriptor (R413). -/
def rawOpcode (d : List Byte) : Nat := leNat (d.take 1)
def rawFlags (d : List Byte) : Nat := leNat ((d.drop 1).take 1)
def rawTag (d : List Byte) : Nat := leNat ((d.drop 2).take 2)
def rawTarget (d : List Byte) : Nat := leNat ((d.drop 4).take 2)
def rawAddr (d : List Byte) : Nat := leNat ((d.drop 8).take 8)
def rawLen (d : List Byte) : Nat := leNat ((d.drop 16).take 4)
/-- A body field: `size` bytes at `off`, unsigned. -/
def rawField (d : List Byte) (off size : Nat) : Nat := leNat ((d.drop off).take size)
/-- A body field read as two's complement. -/
def rawFieldS (d : List Byte) (off size : Nat) : Int := toSigned (8 * size) (rawField d off size)

/-- Post the finished items at the front of a pair's work, in ring order (R410). -/
def flushWork (n : Nat) : List WorkItem → State → List WorkItem × State
  | [], s => ([], s)
  | w :: t, s =>
    match w.done with
    | none => (w :: t, s)
    | some (st, res) =>
      flushWork n t (s.postCompletion n (rawOpcode w.raw) (rawTag w.raw) (rawFlags w.raw % 2 == 1) st res)

/-- Finish a descriptor with a status and a result, and post what can be posted in order (R410). -/
def State.finish (s : State) (n wid status result : Nat) : State :=
  let r := s.ring n
  let work := r.work.map (fun w => if w.wid = wid && w.done.isNone then { w with started := true, done := some (status, result) } else w)
  let (left, s) := flushWork n work (s.setRing n { r with work := work })
  s.setRing n { s.ring n with work := left }

/-! ### Records (R420, R421) -/

/-- Complete a receive buffer: its RECV_BUF completion carries the bytes and records written. -/
def State.completeBuf (s : State) (n : Nat) (b : RecvBuf) : State :=
  s.postCompletion n 0x01 b.tag (b.flags % 2 == 1) St.ok (b.used + b.records * 2 ^ 32)

/-- Put a record into the oldest posted buffer that is not yet full. Answers whether this is the first drop on the
pair while its DROP count was 0. -/
def State.putRecord (s : State) (n : Nat) (rec : List Byte) : State × Bool :=
  let dropIt (s : State) : State × Bool :=
    let c := s.fld F.DERRICK_RP_STATS_DROP n
    (s.setFld F.DERRICK_RP_STATS_DROP (min 0xFFFF (c + 1)) n, c == 0)
  let store (s : State) (b : RecvBuf) (rest : List RecvBuf) : State × Bool :=
    let s := s.hostWrite n (b.addr + b.used) rec
    let b' : RecvBuf := { b with used := b.used + rec.length, records := b.records + 1,
                                 firstAt := some (b.firstAt.getD s.now) }
    (s.setRing n { s.ring n with bufs := b' :: rest }, false)
  if !s.isOn .ring n then dropIt s
  else match (s.ring n).bufs with
    | [] => dropIt s
    | b :: rest =>
      if b.used + rec.length ≤ b.len then store s b rest
      else if b.used = 0 then dropIt s
      else
        let s := (s.setRing n { s.ring n with bufs := rest }).completeBuf n b
        match rest with
        | [] => dropIt s
        | b2 :: rest2 => if rec.length ≤ b2.len then store s b2 rest2 else dropIt s

/-- The ON pairs of a class. -/
def State.pairsOfClass (s : State) (c : Nat) : List Nat :=
  (List.range 64).filter (fun n => s.rpClass n == c && s.isOn .ring n)

end Sys2Proof.Machine
end

