-- ==== Sys2Proof/Machine/Faults.lean ====
section
/-! DEFINITION. Raising a fault and its reaction, as one shared operation (R369 to R375, R389), the scope of a fault
(R370), the safe state of a bridge (R355, R361, R366, R367) and torque enable (R376). -/

namespace Sys2Proof.Machine

/-! ### Scope (R370) -/

def scopeModule : Scope := ⟨4, true, true, true, true⟩
def scopeNone : Scope := ⟨5, false, false, false, false⟩

/-- The scope of a fault raised for a slot, or for an engine whose task names it: the slot and its bridges. -/
def State.scopeSlot (s : State) (n : Nat) : Scope :=
  let bs := s.bridgesOfSlot n
  ⟨n, n == 0, n == 1, bs.contains 0, bs.contains 1⟩

/-- The scope of a fault raised for a bridge, satellite or ADC: the slot that uses the bridge and that slot's bridges;
the bridge alone if no slot using it is ON. -/
def State.scopeBridge (s : State) (b : Nat) : Scope :=
  let n := s.slotOfBridge b
  if s.isOn .slot n then s.scopeSlot n else ⟨2 + b, false, false, b == 0, b == 1⟩

/-- Whether a slot uses a position interface as POS_SOURCE or POS_CHECK_SRC. -/
def State.slotUsesIf (s : State) (n i : Nat) : Bool :=
  s.par P.POS_SOURCE n == (i : Int) || s.par P.POS_CHECK_SRC n == (i : Int)

/-- The scope of a fault raised for a position interface. -/
def State.scopePosIf (s : State) (i : Nat) : Scope :=
  let u0 := s.slotUsesIf 0 i
  let u1 := s.slotUsesIf 1 i && !s.dual3
  if u0 || u1 then
    let a := s.scopeSlot 0
    let b := s.scopeSlot 1
    ⟨if u0 then 0 else 1, u0, u1, (u0 && a.bridgeA) || (u1 && b.bridgeA), (u0 && a.bridgeB) || (u1 && b.bridgeB)⟩
  else scopeNone

def Scope.slots (c : Scope) : List Nat := (if c.slot0 then [0] else []) ++ (if c.slot1 then [1] else [])
def Scope.bridges (c : Scope) : List Nat := (if c.bridgeA then [0] else []) ++ (if c.bridgeB then [1] else [])
def Scope.hasSlot (c : Scope) (n : Nat) : Bool := c.slots.contains n
def Scope.hasBridge (c : Scope) (b : Nat) : Bool := c.bridges.contains b

/-! ### Requests for a safe state (R355) -/

/-- Request (a): an RC3 or RC4 reaction in force whose scope includes the bridge. -/
def State.faultHolds (s : State) (b : Nat) : Bool :=
  s.faults.active.any (fun e => decide (3 ≤ e.cls) && e.scope.hasBridge b)

/-- The hardware and software requests (b) to (h). -/
def BridgeSafe.requested (x : BridgeSafe) : Bool :=
  x.stoA || x.stoB || x.debug || x.lockstep || x.guard || x.rest || x.peer || x.linkLoss

/-- Whether the running discharge names a bridge. -/
def State.dchgNames (s : State) (b : Nat) : Bool :=
  if b = 0 then s.island.dchg.bridgeA else s.island.dchg.bridgeB

/-- Request (i): a discharge that is STARTING or ON names the bridge. -/
def State.dchgHolds (s : State) (b : Nat) : Bool :=
  (s.isStarting .discharge 0 || s.isOn .discharge 0) && s.dchgNames b

/-- Whether any request other than (i) is active for a bridge. -/
def State.otherRequest (s : State) (b : Nat) : Bool := s.faultHolds b || (s.safeOf b).requested

/-- Whether any request of R355 is active for a bridge. -/
def State.safeRequested (s : State) (b : Nat) : Bool := s.otherRequest b || s.dchgHolds b

/-- The bits of SAFETY.BRIDGE_b.REQ. -/
def State.safeReqBits (s : State) (b : Nat) : Nat :=
  let x := s.safeOf b
  b2n (s.faultHolds b) + 2 * b2n x.stoA + 4 * b2n x.stoB + 8 * b2n x.debug + 16 * b2n x.lockstep + 32 * b2n x.guard +
    64 * b2n x.rest + 128 * b2n x.peer + 256 * b2n x.linkLoss + 512 * b2n (s.dchgHolds b)

/-! ### Active discharge: the method (R393) -/

/-- The bridges the running discharge names. -/
def State.dchgBridges (s : State) : List Nat := [0, 1].filter s.dchgNames

/-- The ΔΣ channels of a bridge's shunt and DC link (R377). -/
def shuntCh (b : Nat) : Nat := if b = 0 then 3 else 15
def vdcCh (b : Nat) : Nat := if b = 0 then 7 else 19

/-- First row of R393: the method is RESISTOR by parameter, by a satellite that is not ON, or by an invalid shunt or
DC-link channel. -/
def State.dchgNeedsResistor (s : State) (b : Nat) : Bool :=
  s.par P.DCHG_METHOD (s.slotOfBridge b) == 2 || (satsOfBridge b).any (fun n => !s.isOn .satellite n) ||
    !s.flag F.ADC_DS_VAL_VALID (shuntCh b) || !s.flag F.ADC_DS_VAL_VALID (vdcCh b)

/-- Second row of R393: the speed is above DCHG_WMAX, or none has been found yet. -/
def State.dchgTooFast (s : State) (b : Nat) : Bool :=
  match (s.safeOf b).lastSpeed with
  | none => true
  | some w => decide (s.parN P.DCHG_WMAX (s.slotOfBridge b) < w)

/-- The method of R393 for the bridges named, and whether they are held in ASC. -/
def State.dchgChoose (s : State) : DchgMethod × Bool :=
  let bs := s.dchgBridges
  if bs.any s.dchgNeedsResistor then (.resistor, false)
  else if bs.any s.dchgTooFast then (.resistor, true)
  else if bs.any s.otherRequest then (.resistor, false)
  else (.winding, false)

/-- The method is chosen again (R393). A discharge that has failed keeps its method (R396). DCHG is asserted by the
RESISTOR method and as backup (R393, R395). -/
def State.refreshDischarge (s : State) : State :=
  let d := s.island.dchg
  if (s.isStarting .discharge 0 || s.isOn .discharge 0) && !d.failed then
    let (m, h) := s.dchgChoose
    { s with island := { s.island with dchg := { d with method := m, holdAsc := h, out := m == .resistor || d.backup } } }
  else s

/-! ### The state of a bridge and its gates (R361, R364 to R366) -/

/-- Whether a safe state turns a satellite's gate on: the low sides are the odd satellites (R19). -/
def SafeState.gateOn (x : SafeState) (n : Nat) : Bool :=
  match x with
  | .ascLow => n % 2 == 1
  | .ascHigh => n % 2 == 0
  | _ => false

def SafeState.isAsc (x : SafeState) : Bool := x == .ascLow || x == .ascHigh

/-- Whether a satellite is in undervoltage lockout, as the bank knows it. -/
def State.inUvlo (s : State) (n : Nat) : Bool := s.flag F.GDS_STATUS_UVLO_POS n || s.flag F.GDS_STATUS_UVLO_NEG n

/-- Whether the high (even) or low (odd) side of a bridge holds a satellite in undervoltage lockout. -/
def State.sideUvlo (s : State) (b odd : Nat) : Bool := (satsOfBridge b).any (fun n => n % 2 == odd && s.inUvlo n)

/-- R277: an active short circuit through a side in undervoltage lockout is applied through the other side, and
replaced by safe pulse off when both sides are. -/
def State.swapSide (s : State) (b : Nat) (x : SafeState) : SafeState :=
  match x with
  | .ascLow => if s.sideUvlo b 1 then (if s.sideUvlo b 0 then .spo else .ascHigh) else .ascLow
  | .ascHigh => if s.sideUvlo b 0 then (if s.sideUvlo b 1 then .spo else .ascLow) else .ascHigh
  | y => y

/-- The active short circuit that ASC_SIDE selects for a bridge. -/
def State.ascOf (s : State) (b : Nat) : SafeState :=
  if s.par P.ASC_SIDE (s.slotOfBridge b) == 0 then .ascLow else .ascHigh

/-- The state a bridge takes: the fixed state of R364; the debug guard's SPO unless the overvoltage rule asks for ASC
(R397); DISCHARGE while the WINDING method is the only request, ASC while a discharge holds it (R393); else the choice.
R277 applies to each. -/
def State.safeTarget (s : State) (b : Nat) : SafeState :=
  let x := s.safeOf b
  let d := s.island.dchg
  s.swapSide b
    (match x.forced with
    | some f => f
    | none =>
      if x.debugSpo && !x.overvolt then .spo
      else if s.dchgHolds b && d.method == .winding && !s.otherRequest b then .discharge
      else if s.dchgHolds b && d.holdAsc then s.ascOf b
      else x.choice)

/-- Put a bridge into a safe state (R366): every turn-off of the state is launched at once; the turn-ons of an active
short circuit follow SAFE_DT later. In DISCHARGE the gates stay with the field-control program (R394). -/
def State.driveSafe (s : State) (b : Nat) (x : SafeState) : State :=
  let y := s.safeOf b
  let s := (s.setSafe b { y with state := x, decided := s.now, dtPending := x.isAsc, leaving := false }).safeEvent b
  if x == .discharge then s
  else (satsOfBridge b).foldl (fun s n => if x.gateOn n then s else s.setLane n false) s

/-- A bridge with a request takes the state of `safeTarget`, on entry and as it changes (R365). -/
def State.enterSafe (s : State) (b : Nat) : State :=
  let s := s.refreshDischarge
  let t := s.safeTarget b
  if !s.safeRequested b then s
  else if (s.safeOf b).state == t then s.setSafe b { s.safeOf b with leaving := false }
  else s.driveSafe b t

/-! ### Scree log (R375) -/

/-- The 32 bytes of an entry, which are also its EVENT record (R420). -/
def ScreeEntry.bytes (e : ScreeEntry) : List Byte :=
  let l := leBytes 8 e.time ++ leBytes 2 e.code ++ leBytes 1 e.cls ++ leBytes 1 e.scope ++ leBytes 1 e.unit ++
    leBytes 1 e.event ++ leBytes 2 e.count ++ leBytes 8 e.info ++ leBytes 4 e.seq
  l ++ leBytes 4 (crc32c l)

/-- Post a record on every ON EVENT-class pair; the pairs whose first drop this is. -/
def State.postEvents (s : State) (rec : List Byte) : State × List Nat :=
  (s.pairsOfClass 4).foldl (fun (p : State × List Nat) n =>
    let (s', first) := p.1.putRecord n rec
    (s', if first then p.2 ++ [n] else p.2)) (s, [])

/-- The bytes of an entry in the ring of 32,768 in MRAM (R153, R375). -/
def State.screeToMram (s : State) (e : ScreeEntry) : State :=
  { s with mram := Memory.write s.mram (0x5300000 + 32 * (e.seq % 32768)) e.bytes }

/-- Write a new entry into the ring of 32,768, and post its EVENT record where R420 asks for one. -/
def State.screeWrite (s : State) (code cls scope unit event info : Nat) : State × List Nat :=
  let e : ScreeEntry := ⟨s.ts, s.now, code, cls, scope, unit % 256, event, 1, info, s.faults.seq⟩
  let s := { s with faults := { s.faults with scree := (e :: s.faults.scree).take 32768, seq := (s.faults.seq + 1) % 2 ^ 32 } }
  let s := s.screeToMram e
  if 1 ≤ cls ∨ event ≠ 0 then s.postEvents e.bytes else (s, [])

/-- Put a changed entry in the place of the entry of its SEQ. -/
def screeReplace (e : ScreeEntry) (l : List ScreeEntry) : List ScreeEntry := l.map (fun x => if x.seq = e.seq then e else x)

/-- Log a raise: merged into the newest entry of its code and scope when that entry's TIME is less than 1 s ago,
else written. -/
def State.screeRaise (s : State) (code cls scope unit info : Nat) : State × List Nat :=
  match s.faults.scree.find? (fun e => e.code == code && e.scope == scope && e.event == 0) with
  | some e =>
    if s.ts < e.time + 1000000000 then
      let e := { e with count := min 0xFFFF (e.count + 1) }
      (({ s with faults := { s.faults with scree := screeReplace e s.faults.scree } } : State).screeToMram e, [])
    else s.screeWrite code cls scope unit 0 info
  | none => s.screeWrite code cls scope unit 0 info

/-! ### Reaction (R369) -/

/-- The class an entry of FAULT_RC gives a code (R373). -/
def State.faultRcEntry (s : State) (code : Nat) : Option Nat :=
  (List.range 64).findSome? (fun k =>
    if s.parN P.FAULT_RC 0 (2 * k) = code ∧ code ≠ 0 then some (s.parN P.FAULT_RC 0 (2 * k + 1)) else none)

/-- The class applied to a fault: a conditional default where the raising rule states one, else the entry of FAULT_RC,
else the first default (R372). -/
def State.classOf (s : State) (f : FaultName) (cond : Option Nat) : Nat :=
  cond.getD ((s.faultRcEntry f.code).getD f.defaultClass)

/-- Stop a slot through its fault path (R45). -/
def State.slotFaultStop (s : State) (n : Nat) : State := s.updLc .slot n Lc.faultStop

/-- Add a fault to those in force, or refresh it. -/
def activate (e : ActiveFault) : List ActiveFault → List ActiveFault
  | [] => [e]
  | y :: t =>
    if y.name = e.name ∧ y.unit = e.unit ∧ y.scope = e.scope then { e with cls := max y.cls e.cls } :: t
    else y :: activate e t

/-- The RC3 part of a reaction: the safe state of every bridge in scope is requested and every slot in scope stops
through the fault path (torque enable falls by R376). -/
def State.reactSafe (s : State) (sc : Scope) : State :=
  let s := sc.bridges.foldl State.enterSafe s
  sc.slots.foldl State.slotFaultStop s

/-- The RC4 part: the latch is set and SP0 writes the fault into the latch record (R389, R486). -/
def State.setLatch (s : State) (f : FaultName) (unit : Nat) (sc : Scope) : State :=
  let l : Latched := ⟨f, unit, sc⟩
  let fs := s.faults
  let s := { s with faults := { fs with
    latched := if fs.latched.contains l then fs.latched else fs.latched ++ [l]
    latchSince := if fs.latched.isEmpty then s.now else fs.latchSince
    latchPending := if fs.latched.contains l then fs.latched else fs.latched ++ [l]
    latchWriting := true, latchWriteSince := s.now } }
  s.setFlag F.SAFETY_INT_STATUS_LATCH true

/-- Apply the reaction of a class (R369). -/
def State.react (s : State) (f : FaultName) (unit : Nat) (sc : Scope) (cls : Nat) : State :=
  match cls with
  | 0 => s
  | 1 => s.setFlag F.SAFETY_INT_STATUS_WARN true
  | 2 => s.setFlag F.SAFETY_INT_STATUS_DERATE true
  | 3 => (s.setFlag F.SAFETY_INT_STATUS_SAFE true).reactSafe sc
  | _ => ((s.setFlag F.SAFETY_INT_STATUS_SAFE true).reactSafe sc).setLatch f unit sc

/-- Write the "safe state entered" entry of R375 for a reaction that puts a bridge into its safe state. -/
def State.logSafeEntry (s : State) (f : FaultName) (unit : Nat) (sc : Scope) (cls : Nat) (was : Bool) (info : Nat) :
    State × List Nat :=
  if 3 ≤ cls ∧ was then s.screeWrite f.code cls sc.code unit 3 info else (s, [])

/-- R25: a unit raises a fault code again within 10 ms after its unit reset, so a cluster reset is due. -/
def State.noteEscalation (s : State) (f : FaultName) (unit : Nat) : State :=
  let again := s.faults.unitResets.any (fun r => r.1 == f.code / 256 && r.2.1 == unit &&
    !s.elapsed r.2.2 (10 * msT) &&
    s.faults.scree.any (fun e => e.code == f.code && e.unit == unit % 256 && e.event == 0 &&
      decide (e.tick ≤ r.2.2)))
  let p := (f.code / 256, unit)
  if again && !s.faults.escalate.contains p then
    { s with faults := { s.faults with escalate := s.faults.escalate ++ [p] } } else s

/-- Raise a fault without the follow-up of dropped EVENT records. -/
def State.raiseCore (s : State) (f : FaultName) (unit : Nat) (sc : Scope) (info : Nat) (cond : Option Nat)
    (lasting : Bool) : State × List Nat :=
  let cls := s.classOf f cond
  let s := s.noteEscalation f unit
  let (s, d1) := s.screeRaise f.code cls sc.code unit info
  let s := { s with faults := { s.faults with
    active := activate ⟨f, unit, sc, cls, true, !lasting, s.now⟩ s.faults.active } }
  let fresh := sc.bridges.any (fun b => (s.safeOf b).state == .run)
  let s := s.react f unit sc cls
  let (s, d2) := s.logSafeEntry f unit sc cls fresh info
  (s, d1 ++ d2)

/-! ### Torque enable (R376) -/

/-- The conditions of R376 that are not met, as SAFETY.SLOT_s.REFUSE shows them. -/
def State.torqueRefuse (s : State) (n : Nat) : Nat :=
  let i := s.island
  b2n (!(i.sp0.selftest && i.sp1.selftest)) + 2 * b2n (i.sto.test != .done) + 4 * b2n (i.sto.a || i.sto.b) +
    8 * b2n ((i.sp0.broken || i.sp1.broken) && !i.bench) +
    16 * b2n (s.faults.active.any (fun e => e.active && decide (3 ≤ e.cls) && e.scope.hasSlot n)) +
    32 * b2n (s.faults.latched.any (fun l => l.scope.hasSlot n)) +
    64 * b2n (!s.isOff .discharge 0 && (s.bridgesOfSlot n).any s.dchgNames)

/-- The torque enable of a slot. PD1 must be on for it to leave the island (R478). -/
def State.torqueEnable (s : State) (n : Nat) : Bool := s.pdOn 1 && s.torqueRefuse n == 0

/-- Engines hear of a change of torque enable (SAFE, R180). -/
def State.torqueNote (s old : State) : State :=
  [0, 1].foldl (fun s n => if s.torqueEnable n != old.torqueEnable n then (s.bridgesOfSlot n).foldl State.safeEvent s else s) s

/-- Raise a fault (R369): log, EVENT records, reaction. A record that is the first one dropped on a pair raises
RECORD_DROP for it (R434). -/
def State.raise (s : State) (f : FaultName) (unit : Nat) (sc : Scope) (info : Nat := 0) (cond : Option Nat := none)
    (lasting : Bool := false) : State :=
  let old := s
  let (s, drops) := s.raiseCore f unit sc info cond lasting
  drops.foldl (fun s n => ((s.setFlag F.DERRICK_INT_STATUS_DROP true).raiseCore .RECORD_DROP n scopeModule 0 none false).1)
    (s.torqueNote old)

/-- Deliver a record to a pair (R420, R421); the first drop raises RECORD_DROP. -/
def State.deliver (s : State) (n : Nat) (rec : List Byte) : State :=
  let (s, first) := s.putRecord n rec
  if first then (s.setFlag F.DERRICK_INT_STATUS_DROP true).raise .RECORD_DROP n scopeModule else s

/-- The reactions that no longer have an effect are withdrawn: a fault that is inactive, and for RC3 and RC4 when
every slot in its scope is OFF (R371). -/
def State.sweepFaults (s : State) : State :=
  { s with faults := { s.faults with active := s.faults.active.filter (fun e =>
      e.active || (decide (3 ≤ e.cls) && e.scope.slots.any (fun n => !s.isOff .slot n))) } }

/-- The condition of a lasting fault has ceased (R371): it is inactive, an entry with EVENT 1 is written. -/
def State.cease (s : State) (f : FaultName) (unit : Nat) : State :=
  let old := s
  match s.faults.active.find? (fun e => e.name == f && e.unit == unit && e.active) with
  | none => s
  | some e =>
    let s := { s with faults := { s.faults with active := s.faults.active.map (fun (x : ActiveFault) =>
      if x.name = f ∧ x.unit = unit then { x with active := false } else x) } }
    ((s.screeWrite f.code e.cls e.scope.code unit 1 0).1).sweepFaults.torqueNote old

/-- Whether a fault is active. -/
def State.faultActive (s : State) (f : FaultName) (unit : Nat) : Bool :=
  s.faults.active.any (fun e => e.name == f && e.unit == unit && e.active)

/-- The level of FAULT_N: true while driven low (R374). -/
def State.faultN (s : State) : Bool :=
  !s.pdOn 1 || !s.faults.latched.isEmpty || s.faults.active.any (fun e => decide (3 ≤ e.cls))

/-- Whether the safe-state broadcast is sent to the peer (R368, R539). PEER_SAFE accompanies request (g), whose entry is not broadcast. -/
def State.broadcasting (s : State) : Bool :=
  s.par P.PEER_EN == 1 && s.faults.active.any (fun e => decide (3 ≤ e.cls) && e.scope == scopeModule && e.name != .PEER_SAFE)

/-- Whether k_fault applies to a slot: an active RC2 fault has it in scope (R369). -/
def State.derated (s : State) (n : Nat) : Bool :=
  s.faults.active.any (fun e => e.active && e.cls == 2 && e.scope.hasSlot n)

/-! ### Requests through the hardware paths (R355) -/

/-- The reset guard or the reset controller requests the safe state of a bridge that is ON (kind (e)). -/
def State.guardBridge (s : State) (b : Nat) (lost : Option Nat) : State :=
  if s.isOn .bridge b then
    let x := s.safeOf b
    (s.setSafe b { x with guard := true, guardLost := lost.or x.guardLost }).enterSafe b
  else s

/-- As `guardBridge`, for both bridges. -/
def State.guardAll (s : State) (lost : Option Nat) : State := (s.guardBridge 0 lost).guardBridge 1 lost

/-- A trigger of a package reset (R483 to R486). While the guard of another reset runs, it is recorded as MULTI
(R490); the lower cause stands when both came in one LPO cycle, 200 ticks. A SAFETY request writes the latch record
again before the guard runs. -/
def State.triggerReset (s : State) (cause info : Nat) : State :=
  match s.rst.guard with
  | some c =>
    let low := s.lpo < s.rst.guardSince + 200 && cause < c
    { s with rst := { s.rst with multi := true, guard := some (if low then cause else c),
                                 info := if low then info else s.rst.info } }
  | none =>
    let s := if cause = 5 then { s with faults := { s.faults with latchPending := s.faults.latched, latchWriting := true, latchWriteSince := s.now } }
      else s
    let s := { s with rst := { s.rst with guard := some cause, guardSince := s.lpo, multi := false, info := info } }
    s.guardAll none

/-- The pair's fault path (R45, R421): the posted buffers are completed with their bytes, CAUSE records why. -/
def State.ringFaultStop (s : State) (n cause : Nat) : State :=
  let s := (s.setFld F.DERRICK_RP_ERR_CAUSE cause n).setFlag F.DERRICK_INT_STATUS_RING_FAULT true
  s.updLc .ring n Lc.faultStop

/-! ### A function that a fault has stopped (R46) -/

/-- The timeout fault of a kind. -/
def FuncKind.timeout : FuncKind → Option FaultName
  | .slot => some .SLOT_TIMEOUT | .bridge => some .BRIDGE_TIMEOUT | .satellite => some .SAT_TIMEOUT | .posIf => some .POS_TIMEOUT | .dressing => some .DRESS_TIMEOUT
  | .discharge => some .DCHG_TIMEOUT | .can => some .CAN_TIMEOUT | .ring => some .RING_TIMEOUT | .domain => some .DOMAIN_TIMEOUT
  | .engine => some .CE_START_TIMEOUT | .injector => some .INJ_ABORT | .posCmp => none | .rule => none

/-- The faults that stop a function, beside its timeout. -/
def FuncKind.stoppers : FuncKind → List FaultName
  | .engine => [.CE_STOP_TIMEOUT, .CE_ILLEGAL, .CE_ALIGN, .CE_STACK, .CE_WPWM_DENIED, .CE_BUS_ERROR, .CE_MEM_UNCORR, .CE_WATCHDOG, .CE_HANG, .CE_PORT_FAULT]
  | .bridge => [.LOCK_FAIL]
  | .ring => [.RING_DMA_ERR]
  | .domain => [.DOMAIN_LOST, .ISOLATION_FAULT]
  | _ => []

/-- R46: a function stopped by a fault starts again only once that fault has been cleared: while an RC3 or RC4 reaction to it is in force, it is not. -/
def State.stillFaulted (s : State) (k : FuncKind) (n : Nat) : Bool :=
  s.faults.active.any (fun e => decide (3 ≤ e.cls) && e.unit == n && (k.timeout == some e.name || k.stoppers.contains e.name))

end Sys2Proof.Machine
end

