-- ==== Sys2Proof/Machine/EngineCore.lean ====
section
/-! DEFINITION. What happens to a control engine from outside its program: its faults (R203), double-buffered deliveries (R182),
sample frames (R184, R200). -/

namespace Sys2Proof.Machine

/-- The scope of a fault raised for an engine (R370). -/
def State.scopeEngine (s : State) (c : Nat) : Scope :=
  let e := s.engine c
  if e.task = 0 then scopeModule else s.scopeSlot e.slot

/-- The lowered class of an engine's fault while its task is NONE or its slot is OFF (R203): each RC3 default is RC1. -/
def State.engineCond (s : State) (c : Nat) (f : FaultName) : Option Nat :=
  let e := s.engine c
  if (e.task = 0 ∨ s.isOff .slot e.slot = true) ∧ f.defaultClass = 3 then some 1 else none

/-- Raise a fault of an engine that does not stop it. -/
def State.engineNote (s : State) (c : Nat) (f : FaultName) : State := s.raise f c (s.scopeEngine c) (s.engine c).pc (s.engineCond c f)

/-- A fault that stops an engine (R203): CE.FAULT keeps the code and FAULT_PC, the engine takes no further instruction, its lifecycle
stops through the fault path (R45), the scree entry records FAULT_PC. -/
def State.engineFault (s : State) (c : Nat) (f : FaultName) : State :=
  let e := s.engine c
  let s := (s.setFld F.CE_FAULT_CODE f.code c).setFld F.CE_FAULT_FAULT_PC e.pc c
  let s := (s.setFlag F.CE_INT_STATUS_FAULT true c).setEngine c { e with faulted := true, wait := .none }
  let s := s.updLc .engine c Lc.faultStop
  s.raise f c (s.scopeEngine c) e.pc (s.engineCond c f)

/-- CE_WATCHDOG and CE_HANG also set their status bit. -/
def State.engineWatchdog (s : State) (c : Nat) (f : FaultName) : State := (s.setFlag F.CE_INT_STATUS_WATCHDOG true c).engineFault c f

/-- One deadline miss (R200). -/
def State.deadlineMiss (s : State) (c : Nat) : State :=
  let run := s.fld F.CE_WDG_CONSEC c + 1
  let s := (s.bump F.CE_WDG_MISSES c).setFld F.CE_WDG_CONSEC (min 255 run) c
  let s := (s.setFlag F.CE_INT_STATUS_DEADLINE true c).engineNote c .CE_DEADLINE_MISS
  if run ≥ s.parN P.WDG_MISS_N c then s.engineWatchdog c .CE_WATCHDOG else s

/-- The buffer that a delivery goes into: the one other than the buffer most recently returned for the event (R182). -/
def Engine.freeBuffer (e : Engine) (ev : Nat) : Nat := 1 - min 1 (e.announced.at 1 ev)

/-- The data address of a delivery's buffer (R183): sample frames, command mailbox, parameter image, peer mailbox. -/
def bufferAddr (ev buf : Nat) : Nat :=
  match ev with
  | 0 => 0xF000 + 64 * buf
  | 1 => 0xF080 + 64 * buf
  | 4 => 0xF200 + 32 * buf
  | 5 => 0xE000 + 0x800 * buf
  | _ => 0xF240 + 32 * buf

/-- Write bytes into the free buffer of an event and raise it (R182). -/
def State.deliverTo (s : State) (c ev : Nat) (bytes : List Byte) : State :=
  let e := s.engine c
  let buf := e.freeBuffer ev
  (s.setEngine c { e with mem := Memory.write e.mem (bufferAddr ev buf) bytes, filled := e.filled.setAt false ev true }).raiseEvent c ev buf

/-- A SAMPLE of a bridge for one engine (R180, R200): a miss is counted when the previous SAMPLE is still pending or its commit has
not come. Deadlines are suspended while the engine is halted (R204). -/
def State.sampleTo (s : State) (c b : Nat) (bytes : List Byte) (at_ : Nat) : State :=
  let e := s.engine c
  if !e.frames.contains b || !(s.isOn .engine c || s.isStopping .engine c) then s
  else
    let late := e.writes.contains b && !e.halted && ((if b = 0 then e.dueA else e.dueB) || bits e.evPend b b == 1)
    let e := { e with frameAt := e.frameAt.setAt 0 (2 * b + e.freeBuffer b) at_ }
    let s := s.setEngine c (if b = 0 then { e with dueA := false } else { e with dueB := false })
    let s := s.deliverTo c b bytes
    if late then s.deadlineMiss c else s

end Sys2Proof.Machine
end

