-- ==== Sys2Proof/Machine/BusAcc.lean ====
section
/-! DEFINITION. Whether a bus master's access reaches its address: the domain (R31), the MPU (R445) and, for the debug
port, the debug policy (R447). -/

namespace Sys2Proof.Machine

/-! ### Debug policy (R447) -/

/-- The areas of the debug policy, as the bits of PROT.DEBUG_POLICY. -/
inductive DebugArea where
  | ceHalt | appHalt | pwmFreeze | mem | safetyHalt
  deriving DecidableEq, Repr

def DebugArea.bit : DebugArea → Nat
  | .ceHalt => 0 | .appHalt => 1 | .pwmFreeze => 2 | .mem => 3 | .safetyHalt => 4

/-- The lifecycle state: 0 DEV, 1 PROD, 2 RMA (R437). -/
def State.lifecycle (s : State) : Nat := s.fld F.PROT_STATUS_LIFECYCLE

/-- Whether the debug port answers at all. -/
def State.dapAnswers (s : State) : Bool := s.lifecycle != 1 || s.flag F.PROT_DEBUG_POLICY_DAP_EN

/-- Whether an area is open: in DEV and RMA every one; in PROD one set in both DEBUG_POLICY and the unlock. -/
def State.debugOpen (s : State) (a : DebugArea) : Bool :=
  s.lifecycle != 1 ||
  (s.flag F.PROT_DEBUG_POLICY_DAP_EN &&
    bits (s.reg ⟨.PROT_DEBUG_POLICY, 0, 0⟩).toNat a.bit a.bit == 1 && bits (s.parN P.DEBUG_UNLOCK) a.bit a.bit == 1)

/-! ### Access checks -/

/-- A denial is recorded and raises MPU_VIOLATION (R445). `access` is 0 read, 1 write, 2 fetch. -/
def State.mpuDenied (s : State) (m a access : Nat) : State :=
  let s := s.setFld F.PROT_MPU_FAULT_ADDR_ADDR a
  let s := s.setFld F.PROT_MPU_FAULT_INFO_MASTER m
  let s := s.setFld F.PROT_MPU_FAULT_INFO_ACCESS access
  let s := s.setFld F.PROT_MPU_FAULT_INFO_COUNT (min 255 (s.fld F.PROT_MPU_FAULT_INFO_COUNT + 1))
  let s := s.setFlag F.PROT_INT_STATUS_MPU true
  s.raise .MPU_VIOLATION m scopeModule a

/-- Whether a master's access to an address in a domain is carried out, and the state after a denial. An access in a
domain that is off changes nothing (R31), nor does any while the fabric's own domain is off (R478). -/
def State.access (s : State) (m d a len right : Nat) : State × Bool :=
  if !(s.pdOn 6 && s.pdOn d) then (s, false)
  else if m == 20 && !s.debugOpen .mem then (s, false)
  else if !s.mpuAllows m a len right then (s.mpuDenied m a right, false)
  else (s, true)

/-- The address of a register instance. -/
def regAddr (r : Reg) (i j : Nat) : Nat := r.geom.addr + i * r.geom.s1 + j * r.geom.s2

/-- Whether a master's write of a register is carried out. -/
def State.mayWrite (s : State) (m : Nat) (r : Reg) (i : Nat := 0) (j : Nat := 0) : State × Bool :=
  s.access m (r.domain i) (regAddr r i j) 4 1

/-- Whether a master's read of a register is carried out. -/
def State.mayRead (s : State) (m : Nat) (r : Reg) (i : Nat := 0) (j : Nat := 0) : State × Bool :=
  s.access m (r.domain i) (regAddr r i j) 4 0

/-- Whether the debug port's access to a debug register is carried out: master 20 alone, its area open, its MPU table allowing it (R204, R244, R447). -/
def State.debugAccess (s : State) (m : Nat) (area : DebugArea) (r : Reg) (i : Nat) (right : Nat := 1) : State × Bool :=
  if m != 20 || !s.debugOpen area || !(s.pdOn 6 && s.pdOn (r.domain i)) then (s, false)
  else if !s.mpuAllows 20 (regAddr r i 0) 4 right then (s.mpuDenied 20 (regAddr r i 0) right, false)
  else (s, true)

/-- Carry out a register write that has an effect of its own. -/
def State.onWrite (s : State) (m : Nat) (r : Reg) (i : Nat) (act : State → State) : State :=
  let (s, ok) := s.mayWrite m r i
  if ok then act s else s

end Sys2Proof.Machine
end

