-- ==== Sys2Proof/Machine/PosCore.lean ====
section
/-! DEFINITION. What a position interface reports at the present tick: speed from edge intervals (R328 to R330), position
between edges (R331), validity (R327) and the electrical angle (R323). -/

namespace Sys2Proof.Machine

/-- The speed of an edge history at a latch tick, as a position change over a time in ticks (R328): `win` in ns. -/
def speedLaw (hist : List (Nat × Int)) (win tL : Nat) : Option (Int × Nat) :=
  match hist with
  | [] => none
  | (t0, a0) :: rest =>
    match rest.dropWhile (fun e => e.1 == t0) with
    | [] => none
    | (tj, aj) :: older =>
      let inWin := ((tj, aj) :: older).filter (fun e => decide (5 * (t0 - e.1) ≤ 4 * win))
      let (tk, ak) := inWin.getLast?.getD (tj, aj)
      let num := a0 - ak
      let den := t0 - tk
      let late := tL - t0
      if t0 - tj < late ∧ (a0 - aj).natAbs * den < num.natAbs * late then
        some (if num < 0 then -((a0 - aj).natAbs : Int) else ((a0 - aj).natAbs : Int), late)
      else some (num, den)

/-- The speed of an interface as a position change over ticks; `none` while SPEED_VALID is clear (R328 to R330). -/
def State.speedRatio (s : State) (i : Nat) : Option (Int × Nat) :=
  let x := s.posIf i
  if x.standstill then none else speedLaw x.hist (s.parN P.SPD_WIN i) s.now

/-- SPEED_VALID of an interface. -/
def State.speedValid (s : State) (i : Nat) : Bool := (s.speedRatio i).isSome

/-- A speed ratio in 0.01 rpm, halves away from zero (R328). -/
def rpmOf (r : Int × Nat) : Int := roundAway (r.1 * 4800000000000) (4294967296 * r.2)

/-- The speed of an interface in 0.01 rpm; 0 while SPEED_VALID is clear. -/
def State.posSpeed (s : State) (i : Nat) : Int :=
  match s.speedRatio i with
  | some r => rpmOf r
  | none => 0

/-- The unwrapped position of an interface at the present tick (R331). A resolver reports its tracked angle. -/
def State.posNow (s : State) (i : Nat) : Int :=
  let x := s.posIf i
  match s.speedRatio i, x.hist with
  | some (num, den), (t0, a0) :: (_, a1) :: _ =>
    if i < 2 ∨ s.par P.POS_INTERP i ≠ 1 then x.pos
    else
      let step := roundFree 1 (num * ((s.now - t0 : Nat) : Int)) den
      let lim : Int := (a0 - a1).natAbs - 1
      let lim := if lim < 0 then 0 else lim
      a0 + (if num < 0 then clampI (-lim) 0 step else clampI 0 lim step)
  | _, _ => x.pos

/-- POS32 of an interface (R323). -/
def State.pos32 (s : State) (i : Nat) : Nat := ofSigned 32 (s.posNow i)

/-- A fault-free ON interface with its own condition met; an encoder is taken in `posValid`. -/
def State.posPlain (s : State) (i : Nat) : Bool := s.isOn .posIf i && !(s.posIf i).bad && (s.posIf i).ok

/-- POS_VALID of an interface (R327, R340). -/
def State.posValid (s : State) (i : Nat) : Bool :=
  if i = 2 ∨ i = 3 then
    s.isOn .posIf i && !(s.posIf i).bad &&
      (s.flag F.POS_IF_STATUS_ALIGNED i ||
        (let a := s.parN P.ENC_ALIGN i
         (a == 1 && s.posPlain 4) || (a == 2 && s.posPlain 5)))
  else s.posPlain i

/-- THETA_E of a slot for a POS32 (R323). -/
def State.thetaE (s : State) (slot p : Nat) : Nat := p * s.parN P.POLE_PAIRS slot % 4294967296 / 65536

/-- The interface of a slot's position source; `none` in SENSORLESS mode or when none is named. -/
def State.posSource (s : State) (slot : Nat) : Option Nat :=
  let i := s.parN P.POS_SOURCE slot
  if s.par P.POS_MODE slot == 1 || 8 ≤ i then none else some i

end Sys2Proof.Machine
end

