-- ==== Sys2Proof/Machine/SentinelCore.lean ====
section
/-! DEFINITION. What the sentinel keeps for the next start (R551, R553 to R557): its event ring, the park image, and what the safety
island reports of a park short. -/

namespace Sys2Proof.Machine

def State.setSn (s : State) (x : Sentinel) : State := { s with sn := x }

/-- The base of the retention SRAM. -/
abbrev retBase : Nat := 0x39000000

/-! ### The event ring (R551) -/

/-- Write an entry: TIME, RULE, SOURCE, ACTIONS, a reserved byte, the filtered value. The ring of 256 overwrites its oldest. -/
def State.snLog (s : State) (rule source actions : Nat) (value : Int) : State :=
  let l := leBytes 8 s.ts ++ leBytes 1 rule ++ leBytes 1 source ++ leBytes 1 actions ++ leBytes 1 0 ++ leBytes 4 (ofSigned 32 value)
  let x := s.sn
  (s.sysWrite (retBase + 0x1000 + 16 * (x.logged % 256)) l).setSn { x with logged := x.logged + 1 }

/-- At its start the safety island copies each new entry as SN_EVENT, with the entry's last eight bytes in INFO; entries overwritten
before that raise SN_LOG_OVERRUN. -/
def State.snCopy (s : State) : State :=
  let x := s.sn
  let first := max x.copied (x.logged - 256)
  let s := s.setSn { x with copied := x.logged }
  let s := if x.copied < first then s.raise .SN_LOG_OVERRUN 255 scopeModule else s
  (List.range (x.logged - first)).foldl (fun s k =>
    s.raise .SN_EVENT 255 scopeModule (Memory.readNat s.mem (retBase + 0x1000 + 16 * ((first + k) % 256) + 8) 8)) s

/-! ### The park image (R557) -/

/-- Whether the CRC of the park image holds. -/
def State.parkImageOk (s : State) : Bool :=
  decide (Memory.readNat s.mem (retBase + 1936) 4 = crc32c (Memory.read s.mem retBase 1936))

/-- The bridges, the side and the limit of the park image. -/
def State.parkBridges (s : State) : List Nat := [0, 1].filter (fun b => bits (Memory.readNat s.mem retBase 1) b b == 1)
def State.parkHigh (s : State) : Bool := Memory.readNat s.mem (retBase + 1) 1 == 1
def State.parkLimit (s : State) : Int := toSigned 32 (Memory.readNat s.mem (retBase + 2) 4)

/-- The word of setting index i in a satellite's entry. -/
def State.parkWord (s : State) (n i : Nat) : Nat := Memory.readNat s.mem (retBase + 16 + 160 * n + 4 * i) 4

/-! ### Power modes: entering one in which the module is parked (R480, R561) -/

/-- The codes of SYSCTL.PWR_MODE.PRESENT. -/
def PowerMode.code : PowerMode → Nat
  | .run => 0 | .idle => 1 | .sleep => 2 | .deepSleep => 3 | .off => 4

/-- A power mode is in force. -/
def State.setMode (s : State) (m : PowerMode) : State :=
  ({ s with power := { s.power with mode := m, entering := none } } : State).setFld F.SYSCTL_PWR_MODE_PRESENT m.code

/-- An entry into SLEEP or DEEP_SLEEP: the sentinel's records come into force, and the parked time starts. -/
def State.snParked (s : State) : State :=
  let s := (s.takeEffect P.SN_ROUND_T P.SN_OFF_WAKE 0).takeEffect P.SN_CAN_BR P.SN_CAN_ERR_LIM 0
  s.setSn { s.sn with parkedAt := some s.lpo }

/-! ### Actions (R550, R553) -/

/-- A park short begins: WAKE_OUT high and a package reset of kind WAKE; without a valid image only the wake (R556). -/
def State.parkShort (s : State) : State :=
  if s.sn.park.isSome then s
  else
    let s : State := { s with power := { s.power with wakeOut := true } }
    let s := if s.parkImageOk then (s.setSn { s.sn with park := some ⟨s.lpo, s.parkBridges, s.parkHigh, s.parkLimit, [], [], false, false⟩ }).setFlag F.SENTINEL_INT_STATUS_PARK true
      else s.setSn { s.sn with noImage := true }
    s.triggerReset 9 0

/-- What a wake leaves in SENTINEL.WAKE_INFO. -/
def State.wakeInfo (s : State) (a : SnAct) : State :=
  let s := (s.setFld F.SENTINEL_WAKE_INFO_RULE a.rule).setFld F.SENTINEL_WAKE_INFO_SOURCE a.source
  ((s.setFld F.SENTINEL_WAKE_INFO_ACTIONS a.actions).setFld F.SENTINEL_WAKE_INFO_DOMAINS a.domains).setFlag F.SENTINEL_INT_STATUS_WAKE true

/-- The merged actions of one evaluation, but for LOG: by the mode (R550). -/
def State.snActs (s : State) (a : SnAct) : State :=
  let wake := bits a.actions 1 1 == 1
  let park := bits a.actions 2 2 == 1
  let s := if bits a.actions 3 3 = 1 then ({ s with power := { s.power with wakeOut := true } } : State).setSn { s.sn with wakeOutSince := some s.lpo } else s
  let s := if wake || park then s.wakeInfo a else s
  match s.power.mode with
  | .sleep => if park then s.parkShort else if wake then { s with power := { s.power with wakeWaiting := true } } else s
  | .deepSleep => if park then s.parkShort else if wake then ({ s with power := { s.power with wakeOut := true } } : State).triggerReset 9 0 else s
  | .off => s
  | _ => if wake then { s with irqLines := if s.irqLines.contains 3 then s.irqLines else s.irqLines ++ [3] } else s

/-- Actions while a DEEP_SLEEP entry switches domains off wait for its end (R560). -/
def State.snAct (s : State) (a : SnAct) : State :=
  if s.power.entering.isSome then s.setSn { s.sn with waiting := s.sn.waiting ++ [a] } else s.snActs a

/-- DEEP_SLEEP or OFF is reached once every domain but PD0 is OFF (R481): WAKE_OUT falls, named banks stay in retention (R572); what waited for the
entry follows (R490). -/
def State.parkEntry (s : State) : State :=
  match s.power.entering with
  | none => s
  | some m =>
    if !((List.range 11).all (fun d => s.isOff .domain (d + 1))) then s
    else
      let woken := s.power.wakeWaiting
      let s := s.setMode m
      let s := ((s.setFlag F.SYSCTL_CLK_STATUS_PLL_LOCK false).setFld F.SYSCTL_CLK_STATUS_ON_PLL 0).setFlag F.SYSCTL_CLK_STATUS_RAMP_BUSY false
      let s : State := { s with power := { s.power with wakeOut := false, wakeWaiting := false }, memc := { s.memc with retained := s.fld F.SYSCTL_RET_BANKS_BANK } }
      let acts := s.sn.waiting
      let s := s.setSn { s.sn with waiting := [], running := s.sn.running && m == .deepSleep, park := none }
      let s := if m == .deepSleep then s.snParked else s
      let s := if m == .deepSleep then acts.foldl State.snActs s else s
      if woken then ({ s with power := { s.power with wakeOut := true } } : State).triggerReset 9 0 else s

/-! ### What the island reports once it has started (R554 to R556) -/

/-- Whether the safety island has started: PD1 is ON and both pairs have passed their self-tests. -/
def State.islandStarted (s : State) : Bool := s.pdOn 1 && s.island.sp0.selftest && s.island.sp1.selftest

/-- Once the island has started and every named bridge has been compared, the request of a park short is handed over to SN_PARK_ASC (R554), which keeps
the bridges in their state; SN_TOW_WAKE, SN_PARK_LATE and SN_PARK_NOIMAGE report the rest. -/
def State.parkHandover (s : State) : State :=
  if !s.islandStarted then s
  else
    let s := if s.sn.noImage then (s.setSn { s.sn with noImage := false }).raise .SN_PARK_NOIMAGE 255 scopeModule else s
    match s.sn.park with
    | none => s
    | some p =>
      if !p.bridges.all p.compared.contains then s
      else
        let s := s.setSn { s.sn with park := none }
        let s := if p.late then s.raise .SN_PARK_LATE 255 scopeModule else s
        let s := if p.towed then s.raise .SN_TOW_WAKE 255 scopeModule else s
        if p.shorted.isEmpty then s
        else
          let s := s.raise .SN_PARK_ASC 255 scopeModule
          p.shorted.foldl (fun s b => s.setSafe b { s.safeOf b with guard := false }) s

/-- The safety island starts: it copies the sentinel's event ring and takes over a park short. -/
def State.islandStarts (s : State) : State := if s.islandStarted then s.snCopy.parkHandover else s

end Sys2Proof.Machine
end

