-- ==== Sys2Proof/Machine/SafetyIsland.lean ====
section
/-! DEFINITION. The safety island (R353 to R399): heartbeats and lockstep, the safe-state choice, STO, the latch, peer
broadcast and active discharge. The torque monitor is in Monitor.lean, debug in Debug.lean. -/

namespace Sys2Proof.Machine

/-! ### The lockstep pairs (R355 to R360, R486) -/

/-- Pair SP0 or SP1. -/
def State.pair (s : State) (p : Nat) : SafetyPair := if p = 0 then s.island.sp0 else s.island.sp1

/-- Replace a pair. -/
def State.setPair (s : State) (p : Nat) (x : SafetyPair) : State :=
  { s with island := if p = 0 then { s.island with sp0 := x } else { s.island with sp1 := x } }

/-- Whether a pair runs with its heartbeat present (R356). -/
def State.pairOk (s : State) (p : Nat) : Bool :=
  let x := s.pair p
  s.pdOn 1 && x.running && !x.restarting && !s.elapsed x.lastChange (30 * usT)

/-- Whether the island runs, with the heartbeats of both pairs present (R22). -/
def State.islandRuns (s : State) : Bool := s.pairOk 0 && s.pairOk 1

/-- Request (d) for every bridge (R355). -/
def State.lockstepRequest (s : State) (v : Bool) : State :=
  [0, 1].foldl (fun s b =>
    let s := s.setSafe b { s.safeOf b with lockstep := v }
    if v then s.enterSafe b else s) s

/-- A unit reset of a pair (R20, R22, R357, R360): the reset controller requests the safe state of every ON bridge, and
the pair restarts with its self-test. `failCode` is the fault behind it, if any. -/
def State.pairReset (s : State) (p failCode : Nat) : State :=
  let s := s.guardAll none
  s.setPair p { s.pair p with running := false, word := 0, restarting := true, selftest := false, groups := 0,
                              halted := false, resetAt := s.now, failCode := failCode }

/-- The pair's heartbeat word (R356, R357): a changed word is a heartbeat; the first one after the self-test completes
a restart, and request (d) is withdrawn when no pair is restarting. -/
def execHeartbeatWrite (p : Fin 2) (word : Nat) (s : State) : Out :=
  let x := s.pair p.val
  if !(s.pdOn 1 && x.running && x.selftest && !x.halted) then .next s
  else
    let x' := { x with word := word, lastChange := if word = x.word then x.lastChange else s.now, restarting := false }
    let s' := s.setPair p.val x'
    if x.restarting && !(s'.pair 0).restarting && !(s'.pair 1).restarting then .next (s'.lockstepRequest false)
    else .next s'

/-- A pair's word has not changed for 30 µs (R356): request (d), SAFETY_WDG and a unit reset of the pair. The second
action of the checker within 1 s requests a SAFETY package reset (R486). -/
def execHeartbeatLoss (p : Fin 2) (s : State) : Out :=
  let x := s.pair p.val
  if !(s.pdOn 1 && x.running && !x.restarting && s.elapsed x.lastChange (30 * usT)) then .next s
  else
    let acts := s.island.checkerActs.filter (fun t => !s.elapsed t secT)
    let s := s.lockstepRequest true
    let s := s.raise .SAFETY_WDG p.val scopeModule
    let s := { s with island := { s.island with checkerActs := acts ++ [s.now] } }
    let s := s.pairReset p.val FaultName.SAFETY_WDG.code
    .next (if acts.isEmpty then s else s.triggerReset 5 (FaultName.SAFETY_WDG.code * 65536 + 1))

/-- A comparator group of a pair mismatches (R357). A pair split by debug does not compare (R359). -/
def execLockstepMismatch (p : Fin 2) (group : Fin 12) (s : State) : Out :=
  let x := s.pair p.val
  if !(s.pdOn 1 && x.running && !x.broken) then .next s
  else
    let s := s.lockstepRequest true
    let s := s.raise .LOCKSTEP_MISMATCH p.val scopeModule group.val
    let s := s.setFlag F.SAFETY_INT_STATUS_LOCKSTEP true
    let s := { s with island := { s.island with lastGroup := group.val } }
    let s := s.setPair p.val { s.pair p.val with mismatch := true }
    .next (s.pairReset p.val FaultName.LOCKSTEP_MISMATCH.code)

/-- The comparator self-test of a pair ends (R358); `groups` has bit g set when group g passed. The pair's firmware then
starts; a restart ends with its first heartbeat (R357). -/
def execLockstepSelftestDone (p : Fin 2) (groups : Fin 4096) (s : State) : Out :=
  let x := s.pair p.val
  if !s.pdOn 1 || x.selftest then .next s
  else if groups.val = 4095 then
    .next (s.setPair p.val { x with selftest := true, groups := 4095, running := true, lastChange := s.now }).islandStarts
  else
    let s := s.setPair p.val { x with groups := groups.val }
    let s := s.setFlag F.SAFETY_INT_STATUS_LOCKSTEP true
    .next (s.raise .LOCKSTEP_SELFTEST p.val scopeModule groups.val)

/-- A pair has not restarted within 10 ms of its unit reset after LOCKSTEP_MISMATCH or SAFETY_WDG (R486). -/
def execPairRestartTimeout (p : Fin 2) (s : State) : Out :=
  let x := s.pair p.val
  if x.restarting && x.failCode != 0 && s.elapsed x.resetAt (10 * msT) then
    .next ((s.setPair p.val { x with failCode := 0 }).triggerReset 5 (x.failCode * 65536 + 1))
  else .next s

/-- Debug breaks the lockstep of a pair (R359). -/
def State.breakLockstep (s : State) (p : Nat) : State :=
  if (s.pair p).broken then s
  else
    let s := s.setPair p { s.pair p with broken := true }
    (s.setFlag F.SAFETY_INT_STATUS_LOCKSTEP true).raise .LOCKSTEP_BROKEN p scopeModule 0 none true

/-! ### The reset guard (R22, R360, R479) -/

/-- Whether the reset guard's request for a bridge may be withdrawn (R22): the island runs with both heartbeats, every
slot using the bridge is OFF, and the unit has left its reset, or the lost domain is ON again or the bridge OFF. -/
def State.guardMayEnd (s : State) (b : Nat) : Bool :=
  s.islandRuns && s.isOff .slot (s.slotOfBridge b) &&
  (match (s.safeOf b).guardLost with
   | none => true
   | some d => s.pdOn d || s.isOff .bridge b)

/-- The reset guard's request for a bridge is withdrawn (R22). -/
def execResetGuardWithdraw (b : Fin 2) (s : State) : Out :=
  if (s.safeOf b.val).guard && s.guardMayEnd b.val then
    .next (s.setSafe b.val { s.safeOf b.val with guard := false, guardLost := none })
  else .next s

/-! ### The safe-state choice (R362 to R367) -/

/-- V_DC of a bridge in units of 1/32,768 mV, from its DC-link channel (R309). -/
def State.vdcQ (s : State) (b : Nat) : Int := s.fldS F.ADC_DS_VAL_VALUE (vdcCh b) * 1280 * s.par P.VDC_DIV b

/-- A voltage in mV in the unit of `vdcQ`. -/
def mvQ (mv : Int) : Int := mv * 32768

/-- Whether the two bridges share one DC link (R310). -/
def State.sharedLink (s : State) : Bool := s.par P.VDC_SHARED 0 == 1 && s.par P.VDC_SHARED 1 == 1

/-- The speed of R363 in 0.01 rpm and its source: POS_SOURCE, the current vector, the back-EMF vector, the last speed
found. `none` while no speed has been found since PD1 started. -/
def State.choiceSpeed (s : State) (b : Nat) (m : BridgeSense) : Option Nat × SpeedSrc :=
  let n := s.slotOfBridge b
  let i := s.parN P.POS_SOURCE n
  if i < 8 ∧ s.speedValid i = true then (some (s.posSpeed i).natAbs, .position)
  else if 5 * s.parN P.I_RATED n ≤ 100 * m.iAmp ∧ 0 < m.iAmp then (some m.iRate, .currents)
  else if s.parN P.BEMF_MIN n * s.parN P.V_BASE n ≤ 1000 * m.eAmp ∧ 0 < m.eAmp then (some m.eRate, .backEmf)
  else match (s.safeOf b).lastSpeed with
    | some w => (some w, .held)
    | none => (none, .unknown)

/-- The choice of R362 before R277: `none` as speed counts as above ASC_SPEED (R363). -/
def State.choiceRule (s : State) (b : Nat) (w : Option Nat) : SafeState :=
  let n := s.slotOfBridge b
  let wv : Int := match w with
    | some x => (x : Int)
    | none => s.par P.ASC_SPEED n + 1
  let v := s.vdcQ b
  let asc := s.ascOf b
  if v > mvQ (s.par P.VDC_OV n) then asc
  else if (s.safeOf b).choice.isAsc &&
      (decide (wv ≥ s.par P.ASC_SPEED n - s.par P.ASC_HYST n) || decide (v ≥ mvQ (s.par P.VDC_OV n - 20000))) then asc
  else if wv > s.par P.ASC_SPEED n then asc else .spo

/-- The VDC_OVERVOLT side of R362: raised while V_DC exceeds VDC_OV with a slot that uses the bridge ON. -/
def State.overvoltCheck (s : State) (b : Nat) : State :=
  let n := s.slotOfBridge b
  let ov := decide (s.vdcQ b > mvQ (s.par P.VDC_OV n))
  let s := s.setSafe b { s.safeOf b with overvolt := ov }
  if ov && s.isOn .slot n then s.raise .VDC_OVERVOLT b (s.scopeBridge b) 0 none true
  else if s.faultActive .VDC_OVERVOLT b then s.cease .VDC_OVERVOLT b else s

/-- ASC_SIDE_SWAP is raised when R277 replaces the side of a new choice. -/
def State.swapNote (s : State) (b : Nat) (old raw new : SafeState) : State :=
  if raw.isAsc && new != raw && new != old then s.raise .ASC_SIDE_SWAP b (s.scopeBridge b) else s

/-- The choice of one bridge (R362): computed unless a raising rule fixes the state, held by the bank supervision, and
followed by a bridge in a safe state. A rest request ends when the choice becomes SPO (R367). -/
def State.chooseSafe (s : State) (b : Nat) (m : BridgeSense) : State :=
  let (w, src) := s.choiceSpeed b m
  let x := s.safeOf b
  let s := s.setSafe b { x with speedSrc := src, speed := w.getD x.speed,
                                lastSpeed := if src == .held || src == .unknown then x.lastSpeed else w }
  let s := s.overvoltCheck b
  let raw := x.forced.getD (s.choiceRule b w)
  let new := s.swapSide b raw
  let y := s.safeOf b
  let s := s.setSafe b { y with choice := if x.forced.isSome then y.choice else new,
                                rest := y.rest && new != .spo }
  let s := s.swapNote b x.choice raw new
  s.enterSafe b

/-- A bridge with no request left leaves its safe state at the next wrap (R367); the float code of a bridge without an
ON slot is set at the wrap, in Pwm.lean. -/
def State.markLeaving (s : State) (b : Nat) : State :=
  if (s.safeOf b).state != .run && !s.safeRequested b then
    if (s.pwm b).running then s.setSafe b { s.safeOf b with leaving := true }
    else
      let s := (s.setSafe b { s.safeOf b with state := .run, leaving := false, forced := none }).safeEvent b
      (satsOfBridge b).foldl (fun s n => s.setLane n false) s
  else s

/-- Every 10 µs SP0, or SP1 while SP0 restarts (R399), computes both choices. -/
def execSafeStateChoice (a b : BridgeSense) (s : State) : Out :=
  if s.pairOk 0 || s.pairOk 1 then
    .next ((((s.chooseSafe 0 a).chooseSafe 1 b).markLeaving 0).markLeaving 1)
  else .next s

/-- SAFE_DT after the decision the turn-ons of an active short circuit are launched on the edge lanes (R366). While the
PLL coasts, SAFE_DT is four times as long, as its ticks are (R474). -/
def execSafeDtExpiry (b : Fin 2) (s : State) : Out :=
  let x := s.safeOf b.val
  let dt := nsToTicks (s.parN P.SAFE_DT (s.slotOfBridge b.val))
  if x.dtPending && x.state.isAsc && s.elapsed x.decided dt then
    let s := s.setSafe b.val { x with dtPending := false }
    .next ((satsOfBridge b.val).foldl (fun s n => if x.state.gateOn n then s.setLane n true else s) s)
  else .next s

/-- 1 µs after a skipped safe-state turn-on was reported, the demand is raised again (R365). -/
def execSafeTurnOnRetry (n : Fin 12) (s : State) : Out :=
  match s.skipAt.at none n.val with
  | none => .next s
  | some t =>
    if !s.elapsed t usT then .next s
    else
      let s := { s with skipAt := s.skipAt.setAt none n.val none }
      let x := s.safeOf (bridgeOfSat n.val)
      .next (if x.state.gateOn n.val && !x.dtPending then s.setLane n.val true else s)

/-- A single-event fault becomes inactive 1 s after its last occurrence (R371); its RC3 or RC4 safe state is withdrawn
when its slots are OFF. -/
def execFaultActiveExpiry (k : Nat) (s : State) : Out :=
  match s.faults.active[k]? with
  | none => .next s
  | some e =>
    if e.active && e.single && s.elapsed e.last secT then
      .next (({ s with faults := { s.faults with active := s.faults.active.set k { e with active := false } } } : State).sweepFaults.torqueNote s)
    else .next s

/-! ### STO (R385 to R388) -/

/-- Replace the STO record. -/
def State.setSto (s : State) (x : Sto) : State := { s with island := { s.island with sto := x } }

/-- Whether input 0 (STO_A) or 1 (STO_B) is asserted. -/
def Sto.asserted (x : Sto) (i : Nat) : Bool := if i = 0 then x.a else x.b

/-- Stop every ON slot through its fault path. -/
def State.stopOnSlots (s : State) : State :=
  [0, 1].foldl (fun s n => if s.isOn .slot n then s.slotFaultStop n else s) s

/-- An STO input asserts after its filter (R385). -/
def execStoAssert (i : Fin 2) (s : State) : Out :=
  let old := s
  let x := s.island.sto
  if x.asserted i.val then .next s
  else
    let other := x.asserted (1 - i.val)
    let x := if i.val = 0 then { x with a := true, aSince := s.now } else { x with b := true, bSince := s.now }
    let s := s.setSto { x with bothSince := if other then some s.now else none
                               discSince := if other then none else some s.now
                               firstRelease := none }
    let s := [0, 1].foldl (fun s b =>
      let y := s.safeOf b
      (s.setSafe b (if i.val = 0 then { y with stoA := true } else { y with stoB := true })).enterSafe b) s
    let s := s.stopOnSlots.setFlag F.SAFETY_INT_STATUS_STO_CHANGE true
    let s := if other && s.faultActive .STO_DISCREPANCY 0 then s.cease .STO_DISCREPANCY 0 else s
    .next ((s.raise .STO_STOP i.val scopeModule 0 none true).torqueNote old)

/-- An STO input releases (R385); with both inputs released again, the second within STO_DISC_T of the first, the
start-up test is done (R388). -/
def execStoRelease (i : Fin 2) (s : State) : Out :=
  let old := s
  let x := s.island.sto
  if !x.asserted i.val then .next s
  else
    let other := x.asserted (1 - i.val)
    let x := if i.val = 0 then { x with a := false } else { x with b := false }
    let inTime := match x.firstRelease with
      | some t => !s.elapsed t (s.parN P.STO_DISC_T * msT + 1)
      | none => false
    let done := x.test == .assertedSeen && !other && inTime
    let s := s.setSto { x with bothSince := none
                               discSince := if other then some s.now else none
                               firstRelease := if other then some s.now else none
                               test := if done then .done else x.test }
    let s := [0, 1].foldl (fun s b =>
      let y := s.safeOf b
      s.setSafe b (if i.val = 0 then { y with stoA := false } else { y with stoB := false })) s
    let s := s.setFlag F.SAFETY_INT_STATUS_STO_CHANGE true
    let s := if done then s.setFlag F.SAFETY_INT_STATUS_STO_TEST_DONE true else s
    let s := if !other && s.faultActive .STO_DISCREPANCY 0 then s.cease .STO_DISCREPANCY 0 else s
    .next ((if s.faultActive .STO_STOP i.val then s.cease .STO_STOP i.val else s).torqueNote old)

/-- One input asserted and the other released continuously for STO_DISC_T (R386). -/
def execStoDiscrepancyTimer (s : State) : Out :=
  match s.island.sto.discSince with
  | some t =>
    if s.elapsed t (s.parN P.STO_DISC_T * msT) then .next (s.raise .STO_DISCREPANCY 0 scopeModule 0 none true)
    else .next s
  | none => .next s

/-- 10 µs after an assertion both banks must report the input's block active (R387). -/
def execStoPathCheckTimer (i : Fin 2) (bankA bankB : Bool) (s : State) : Out :=
  let x := s.island.sto
  let since := if i.val = 0 then x.aSince else x.bSince
  if !(x.asserted i.val && s.elapsed since (10 * usT)) then .next s
  else
    let ok := bankA && bankB
    let s := s.setSto (if i.val = 0 then { x with pathA := ok } else { x with pathB := ok })
    .next (if ok then s else s.raise .STO_PATH_FAULT i.val scopeModule)

/-- Both inputs have been asserted together for 1 ms, both paths checked (R388). -/
def execStoTestBothAsserted (s : State) : Out :=
  let x := s.island.sto
  match x.bothSince with
  | some t =>
    if x.test == .pending && s.elapsed t msT && x.pathA && x.pathB then .next (s.setSto { x with test := .assertedSeen })
    else .next s
  | none => .next s

/-! ### The latch (R389 to R391, R399) -/

/-- Either edge releases every latched fault, unless one is still active (R389). The latch record is cleared with it
(R486). -/
def State.releaseLatch (s : State) : State :=
  if s.faults.latched.isEmpty then s
  else if s.faults.latched.any (fun l => s.faultActive l.name l.unit) then
    (s.setFlag F.SAFETY_INT_STATUS_RESET_REFUSED true).raise .SAFE_RESET_REFUSED 255 scopeModule
  else
    let s := s.faults.latched.foldl (fun s l => (s.screeWrite l.name.code 4 l.scope.code l.unit 2 0).1) s
    let t := { s with
      faults := { s.faults with latched := [], latchPending := [], latchWriting := true, latchWriteSince := s.now }
      island := { s.island with lastRelease := some s.now } }
    (t.setFlag F.SAFETY_INT_STATUS_RESET_ACCEPTED true).torqueNote s

/-- Whether an edge falls in the same window of 1 ms as the last release (R399). -/
def State.releasedThisMs (s : State) : Bool :=
  match s.island.lastRelease with
  | some t => t / msT == s.now / msT
  | none => false

/-- A rising edge on SAFE_RESET, with the time the pin had been low before it (R389, R390). It is qualified when it
comes after the latch was set and the pin was low for at least 1 ms. -/
def execSafeResetEdge (lowTicks : Nat) (s : State) : Out :=
  if s.pdOn 1 && decide (msT ≤ lowTicks) && !s.faults.latched.isEmpty && !s.releasedThisMs then .next s.releaseLatch
  else .next s

/-! ### Peer broadcast (R368, R539) -/

/-- SYNC_IN high for 80 ns while PEER_EN = 1. -/
def execPeerBroadcastRx (s : State) : Out :=
  if s.par P.PEER_EN == 1 && s.pdOn 9 then
    let s := [0, 1].foldl (fun s b => (s.setSafe b { s.safeOf b with peer := true }).enterSafe b) s
    let s := (s.setFlag F.TIME_PEER_SAFE true).setFlag F.TIME_INT_STATUS_PEER_SAFE true
    .next (s.raise .PEER_SAFE 0 scopeModule 0 none true)
  else .next s

/-- SYNC_IN low for 1 µs withdraws the broadcast. -/
def execPeerBroadcastEnd (s : State) : Out :=
  if s.flag F.TIME_PEER_SAFE then
    let s := [0, 1].foldl (fun s b => s.setSafe b { s.safeOf b with peer := false }) s
    .next ((s.setFlag F.TIME_PEER_SAFE false).cease .PEER_SAFE 0)
  else .next s

/-! ### Active discharge (R392 to R396) -/

/-- Replace the discharge record. -/
def State.setDchg (s : State) (x : Discharge) : State := { s with island := { s.island with dchg := x } }

/-- Name bridges that were not named: their 2 s and their V_DC count from now (R392). -/
def State.dchgAdd (s : State) (a b : Bool) : State :=
  let d := s.island.dchg
  let d := if a && !d.bridgeA then { d with bridgeA := true, startA := s.now, vStartA := s.vdcQ 0 } else d
  let d := if b && !d.bridgeB then { d with bridgeB := true, startB := s.now, vStartB := s.vdcQ 1 } else d
  s.setDchg d

/-- The discharge acts on its bridges: the method is chosen and each takes its state (R393). -/
def State.dchgAct (s : State) : State :=
  let s := s.refreshDischarge
  s.dchgBridges.foldl State.enterSafe s

/-- The slots that use a named bridge and are ON. -/
def State.dchgSlots (s : State) (a b : Bool) : List Nat :=
  [0, 1].filter (fun n => s.isOn .slot n && (s.bridgesOfSlot n).any (fun k => if k = 0 then a else b))

/-- A request for active discharge (R392): refused while a slot using a named bridge is ON unless it carries FORCE,
which stops those slots through their fault path. It starts the discharge, adds its bridges to a running one, or waits
as the pending enable of one that is STOPPING. -/
def State.requestDischarge (s : State) (a b force : Bool) : State × Nat :=
  let both := s.sharedLink && (a || b)
  let a := a || both
  let b := b || both
  let on := s.dchgSlots a b
  if !force && !on.isEmpty then (s, St.stateRefused)
  else
    let s := on.foldl State.slotFaultStop s
    let l := s.lc .discharge 0
    match l.state with
    | .off =>
      let s := s.setDchg { s.island.dchg with bridgeA := false, bridgeB := false, backup := false, failed := false }
      (((s.updLc .discharge 0 Lc.enable).dchgAdd a b).dchgAct, St.ok)
    | .stopping =>
      let d := s.island.dchg
      ((s.updLc .discharge 0 Lc.enable).setDchg { d with pendA := d.pendA || a, pendB := d.pendB || b }, St.ok)
    | _ => (((s.updLc .discharge 0 Lc.enable).dchgAdd a b).dchgAct, St.ok)

/-- The method of the running discharge takes effect at the end of STARTING (R393). -/
def State.dchgStopping (s : State) : State :=
  let d := s.island.dchg
  s.setDchg { d with out := false, method := .none, backup := false, holdAsc := false }

/-- OFF is reached: a pending request starts a new discharge of its bridges (R392), else nothing is named. -/
def State.dchgOff (s : State) : State :=
  let d := s.island.dchg
  let a := d.pendA
  let b := d.pendB
  let s := s.setDchg { d with bridgeA := false, bridgeB := false, pendA := false, pendB := false, failed := false }
  if s.isStarting .discharge 0 then (s.dchgAdd a b).dchgAct else s

/-- DCHG_CHECK_T after STARTING the V_DC of a bridge has not fallen below half its value then (R395). -/
def execDchgCheckExpiry (b : Fin 2) (s : State) : Out :=
  let d := s.island.dchg
  let start := if b.val = 0 then d.startA else d.startB
  let v0 := if b.val = 0 then d.vStartA else d.vStartB
  let t := s.parN P.DCHG_CHECK_T (s.slotOfBridge b.val) * msT
  if s.dchgHolds b.val && s.elapsed start t && !d.backup && decide (v0 ≤ 2 * s.vdcQ b.val) then
    .next ((s.setDchg { d with backup := true, out := true }).raise .DISCHARGE_BACKUP b.val (s.scopeBridge b.val))
  else .next s

/-- Whether V_DC of a bridge has stayed below 60 V for 10 ms. -/
def State.vdcLow10 (s : State) (b : Nat) : Bool :=
  match (s.safeOf b).vdcLow with
  | some t => s.elapsed t (10 * msT)
  | none => false

/-- The discharge enters STOPPING (R396): DCHG is released and the request of kind (i) ends. -/
def State.stopDischarge (s : State) : State :=
  let s := s.updLc .discharge 0 (Lc.disable FuncKind.discharge.hasAbort)
  if s.isStopping .discharge 0 then s.dchgStopping else s

/-- V_DC of every named bridge has stayed below 60 V for 10 ms (R396). -/
def execDischargeComplete (s : State) : Out :=
  if s.isOn .discharge 0 && s.dchgBridges.all s.vdcLow10 then
    .next (s.setFlag F.SAFETY_INT_STATUS_DCHG_DONE true).stopDischarge
  else .next s

/-- A bridge's discharge is not complete 2 s after its start (R392, R396): DISCHARGE_FAIL, and DCHG stays asserted. -/
def execDischargeFailTimer (b : Fin 2) (s : State) : Out :=
  let d := s.island.dchg
  let start := if b.val = 0 then d.startA else d.startB
  if s.dchgHolds b.val && s.elapsed start (2 * secT) && !d.failed && !s.vdcLow10 b.val then
    let s := s.setDchg { d with failed := true, out := true }
    .next ((s.setFlag F.SAFETY_INT_STATUS_DCHG_FAIL true).raise .DISCHARGE_FAIL b.val scopeModule)
  else .next s

/-- After an island restart SP1 releases a DCHG that is still asserted with the discharge OFF, once V_DC of every bridge
has stayed below 60 V for 10 ms (R395). -/
def execDchgReleaseAfterRestart (s : State) : Out :=
  let d := s.island.dchg
  if d.out && s.isOff .discharge 0 && s.pairOk 1 && s.vdcLow10 0 && s.vdcLow10 1 then .next (s.setDchg { d with out := false })
  else .next s

end Sys2Proof.Machine
end

