-- ==== Sys2Proof/Machine/Pwm.lean ====
section
/-! DEFINITION. The PWM block (R208 to R235, R240, R241): counter, demands, gate edges, the error accumulator, generations,
update points, trips, freeze, phase locking and bootstrap refresh. The wrap's own command is in Wrap.lean, the timeline in
Timeline.lean. -/

namespace Sys2Proof.Machine

/-! ### Records and times -/

def Pwm.ch (x : Pwm) (c : Nat) : PwmCh := x.chans.at {} c
def Pwm.setCh (x : Pwm) (c : Nat) (y : PwmCh) : Pwm := { x with chans := x.chans.setAt {} c y }
def Pwm.gate (x : Pwm) (g : Nat) : PwmGate := x.gates.at {} g
def Pwm.setGate (x : Pwm) (g : Nat) (y : PwmGate) : Pwm := { x with gates := x.gates.setAt {} g y }
def Pwm.leg (x : Pwm) (k : Nat) : PwmLeg := x.legs.at {} k
def Pwm.setLeg (x : Pwm) (k : Nat) (y : PwmLeg) : Pwm := { x with legs := x.legs.setAt {} k y }

/-- The float code, and the value that stands for "no edge" (R211, R216). -/
abbrev floatCode : Nat := 0x7FFFFF
abbrev noEdge : Nat := 0x7FFFFE

/-- PERIOD in force, and P8 (R210). -/
def State.period (s : State) (b : Nat) : Nat := s.fld F.PWM_PERIOD_EFF_PERIOD b
def State.p8 (s : State) (b : Nat) : Nat := 8 * s.period b

/-- Independent mode (R214). -/
def State.indep (s : State) (b : Nat) : Bool := s.par P.LEG_MODE b == 1

/-- Dead times of a leg in fine units, 0 in independent mode (R213, R214). -/
def State.dtHL (s : State) (b k : Nat) : Nat := if s.indep b then 0 else s.parN P.DT_HL b k
def State.dtLH (s : State) (b k : Nat) : Nat := if s.indep b then 0 else s.parN P.DT_LH b k

/-- The channels of a bridge's demands. -/
def State.pwmChans (s : State) (b : Nat) : List Nat := if s.indep b then [0, 1, 2, 3, 4, 5] else [0, 2, 4]

/-- The present counter value (R208); it holds while the bridge is frozen (R231). -/
def State.counter (s : State) (b : Nat) : Nat :=
  let x := s.pwm b
  if !x.running then 0 else min (x.length - 1) ((x.frozenSince.getD s.now) - x.wrapAt)

/-- Whether the bridge's counter runs and is not frozen. -/
def Pwm.live (x : Pwm) : Bool := x.running && x.frozenSince.isNone

/-- Whether the gates follow the PWM block: no safe state holds the bridge but DISCHARGE (R230, R394). -/
def State.pwmDrives (s : State) (b : Nat) : Bool :=
  let x := (s.safeOf b).state
  x == .run || x == .discharge

/-! ### Gate edges (R213, R217, R227, R265) -/

/-- The edge lanes of a leg follow its two gate demands; while both are on the bank drives both lanes off and raises
LEG_CONFLICT (R265). -/
def State.syncLanes (s : State) (b k : Nat) : State :=
  let x := s.pwm b
  let h := (x.gate (2 * k)).out
  let l := (x.gate (2 * k + 1)).out
  let n := 6 * b + 2 * k
  let both := h && l
  let s := s.setPwm b (x.setLeg k { x.leg k with conflict := both })
  let s := (s.setLane n (h && !both)).setLane (n + 1) (l && !both)
  if both && !(x.leg k).conflict then
    ((s.setFlag F.GDS_INT_STATUS_LEG_CONFLICT true n).setFlag F.GDS_INT_STATUS_LEG_CONFLICT true (n + 1)).raise
      .LEG_CONFLICT n (s.scopeBridge b)
  else s

/-- Low-side conduction of a leg, for the bootstrap refresh (R235). -/
def PwmLeg.lowEdge (l : PwmLeg) (on : Bool) (at_ : Nat) : PwmLeg :=
  if on then { l with lowSince := some at_ }
  else match l.lowSince with
    | some t => { l with lowSince := none, lowBest := max l.lowBest (at_ - t) }
    | none => l

/-- Launch a gate edge at a time in fine units; it opens the blanking window (R227). -/
def State.launch (s : State) (b g : Nat) (on : Bool) (at_ : Nat) : State :=
  let x := s.pwm b
  let y := x.gate g
  if y.out == on then s.setPwm b (x.setGate g { y with turnOn := none, turnOff := none })
  else
    let x := x.setGate g { out := on, onAt := if on then at_ else y.onAt, turnOn := none, turnOff := none }
    let x := if g % 2 = 1 then x.setLeg (g / 2) ((x.leg (g / 2)).lowEdge on at_) else x
    let x := { x with blankUntil := max x.blankUntil (s.now + s.parN P.BLANK b), blankOpen := true }
    (s.setPwm b x).syncLanes b (g / 2)

/-- Turn a gate off; with the guard, not before MIN_PULSE has elapsed since its turn-on (R217). A waiting turn-on is
dropped. -/
def State.gateOff (s : State) (b g : Nat) (guard : Bool) (at_ : Nat) : State :=
  let x := s.pwm b
  let y := x.gate g
  let due := y.onAt + s.parN P.MIN_PULSE b
  if y.out && guard && at_ < due then s.setPwm b (x.setGate g { y with turnOn := none, turnOff := some due })
  else s.launch b g false at_

/-- Turn a gate on after a dead time (R213). A turn-off that the guard still delays is dropped, so the gate stays on. -/
def State.gateOn (s : State) (b g : Nat) (at_ dt : Nat) : State :=
  let x := s.pwm b
  let y := x.gate g
  if y.out then s.setPwm b (x.setGate g { y with turnOff := none })
  else if dt = 0 then s.launch b g true at_
  else s.setPwm b (x.setGate g { y with turnOn := some (at_ + dt) })

/-- The gate edges of a demand (R213, R214). -/
def State.launchDemand (s : State) (b c : Nat) (v : Bool) (at_ : Nat) : State :=
  let k := c / 2
  if s.indep b then (if v then s.gateOn b c at_ 0 else s.gateOff b c true at_)
  else if v then (s.gateOff b (2 * k + 1) true at_).gateOn b (2 * k) at_ (s.dtHL b k)
  else (s.gateOff b (2 * k) true at_).gateOn b (2 * k + 1) at_ (s.dtLH b k)

/-- A demand changes; the gates follow unless a trip, a refresh or a safe state holds them. -/
def State.setDemand (s : State) (b c : Nat) (v : Bool) (at_ : Nat) : State :=
  let x := s.pwm b
  let y := x.ch c
  let s := s.setPwm b (x.setCh c { y with demand := v, hadOn := y.hadOn || v })
  if y.demand == v || (x.leg (c / 2)).blocked || x.resync || !s.pwmDrives b then s else s.launchDemand b c v at_

/-- A demand floats: both gates, or its own in independent mode, are turned off with no turn-on to follow (R211, R213). -/
def State.floatDemand (s : State) (b c : Nat) (at_ : Nat) : State :=
  if !s.pwmDrives b || (s.pwm b).resync then s
  else if s.indep b then s.gateOff b c true at_
  else (s.gateOff b (2 * (c / 2)) true at_).gateOff b (2 * (c / 2) + 1) true at_

/-! ### Minimum pulse and the error accumulator (R216) -/

/-- The outcome of R216: effective compares, ERR, whether the clamp acted. -/
structure PulseOut where
  on : Nat
  off : Nat
  err : Int
  sat : Bool
  deriving DecidableEq, Repr

/-- The on-time that two compares describe (R211, R216). -/
def onTime (p8 on off : Nat) : Nat :=
  if off ≥ p8 then p8 - on else if on < off then off - on else if off < on then p8 - on + off else 0

/-- The high-side test of R216: `need` is DT_HL + MIN_PULSE. -/
def shortHigh (drop : Bool) (need ton err : Int) : Int × Int :=
  if 0 < ton ∧ ton < need then (if drop then (0, err + ton) else (need, err - (need - ton))) else (ton, err)

/-- The low-side test of R216: `need` is DT_LH + MIN_PULSE. -/
def shortLow (drop : Bool) (p8 need ton err : Int) : Int × Int :=
  if ton < p8 ∧ p8 - ton < need then
    (if drop then (p8, err - (p8 - ton)) else (p8 - need, err + ton - (p8 - need)))
  else (ton, err)

/-- R216 for one demand. In independent mode a gate has only its own on-time test. -/
def pulseRule (p8 : Nat) (indep carry drop : Bool) (needHigh needLow : Nat) (err0 : Int) (on off : Nat) : PulseOut :=
  if (on = floatCode ∧ off = floatCode) ∨ on ≥ p8 ∨ (on = 0 ∧ off ≥ p8) then ⟨on, off, 0, false⟩
  else
    let ton : Int := onTime p8 on off
    let err := if carry then err0 else 0
    let t := clampI 0 p8 (ton + err)
    let (t, err) := shortHigh drop needHigh t (ton + err - t)
    let (t, err) := if indep then (t, err) else shortLow drop p8 needLow t err
    let e := if carry then clampI (-(p8 : Int)) p8 err else 0
    ⟨if t = 0 then noEdge else on, if t = p8 then noEdge else (on + t.toNat) % p8, e, carry && e != err⟩

/-- Apply R216 to a channel of a bridge. -/
def State.pulseOf (s : State) (b c on off : Nat) : PulseOut :=
  let k := c / 2
  let mp := s.parN P.MIN_PULSE b
  pulseRule (s.p8 b) (s.indep b) (s.par P.ERR_CARRY b == 1) (s.par P.MINP_MODE b == 0)
    (s.dtHL b k + mp) (s.dtLH b k + mp) ((s.pwm b).ch c).err0 on off

/-- Put the outcome of R216 into force: CMP_EFF and ERR (0 while a safe state holds the bridge, R230), ERR_SAT. -/
def State.setPulse (s : State) (b c on off : Nat) (r : PulseOut) : State :=
  let x := s.pwm b
  let err := if s.pwmDrives b then r.err else 0
  let s := s.setPwm b (x.setCh c { x.ch c with on := on, off := off, effOn := r.on, effOff := r.off, err := err })
  let s := if c % 2 = 0 then
      ((s.setFld F.PWM_CMP_EFF_VALUE r.on b c).setFld F.PWM_CMP_EFF_VALUE r.off b (c + 1)).setFldS F.PWM_ERR_ERR err b (c / 2)
    else s
  if r.sat then (s.setFlag F.PWM_INT_STATUS_ERR_SAT true b).raise .ERR_SAT b (s.scopeBridge b) else s

/-- Whether effective compares float a demand, or keep it off for the whole period (R211). -/
def PwmCh.isFloat (y : PwmCh) : Bool := y.effOn == floatCode && y.effOff == floatCode
def PwmCh.isOff (y : PwmCh) (p8 : Nat) : Bool := decide (p8 ≤ y.effOn) && !y.isFloat

/-- A period begins for a demand (R211, R216, R228): the effective compares are computed, the demand is carried over (a
float leaves it off), and the gates are launched where the demand is new to them. -/
def State.startDemand (s : State) (b c : Nat) (relaunch : Bool) : State :=
  let y := (s.pwm b).ch c
  let s := s.setPulse b c y.on y.off (s.pulseOf b c y.on y.off)
  let x := s.pwm b
  let z := x.ch c
  let t := 8 * s.now
  if z.isFloat then
    let s := s.setPwm b (x.setCh c { z with demand := false, floats := true, hadOn := false, startDemand := false,
                                             onMade := false, offMade := false })
    s.floatDemand b c t
  else
    let d := z.demand && !z.isOff (s.p8 b)
    let s := s.setPwm b (x.setCh c { z with demand := d, floats := false, hadOn := d, startDemand := d,
                                             onMade := false, offMade := false })
    if (relaunch || z.floats || d != z.demand) && s.pwmDrives b then s.launchDemand b c d t else s

/-! ### Compare edges (R211, R213) -/

/-- Whether the tick of a time (fine units after the wrap) has been reached. -/
def State.reached (s : State) (b fine : Nat) : Bool := decide (fine / 8 ≤ s.counter b)

/-- The counter reaches a compare of a channel: `which` 0 its CMP_ON, 1 its CMP_OFF, 2 the start of a bootstrap refresh
(R211, R235). -/
def execPwmCompareEdge (b : Fin 2) (c : Fin 6) (which : Fin 3) (s : State) : Out :=
  let b := b.val
  let c := c.val
  let x := s.pwm b
  let y := x.ch c
  let p8 := s.p8 b
  let k := c / 2
  if !x.live || !(s.pwmChans b).contains c || y.isFloat then .next s
  else if which.val = 2 then
    let at_ := p8 - (8 * s.parN P.BOOT_T b * 4 / 5) - s.dtLH b k
    if (x.leg k).refreshDue && s.reached b at_ then
      let s := s.setPwm b (x.setLeg k { x.leg k with refreshDue := false, refreshed := true, bootCount := 0, blocked := true })
      let s := s.bump F.PWM_BOOT_COUNT_COUNT b
      .next (if (x.leg k).cut || !s.pwmDrives b || x.resync then s else s.launchDemand b c false (8 * x.wrapAt + at_))
    else .next s
  else if which.val = 0 then
    if y.effOn < p8 && !y.onMade && s.reached b y.effOn && (decide (y.effOff ≥ y.effOn) || y.offMade) then
      let s := s.setPwm b (x.setCh c { y with onMade := true })
      .next (if y.effOn = y.effOff then s else s.setDemand b c true (8 * x.wrapAt + y.effOn))
    else .next s
  else if y.effOff < p8 && y.effOn < p8 && !y.offMade && s.reached b y.effOff && (decide (y.effOff ≤ y.effOn) || y.onMade) then
    .next ((s.setPwm b (x.setCh c { y with offMade := true })).setDemand b c false (8 * x.wrapAt + y.effOff))
  else .next s

/-- DT_HL or DT_LH has elapsed: the opposite turn-on is launched (R213). -/
def execDeadTimeExpiry (b : Fin 2) (g : Fin 6) (s : State) : Out :=
  let x := s.pwm b.val
  match (x.gate g.val).turnOn with
  | some t => if x.live && decide (t / 8 ≤ s.now) && s.pwmDrives b.val && !x.resync then .next (s.launch b.val g.val true t) else .next s
  | none => .next s

/-- MIN_PULSE has elapsed: a turn-off that the guard delayed is launched (R217). -/
def execMinPulseGuardExpiry (b : Fin 2) (g : Fin 6) (s : State) : Out :=
  let x := s.pwm b.val
  match (x.gate g.val).turnOff with
  | some t => if x.live && decide (t / 8 ≤ s.now) && s.pwmDrives b.val && !x.resync then .next (s.launch b.val g.val false t) else .next s
  | none => .next s

/-! ### Generations (R219 to R222) -/

/-- A discarded write (R219, R233). -/
def State.mismatch (s : State) (b : Nat) (fault : Bool) : State :=
  let s := s.bump F.PWM_GEN_STATS_MISMATCH b
  if fault then (s.setFlag F.PWM_INT_STATUS_GEN_MISMATCH true b).raise .GEN_MISMATCH b (s.scopeBridge b) else s

/-- LOCK_A holds bridge B (R232, R233). -/
def State.lockedToA (s : State) (b : Nat) : Bool := b == 1 && s.par P.SYNC_MODE 1 == 1

/-- A write reaches the shadow set (R219, R233). Index 12 is the period. -/
def State.shadowWrite (s : State) (b idx value tag : Nat) : State :=
  let x := s.pwm b
  if tag ≠ s.fld F.PWM_STATUS_GEN_OPEN b then s.mismatch b true
  else if idx = 12 then
    if s.lockedToA b then s.mismatch b false
    else s.setPwm b { x with shadow := { x.shadow with period := some (bits value 19 0) } }
  else s.setPwm b { x with shadow := { x.shadow with writes := x.shadow.writes.setAt none idx (some (bits value 22 0)) } }

/-- Whether a set holds every compare of the bridge (R221). -/
def State.holdsAll (s : State) (b : Nat) (g : PwmSet) : Bool :=
  (List.range (if s.indep b then 12 else 6)).all (fun j => (g.writes.at none j).isSome)

/-- A compare scaled to a new period, halves upwards; the float code is kept, any other value at or beyond the old P8 becomes
0x7FFFFE (R221). -/
def rescale (old new c : Nat) : Nat :=
  if c = floatCode then c else if 8 * old ≤ c then noEdge else (2 * c * new + old) / (2 * old)

/-- Compare j of a bridge in force (0 to 5 CMP, 6 to 11 LS_CMP). -/
def Pwm.inForce (x : Pwm) (j : Nat) : Nat :=
  if j < 6 then (if j % 2 = 0 then (x.ch (2 * (j / 2))).on else (x.ch (2 * (j / 2))).off)
  else (if j % 2 = 0 then (x.ch (2 * ((j - 6) / 2) + 1)).on else (x.ch (2 * ((j - 6) / 2) + 1)).off)

/-- Lay the writes of a set over another (R220). -/
def PwmSet.over (g base : PwmSet) : PwmSet :=
  { writes := g.writes.foldl (fun t e => t.setAt none e.1 e.2) base.writes
    period := g.period.or base.period, arrival := g.arrival, gen := g.gen }

/-- The compares a set leaves unwritten, rescaled (R221). -/
def State.rescaleSet (s : State) (b : Nat) (g base : PwmSet) (old new : Nat) : PwmSet :=
  let x := s.pwm b
  (List.range (if s.indep b then 12 else 6)).foldl (fun g j =>
    match g.writes.at none j with
    | some _ => g
    | none => { g with writes := g.writes.setAt none j (some (rescale old new (((base.writes.at none j)).getD (x.inForce j)))) }) g

/-- A commit closes the open generation (R209, R220, R221). -/
def State.commit (s : State) (b : Nat) : State :=
  let x := s.pwm b
  let open_ := s.fld F.PWM_STATUS_GEN_OPEN b
  let g : PwmSet := { x.shadow with arrival := s.now, gen := open_ }
  let s := s.setFld F.PWM_STATUS_GEN_OPEN ((open_ + 1) % 256) b
  let s := s.setPwm b { x with shadow := {} }
  let base := x.pending.getD {}
  let cur := base.period.getD (s.period b)
  let new := g.period.getD cur
  let bad := decide (new < 8000) || decide (new > 800000) || decide (new < s.parN P.PERIOD_MIN b) || decide (s.parN P.PERIOD_MAX b < new)
  let torn := new != cur && !s.holdsAll b g
  if bad then
    ((s.setFlag F.PWM_INT_STATUS_PERIOD_REFUSED true b).bump F.PWM_GEN_STATS_REFUSED b).raise .PERIOD_RANGE b (s.scopeBridge b)
  else
    let s := if torn then (s.setFlag F.PWM_INT_STATUS_TORN true b).raise .TORN_UPDATE b (s.scopeBridge b) else s
    if torn && s.par P.TORN_POLICY b == 2 then s.bump F.PWM_GEN_STATS_REFUSED b
    else
      let s := if torn then s.bump F.PWM_GEN_STATS_TORN b else s
      let g := if torn && s.par P.TORN_POLICY b == 1 then s.rescaleSet b g base cur new else g
      let s := if x.pending.isSome then s.bump F.PWM_GEN_STATS_SUPERSEDED b else s
      let g := g.over base
      let y := s.pwm b
      let imm := s.par P.UPD_MODE b == 2 && (g.period.isNone || g.period == some (s.period b))
      (s.setPwm b { y with pending := some g, immediate := if imm then some s.now else none }).setFlag F.PWM_STATUS_PENDING true b

/-- Put the compares and the period of a set into force, without their edges. -/
def State.takeSet (s : State) (b : Nat) (g : PwmSet) : State :=
  let x := s.pwm b
  let x := (List.range 12).foldl (fun x j =>
    match g.writes.at none j with
    | none => x
    | some v =>
      let c := if j < 6 then 2 * (j / 2) else 2 * ((j - 6) / 2) + 1
      let y := x.ch c
      x.setCh c (if j % 2 = 0 then { y with on := v } else { y with off := v })) x
  let s := s.setPwm b { x with pending := none, immediate := none }
  let s := match g.period with
    | some p => s.setFld F.PWM_PERIOD_EFF_PERIOD p b
    | none => s
  (s.setFld F.PWM_STATUS_GEN_EFF g.gen b).setFlag F.PWM_STATUS_PENDING false b

/-! ### Update points inside a period (R223 to R225) -/

/-- New compares take effect at the present tick for one demand (R216, R225). -/
def State.updateDemand (s : State) (b c : Nat) (old : PwmCh) : State :=
  let y := (s.pwm b).ch c
  if y.on = old.on ∧ y.off = old.off then s
  else
    let s := s.setPulse b c y.on y.off (s.pulseOf b c y.on y.off)
    let x := s.pwm b
    let z := x.ch c
    let p8 := s.p8 b
    let t := s.counter b
    let t8 := 8 * t
    let now8 := 8 * s.now
    let onPast := decide (z.effOn / 8 ≤ t)
    let offPast := decide (z.effOff / 8 ≤ t)
    let wraps := decide (z.effOff < z.effOn)
    if z.isFloat then
      (s.setPwm b (x.setCh c { z with floats := true, demand := false })).floatDemand b c now8
    else if z.isOff p8 then (s.setPwm b (x.setCh c { z with floats := false, onMade := true, offMade := true })).setDemand b c false now8
    else
      let made : PwmCh := { z with floats := false, onMade := onPast, offMade := offPast }
      if z.demand then
        let s := s.setPwm b (x.setCh c { made with onMade := onPast || !wraps })
        if z.effOff < p8 && offPast && !(wraps && onPast) then s.setDemand b c false now8 else s
      else if !z.hadOn && onPast && (!offPast || wraps) then
        let rem := (if z.effOn < z.effOff then z.effOff else p8) - t8
        if rem ≥ s.dtHL b (c / 2) + s.parN P.MIN_PULSE b then (s.setPwm b (x.setCh c made)).setDemand b c true now8
        else
          let e := if s.par P.MINP_MODE b == 0 && s.par P.ERR_CARRY b == 1 && s.pwmDrives b then clampI (-(p8 : Int)) p8 (z.err + rem) else z.err
          let s := s.setPwm b (x.setCh c { made with offMade := true, err := e })
          if c % 2 = 0 then s.setFldS F.PWM_ERR_ERR e b (c / 2) else s
      else s.setPwm b (x.setCh c made)

/-- A pending set takes effect inside a period. -/
def State.updateNow (s : State) (b : Nat) (g : PwmSet) : State :=
  let old := s.pwm b
  (s.pwmChans b).foldl (fun s c => s.updateDemand b c (old.ch c)) (s.takeSet b g)

/-- The tick floor(PERIOD / 2): in MID mode a pending set whose last commit is early enough takes effect (R223, R224); one that
changes the period waits for the wrap (R222). -/
def execPwmMidPoint (b : Fin 2) (s : State) : Out :=
  let b := b.val
  let x := s.pwm b
  let u := x.wrapAt + s.period b / 2
  if !x.live || x.midDone || s.par P.UPD_MODE b != 1 || s.now < u then .next s
  else
    let s := s.setPwm b { x with midDone := true }
    match x.pending with
    | some g =>
      if g.arrival + 4 < u ∧ (g.period = none ∨ g.period = some (s.period b)) then .next (s.updateNow b g) else .next s
    | none => .next s

/-- Two ticks after a commit in IMMEDIATE mode (R223). -/
def execImmediateUpdate (b : Fin 2) (s : State) : Out :=
  let x := s.pwm b.val
  match x.immediate, x.pending with
  | some t, some g => if x.live && s.elapsed t 2 then .next (s.updateNow b.val g) else .next s
  | _, _ => .next s

/-- The measurements of a commit's arrival (R192, R185) and the end of its deadline (R200). -/
def State.commitMeasured (s : State) (b ce : Nat) : State :=
  let e := s.engine ce
  let d := match (if b = 0 then e.sampleA else e.sampleB) with
    | some t => s.now - t
    | none => 0
  let s := s.setEngine ce (if b = 0 then { e with dueA := false, dmeasA := d } else { e with dueB := false, dmeasB := d })
  let s := s.setPwm b { s.pwm b with lastD := d }
  let d := min 65535 d
  let s := s.setFld F.CE_WDG_CONSEC 0 ce
  if b = 0 then
    (s.setFld F.CE_DMEAS_LAST_A d ce).setFld F.CE_DMEAS_MAX_MAX_A (max d (s.fld F.CE_DMEAS_MAX_MAX_A ce)) ce
  else (s.setFld F.CE_DMEAS_LAST_B d ce).setFld F.CE_DMEAS_MAX_MAX_B (max d (s.fld F.CE_DMEAS_MAX_MAX_B ce)) ce

/-- The writes that follow a commit in issue order, up to the next commit, reach the shadow. -/
def State.deliverWrites (s : State) (b : Nat) : List PwmFlight → State
  | [] => s.setPwm b { s.pwm b with flight := [] }
  | w :: t => if w.commit then s.setPwm b { s.pwm b with flight := w :: t }
    else State.deliverWrites (s.shadowWrite b w.idx w.value w.tag) b t

/-- A commit arrives at the PWM block, 10 ns after its issue (R191, R220). A commit whose write is discarded by its tag closes
nothing (R219). -/
def execCommitArrival (b : Fin 2) (s : State) : Out :=
  let b := b.val
  match (s.pwm b).flight with
  | [] => .next s
  | w :: t =>
    if !s.elapsed w.issued 8 then .next s
    else
      let ok := w.tag = s.fld F.PWM_STATUS_GEN_OPEN b
      let s := s.shadowWrite b w.idx w.value w.tag
      let s := if ok then (s.commit b).commitMeasured b w.ce else s
      .next (s.deliverWrites b t)

/-- An FST to PWM.LS_CMP_j (R215): from the engine granted the bridge it joins the open generation in independent mode and is
ignored in complementary mode; from any other master it changes nothing. The master is `m`. -/
def execLsCmpWrite (m : Fin 21) (b : Fin 2) (j : Fin 6) (value : Nat) (s : State) : Out :=
  let (s', ok) := s.mayWrite m.val .PWM_LS_CMP b.val j.val
  if !ok || m.val ≥ 8 || !(s.engine m.val).writes.contains b.val || !(s.indep b.val) then .next s'
  else
    let s' := s'.setFld F.PWM_LS_CMP_VALUE value b.val j.val
    .next (s'.shadowWrite b.val (6 + j.val) value (s'.fld F.PWM_STATUS_GEN_OPEN b.val))

/-! ### Trips (R226 to R229) -/

/-- Cut a leg until the wrap (R228). -/
def State.cutLeg (s : State) (b k : Nat) : State :=
  let x := s.pwm b
  if (x.leg k).cut then s
  else
    let s := s.setPwm b (x.setLeg k { x.leg k with cut := true, blocked := true })
    let t := 8 * s.now
    if !s.pwmDrives b || x.resync then s
    else if s.par P.TRIP_CUT b == 0 then (s.gateOff b (2 * k) false t).gateOff b (2 * k + 1) false t
    else if s.indep b then (s.gateOff b (2 * k) true t).gateOff b (2 * k + 1) true t
    else s.launchDemand b (2 * k) false t

/-- A trip source acts on a bridge: 0 to 5 its satellites, 6 to 9 TRIP_IN, 10 to 17 CT (R226, R228, R229). The first one of a
period asks for a trip-time capture (R301). -/
def State.tripAct (s : State) (b src : Nat) : State :=
  let x := s.pwm b
  let s := s.setReg ⟨.PWM_TRIP_STATUS, b, 0⟩ (s.reg ⟨.PWM_TRIP_STATUS, b, 0⟩ ||| BitVec.ofNat 32 (2 ^ src))
  let s := (s.setFlag F.PWM_STATUS_TRIP_ACTIVE true b).setFlag F.PWM_INT_STATUS_TRIP true b
  let s := if !x.tripped && (match x.lastTrip with | some t => s.elapsed t (100 * msT) | none => true) then
      s.raise .TRIP_ACTED b (s.scopeBridge b) else s
  let s := s.setPwm b { s.pwm b with tripped := true, lastTrip := some s.now }
  let z := s.sens b
  let s := if s.par P.TRIP_CAPTURE b == 1 && !z.tripCapDone then s.setSens b { z with tripCapDone := true, tripCapDue := true } else s
  if src < 6 then s.cutLeg b (src / 2) else [0, 1, 2].foldl (fun s k => s.cutLeg b k) s

/-- Whether a bridge's TRIP_MASK enables a source. -/
def State.tripEnabled (s : State) (b src : Nat) : Bool := bits (s.parN P.TRIP_MASK b) src src == 1

/-- A source asserts at a bridge: it acts, or waits for the end of the blanking window (R227). -/
def State.tripAssert (s : State) (b src : Nat) : State :=
  let x := s.pwm b
  if !x.running || !s.tripEnabled b src then s
  else if x.frozenSince.getD s.now < x.blankUntil then s.setPwm b { x with levels := if x.levels.contains src then x.levels else x.levels ++ [src] }
  else s.tripAct b src

/-- Whether a satellite's overcurrent report is asserted (R255). -/
def State.satReport (s : State) (b src : Nat) : Bool := (s.sat (6 * b + src)).report

/-- TRIP_IN0 to TRIP_IN3 or CT0 to CT7 asserts (source 6 to 17), or a satellite's report of the bridge (0 to 5). -/
def execTripAssert (b : Fin 2) (src : Fin 18) (s : State) : Out :=
  if !s.pdOn 7 || (decide (src.val < 6) && !s.satReport b.val src.val) then .next s else .next (s.tripAssert b.val src.val)

/-- A blanking window closes: the sources still asserted act (R227, R228). `levels` has bit j set while TRIP_INj (0 to 3) or
CT(j − 4) (4 to 11) is still asserted. -/
def execBlankClose (b : Fin 2) (levels : Fin 4096) (s : State) : Out :=
  let b := b.val
  let x := s.pwm b
  if !x.live || !x.blankOpen || s.now < x.blankUntil then .next s
  else
    let s := s.setPwm b { x with blankOpen := false, levels := [] }
    .next ((List.range 18).foldl (fun s src =>
      let on := if src < 6 then s.satReport b src else bits levels.val (src - 6) (src - 6) == 1
      if on && s.tripEnabled b src then s.tripAct b src else s) s)

/-! ### Freeze (R231) -/

/-- A request to freeze is in force for the bridge itself. -/
def State.freezeAsked (s : State) (b : Nat) : Bool :=
  s.flag F.PWM_DEBUG_CTRL_FREEZE b || (s.pwm b).haltFreeze || (s.pwm b).clockStop

/-- Shift a bridge's timers by the time it was frozen. -/
def Pwm.shift (x : Pwm) (d : Nat) : Pwm :=
  { x with
    wrapAt := x.wrapAt + d, blankUntil := x.blankUntil + d
    immediate := x.immediate.map (fun t => min (t + d) (x.frozenSince.getD t + d))
    pending := x.pending.map (fun g => if g.arrival < x.frozenSince.getD 0 then { g with arrival := g.arrival + d } else g)
    gates := x.gates.map (fun e => (e.1, { e.2 with onAt := e.2.onAt + 8 * d, turnOn := e.2.turnOn.map (· + 8 * d), turnOff := e.2.turnOff.map (· + 8 * d) }))
    frozenSince := none }

/-- The bridge freezes or is released as its requests ask; a bridge locked to bridge A freezes with it. -/
def State.refreshFreeze (s : State) (b : Nat) : State :=
  let want := s.freezeAsked b || (s.lockedToA b && s.freezeAsked 0)
  let x := s.pwm b
  match want, x.frozenSince with
  | true, none =>
    let s := s.setPwm b { x with frozenSince := some s.now }
    let s := (s.setFlag F.PWM_STATUS_FROZEN true b).setFlag F.PWM_INT_STATUS_FROZEN true b
    if s.isOn .bridge b then s.raise .PWM_FROZEN b (s.scopeBridge b) else s
  | false, some t => (s.setPwm b (x.shift (s.now - t))).setFlag F.PWM_STATUS_FROZEN false b
  | _, _ => s

/-- Master 20 sets PWM.DEBUG_CTRL.FREEZE under the debug policy (R231, R447). Any other master gets a bus error (R244). -/
def execPwmFreeze (m : Fin 21) (b : Fin 2) (s : State) : Out :=
  let (s, ok) := s.debugAccess m.val .pwmFreeze .PWM_DEBUG_CTRL b.val
  .next (if ok then ((s.setFlag F.PWM_DEBUG_CTRL_FREEZE true b.val).refreshFreeze 0).refreshFreeze 1 else s)

/-- Master 20 ends a freeze requested through FREEZE (R231). -/
def execPwmRelease (m : Fin 21) (b : Fin 2) (s : State) : Out :=
  let (s, ok) := s.debugAccess m.val .pwmFreeze .PWM_DEBUG_CTRL b.val
  .next (if ok then ((s.setFlag F.PWM_DEBUG_CTRL_FREEZE false b.val).refreshFreeze 0).refreshFreeze 1 else s)

/-! ### Phase locking (R232 to R234, R538, R540) -/

/-- LOCKED clears (R234). -/
def State.unlock (s : State) (b : Nat) : State :=
  let s := s.setPwm b { s.pwm b with lockRun := 0 }
  if s.flag F.PWM_STATUS_LOCKED b then
    let s := (s.setFlag F.PWM_STATUS_LOCKED false b).setFlag F.PWM_INT_STATUS_UNLOCK true b
    if s.isOn .bridge b then s.raise .LOCK_FAIL b (s.scopeBridge b) else s
  else s

/-- The phase error of R234 for a counter value at the edge. -/
def phaseError (period phase count : Nat) : Int :=
  let e : Int := count - ((period - phase) % period : Nat)
  let h : Int := (period / 2 : Nat)
  if e < -h then e + period else if e > (period - h - 1 : Int) then e - period else e

/-- A qualified edge for one bridge in LOCK_SYNC; it rose `ago` ticks ago. -/
def State.syncEdge (s : State) (b ago : Nat) : State :=
  let x := s.pwm b
  let p := s.period b
  let phase := s.parN P.SYNC_PHASE b
  if s.par P.SYNC_MODE b != 2 || x.frozenSince.isSome || s.isOff .bridge b then s
  else if !x.running then
    if s.isStarting .bridge b then
      s.setPwm b { x with running := true, wrapAt := s.now - ago - (p - phase) % p, length := p, lastSync := some s.now, lockRun := 0 }
    else s
  else
    let count := (s.now - x.wrapAt + x.length - ago) % x.length
    let e := phaseError p phase count
    let adj : Int := s.par P.SYNC_MAX_ADJ b
    let run := if e.natAbs ≤ 2 then x.lockRun + 1 else 0
    let s := s.setPwm b { x with nextAdj := clampI (-adj) adj e, lockRun := run, lastSync := some s.now }
    let s := s.setFldS F.PWM_SYNC_STATUS_PHASE_ERR e b
    if e.natAbs > 8 then s.unlock b
    else if run ≥ 16 then s.setFlag F.PWM_STATUS_LOCKED true b else s

/-- A rising edge on SYNC_IN: the pin had been low for `low` ticks and falls again after `high` ticks (R538). -/
def execSyncInEdge (low high : Nat) (s : State) : Out :=
  if s.pdOn 7 && decide (16 ≤ low) && decide (high ≤ 32) then .next ((s.syncEdge 0 high).syncEdge 1 high) else .next s

/-- No qualified edge within 2 × PERIOD of the previous one (R540). -/
def execSyncLinkTimeout (b : Fin 2) (s : State) : Out :=
  let b := b.val
  let x := s.pwm b
  match x.lastSync with
  | none => .next s
  | some t =>
    if s.isOn .bridge b && s.par P.SYNC_MODE b == 2 && x.frozenSince.isNone && s.elapsed t (2 * s.period b) then
      let s := s.setPwm b { x with lastSync := none }
      .next ((((s.unlock b).bump F.TIME_PEER_LOSSES).setFlag F.TIME_INT_STATUS_SYNC_LINK_LOST true).raise .SYNC_LINK_LOST 255 scopeModule)
    else .next s

/-! ### Start, stop and the captures -/

/-- Put the bridge record into force and into its mirrors (R242, R244). -/
def State.pwmTakeRecord (s : State) (b : Nat) : State :=
  let s := s.takeEffect P.PWM_PERIOD P.TIMELINE b
  let m (s : State) (f : Fld) (id : Nat) : State := s.setFld f (s.parN id b) b
  let s := m s F.PWM_CONFIG_SYNC_MODE P.SYNC_MODE
  let s := m s F.PWM_CONFIG_SYNC_OUT_EN P.SYNC_OUT_EN
  let s := m s F.PWM_CONFIG_BOOT_EN P.BOOT_EN
  let s := m s F.PWM_CONFIG_TRIP_CUT P.TRIP_CUT
  let s := m s F.PWM_CONFIG_ERR_CARRY P.ERR_CARRY
  let s := m s F.PWM_CONFIG_MINP_MODE P.MINP_MODE
  let s := m s F.PWM_CONFIG_LEG_MODE P.LEG_MODE
  let s := m s F.PWM_CONFIG_TORN_POLICY P.TORN_POLICY
  let s := m s F.PWM_CONFIG_UPD_MODE P.UPD_MODE
  let s := m s F.PWM_MINPULSE_MIN_PULSE P.MIN_PULSE
  let s := m s F.PWM_MINPULSE_BLANK P.BLANK
  (List.range 3).foldl (fun s k =>
    (s.setFld F.PWM_DEADTIME_DT_LH (s.parN P.DT_LH b k) b k).setFld F.PWM_DEADTIME_DT_HL (s.parN P.DT_HL b k) b k) s

/-- GEN_OPEN returns to 0 and uncommitted writes are discarded (R219). -/
def State.genReset (s : State) (b : Nat) : State :=
  let x := s.pwm b
  (s.setPwm b { x with shadow := {}, flight := [] }).setFld F.PWM_STATUS_GEN_OPEN 0 b

/-- Where bridge B's last wrap lies when it is locked to bridge A (R232). -/
def State.wrapFromA (s : State) : Nat :=
  let a := s.pwm 0
  let t := a.wrapAt + s.parN P.SYNC_PHASE 1
  if t ≤ s.now then t else t - a.length

/-- The start sequence of a bridge (R240); one locked to bridge A takes its period (R233). -/
def State.bridgeStart (s : State) (b : Nat) : State :=
  let s := s.pwmTakeRecord b
  let p := if s.lockedToA b then s.period 0 else s.parN P.PWM_PERIOD b
  let s := s.setFld F.PWM_PERIOD_EFF_PERIOD p b
  let s := (s.setFld F.PWM_PERIOD_SEQ_SEQ 0 b).setFld F.PWM_TRIP_COUNT_COUNT 0 b
  let s := s.setReg ⟨.PWM_TRIP_STATUS, b, 0⟩ 0
  let s := (List.range 3).foldl (fun s k => (((s.setFld F.PWM_ERR_ERR 0 b k).setFld F.PWM_CMP_EFF_VALUE floatCode b (2 * k)).setFld
    F.PWM_CMP_EFF_VALUE floatCode b (2 * k + 1))) s
  let s := (List.range 6).foldl (fun s j => s.setFld F.PWM_LS_CMP_VALUE floatCode b j) s
  let old := s.pwm b
  let s := s.setPwm b { running := s.par P.SYNC_MODE b != 2, wrapAt := if s.lockedToA b then s.wrapFromA else s.now, length := p,
                        haltFreeze := old.haltFreeze, clockStop := old.clockStop, frozenSince := old.frozenSince }
  let s := (s.genReset b).setFld F.PWM_STATUS_GEN_EFF 0 b
  ((s.setFlag F.PWM_STATUS_PENDING false b).setFlag F.PWM_STATUS_LOCKED (s.lockedToA b) b).setFlag F.PWM_STATUS_TRIP_ACTIVE false b

/-- Whether the start sequence of a bridge is complete (R240). -/
def State.bridgeStarted (s : State) (b : Nat) : Bool := s.par P.SYNC_MODE b != 2 || s.flag F.PWM_STATUS_LOCKED b

/-- A bridge enters STOPPING (R240): it floats every leg at the next wrap; an aborted start stops the counter at once. -/
def State.bridgeStop (s : State) (b : Nat) (abort : Bool) : State :=
  let x := s.pwm b
  s.setPwm b (if abort || !x.running then { x with running := false, stopPhase := 0 } else { x with stopPhase := 1 })

/-- A counter that stops: every gate off. -/
def State.pwmHalt (s : State) (b : Nat) : State :=
  let x := s.pwm b
  let s := s.setPwm b { x with running := false, stopPhase := 0, gates := [], pending := none, immediate := none }
  if s.pwmDrives b then (satsOfBridge b).foldl (fun s n => s.setLane n false) s else s

/-- A read of PWM.CAP_TS_LO_n latches CAP_TS_HI_n (R244): the register holds what the read returns. -/
def execCapTsLoRead (m : Fin 21) (b : Fin 2) (n : Fin 8) (s : State) : Out :=
  let (s, ok) := s.mayRead m.val .PWM_CAP_TS_LO b.val n.val
  if ok then .next (s.setFld F.PWM_CAP_TS_HI_TS (s.capHi.at 0 (8 * b.val + n.val)) b.val n.val) else .next s

/-- A read of PWM.CAP_INFO_n clears VALID and OVR (R244). -/
def execCapInfoRead (m : Fin 21) (b : Fin 2) (n : Fin 8) (s : State) : Out :=
  let (s, ok) := s.mayRead m.val .PWM_CAP_INFO b.val n.val
  if ok then .next ((s.setFlag F.PWM_CAP_INFO_VALID false b.val n.val).setFlag F.PWM_CAP_INFO_OVR false b.val n.val) else .next s

end Sys2Proof.Machine
end

