-- ==== Sys2Proof/Machine/Gds.lean ====
section
/-! DEFINITION. Gate-drive satellites and the Eblor link (R245 to R291). -/

namespace Sys2Proof.Machine

/-! ### The satellite's settings and its bank -/

/-- The domain of a satellite's bank. -/
def satDomain (n : Nat) : Nat := 10 + bridgeOfSat n

/-- The value of a setting that a satellite holds: as last written by a WRITE frame, else the record in force (R252). -/
def State.satSet (s : State) (n id : Nat) : Int := ((s.sat n).settings.at none (id - 0x600)).getD (s.par id n)
def State.satSetN (s : State) (n id : Nat) : Nat := (s.satSet n id).toNat

/-- The strength window of an edge kind (R268, R289): minimum in the low half, maximum in the high half. -/
def State.strWindow (s : State) (n id : Nat) : Nat × Nat :=
  let v := ofSigned 32 (s.satSet n id)
  (bits v 15 0, bits v 31 16)

/-- Whether a satellite's lanes carry frames: its bank's domain on, carriers running, not fenced. -/
def State.linkLive (s : State) (n : Nat) : Bool :=
  s.pdOn (satDomain n) && (s.sat n).carriers && !s.flag F.GDS_STATUS_FENCED n

/-- Raise a fault of a satellite. -/
def State.satFault (s : State) (f : FaultName) (n : Nat) (lasting : Bool := false) : State :=
  s.raise f n (s.scopeBridge (bridgeOfSat n)) 0 none lasting

/-! ### ΔΣ channels (R308) -/

/-- A channel's output becomes invalid, and its bits count anew from now while its satellite is ON (R308). DS_INVALID is raised
for the DC-link or shunt channel of a bridge with an ON slot. -/
def State.dsInvalidate (s : State) (c : Nat) : State :=
  let n := c / 2
  let b := bridgeOfSat n
  let was := s.flag F.ADC_DS_VAL_VALID c
  let s := s.setFlag F.ADC_DS_VAL_VALID false c
  let s := { s with sense := { s.sense with since := s.sense.since.setAt none c (if s.isOn .satellite n then some s.now else none) } }
  let s := if c = 7 ∨ c = 19 then ({ s with sense := { s.sense with mismatchSince := none } } : State).cease .VDC_MISMATCH 0 else s
  if was && (c == shuntCh b || c == vdcCh b) && s.isOn .slot (s.slotOfBridge b) then
    (s.setFlag F.ADC_INT_STATUS_DS_INVALID true).raise .DS_INVALID b (s.scopeBridge b)
  else s

/-- Whether channel 0 measures in the conduction range (R280). -/
def Sat.conducts (x : Sat) : Bool :=
  if x.ch0Force = 1 then false else if x.ch0Mode = 1 then false else if x.ch0Mode = 2 then true else x.conduction

/-- Replace a satellite's record; a change of channel 0's range invalidates its demodulator (R280). -/
def State.putSat (s : State) (n : Nat) (x : Sat) : State :=
  let was := (s.sat n).conducts
  let s := s.setSat n x
  if was != x.conducts then (s.setFlag F.GDS_STATUS_RANGE (!x.conducts) n).dsInvalidate (2 * n) else s

/-! ### Gate and handshake (R245 to R248, R260 to R265) -/

/-- A satellite confirms that its gate is off and that it does not request (R260). -/
def Sat.confirms (x : Sat) : Bool := !x.gateOn && !x.driven && x.req.isNone

/-- A satellite's view of its partner's confirmation, which takes 25 ns to arrive (R249, R264). -/
def State.viewPartner (s : State) (n : Nat) : State :=
  let x := s.sat n
  if x.crossOk && (s.sat (partnerSat n)).confirms then
    s.setSat n { x with confSince := some (x.confSince.getD (s.now + 20)) }
  else s.setSat n { x with confSince := none }

/-- Both satellites of a leg see each other anew. -/
def State.viewLeg (s : State) (n : Nat) : State := (s.viewPartner n).viewPartner (partnerSat n)

/-- The gate is turned off at the present OFF strength (R245, R280), no sooner than 40 ns after its release (R247). -/
def State.satOff (s : State) (n : Nat) : State :=
  let x := s.sat n
  if !x.driven then s
  else if s.elapsedNs (x.releasedAt.getD 0) 40 then
    (s.putSat n { x with driven := false, offDelayed := false, changedAt := s.now, stuckTold := false, softOff := false,
                         detectAt := none, conduction := false }).viewLeg n
  else s.setSat n { x with offDelayed := true }

/-- A turn-on is withdrawn without a skip. -/
def State.dropReq (s : State) (n : Nat) : State := (s.setSat n { s.sat n with req := none, hintReq := false }).viewLeg n

/-- A turn-on is skipped (R261): REQ is withdrawn, HS reports it, LEG_HANDSHAKE is raised, and HANDSHAKE_ESC at the third in
a row. -/
def State.satSkip (s : State) (n : Nat) : State :=
  let x := s.sat n
  let run := x.skipRun + 1
  let s := (s.setSat n { x with req := none, skipRun := run, hs := x.hs ++ [(true, (s.now - x.edgeAt) * 5 / 4)] }).viewLeg n
  let s := (s.bump F.GDS_HS_STATS_SKIPS n).setFld F.GDS_HS_STATS_CONSEC (min 255 run) n
  let s := (s.setFlag F.GDS_INT_STATUS_HS_SKIP true n).satFault .LEG_HANDSHAKE n
  if run = 3 then (s.setFlag F.GDS_INT_STATUS_HS_ESC true n).satFault .HANDSHAKE_ESC n else s

/-- Whether a satellite takes edges: ON and not applying a hint. -/
def State.satRuns (s : State) (n : Nat) : Bool := (s.sat n).resumed && s.isOn .satellite n && !(s.sat n).applying

/-- Whether less than 1 ms has passed since the satellite's bridge entered ON, or the bridge is not ON (R279). -/
def State.precharging (s : State) (n : Nat) : Bool :=
  let b := bridgeOfSat n
  !s.isOn .bridge b || !s.elapsed (s.lc .bridge b).since msT

/-- A turn-on edge arrives at a satellite (R260, R263, R271, R273, R276, R279, R288). A partner that requests under a hint keeps its REQ
(R283). -/
def execSatTurnOnEdge (n : Fin 12) (s : State) : Out :=
  let n := n.val
  let x := s.sat n
  if !(s.lane n && !x.edge && s.linkLive n) then .next s
  else
    let s := s.setSat n { x with edge := true }
    if !s.satRuns n then .next s
    else if x.latched || x.soft != 0 then .next (s.bump F.GDS_DESAT_STATS_REFUSED n)
    else if x.otShut || x.uvloPos || x.uvloNeg then .next s
    else if x.supplyMode == 2 && decide (x.vcc < s.satSet n P.UVLO_POS + s.satSet n P.UVLO_HYST) then
      .next (if s.precharging n then s.bump F.GDS_HS_STATS_PRECHARGE n
        else (s.setFlag F.GDS_INT_STATUS_UVLO_POS true n).satFault .UVLO_POS n)
    else
      let s := (s.setSat n { s.sat n with req := some s.now, edgeAt := s.now, hintReq := false }).viewLeg n
      let p := partnerSat n
      .next (if (s.sat p).req.isNone then s else if (s.sat p).hintReq then s.satSkip n else (s.satSkip n).satSkip p)

/-- A turn-off edge arrives at a satellite (R247, R262, R270): a waiting turn-on is cancelled; the gate is turned off no sooner than
40 ns after its release; a soft turn-off is not disturbed. -/
def execSatTurnOffEdge (n : Fin 12) (s : State) : Out :=
  let n := n.val
  let x := s.sat n
  if !(!s.lane n && x.edge && s.linkLive n) then .next s
  else
    let s := s.setSat n { x with edge := false }
    if !s.satRuns n || x.soft != 0 then .next s
    else
      .next ((if x.req.isSome then s.dropReq n else s).satOff n)

/-- Whether a waiting turn-on may be released (R260): REQ for 50 ns, the partner's confirmation without a break for SAT_DT_MIN. -/
def State.mayRelease (s : State) (n : Nat) : Bool :=
  let x := s.sat n
  match x.req, x.confSince with
  | some t, some c => s.elapsedNs t 50 && s.elapsedNs c (s.satSetN n P.SAT_DT_MIN) && !x.driven && !x.offDelayed
  | _, _ => false

/-- The turn-on is released (R260). -/
def execHandshakeRelease (n : Fin 12) (s : State) : Out :=
  let n := n.val
  let x := s.sat n
  if !s.mayRelease n then .next s
  else
    let wait := (s.now - x.edgeAt) * 5 / 4
    let s := (s.putSat n { x with req := none, hintReq := false, driven := true, releasedAt := some s.now, changedAt := s.now,
                                  stuckTold := false, skipRun := 0, hs := x.hs ++ [(false, wait)] }).viewLeg n
    .next (s.setFld F.GDS_HS_STATS_CONSEC 0 n)

/-- No release within HANDSHAKE_TIMEOUT of the edge (R261). A turn-on under a hint has no timeout (R283). -/
def execHandshakeTimeout (n : Fin 12) (s : State) : Out :=
  let x := s.sat n.val
  if x.req.isSome && !x.hintReq && s.elapsedNs x.edgeAt (s.satSetN n.val P.HANDSHAKE_TIMEOUT) then .next (s.satSkip n.val)
  else .next s

/-- A turn-off delayed by the minimum on-time is carried out (R247). -/
def execMinOnTimeExpiry (n : Fin 12) (s : State) : Out :=
  let x := s.sat n.val
  if x.offDelayed && s.elapsedNs (x.releasedAt.getD 0) 40 then .next (s.satOff n.val) else .next s

/-- The gate comparator changes (R248). Below the off level after a soft turn-off, DESAT_LATCH is set (R269). -/
def execGateStateChange (n : Fin 12) (on : Bool) (s : State) : Out :=
  let x := s.sat n.val
  if x.gateOn == on then .next s
  else
    let ends := !on && x.soft == 2
    .next ((s.setSat n.val { x with gateOn := on, soft := if ends then 0 else x.soft, latched := x.latched || ends }).viewLeg n.val)

/-- The gate has not followed its command within T_GOFF_MAX (R248). -/
def execGateStuckTimer (n : Fin 12) (s : State) : Out :=
  let x := s.sat n.val
  if x.resumed && x.driven != x.gateOn && !x.stuckTold && s.elapsedNs x.changedAt (s.satSetN n.val P.T_GOFF_MAX) then
    .next (((s.setSat n.val { x with stuckTold := true }).setFlag F.GDS_INT_STATUS_GATE_STUCK true n.val).satFault .GATE_STUCK n.val)
  else .next s

/-! ### Adaptive strength (R266 to R268) -/

/-- The strength after a VALID measurement (R267): time in 0.5 ns, target, band and gain in ns. -/
def adaptStrength (str lo hi : Nat) (half target band gain step : Nat) : Nat :=
  let err : Int := (half : Int) - 2 * target
  if err.natAbs ≤ 2 * band then str
  else
    let d : Int := min step (1 + err.natAbs / (2 * gain))
    (clampI lo hi ((str : Int) + (if err < 0 then -d else d))).toNat

/-- A switching event has been measured (R266, R267): the blocking voltage just before it (mV), whether both levels were crossed
within 2 µs, whether the turn-on was soft-switched, and the time between the levels in 0.5 ns. -/
def execSatEdgeMeasured (n : Fin 12) (off : Bool) (vPre : Nat) (crossed softSwitched : Bool) (half : Nat) (s : State) : Out :=
  let n := n.val
  let x := s.sat n
  if !x.resumed then .next s
  else
    let soft := off && x.softOff
    let valid := decide (s.satSetN n P.ADAPT_VMIN ≤ vPre) && crossed && !soft && !x.uvloPos && !x.uvloNeg && !x.applying &&
      !(!off && softSwitched)
    let msg : EdgeMsg := ⟨off, valid, soft, if soft then s.satSetN n P.SOFT_STR else if off then x.strOff else x.strOn, half % 65536⟩
    let (lo, hi) := s.strWindow n (if off then P.STR_OFF else P.STR_ON)
    let new := adaptStrength (if off then x.strOff else x.strOn) lo hi half
      (s.satSetN n (if off then P.T_TARGET_OFF else P.T_TARGET_ON)) (s.satSetN n P.ADAPT_BAND) (s.satSetN n P.ADAPT_GAIN)
      (s.satSetN n P.STEP_MAX)
    let x := { x with edges := x.edges ++ [msg] }
    .next (s.setSat n (if valid && s.satSet n P.ADAPT_EN == 1 then (if off then { x with strOff := new } else { x with strOn := new }) else x))

/-- 20 ns after a release channel 0 switches to the conduction range in AUTO mode (R280). -/
def execCh0RangeSwitch (n : Fin 12) (s : State) : Out :=
  let x := s.sat n.val
  if x.driven && x.ch0Mode == 0 && !x.conduction && s.elapsedNs (x.releasedAt.getD 0) 20 then .next (s.putSat n.val { x with conduction := true })
  else .next s

/-! ### Safe-state hint and configuration frames (R250 to R252, R271, R283, R285) -/

/-- The code of a hint (R250). -/
def SafeState.hint : SafeState → Nat
  | .ascLow => 1 | .ascHigh => 2 | _ => 0

/-- The safe state of a hint. -/
def hintState (h : Nat) : SafeState := if h = 1 then .ascLow else if h = 2 then .ascHigh else .spo

/-- The hint for a bridge: its present choice, or what a raising rule or a fenced satellite fixes (R251, R285). -/
def State.bridgeHint (s : State) (b : Nat) : Nat := let x := s.safeOf b; (x.forced.getD x.choice).hint

/-- Every 10 µs, and when the hint changes, the bank sends a KEEPALIVE (R251). -/
def execKeepaliveSend (n : Fin 12) (s : State) : Out :=
  let x := s.sat n.val
  let h := s.bridgeHint (bridgeOfSat n.val)
  if s.linkLive n.val && (s.elapsed x.hintSentAt (10 * usT) || h != x.hintSent) then
    .next (s.setSat n.val { x with hintSent := h, hintSentAt := s.now, ackMissing := some (x.ackMissing.getD s.now) })
  else .next s

/-- The satellite receives a valid configuration frame. -/
def State.heard (s : State) (n : Nat) : State := s.setSat n { s.sat n with cfgAt := s.now }

/-- The satellite receives a KEEPALIVE: it stores the hint and owes a HINT_ACK (R250, R253). -/
def execCfgKeepalive (n : Fin 12) (s : State) : Out :=
  if !s.linkLive n.val then .next s
  else .next ((s.heard n.val).setSat n.val { (s.heard n.val).sat n.val with hint := (s.sat n.val).hintSent, ackDue := true })

/-- The reserved setting indices of R252. -/
def reservedSetting (i : Nat) : Bool :=
  i == 6 || i == 7 || (decide (0x13 ≤ i) && decide (i ≤ 0x17)) || i == 0x1F || (decide (0x26 ≤ i) && decide (i ≤ 0x3E)) || decide (0x40 ≤ i)

/-- The strengths clamped into their windows (R288). -/
def State.clampStrengths (s : State) (n : Nat) : State :=
  let x := s.sat n
  let (a, b) := s.strWindow n P.STR_ON
  let (c, d) := s.strWindow n P.STR_OFF
  s.setSat n { x with strOn := (clampI a b x.strOn).toNat, strOff := (clampI c d x.strOff).toNat }

/-- The strengths and whether each stands at an edge of its window, as the bank shows them (R267). -/
def State.strMirror (s : State) (n : Nat) : State :=
  let x := s.sat n
  let (a, b) := s.strWindow n P.STR_ON
  let (c, d) := s.strWindow n P.STR_OFF
  let s := (s.setFld F.GDS_STRENGTH_ON_STR x.strOn n).setFld F.GDS_STRENGTH_OFF_STR x.strOff n
  (s.setFlag F.GDS_STRENGTH_ON_AT_LIMIT (x.strOn == a || x.strOn == b) n).setFlag F.GDS_STRENGTH_OFF_AT_LIMIT (x.strOff == c || x.strOff == d) n

/-- A bad frame on any lane (R252, R256). -/
def State.linkErr (s : State) (n : Nat) : State := (s.setFlag F.GDS_INT_STATUS_LINK_ERR true n).satFault .LINK_ERR n

/-- The satellite receives a WRITE frame (R252): index and value as an int32. -/
def execCfgWrite (n : Fin 12) (index : Fin 256) (value : Word) (s : State) : Out :=
  let n := n.val
  if !s.linkLive n then .next s
  else
    let s := s.heard n
    let x := s.sat n
    if reservedSetting index.val then .next ((s.setSat n { x with fwdErr := x.fwdErr + 1 }).linkErr n)
    else if index.val = 0x3F then .next (s.putSat n { x with ch0Force := if value.toNat = 1 then 1 else 0 })
    else
      let v : Int := if index.val = 0x0C then (value.toNat % 32 : Nat) else value.toInt
      let s := s.setSat n { x with settings := x.settings.setAt none index.val (some v) }
      .next (if index.val = 0x0A ∨ index.val = 0x0B then s.clampStrengths n else s)

/-- The satellite receives DESAT_CLEAR and accepts turn-on edges again; its report ends (R255, R271). -/
def execCfgDesatClear (n : Fin 12) (s : State) : Out :=
  if !s.linkLive n.val || !(s.sat n.val).clearDue then .next s
  else
    let s := s.heard n.val
    .next ((s.setSat n.val { s.sat n.val with latched := false, report := false, clearDue := false }).setFlag F.GDS_STATUS_DESAT_LATCH false n.val)

/-- The satellite receives RESUME and is ON (R257): its strengths start at STR_INIT (R268) and a hint state ends (R284). -/
def execCfgResume (n : Fin 12) (s : State) : Out :=
  let n := n.val
  let x := s.sat n
  if !s.linkLive n || x.startStep != 6 || !s.isStarting .satellite n then .next s
  else
    let s := s.heard n
    let s := if x.applying then (s.satOff n).dropReq n else s
    let init := s.satSetN n P.STR_INIT
    let s := s.setSat n { s.sat n with resumed := true, applying := false, startStep := 0, strOn := init, strOff := init, edge := false,
                                       skipRun := 0, latched := false, soft := 0, otShut := false, noClear := false }
    let s := s.strMirror n
    let s := s.updLc .satellite n Lc.startDone
    .next ((s.dsInvalidate (2 * n)).dsInvalidate (2 * n + 1))

/-- The satellite receives STOP during its stop sequence: its gate is off and it takes no more edges (R258). -/
def execCfgStop (n : Fin 12) (s : State) : Out :=
  let n := n.val
  if !s.linkLive n || !s.isStopping .satellite n then .next s
  else
    let s := ((s.heard n).satOff n).dropReq n
    .next (s.setSat n { s.sat n with resumed := false })

/-! ### Return frames (R253, R255, R256, R284 to R286) -/

/-- A good frame from a satellite ends a run of bad ones. Answers whether the bank takes it. -/
def State.goodFrame (s : State) (n : Nat) : State × Bool :=
  if s.linkLive n && s.flag F.GDS_STATUS_LINK_UP n then (s.setSat n { s.sat n with badRun := 0 }, true) else (s, false)

/-- The flags of a STATUS frame as the satellite sees itself. -/
def State.satFlags (s : State) (n : Nat) : List (Fld × Bool) :=
  let x := s.sat n
  [(F.GDS_STATUS_PARTNER_OFF, x.confSince.isSome), (F.GDS_STATUS_CROSS_OK, x.crossOk), (F.GDS_STATUS_GATE_ON, x.gateOn),
   (F.GDS_STATUS_DESAT_LATCH, x.latched), (F.GDS_STATUS_UVLO_POS, x.uvloPos), (F.GDS_STATUS_UVLO_NEG, x.uvloNeg),
   (F.GDS_STATUS_RANGE, !x.conducts)]

/-- The bank receives STATUS (R253): the flags, the forward-lane error count, CROSS_LOSS (R264). -/
def execRetStatus (n : Fin 12) (s : State) : Out :=
  let n := n.val
  let (s, ok) := s.goodFrame n
  if !ok then .next s
  else
    let x := s.sat n
    let s := (s.satFlags n).foldl (fun s p => s.setFlag p.1 p.2 n) s
    let s := s.setFld F.GDS_STATUS_SUPPLY_MODE x.supplyMode n
    let s := (s.bump F.GDS_LINK_STATS_FWD_ERR n 0 x.fwdErr).setSat n { x with fwdErr := 0 }
    if !x.crossOk && !s.faultActive .CROSS_LOSS n then
      .next ((s.setFlag F.GDS_INT_STATUS_CROSS_LOSS true n).satFault .CROSS_LOSS n true)
    else if x.crossOk && s.faultActive .CROSS_LOSS n then .next (s.cease .CROSS_LOSS n)
    else .next s

/-- The address of a satellite's measurement entry in an engine (R186). -/
def measAddr (n : Nat) : Nat := 0xF100 + 0x40 * (n / 6) + 8 * (n % 6)

/-- The bank writes the satellite's measurement entry in the engines that receive it, and raises SATMEAS (R186, R253). -/
def State.writeMeas (s : State) (n : Nat) (stale : Bool) (event : Bool) : State :=
  let x := s.sat n
  let bytes := leBytes 2 (s.fld F.GDS_TIMING_T_ON n) ++ leBytes 2 (s.fld F.GDS_TIMING_T_OFF n) ++
    leBytes 2 (s.fld F.GDS_SENSE_V_COND n) ++ leBytes 1 x.measSeq ++ leBytes 1 (b2n stale)
  (List.range 8).foldl (fun s c =>
    let e := s.engine c
    if e.frames.contains (n / 6) then
      let s := s.setEngine c { e with mem := Memory.write e.mem (measAddr n) bytes }
      if event then s.raiseEvent c Ev.satmeas n else s
    else s) s

/-- A measurement arrived: its update count and time. -/
def State.measured (s : State) (n : Nat) : State :=
  let x := s.sat n
  let s := s.setSat n { x with measSeq := (x.measSeq + 1) % 256, measAt := s.now }
  s.writeMeas n false true

/-- The bank receives the oldest EDGE frame a satellite has to send (R253, R267). -/
def execRetEdge (n : Fin 12) (s : State) : Out :=
  let n := n.val
  let (s, ok) := s.goodFrame n
  match ok, (s.sat n).edges with
  | true, m :: rest =>
    let s := s.setSat n { s.sat n with edges := rest }
    let s := s.strMirror n
    let s := if m.valid then s.setFld (if m.off then F.GDS_TIMING_T_OFF else F.GDS_TIMING_T_ON) m.time n else s
    .next (s.measured n)
  | _, _ => .next s

/-- The bank receives COND with the conduction drop in mV (R253, R281). -/
def execRetCond (n : Fin 12) (mv : Int) (s : State) : Out :=
  let (s, ok) := s.goodFrame n.val
  if ok then .next ((s.setFldS F.GDS_SENSE_V_COND mv n.val).measured n.val) else .next s

/-- The bank receives TEMP in 0.01 °C (R253); SAT_OT_WARN from OT_WARN on (R273). -/
def execRetTemp (n : Fin 12) (t : Int) (s : State) : Out :=
  let n := n.val
  let (s, ok) := s.goodFrame n
  if !ok then .next s
  else
    let s := (s.setFldS F.GDS_SENSE_TEMP t n).setSat n { s.sat n with tempAt := some s.now }
    if s.satSet n P.OT_WARN ≤ t then
      .next (if s.faultActive .SAT_OT_WARN n then s else (s.setFlag F.GDS_INT_STATUS_OT true n).satFault .SAT_OT_WARN n true)
    else .next (if s.faultActive .SAT_OT_WARN n then s.cease .SAT_OT_WARN n else s)

/-- The bank receives RAILS in mV (R253); VCC outside TX_TARGET_POS ± 1,000 mV starts the timer of R275. -/
def execRetRails (n : Fin 12) (vee : Bool) (mv : Int) (s : State) : Out :=
  let n := n.val
  let (s, ok) := s.goodFrame n
  if !ok then .next s
  else if vee then .next ((s.setFldS F.GDS_RAILS_VEE mv n).setSat n { s.sat n with vee := mv })
  else
    let s := s.setFldS F.GDS_RAILS_VCC mv n
    let x := s.sat n
    let off := decide (1000 < (mv - s.satSet n P.TX_TARGET_POS).natAbs)
    .next (s.setSat n { x with vcc := mv, regSince := if off then some (x.regSince.getD s.now) else none })

/-- The bank receives the oldest HS frame a satellite has to send (R253). A skip of a turn-on that a safe state drives withdraws
its demand and starts the retry of R365. -/
def execRetHs (n : Fin 12) (s : State) : Out :=
  let n := n.val
  let (s, ok) := s.goodFrame n
  match ok, (s.sat n).hs with
  | true, (skipped, wait) :: rest =>
    let s := s.setSat n { s.sat n with hs := rest }
    if skipped then
      let y := s.safeOf (bridgeOfSat n)
      .next (if y.state.gateOn n && !y.dtPending then { s.setLane n false with skipAt := s.skipAt.setAt none n (some s.now) } else s)
    else
      let w := min 65535 wait
      .next ((s.setFld F.GDS_HS_WAIT_LAST w n).setFld F.GDS_HS_WAIT_MAX (max w (s.fld F.GDS_HS_WAIT_MAX n)) n)
  | _, _ => .next s

/-- The bank receives HINT_ACK (R253, R256). -/
def execRetHintAck (n : Fin 12) (s : State) : Out :=
  let n := n.val
  let (s, ok) := s.goodFrame n
  let x := s.sat n
  if ok && x.ackDue then .next ((s.setSat n { x with ackDue := false, ackMissing := none }).setFld F.GDS_STATUS_HINT_ACK x.hint n)
  else .next s

/-- The link check of a satellite fails (R285, R286): the bridge takes the hint last acknowledged and holds it, the satellite is
fenced with its carriers stopped, SAT_FENCED is raised. -/
def State.linkFail (s : State) (n : Nat) : State :=
  let b := bridgeOfSat n
  let y := s.safeOf b
  let s := s.setSafe b (if y.locked then { y with linkLoss := true }
    else { y with forced := some (hintState (s.fld F.GDS_STATUS_HINT_ACK n)), locked := true, linkLoss := true })
  let s := s.setSat n { s.sat n with carriers := false, report := false, ackMissing := none, startStep := 0 }
  let s := (s.setFlag F.GDS_STATUS_FENCED true n).setFlag F.GDS_STATUS_LINK_UP false n
  let s := s.updLc .satellite n Lc.faultStop
  let s := (s.dsInvalidate (2 * n)).dsInvalidate (2 * n + 1)
  (s.setFlag F.GDS_INT_STATUS_FENCED true n).satFault .SAT_FENCED n true

/-- A return frame fails its CRC (`crc`) or its SEQ (R256). Four in a row or sixteen within 1 ms fail the link check. -/
def execReturnFrameBad (n : Fin 12) (crc : Bool) (s : State) : Out :=
  let n := n.val
  if !s.linkLive n then .next s
  else
    let s := s.bump (if crc then F.GDS_LINK_STATS_RX_CRC else F.GDS_LINK_STATS_RX_SEQ) n
    let x := s.sat n
    let times := x.badTimes.filter (fun t => !s.elapsed t msT) ++ [s.now]
    let s := (s.setSat n { x with badRun := x.badRun + 1, badTimes := times }).linkErr n
    .next (if x.badRun + 1 ≥ 4 || times.length ≥ 16 then s.linkFail n else s)

/-- The return-lane carrier has been absent for 1 µs (R256). -/
def execReturnCarrierLoss (n : Fin 12) (s : State) : Out :=
  if s.linkLive n.val then .next (s.linkFail n.val) else .next s

/-- HINT_ACK has been missing for 25 µs (R256). -/
def execHintAckTimeout (n : Fin 12) (s : State) : Out :=
  match (s.sat n.val).ackMissing with
  | some t => if s.linkLive n.val && s.elapsed t (25 * usT) then .next (s.linkFail n.val) else .next s
  | none => .next s

/-- The bank recognises a fault break: the report asserts as a trip source of the leg (R226, R255). -/
def execFaultBreak (n : Fin 12) (s : State) : Out :=
  let n := n.val
  let x := s.sat n
  if !s.linkLive n || !x.breakDue then .next s
  else
    let s := s.setSat n { x with breakDue := false, report := true }
    .next (s.tripAssert (bridgeOfSat n) (n % 6))

/-! ### Desaturation (R269 to R272) -/

/-- The drain-source voltage is above DESAT_TH outside the blanking (R269). -/
def execDesatDetect (n : Fin 12) (s : State) : Out :=
  let x := s.sat n.val
  if x.driven && x.gateOn && x.soft == 0 && s.elapsedNs (x.releasedAt.getD 0) (s.satSetN n.val P.DESAT_BLANK) then
    .next (s.setSat n.val { x with detectAt := some s.now })
  else .next s

/-- Desaturation is confirmed (R269, R270): soft turn-off and fault break start, a pending turn-on's REQ is withdrawn, SAT_DESAT is
raised (R272). A satellite whose lanes carry no frames cannot report it (R284). -/
def execDesatConfirm (n : Fin 12) (s : State) : Out :=
  let n := n.val
  let x := s.sat n
  match x.detectAt with
  | none => .next s
  | some t =>
    if !(x.driven && x.soft == 0 && s.elapsedNs t (s.satSetN n P.DESAT_FILT)) then .next s
    else
      let s := (s.putSat n { x with detectAt := none, hintReq := false, soft := 1, softAt := s.now, softOff := true, driven := false, offDelayed := false,
                                    req := none, changedAt := s.now, stuckTold := false, conduction := false,
                                    breakDue := s.linkLive n, desatNow := true }).viewLeg n
      let s := { s with life := { s.life with soft := s.life.soft.setAt 0 n (s.life.soft.at 0 n + 1) } }
      if !s.linkLive n then .next s
      else .next (((s.bump F.GDS_DESAT_STATS_COUNT n).setFlag F.GDS_INT_STATUS_DESAT true n).satFault .SAT_DESAT n)

/-- SOFT_T1 after level 1 the gate is sunk at SOFT_STR to VEE (R269). -/
def execSoftOffLevel2 (n : Fin 12) (s : State) : Out :=
  let x := s.sat n.val
  if x.soft == 1 && s.elapsedNs x.softAt (s.satSetN n.val P.SOFT_T1) then
    .next (s.setSat n.val (if x.gateOn then { x with soft := 2 } else { x with soft := 0, latched := true }))
  else .next s

/-- The bridge counter reaches PERIOD − 800: DESAT_CLEAR goes to the latched satellites of the bridge, unless DESAT_REPEAT holds
(R271, R272). -/
def execDesatClearPoint (b : Fin 2) (s : State) : Out :=
  let b := b.val
  let x := s.pwm b
  if !x.live || x.clearDone || s.counter b + 800 < s.period b then .next s
  else
    let s := s.setPwm b { x with clearDone := true }
    .next ((satsOfBridge b).foldl (fun s n =>
      let y := s.sat n
      if (y.latched || y.report) && !y.noClear && s.linkLive n then s.setSat n { y with clearDue := true } else s) s)

/-! ### Temperature and supplies (R273 to R279) -/

/-- A satellite reaches 165 °C (R273). -/
def execSatOtShut (n : Fin 12) (s : State) : Out :=
  let n := n.val
  if !((s.sat n).resumed || (s.sat n).applying) || (s.sat n).otShut then .next s
  else
    let s := (s.satOff n).dropReq n
    let s := s.setSat n { s.sat n with otShut := true }
    .next (if s.linkLive n then (s.setFlag F.GDS_INT_STATUS_OT true n).satFault .SAT_OT_SHUT n else s)

/-- A rail passes its lockout threshold (R276, R279): its value in mV. A bootstrapped high side whose gate is off takes the checks of its
next turn-on instead. The lockout also works while a hint is applied (R284), and is then reported only over a link that carries frames. -/
def execUvloEngage (n : Fin 12) (neg : Bool) (mv : Int) (s : State) : Out :=
  let n := n.val
  let x := s.sat n
  let th := s.satSet n (if neg then P.UVLO_NEG else P.UVLO_POS)
  let past := if neg then decide (th ≠ 0) && decide (th < mv) else decide (mv < th)
  let s := s.setSat n (if neg then { x with vee := mv } else { x with vcc := mv })
  if !(x.resumed || x.applying) || !past || (if neg then x.uvloNeg else x.uvloPos) || (!neg && x.supplyMode == 2 && !x.driven) then .next s
  else
    let s := if x.soft = 0 then s.satOff n else s
    let s := s.dropReq n
    let y := s.sat n
    let s := s.setSat n (if neg then { y with uvloNeg := true } else { y with uvloPos := true })
    if !s.linkLive n then .next s
    else
    let s := s.setFlag (if neg then F.GDS_STATUS_UVLO_NEG else F.GDS_STATUS_UVLO_POS) true n
    let s := s.setFlag (if neg then F.GDS_INT_STATUS_UVLO_NEG else F.GDS_INT_STATUS_UVLO_POS) true n
    .next (s.satFault (if neg then .UVLO_NEG else .UVLO_POS) n true)

/-- A lockout releases (R276). -/
def State.uvloFree (s : State) (n : Nat) (neg : Bool) : State :=
  let y := s.sat n
  let s := s.setSat n (if neg then { y with uvloNeg := false } else { y with uvloPos := false })
  let s := s.setFlag (if neg then F.GDS_STATUS_UVLO_NEG else F.GDS_STATUS_UVLO_POS) false n
  s.cease (if neg then .UVLO_NEG else .UVLO_POS) n

/-- A rail passes its threshold again by UVLO_HYST (R276). -/
def execUvloRelease (n : Fin 12) (neg : Bool) (mv : Int) (s : State) : Out :=
  let n := n.val
  let x := s.sat n
  let h := s.satSet n P.UVLO_HYST
  let back := if neg then decide (mv ≤ s.satSet n P.UVLO_NEG - h) else decide (s.satSet n P.UVLO_POS + h ≤ mv)
  let s := s.setSat n (if neg then { x with vee := mv } else { x with vcc := mv })
  if !back || !(if neg then x.uvloNeg else x.uvloPos) then .next s
  else .next (s.uvloFree n neg)

/-- During a start the rails reach their thresholds and RESUME is sent (R257 step 5). A bootstrapped high side does not wait. -/
def execSatRailsReady (n : Fin 12) (vcc vee : Int) (s : State) : Out :=
  let n := n.val
  let x := s.sat n
  let h := s.satSet n P.UVLO_HYST
  let ng := s.satSet n P.UVLO_NEG
  let ready := x.supplyMode == 2 || (decide (s.satSet n P.UVLO_POS + h ≤ vcc) && (decide (ng = 0) || decide (vee ≤ ng - h)))
  if s.isStarting .satellite n && x.startStep == 5 && ready && s.linkLive n then
    .next (s.setSat n { x with vcc := vcc, vee := vee, startStep := 6 })
  else .next s

/-- Every 10 µs the bank moves TXDRVn's duty towards TX_TARGET_POS, by at most 1 % of the duty (R275); the size of the step is
free. -/
def execTxDutyAdjust (n : Fin 12) (s : State) : Out :=
  let n := n.val
  let x := s.sat n
  if x.supplyMode != 1 || !s.linkLive n || !s.elapsed x.txAt (10 * usT) then .next s
  else
    let vcc := s.fldS F.GDS_RAILS_VCC n
    let target := s.satSet n P.TX_TARGET_POS
    let step := min (Config.txStep x.txDuty vcc target) (x.txDuty / 100)
    let duty := if vcc < target then x.txDuty + step else if target < vcc then x.txDuty - step else x.txDuty
    .next (s.setSat n { x with txDuty := duty, txAt := s.now })

/-- VCC has stayed outside TX_TARGET_POS ± 1,000 mV for 1 ms while the satellite is ON (R275). -/
def execSupplyRegTimer (n : Fin 12) (s : State) : Out :=
  let x := s.sat n.val
  match x.regSince with
  | some t =>
    if x.supplyMode == 1 && s.isOn .satellite n.val && s.elapsed (max t (s.lc .satellite n.val).since) msT && !s.faultActive .SUPPLY_REG n.val then
      .next ((s.setFlag F.GDS_INT_STATUS_SUPPLY_REG true n.val).satFault .SUPPLY_REG n.val)
    else .next s
  | none => .next s

/-! ### Link loss at the satellite (R264, R283, R284) -/

/-- The cross-lane carrier from the partner has been absent for 200 ns (R264). -/
def execCrossCarrierLoss (n : Fin 12) (s : State) : Out := .next ((s.setSat n.val { s.sat n.val with crossOk := false }).viewPartner n.val)

/-- A STARTING or ON satellite hears no valid configuration frame for 25 µs, or has lost a carrier (`carrier`: on the way, 1 µs ago), and
applies its last hint (R283, R284). -/
def execSatLinkLoss (n : Fin 12) (carrier : Bool) (s : State) : Out :=
  let n := n.val
  let x := s.sat n
  if !x.listening || x.applying || !(s.elapsed x.cfgAt (25 * usT) || carrier || !x.carriers || !s.pdOn (satDomain n)) then .next s
  else
    let on := (hintState x.hint).gateOn n
    let s := s.setSat n { x with applying := true, lossSeen := true, lossHint := x.hint }
    let y := s.sat n
    if on && (!y.driven || y.offDelayed) && !y.uvloPos && !y.uvloNeg && !y.latched && !y.otShut && y.soft == 0 then
      let p := partnerSat n
      let s := (s.setSat n { y with req := some (y.req.getD s.now), edgeAt := s.now, hintReq := true }).viewLeg n
      .next (if (s.sat p).req.isSome && !(s.sat p).hintReq then s.satSkip p else s)
    else if on then .next s
    else .next (((if y.soft = 0 then s.satOff n else s)).dropReq n)

/-! ### Start and stop (R257, R258) -/

/-- The indices of R252 that the bank writes at a start. -/
def settingIds : List Nat :=
  [0x600, 0x601, 0x602, 0x603, 0x604, 0x605, 0x608, 0x609, 0x60A, 0x60B, 0x60C, 0x60D, 0x60E, 0x60F, 0x610, 0x611, 0x612, 0x618, 0x619,
   0x61A, 0x61B, 0x61C, 0x61D, 0x61E, 0x620, 0x621, 0x622, 0x623, 0x624, 0x625]

/-- The mirrors of a satellite's record (R291). -/
def State.satMirrors (s : State) (n : Nat) : State :=
  let m (s : State) (f : Fld) (id : Nat) : State := s.setFld f (s.parN id n) n
  let s := m s F.GDS_CONFIG_SUPPLY_MODE P.SUPPLY_MODE
  let s := m s F.GDS_CONFIG_CH0_MODE P.CH0_MODE
  let s := m s F.GDS_CONFIG_ADAPT_EN P.ADAPT_EN
  let s := m s F.GDS_CONFIG_STEP_MAX P.STEP_MAX
  let s := m s F.GDS_TARGET_T_TARGET_OFF P.T_TARGET_OFF
  let s := m s F.GDS_TARGET_T_TARGET_ON P.T_TARGET_ON
  let s := m s F.GDS_DESAT_CFG_DESAT_TH P.DESAT_TH
  let s := m s F.GDS_DESAT_CFG_DESAT_BLANK P.DESAT_BLANK
  let s := m s F.GDS_HS_CFG_HANDSHAKE_TIMEOUT P.HANDSHAKE_TIMEOUT
  m s F.GDS_HS_CFG_SAT_DT_MIN P.SAT_DT_MIN

/-- Which of the up to three trainings of a start succeeds, if any (R256); whether the n-th training of a satellite does is free. -/
def trainTry (n tries : Nat) : Option Nat := [1, 2, 3].find? (fun k => Config.satTrains n (tries + k))

/-- The start sequence of a satellite up to the wait for its rails (R257 steps 1 to 4, R284): carriers, training, identity, settings; a
hint applied since the previous training is reported. A wrong die type, or a training that fails three times, fails the link check (R256). -/
def State.satStart (s : State) (n : Nat) : State :=
  let s := (s.takeEffect P.SUPPLY_MODE P.OT_WARN n).satMirrors n
  let x := s.sat n
  let settings := settingIds.foldl (fun t id => Table.setAt none t (id - 0x600) (some (s.par id n))) []
  let s := s.putSat n { x with
    carriers := true, listening := true, startStep := 5, badRun := 0, badTimes := [], settings := settings,
    ch0Mode := s.parN P.CH0_MODE n, ch0Force := 0, tempAt := none, supplyMode := s.parN P.SUPPLY_MODE n, hint := 0, cfgAt := s.now, ackMissing := none,
    crossOk := true, regSince := none, txDuty := if x.txDuty = 0 then Config.txDuty n else x.txDuty, txAt := s.now,
    report := false, latched := false, resumed := false, desatNow := false, edges := [], hs := [] }
  let s := s.viewLeg n
  let tried := trainTry n x.trainTries
  let s := s.setSat n { s.sat n with trainTries := x.trainTries + tried.getD 3 }
  let s := s.bump F.GDS_LINK_STATS_TRAIN n 0 (tried.getD 3)
  if tried.isNone then s.linkFail n
  else
  let s := s.setSat n { s.sat n with lossSeen := false }
  let s := (s.setFld F.GDS_HS_STATS_SKIPS 0 n).setFld F.GDS_DESAT_STATS_COUNT 0 n
  let s := (s.setFld F.GDS_DESAT_STATS_CONSEC 0 n).setFld F.GDS_HS_STATS_CONSEC 0 n
  let s := (s.setFld F.GDS_ID_ID (Config.dieIdSat n).toNat n).setFlag F.GDS_STATUS_LINK_UP true n
  let s := (s.setFlag F.GDS_STATUS_LOSS_SEEN x.lossSeen n).setFld F.GDS_STATUS_LOSS_HINT (if x.lossSeen then x.lossHint else 0) n
  let s := if x.lossSeen then s.satFault .HINT_APPLIED n else s
  if bits (Config.dieIdSat n).toNat 31 24 ≠ 3 then s.linkFail n else s

/-- The stop sequence of a satellite: the gate goes off (R258); an aborted start just ends. -/
def State.satStop (s : State) (n : Nat) : State :=
  let s := (if (s.sat n).soft = 0 then s.satOff n else s).dropReq n
  let s := s.setSat n { s.sat n with startStep := 0 }
  (s.dsInvalidate (2 * n)).dsInvalidate (2 * n + 1)

/-- Whether the stop sequence of a satellite is complete: STOP received, or nothing to receive it. -/
def State.satStopped (s : State) (n : Nat) : Bool := !(s.sat n).resumed || !s.linkLive n

/-- A satellite that is OFF holds its gate at VEE and watches no lanes (R246, R283). -/
def State.satIsOff (s : State) (n : Nat) : State :=
  let x := s.sat n
  s.setSat n { x with resumed := false, listening := x.applying && x.listening, report := false }

/-- The count of consecutive periods with a desaturation, at the wrap (R272). -/
def State.satPeriod (s : State) (n : Nat) : State :=
  let x := s.sat n
  let c := s.fld F.GDS_DESAT_STATS_CONSEC n
  let c' := if x.desatNow then min 255 (c + 1) else if x.latchedSinceWrap then c else 0
  let hit := x.desatNow && decide (s.satSetN n P.DESAT_ESC_N ≤ c') && !x.noClear
  let s := s.setFld F.GDS_DESAT_STATS_CONSEC c' n
  let s := s.setSat n { x with desatNow := false, latchedSinceWrap := x.latched, noClear := x.noClear || hit }
  let s := if hit then (s.setFlag F.GDS_INT_STATUS_DESAT_REPEAT true n).satFault .DESAT_REPEAT n else s
  if s.elapsed x.measAt (4 * s.period (bridgeOfSat n)) && x.resumed then s.writeMeas n true false else s

end Sys2Proof.Machine
end

