-- ==== Sys2Proof/Machine/Adc.lean ====
section
/-! DEFINITION. Current and voltage sensing (R292 to R316): conversions and their arbitration, sample frames, offset capture,
comparators, ΔΣ outputs, shunt windows and the diverse current check. -/

namespace Sys2Proof.Machine

/-! ### ADCs, bridges and latches -/

/-- The bridge of an ADC and its position in it (R292). -/
def bridgeOfAdc (n : Nat) : Nat := if n < 3 then 0 else 1
def adcsOfBridge (b : Nat) : List Nat := [3 * b, 3 * b + 1, 3 * b + 2]

/-- A conversion takes 100 ns, or 1 µs in low-power mode (R294, R303). -/
def State.convTime (s : State) (n : Nat) : Nat := if s.par P.ADC_MODE n == 2 then usT else 80

/-- A code corrected by the ADC's gain in force, in units of 10 ppm, and limited to 14 bits (R293, R589). -/
def State.correct (s : State) (n : Nat) (raw : Int) : Int :=
  clampI (-8192) 8191 (raw + roundFree 2 (raw * s.fldS F.HKEEP_ADC_GAIN_CORR n) 100000)

/-- Whether a code is over-range (R293). -/
def overRange (code : Int) : Bool := code ≤ -8192 || 8191 ≤ code

/-- The latch of a slot's position source (R326). -/
def State.latchOf (s : State) (slot : Nat) : PosLatch :=
  match s.posSource slot with
  | none => {}
  | some i =>
    if s.isOff .slot slot then {}
    else
      let p := s.pos32 i
      { pos := p, theta := s.thetaE slot p, speed := s.posSpeed i, posValid := s.posValid i, speedValid := s.speedValid i }

/-- The redundant position check at a latch of the slot's first bridge (R345). -/
def State.positionCheck (s : State) (slot : Nat) : State :=
  let i := s.parN P.POS_SOURCE slot
  let k := s.parN P.POS_CHECK_SRC slot
  if s.isOff .slot slot || 8 ≤ k || 8 ≤ i || !s.posValid i || !s.posValid k then s
  else
    let d := toSigned 16 (s.thetaE slot (s.pos32 i) + 65536 - s.thetaE slot (s.pos32 k))
    let far := decide (s.parN P.POS_CHECK_TOL slot * 65536 < d.natAbs * 3600)
    let run := if far then s.fld F.POS_CHECK_CONSEC slot + 1 else 0
    let s := (s.setFldS F.POS_CHECK_DIFF d slot).setFld F.POS_CHECK_CONSEC (min 255 run) slot
    if run = s.parN P.POS_CHECK_N slot then
      (s.setFld F.POS_INT_STATUS_DISAGREE (s.fld F.POS_INT_STATUS_DISAGREE ||| 2 ^ slot)).raise .POS_DISAGREE slot (s.scopeSlot slot)
    else s

/-- LATCH_POS of a bridge (R326, R345). -/
def State.latchPosition (s : State) (b : Nat) : State :=
  let n := s.slotOfBridge b
  let s := s.setSens b { s.sens b with latch := s.latchOf n }
  if (s.bridgesOfSlot n).head? == some b then s.positionCheck n else s

/-! ### Starting conversions (R294, R298 to R303) -/

/-- Begin a conversion after `wait` ticks; a newly selected input settles for 40 ns first (R294). -/
def State.beginConv (s : State) (n : Nat) (c : Conv) (wait : Nat) : State :=
  s.setAdc n { s.adc n with run := some { c with at_ := s.now + wait } }

/-- V_DC of a bridge in mV (R306, R309). -/
def State.vdcMv (s : State) (b : Nat) : Int := roundFree 3 (s.vdcQ b) 32768

/-- The three conversions of a frame start, or start again, together (R299, R300): SAMPLE_TIME is theirs. -/
def State.beginFrame (s : State) (b : Nat) (restarted : Bool) : State :=
  let x := s.sens b
  let delay := if restarted then 32 else 0
  let e := s.pwm b
  let s := s.setSens b { x with
    open_ := true, codes := [], sampleAt := s.now + delay, sampleTs := (s.dev + delay * 1280 * 1000000000) / devNs
    restarted := x.restarted || restarted, gen := s.fld F.PWM_STATUS_GEN_EFF b, dPrev := e.lastD, vdc := s.vdcMv b }
  let s := if restarted && x.latchPos then s.latchPosition b else s
  (adcsOfBridge b).foldl (fun s n =>
    let y := s.adc n
    s.setAdc n { y with run := some { src := .frame b, input := 0, at_ := s.now + delay, restarted := restarted }, aborted := match y.aborted with
      | some c => if c.src == .frame b then none else some c
      | none => none }) s

/-- Abort the running conversion of an ADC; a frame conversion is aborted in all three ADCs (R299). -/
def State.abortConv (s : State) (n : Nat) : State :=
  match (s.adc n).run with
  | none => s
  | some c =>
    match c.src with
    | .frame b => (adcsOfBridge b).foldl (fun s k =>
        let y := s.adc k
        match y.run with
        | some d => if d.src == .frame b then (s.setAdc k { y with run := none, aborted := some d }).bump F.ADC_STATS_RESTARTS k else s
        | none => s.setAdc k { y with aborted := some { src := .frame b, input := 0, at_ := s.now } }) s
    | .timeline => (s.setAdc n { s.adc n with run := none, aborted := some c }).bump F.ADC_STATS_RESTARTS n
    | _ => (s.setAdc n { s.adc n with run := none, low := some c }).bump F.ADC_STATS_RESTARTS n

/-- The next conversion of an idle ADC (R298, R299): an urgent request, an aborted timeline one, a held timeline start, an aborted software or
continuous one, a held software start, continuous mode. -/
def State.nextConv (s : State) (n : Nat) : State :=
  let x := s.adc n
  if x.run.isSome then s
  else match x.urgent with
    | (src, i) :: rest => (s.setAdc n { x with urgent := rest }).beginConv n { src := src, input := i, at_ := s.now } 32
    | [] =>
      match x.aborted with
      | some c =>
        match c.src with
        | .frame b =>
          if (adcsOfBridge b).all (fun k => (s.adc k).run.isNone && (s.adc k).urgent.isEmpty) then s.beginFrame b true else s
        | _ => (s.setAdc n { x with aborted := none }).beginConv n { c with restarted := true, sum := 0, count := 0 } 32
      | none =>
        match x.held with
        | some (.frame b) =>
          if (adcsOfBridge b).all (fun k => (s.adc k).run.isNone) then
            ((adcsOfBridge b).foldl (fun s k => s.setAdc k { s.adc k with held := none }) s).beginFrame b false
          else s
        | some src => (s.setAdc n { x with held := none }).beginConv n { src := src, input := 0, at_ := s.now } 0
        | none =>
          match x.low, x.heldSw with
          | some c, _ => (s.setAdc n { x with low := none }).beginConv n { c with restarted := true, sum := 0, count := 0 } 32
          | none, some i => (s.setAdc n { x with heldSw := none }).beginConv n { src := .software, input := i, at_ := s.now } 32
          | none, none =>
            if s.par P.ADC_MODE n == 1 && s.pdOn 8 then
              s.beginConv n { src := .continuous, input := s.parN P.CONT_INPUT n, at_ := s.now } 0
            else s

/-- A timeline start of the ADCs named, of one bridge (R238, R299): it takes the ADC from a software or continuous conversion and is
held behind a timeline or urgent one. With FRAME it opens the bridge's frame. -/
def State.timelineStart (s : State) (b : Nat) (adcs : List Nat) (frame : Bool) : State :=
  let busy (s : State) (n : Nat) : Bool := match (s.adc n).run with
    | some c => decide (c.src.prio ≤ 2)
    | none => (s.adc n).aborted.isSome && (s.adc n).urgent.length > 0
  let hold (s : State) (n : Nat) : State :=
    (s.setAdc n { s.adc n with held := some (if frame then .frame b else .timeline) }).bump F.ADC_STATS_TL_LATE n
  if frame then
    if adcs.any (busy s) then adcs.foldl hold s else (adcs.foldl (fun s n => s.abortConv n) s).beginFrame b false
  else adcs.foldl (fun s n => if busy s n then hold s n else (s.abortConv n).beginConv n { src := .timeline, input := 0, at_ := s.now } 0) s

/-- A write of ADC.SW_START_n with GO (R299): it starts the conversion, holds it one deep, or is dropped. -/
def execAdcSwStart (m : Fin 21) (n : Fin 6) (input : Fin 8) (s : State) : Out :=
  let (s, ok) := s.mayWrite m.val .ADC_SW_START n.val
  if !ok then .next s
  else
    let x := s.adc n.val
    if x.run.isNone && x.aborted.isNone then .next (s.beginConv n.val { src := .software, input := input.val, at_ := s.now } 32)
    else if x.heldSw.isNone then .next (s.setAdc n.val { x with heldSw := some input.val })
    else .next (s.bump F.ADC_STATS_SW_DROP n.val)

/-- An urgent request of one ADC (R299): it shares a conversion of its input, waits behind an urgent or restarted one (a safety
read before a trip-time capture), else it aborts what runs, and its sample is taken 42.5 ns later (R300). -/
def State.urgentRequest (s : State) (n : Nat) (src : ConvSrc) (input : Nat) : State :=
  let x := s.adc n
  let wait := s.setAdc n { x with urgent := if src == .safety then (src, input) :: x.urgent else x.urgent ++ [(src, input)] }
  match x.run with
  | none => if x.aborted.isSome then wait else s.beginConv n { src := src, input := input, at_ := s.now } 32
  | some c =>
    if c.input = input then s.setAdc n { x with sharers := x.sharers ++ [src] }
    else if c.src.prio = 1 ∨ c.restarted = true then wait
    else (s.abortConv n).beginConv n { src := src, input := input, at_ := s.now } 34

/-- A safety read of an input, which low-power mode does not accept (R303), or the trip-time capture that the first trip of a period asks for (R298, R301). -/
def execAdcUrgentRequest (req : UrgentReq) (s : State) : Out :=
  if !s.pdOn 8 then .next s
  else match req with
    | .safety n input => .next (if s.par P.ADC_MODE n.val == 2 then s else s.urgentRequest n.val .safety input.val)
    | .tripCap b =>
      let x := s.sens b.val
      if !x.tripCapDue then .next s
      else
        let s := s.setSens b.val { x with tripCapDue := false, tripCap := [] }
        .next ((adcsOfBridge b.val).foldl (fun s n => s.urgentRequest n (.tripCap b.val) 0) s)

/-! ### Sample frames (R185, R295, R296, R309, R313, R314) -/

/-- A phase current in Q15 of I_BASE (R295). -/
def State.phaseCurrent (s : State) (n slot : Nat) (code : Int) : Int :=
  let num := (16 * code - s.fldS F.ADC_OFFSET_OFFSET_EFF n) * s.par P.SENSE_GAIN n
  sat16 (roundUpHalf (num * 32768) (16000 * s.parN P.I_BASE slot))

/-- The offset of a bridge's ADCs returns to SENSE_OFFSET (R296). -/
def State.offsetReset (s : State) (b : Nat) : State :=
  (adcsOfBridge b).foldl (fun s n => (s.setFldS F.ADC_OFFSET_OFFSET_EFF (s.par P.SENSE_OFFSET n) n).setFlag F.ADC_OFFSET_CAPTURED false n) s

/-- The capture window opens at the slot's entry to STARTING (R296). -/
def State.openCapture (s : State) (b : Nat) : State :=
  (s.offsetReset b).setSens b { s.sens b with capturing := true, captured := [], ascUsed := false }

/-- Whether the codes of the ADC at a position are accepted as its offset (R296). -/
def State.captureOk (s : State) (b k : Nat) (frames : List (List Int)) : Bool :=
  let codes := frames.map (fun l => l.getD k 0)
  let n := 3 * b + k
  let hi := codes.foldl max (-8192)
  let lo := codes.foldl min 8191
  decide (hi - lo ≤ 16) &&
    decide ((16 * codes.sum - s.par P.SENSE_OFFSET n * codes.length).natAbs ≤ 16 * s.parN P.OFFSET_LIM n * codes.length)

/-- The capture window closes: the capture is accepted for the three ADCs together, or rejected (R296). -/
def State.closeCapture (s : State) (b : Nat) : State :=
  let x := s.sens b
  if !x.capturing then s
  else
    let s := s.setSens b { x with capturing := false, captured := [] }
    let fs := x.captured
    if 4 ≤ fs.length && !x.ascUsed && (List.range 3).all (fun k => s.captureOk b k fs) then
      (List.range 3).foldl (fun s k =>
        let mean := roundFree 4 (16 * (fs.map (fun l => l.getD k 0)).sum) fs.length
        (s.setFldS F.ADC_OFFSET_OFFSET_EFF mean (3 * b + k)).setFlag F.ADC_OFFSET_CAPTURED true (3 * b + k)) s
    else (s.setFlag F.ADC_INT_STATUS_OFFSET_REJECT true).raise .OFFSET_REJECT b (s.scopeBridge b)

/-- The windows of a slot's bridges close (R296). -/
def State.closeCaptures (s : State) (bs : List Nat) : State := bs.foldl State.closeCapture s

/-- A slot has reached OFF: a captured offset is given up (R296). -/
def State.endCapture (s : State) (b : Nat) : State := (s.offsetReset b).setSens b { s.sens b with capturing := false, captured := [] }

/-- Whether the diverse current check of a bridge is available (R316). -/
def State.chkAvail (s : State) (b : Nat) : Bool :=
  s.isOn .slot (s.slotOfBridge b) && s.flag F.ADC_DS_VAL_VALID (shuntCh b) && !s.flag F.ADC_CHK_STATUS_FAULTED b && !(s.sens b).paused

/-- The external current of a phase at an instant (fine units), interpolated between two bracketing frames (R314). -/
def interpolate (f g : FrameCur) (leg at_ : Nat) : Int :=
  let a := f.i.getD leg 0
  let c := g.i.getD leg 0
  a + roundFree 5 ((c - a) * ((at_ - 8 * f.at_ : Nat) : Int)) (8 * (g.at_ - f.at_))

/-- R315: a phase has failed CHK_N consecutive evaluations. -/
def State.attribute (s : State) (b p : Nat) : State :=
  let n := s.slotOfBridge b
  let x := s.sens b
  let base : Int := s.parN P.I_BASE n
  let cnt : Int := s.parN P.CHK_AVG b
  -- tol_s times 32,768 × 1,000; the mean sum of currents and the means of the phases are compared by their sums
  let tol1 := s.par P.CHK_ABS b * s.par P.I_RATED n * 32768
  let big := decide (tol1 * max 1 x.sums.length < absI (x.sums.sum * base * 1000))
  let tol := tol1 * cnt
  let others := (List.range 3).filter (fun q => q != p && (x.chk.at {} q).lastFailed)
  let part := (List.range 3).filter (fun q => decide (tol < absI ((x.chk.at {} q).mCur * base * 1000)))
  let pos := part.all (fun q => let y := x.chk.at {} q; decide (0 < y.mErr * y.mCur))
  let neg := part.all (fun q => let y := x.chk.at {} q; decide (y.mErr * y.mCur < 0))
  let (f, code) :=
    if big ∧ others = [] then (FaultName.CURRENT_SENSOR, 1)
    else if !big ∧ others ≠ [] ∧ (pos || neg) then (FaultName.SHUNT_SENSOR, 2)
    else (FaultName.CHECK_UNATTRIBUTED, 3)
  let s := (s.setFlag F.ADC_CHK_STATUS_FAULTED true b).setFld F.ADC_CHK_STATUS_ATTRIB code b
  let s := if code = 1 then s.setFld F.ADC_CHK_STATUS_PHASE p b else s
  (s.setFlag F.ADC_INT_STATUS_CHECK true).raise f b (s.scopeBridge b)

/-- The register fields of ē by phase. -/
def chkErrFld (p : Nat) : Fld := if p = 0 then F.ADC_CHK_ERR_ERR_U else if p = 1 then F.ADC_CHK_ERR_ERR_V else F.ADC_CHK_ERR_ERR_W

/-- One window's error is added; after CHK_AVG windows of the phase the evaluation is made (R314). -/
def State.checkWindow (s : State) (b : Nat) (w : ShuntWin) (ext : Int) : State :=
  let n := s.slotOfBridge b
  let x := s.sens b
  let y := x.chk.at {} w.leg
  let shunt := if w.neg then -w.value else w.value
  let y := { y with err := y.err + (shunt - ext), cur := y.cur + ext, n := y.n + 1 }
  if y.n < s.parN P.CHK_AVG b then s.setSens b { x with chk := x.chk.setAt {} w.leg y }
  else
    let base : Int := s.parN P.I_BASE n
    let cnt : Int := y.n
    let lim := s.par P.CHK_ABS b * s.par P.I_RATED n * 32768 * cnt + s.par P.CHK_REL b * absI (y.cur * base)
    let fail := decide (lim < absI (y.err * base) * 1000)
    let z : ChkPhase := { fails := if fail then y.fails + 1 else 0, lastFailed := fail, mErr := y.err, mCur := y.cur }
    let s := s.setSens b { x with chk := x.chk.setAt {} w.leg z }
    let most := (List.range 3).foldl (fun m q => max m (((s.sens b).chk.at {} q).fails)) 0
    let s := s.setFld F.ADC_CHK_STATUS_FAIL_CONSEC (min 255 most) b
    let permil := roundFree 6 (y.err * base * 1000) (32768 * y.n * max 1 (s.parN P.I_RATED n))
    let s := s.setFldS (chkErrFld w.leg) (clampI (-511) 511 permil) b
    if z.fails = s.parN P.CHK_N b then s.attribute b w.leg else s

/-- The windows that a new frame brackets with the one before are evaluated (R314). -/
def State.checkFrame (s : State) (b : Nat) (f : FrameCur) : State :=
  let x := s.sens b
  let sum := f.i.sum
  let sums := (sum :: x.sums).take (s.parN P.CHK_AVG b)
  let later := x.waiting.filter (fun w => decide (8 * f.at_ ≤ w.at_))
  let s := s.setSens b { x with frames := f :: x.frames.take 1, sums := sums, waiting := later }
  if !s.chkAvail b then s
  else match x.frames with
    | [] => s
    | g :: _ => x.waiting.foldl (fun s w =>
        if 8 * g.at_ ≤ w.at_ ∧ w.at_ < 8 * f.at_ then s.checkWindow b w (interpolate g f w.leg w.at_)
        else s) s

/-- The flags of a sample frame (R185). -/
def State.frameFlags (s : State) (b : Nat) : Nat :=
  let x := s.sens b
  b2n x.latch.speedValid + 2 * b2n x.latch.posValid + 4 * b2n x.bothValid + 8 * b2n x.restarted + 16 * b2n x.skipped

/-- The 64 bytes of a frame (R185). -/
def State.frameBytes (s : State) (b : Nat) (i : List Int) : List Byte :=
  let x := s.sens b
  let h (v : Int) : List Byte := leBytes 2 (ofSigned 16 v)
  leBytes 8 x.sampleTs ++ h (i.getD 0 0) ++ h (i.getD 1 0) ++ h (i.getD 2 0) ++ leBytes 2 x.seq ++ leBytes 4 x.latch.pos ++
    leBytes 2 x.latch.theta ++ leBytes 2 (s.frameFlags b) ++ leBytes 4 (ofSigned 32 x.latch.speed) ++ leBytes 4 (ofSigned 32 x.vdc) ++
    h x.shunt1 ++ h x.shunt2 ++ leBytes 4 x.dPrev ++ leBytes 1 x.gen ++ leBytes 23 0

/-- A frame is complete (R180, R182, R238): its offsets are captured, the windows it brackets are checked, and it goes to every engine
that receives the bridge. -/
def State.frameDone (s : State) (b : Nat) : State :=
  let x := s.sens b
  let codes := (List.range 3).map (fun k => (x.codes.at none k).getD 0)
  let n := s.slotOfBridge b
  let i := (List.range 3).map (fun k => s.phaseCurrent (3 * b + k) n (codes.getD k 0))
  let s := s.setSens b { x with open_ := false, captured := if x.capturing then x.captured ++ [codes] else x.captured }
  let s := if x.capturing && decide (15 ≤ x.captured.length) then s.closeCapture b else s
  let bytes := s.frameBytes b i
  let s := s.checkFrame b ⟨x.sampleAt, i⟩
  let y := s.sens b
  let s := s.setSens b { y with seq := (y.seq + 1) % 65536, restarted := false, lastI := i, lastCodes := codes }
  (List.range 8).foldl (fun s c => s.sampleTo c b bytes x.sampleAt) s

/-! ### Results (R302) -/

/-- Write a result register (R321). -/
def State.putResult (s : State) (n : Nat) (c : Conv) (source : Nat) (v : Int) : State :=
  let s := (s.setFlag F.ADC_RESULT_VALID true n).setFlag F.ADC_RESULT_RESTARTED c.restarted n
  let s := (s.setFlag F.ADC_RESULT_OVERRANGE c.ovr n).setFld F.ADC_RESULT_SOURCE source n
  let s := (s.setFld F.ADC_RESULT_INPUT c.input n).setFld F.ADC_RESULT_SEQ (s.fld F.ADC_RESULT_SEQ n + 1) n
  let s := s.setFldS F.ADC_RESULT_VALUE (sat16 v) n
  if source = 0 then s.setFlag F.ADC_INT_STATUS_SW_DONE true else s

/-- A code of an averaging sequence (R302): the next conversion of the set, or its result. -/
def State.average (s : State) (n : Nat) (c : Conv) (source : Nat) (code : Int) : State :=
  let c := { c with sum := c.sum + code, count := c.count + 1, ovr := c.ovr || overRange code }
  let k := s.parN P.AVG_LOG2 n
  if c.count < 2 ^ k then s.beginConv n c 0
  else s.putResult n c source (if k = 0 then code else c.sum / 2 ^ s.parN P.AVG_SHIFT n)

/-- A code for a trip-time capture (R301): with the third one the registers are written. -/
def State.tripCode (s : State) (b k : Nat) (code : Int) : State :=
  let x := s.sens b
  let t := x.tripCap.setAt none k (some code)
  let s := s.setSens b { x with tripCap := t }
  match t.at none 0, t.at none 1, t.at none 2 with
  | some a, some c, some d =>
    let s := (s.setFldS F.ADC_TRIP_CAP0_IA a b).setFldS F.ADC_TRIP_CAP0_IB c b
    ((s.setFldS F.ADC_TRIP_CAP1_IC d b).setFlag F.ADC_TRIP_CAP1_VALID true b).setFlag F.ADC_INT_STATUS_TRIP_CAP true
  | _, _, _ => s

/-- What the source of a conversion does with its code. -/
def State.takeCode (s : State) (n : Nat) (c : Conv) (code : Int) : State :=
  match c.src with
  | .safety => s.setAdc n { s.adc n with safety := some (c.input, code) }
  | .tripCap b => s.tripCode b (n % 3) code
  | .frame b =>
    let x := s.sens b
    let codes := x.codes.setAt none (n % 3) (some code)
    let s := s.setSens b { x with codes := codes }
    let s := if overRange code then (s.setFlag F.ADC_INT_STATUS_ADC_OVR true).raise .ADC_OVERRANGE n (s.scopeBridge b) else s
    if (List.range 3).all (fun k => (codes.at none k).isSome) then s.frameDone b else s
  | .timeline => s.putResult n { c with ovr := overRange code } 2 code
  | .software => s.average n c 0 code
  | .continuous => s.average n c 1 code
  | .reference => s

/-- A main ADC's conversion completes with a raw code (R294, R298 to R302). -/
def execAdcConversionDone (n : Fin 6) (raw : Int) (s : State) : Out :=
  let n := n.val
  let x := s.adc n
  match x.run with
  | none => .next s
  | some c =>
    if !s.pdOn 8 || !s.elapsed c.at_ (s.convTime n) then .next s
    else
      let code := s.correct n raw
      let s := s.setAdc n { x with run := none, sharers := [] }
      let s := s.takeCode n c code
      let s := x.sharers.foldl (fun s src => s.takeCode n { c with src := src } code) s
      .next ((adcsOfBridge (bridgeOfAdc n)).foldl State.nextConv s)

/-- The reference check in an idle gap (R297): the raw code of IN7. -/
def execAdcRefCheck (n : Fin 6) (raw : Int) (s : State) : Out :=
  let n := n.val
  let x := s.adc n
  if x.run.isSome || x.aborted.isSome || !s.pdOn 8 then .next s
  else
    let ok := decide ((s.correct n raw - 4096).natAbs ≤ 40)
    let bad := if ok then 0 else x.refBad + 1
    let s := s.setAdc n { x with refBad := bad, refOk := ok }
    let s := s.setFlag F.ADC_STATUS_REF_OK ((List.range 6).all (fun k => (s.adc k).refOk))
    .next (if bad = 3 then (s.setFlag F.ADC_INT_STATUS_REF_FAULT true).raise .ADC_REF_FAULT n (s.scopeBridge (bridgeOfAdc n)) else s)

/-- A read of ADC.RESULT_n clears VALID (R321). -/
def execResultRead (m : Fin 21) (n : Fin 6) (s : State) : Out :=
  let (s, ok) := s.mayRead m.val .ADC_RESULT n.val
  if ok then .next (s.setFlag F.ADC_RESULT_VALID false n.val) else .next s

/-- A read of ADC.TRIP_CAP1_b clears VALID (R321). -/
def execTripCap1Read (m : Fin 21) (b : Fin 2) (s : State) : Out :=
  let (s, ok) := s.mayRead m.val .ADC_TRIP_CAP1 b.val
  if ok then .next (s.setFlag F.ADC_TRIP_CAP1_VALID false b.val) else .next s

/-! ### Comparators (R304) -/

/-- The condition of a comparator for an input voltage in mV, with `hyst` taken off the level (R304). -/
def State.ctTrue (s : State) (k : Nat) (mv : Int) (hyst : Int) : Bool :=
  let l := s.par P.CT_LEVEL k - hyst
  match s.parN P.CT_MODE k with
  | 1 => decide (l < mv)
  | 2 => decide (mv < -l)
  | 3 => decide (l < absI mv)
  | _ => false

/-- A comparator's input stands at a voltage (mV): past its level it asserts, back by the hysteresis it releases (R304). Each bridge that
enables it takes the trip (R226). -/
def execCtAssert (k : Fin 8) (mv : Int) (s : State) : Out :=
  let k := k.val
  let lev := s.fld F.ADC_CT_STATUS_LEVEL
  let was := bits lev k k == 1
  if !s.pdOn 8 then .next s
  else if !was && s.ctTrue k mv 0 then
    let s := s.setFld F.ADC_CT_STATUS_LEVEL (lev + 2 ^ k)
    let s := (s.setFld F.ADC_CT_STATUS_LATCHED (s.fld F.ADC_CT_STATUS_LATCHED ||| 2 ^ k)).setFlag F.ADC_INT_STATUS_CT true
    .next ((s.tripAssert 0 (10 + k)).tripAssert 1 (10 + k))
  else if was && !s.ctTrue k mv 50 then .next (s.setFld F.ADC_CT_STATUS_LEVEL (lev - 2 ^ k))
  else .next s

/-! ### ΔΣ outputs (R305 to R310) -/

/-- The running sums of `w` consecutive values of a list. -/
def boxcar (w : Nat) : List Int → List Int
  | [] => []
  | x :: t => if w ≤ t.length + 1 then ((x :: t).take w).sum :: boxcar w t else []

/-- The sinc3 output over its last 3 × OSR − 2 bits, scaled to Q15 (R305). -/
def sinc3 (osr : Nat) (window : List Bool) : Int :=
  let v := window.map (fun b => if b then (1 : Int) else -1)
  let sum := (boxcar osr (boxcar osr (boxcar osr v))).headD 0
  min 32767 (roundUpHalf (sum * 32768) (osr * osr * osr))

/-- The two DC-link channels are compared while the bridges share a link and both are valid (R310). -/
def State.compareLinks (s : State) : State :=
  let on := s.sharedLink && s.flag F.ADC_DS_VAL_VALID 7 && s.flag F.ADC_DS_VAL_VALID 19
  let far := on && decide (mvQ (s.par P.VDC_TOL 0) < absI (s.vdcQ 0 - s.vdcQ 1))
  let s := { s with sense := { s.sense with mismatchSince := if far then some (s.sense.mismatchSince.getD s.now) else none } }
  if !far && s.faultActive .VDC_MISMATCH 0 then s.cease .VDC_MISMATCH 0 else s

/-- Since when V_DC of a bridge is below 60 V (R392, R396). -/
def State.noteVdc (s : State) (b : Nat) : State :=
  let x := s.safeOf b
  s.setSafe b { x with vdcLow := if s.vdcQ b < mvQ 60000 then some (x.vdcLow.getD s.now) else none }

/-- A demodulator gives an output from the channel's last 3 × DS_OSR − 2 bits, oldest first (R305 to R309). An invalid output keeps its
last valid value (R308). -/
def execDsOutput (c : Fin 24) (window : List Bool) (s : State) : Out :=
  let c := c.val
  let n := c / 2
  let osr := s.parN P.DS_OSR c
  if !s.pdOn 8 || !s.linkLive n || window.length ≠ 3 * osr - 2 || !s.elapsed (s.sense.outAt.at 0 c) (40 * osr) then .next s
  else
    let s := { s with sense := { s.sense with outAt := s.sense.outAt.setAt 0 c s.now } }
    let valid := s.isOn .satellite n && (match s.sense.since.at none c with
      | some t => s.elapsed t (120 * osr)
      | none => false)
    let s := s.setFld F.ADC_DS_VAL_SEQ (s.fld F.ADC_DS_VAL_SEQ c + 1) c
    let s := s.setFlag F.ADC_DS_VAL_RANGE (c % 2 == 0 && !(s.sat n).conducts) c
    if !valid then .next s
    else
      let v := sinc3 osr window
      let ovr := decide (26214 < v.natAbs)
      let s := ((s.setFldS F.ADC_DS_VAL_VALUE v c).setFlag F.ADC_DS_VAL_VALID true c).setFlag F.ADC_DS_VAL_OVR ovr c
      let s := if ovr then (s.setFlag F.ADC_INT_STATUS_DS_OVR true).raise .DS_OVERRANGE n (s.scopeBridge (bridgeOfSat n)) else s
      let s := if c = 7 then s.noteVdc 0 else if c = 19 then s.noteVdc 1 else s
      let b := bridgeOfSat n
      let y := s.sens b
      let s := if c = shuntCh b then s.setSens b { y with dcSum := y.dcSum + v, dcN := y.dcN + 1 }
        else if c = vdcCh b then s.setSens b { y with vSum := y.vSum + v, vN := y.vN + 1 } else s
      .next (if c = 7 ∨ c = 19 then s.compareLinks else s)

/-- The DC-link channels have differed by more than VDC_TOL for 1 ms (R310). -/
def execVdcMismatchTimer (s : State) : Out :=
  match s.sense.mismatchSince with
  | some t =>
    if s.elapsed t msT && !s.faultActive .VDC_MISMATCH 0 then
      .next ((s.setFlag F.ADC_INT_STATUS_VDC_MISMATCH true).raise .VDC_MISMATCH 0 (s.scopeBridge 0) 0 none true)
    else .next s
  | none => .next s

/-! ### Shunt windows (R311 to R313) -/

/-- A leg's changes of effective demand in the period, as (time, rise), and its demand before any of them (R211, R311). -/
def legChanges (y : PwmCh) (p8 : Nat) : List (Nat × Bool) :=
  let on : List (Nat × Bool) := if y.effOn < p8 && y.effOn != y.effOff then [(y.effOn, true)] else []
  let off : List (Nat × Bool) := if y.effOff < p8 && y.effOn < p8 then [(y.effOff, false)] else []
  let l := if y.effOn < y.effOff then on ++ off else off ++ on
  (l.foldl (fun (p : Bool × List (Nat × Bool)) e => if p.1 == e.2 then p else (e.2, p.2 ++ [e])) (y.startDemand, [])).2

/-- A leg's demand just before a time. -/
def legBefore (y : PwmCh) (p8 t : Nat) : Bool :=
  ((legChanges y p8).filter (fun e => decide (e.1 < t))).foldl (fun _ e => e.2) y.startDemand

/-- The window that ends at a closing mark: its start in fine units after the wrap, its leg and sign (R311). -/
def State.windowOf (s : State) (b close : Nat) : Nat × Option (Nat × Bool) :=
  let x := s.pwm b
  let p8 := s.p8 b
  let changes := (List.range 3).flatMap (fun k => ((legChanges (x.ch (2 * k)) p8).filter (fun e => decide (e.1 < close))).map (fun e => (e.1, e.2, k)))
  let last := changes.foldl (fun (m : Option (Nat × Bool × Nat)) e => match m with
    | some f => if f.1 ≤ e.1 then some e else m
    | none => some e) none
  let start := match last with
    | some (t, rise, k) => if rise then t + s.dtHL b k else t
    | none => 0
  let on := (List.range 3).filter (fun k => legBefore (x.ch (2 * k)) p8 close)
  let off := (List.range 3).filter (fun k => !legBefore (x.ch (2 * k)) p8 close)
  (start, match on, off with
    | [k], _ => some (k, false)
    | [_, _], [k] => some (k, true)
    | _, _ => none)

/-- The estimate of window `w` of a bridge at its closing mark (R312): `stream` the shunt channel's bits up to the mark, newest last. -/
def State.shuntWindow (s : State) (b w close : Nat) (stream : List Bool) : State :=
  let x := s.sens b
  let (start, which) := s.windowOf b close
  let from_ := match (x.openMark.at 0 (2 * w)) with
    | 0 => start + 3200
    | t => min (start + 3200) (t - 1)
  let n := (close - from_) / 320
  let ones := ((stream.reverse.take n).filter id).length
  match which with
  | none => s.setSens b { x with wins := x.wins.setAt {} w { n := min 255 n } }
  | some (leg, neg) =>
    let valid := decide (start + 3840 ≤ close) && decide (2 ≤ n) && decide (n ≤ stream.length) && decide (n ≤ 10 * ones) && decide (10 * ones ≤ 9 * n) &&
      s.flag F.ADC_DS_VAL_VALID (shuntCh b)
    let num : Int := 320000000 * (2 * (ones : Int) - n) * 32768
    let v := sat16 (roundUpHalf num (max 1 (s.parN P.R_SHUNT b * n * s.parN P.I_BASE (s.slotOfBridge b))))
    let win : ShuntWin := ⟨leg, neg, if valid then v else 0, min 255 n, valid, 8 * (s.pwm b).wrapAt + close - 320⟩
    s.setSens b { x with wins := x.wins.setAt {} w win, waiting := if valid then x.waiting ++ [win] else x.waiting }

/-- The shunt values at the end of a period (R313, R321): of the two windows of the period that ends. -/
def State.shuntPeriod (s : State) (b : Nat) : State :=
  let x := s.sens b
  let w1 := x.wins.at {} 0
  let w2 := x.wins.at {} 1
  let both := w1.valid && w2.valid
  let s := s.setSens b { x with
    wins := [], openMark := [], bothValid := both, skipped := !both
    shunt1 := if both then w1.value else x.shunt1, shunt2 := if both then w2.value else x.shunt2, tripCapDone := false,
    monPeriods := if both then x.monPeriods ++ [⟨w1, w2, x.sampleAt, x.latch.theta, x.latch.speed⟩] else x.monPeriods }
  let s := if both then (s.setFldS F.ADC_SHUNT_SHUNT1 w1.value b).setFldS F.ADC_SHUNT_SHUNT2 w2.value b else s
  let s := ((s.setFld F.ADC_SHUNT_INFO_BITS1 w1.n b).setFlag F.ADC_SHUNT_INFO_VALID1 w1.valid b).setFlag F.ADC_SHUNT_INFO_NEG1 w1.neg b
  let s := ((s.setFld F.ADC_SHUNT_INFO_BITS2 w2.n b).setFlag F.ADC_SHUNT_INFO_VALID2 w2.valid b).setFlag F.ADC_SHUNT_INFO_NEG2 w2.neg b
  let s := (s.setFld F.ADC_SHUNT_INFO_LEG1 w1.leg b).setFld F.ADC_SHUNT_INFO_LEG2 w2.leg b
  if both then (s.bump F.ADC_CHK_STATUS_VALID_CONSEC b).setFld F.ADC_CHK_STATUS_PRED_CONSEC 0 b
  else (s.bump F.ADC_CHK_STATUS_PRED_CONSEC b).setFld F.ADC_CHK_STATUS_VALID_CONSEC 0 b

/-- The current check starts anew at a slot's enable (R315, R316). -/
def State.checkReset (s : State) (b : Nat) : State :=
  let s := s.setSens b { s.sens b with frames := [], sums := [], waiting := [], chk := [], paused := false }
  let s := (s.setReg ⟨.ADC_CHK_STATUS, b, 0⟩ 0).setReg ⟨.ADC_CHK_ERR, b, 0⟩ 0
  s

end Sys2Proof.Machine
end

