-- ==== Sys2Proof/Machine/Q15.lean ====
section
/-! DEFINITION. The fixed-point arithmetic of R171, R172 that the engines, the atlas lookup and dressing share. -/

namespace Sys2Proof.Machine

/-- `x / 2^15` by convergent rounding (R172): to nearest, ties to even, before saturation. -/
def rnd15Raw (x : Int) : Int :=
  let q := x / 32768
  let r := x % 32768
  if r > 0x4000 ∨ (r = 0x4000 ∧ q % 2 = 1) then q + 1 else q

/-- rnd15 of R172 for a Q15 result. -/
def rnd15 (x : Int) : Int := sat16 (rnd15Raw x)

/-- rnd15 of R172 for an interpolation weight: clamped to 0 to 32,768. -/
def rnd15w (x : Int) : Int := clampI 0 32768 (rnd15Raw x)

/-- `num / den` to the nearest integer, ties to even: the rounding of rnd15 on a quotient that is no multiple of 2^-30. -/
def roundEven (num : Int) (den : Nat) : Int :=
  let q := num / den
  let r := 2 * (num % den)
  if r > den ∨ (r = den ∧ q % 2 = 1) then q + 1 else q

end Sys2Proof.Machine
end

