-- ==== Sys2Proof/Machine/AtlasCore.lean ====
section
/-! DEFINITION. The flux atlas as data: geometry and node records (R119 to R125), the places of its copies (R126, R127, R153), the
interpolation of R130, readiness (R123) and the lookup (R128, R131, R132). -/

namespace Sys2Proof.Machine

/-! ### Geometry (R119, R120, R125) -/

/-- A grid of R119: points and the origin and step of the current axes, and the strata. -/
structure Geo where
  nd : Nat
  nq : Nat
  nth : Nat
  ns : Nat
  dMin : Int
  dStep : Nat
  qMin : Int
  qStep : Nat
  strata : List Int
  deriving DecidableEq, Repr

/-- The geometry record of a slot. -/
def State.geo (s : State) (n : Nat) : Geo :=
  ⟨s.parN P.N_D n, s.parN P.N_Q n, s.parN P.N_TH n, s.parN P.N_S n, s.par P.D_MIN n, s.parN P.D_STEP n, s.par P.Q_MIN n,
    s.parN P.Q_STEP n, (List.range (s.parN P.N_S n)).map (fun k => s.par P.T_STRATA n k)⟩

/-- The coarse grid taken as an atlas (R125, R130). -/
def Geo.coarse (g : Geo) : Geo := { g with nd := g.nd / 4, nq := g.nq / 4, nth := g.nth / 8, dStep := 4 * g.dStep, qStep := 4 * g.qStep }

/-- The number of nodes. -/
def Geo.count (g : Geo) : Nat := g.nd * g.nq * g.nth * g.ns

/-- The index of a node (R120, R125). -/
def Geo.index (g : Geo) (d q t st : Nat) : Nat := ((st * g.nd + d) * g.nq + q) * g.nth + t

/-- Whether a slot has a geometry record in force. -/
def State.hasGeo (s : State) (n : Nat) : Bool := s.atlasNv.geom.at false n

/-- The MRAM offset of a slot's full atlas (R120). -/
def State.atlasBase (s : State) (n : Nat) : Nat :=
  if n = 0 || !s.hasGeo 0 then 0 else ((8 * (s.geo 0).count + 0xFFFFF) / 0x100000) * 0x100000

/-- The MRAM offset of a bedrock copy (R153). -/
def bedrockBase (n copy : Nat) : Nat := 0x5000000 + 0x80000 * n + 0x100000 * copy

/-- The commit block of a node: all angles at one (d, q, s) (R148). -/
def Geo.block (g : Geo) (d q st : Nat) : Nat := (st * g.nd + d) * g.nq + q

/-- The (d, q, s) of a commit block. -/
def Geo.ofBlock (g : Geo) (b : Nat) : Nat × Nat × Nat := (b / g.nq % g.nd, b % g.nq, b / g.nq / g.nd)

/-! ### Nodes (R121) -/

structure Node where
  psiD : Int
  psiQ : Int
  tau : Int
  conf : Nat
  visits : Nat
  deriving DecidableEq, Repr

def Node.ofBytes (l : List Byte) : Node :=
  ⟨toSigned 16 (leNat (l.take 2)), toSigned 16 (leNat ((l.drop 2).take 2)), toSigned 16 (leNat ((l.drop 4).take 2)),
    leNat ((l.drop 6).take 1), leNat ((l.drop 7).take 1)⟩

def Node.bytes (x : Node) : List Byte :=
  leBytes 2 (ofSigned 16 x.psiD) ++ leBytes 2 (ofSigned 16 x.psiQ) ++ leBytes 2 (ofSigned 16 x.tau) ++ leBytes 1 x.conf ++ leBytes 1 x.visits

/-! ### Copies (R126, R127) -/

def windowBase (n : Nat) : Nat := 0x20000000 + 0x100000 * n
def coarseBase (n : Nat) : Nat := 0x20200000 + 0x80000 * n
def spillBase (k : Nat) : Nat := 0x20300000 + 512 * k

/-- The window position of a tile (R127). -/
def tilePos (td tq : Nat) : Nat := td % 4 * 4 + tq % 4

/-- The place of a node in the window: tiles of 64 KiB by position, halves by stratum, angles running first (log entry 30). -/
def Geo.windowAddr (g : Geo) (n d q t st : Nat) : Nat :=
  windowBase n + 0x10000 * tilePos (d / 8) (q / 8) + 0x8000 * (st % 2) + 8 * ((d % 8 * 8 + q % 8) * g.nth + t)

def State.fullNode (s : State) (n : Nat) (g : Geo) (d q t st : Nat) : Node :=
  Node.ofBytes (Memory.read s.mram (s.atlasBase n + 8 * g.index d q t st) 8)

def State.windowNode (s : State) (n : Nat) (g : Geo) (d q t st : Nat) : Node := Node.ofBytes (Memory.read s.mem (g.windowAddr n d q t st) 8)

/-- A node of the coarse resident atlas, by its coarse position. -/
def State.coarseNode (s : State) (n : Nat) (g : Geo) (d q t st : Nat) : Node :=
  Node.ofBytes (Memory.read s.mem (coarseBase n + 8 * g.coarse.index d q t st) 8)

/-- A bedrock node, by its coarse position. -/
def State.bedrockNode (s : State) (n : Nat) (g : Geo) (d q t st : Nat) : Node :=
  Node.ofBytes (Memory.read s.mram (bedrockBase n 0 + 8 * g.coarse.index d q t st) 8)

/-- Whether the tile of a node's position and stratum is present in the window. -/
def AtlasSlot.present (a : AtlasSlot) (d q st : Nat) : Bool :=
  a.tiles.at none (2 * tilePos (d / 8) (q / 8) + st % 2) == some (d / 8, q / 8, st) && (st == a.sLo || st == a.sLo + 1)

/-! ### Interpolation (R130) -/

/-- One current axis: lower index, weight of the upper point, whether clamped. -/
def axisAt (min : Int) (step n : Nat) (x : Int) : Nat × Int × Bool :=
  let f := clampI 0 ((n - 1) * step : Nat) (x - min)
  let i := (f / step).toNat
  let c := f != x - min
  if i = n - 1 then (n - 2, 32768, c) else (i, f % step * 32768 / step, c)

/-- The strata axis: lower stratum, weight of the upper one, SCLAMP. -/
def Geo.stratumAt (g : Geo) (tm : Int) : Nat × Int × Bool :=
  let hi := g.strata.getD (g.ns - 1) 0
  if tm < g.strata.getD 0 0 then (0, 0, true)
  else if hi ≤ tm then (g.ns - 2, 32768, hi < tm)
  else
    let k := ((List.range (g.ns - 1)).find? (fun k => decide (g.strata.getD k 0 ≤ tm) && decide (tm < g.strata.getD (k + 1) 0))).getD 0
    let a := g.strata.getD k 0
    (k, (tm - a) * 32768 / (g.strata.getD (k + 1) 0 - a), false)

/-- One of the 16 corners of a cell, with its weight. -/
structure Corner where
  d : Nat
  q : Nat
  t : Nat
  st : Nat
  w : Int
  deriving DecidableEq, Repr

/-- The weight of the lower or the upper point. -/
def wt (a : Int) (b : Nat) : Int := if b = 0 then 32768 - a else a

/-- The corners of a lookup, and its EDGE and SCLAMP flags. -/
def Geo.corners (g : Geo) (id iq : Int) (th : Nat) (tm : Int) : List Corner × Bool × Bool :=
  let (d0, ad, ce) := axisAt g.dMin g.dStep g.nd id
  let (q0, aq, cq) := axisAt g.qMin g.qStep g.nq iq
  let ft := th * g.nth
  let t0 := ft / 65536
  let at_ : Int := ((ft % 65536 / 2 : Nat) : Int)
  let (s0, as, sc) := g.stratumAt tm
  ([0, 1].flatMap (fun bd => [0, 1].flatMap (fun bq => [0, 1].flatMap (fun bt => [0, 1].map (fun bs =>
    (⟨d0 + bd, q0 + bq, if bt = 1 then (t0 + 1) % g.nth else t0, s0 + bs,
      rnd15w (rnd15w (rnd15w (wt ad bd * wt aq bq) * wt at_ bt) * wt as bs)⟩ : Corner))))), ce || cq, sc)

/-- What a lookup returns (R131). -/
structure Looked where
  psiD : Int := 0
  psiQ : Int := 0
  tau : Int := 0
  cconf : Nat := 0
  flags : Nat := 0
  deriving DecidableEq, Repr

/-- The weighted sum of one field over the corners. -/
def weigh (cs : List Corner) (f : Corner → Int) : Int := rnd15 (cs.foldl (fun a c => a + c.w * f c) 0)

/-- The interpolation over given nodes. -/
def lookupWith (g : Geo) (confMin : Nat) (node : Nat → Nat → Nat → Nat → Node) (coarse : Bool) (id iq : Int) (th : Nat) (tm : Int) : Looked :=
  let (cs, edge, sc) := g.corners id iq th tm
  let at_ (c : Corner) : Node := node c.d c.q c.t c.st
  let cconf := cs.foldl (fun a c => min a (at_ c).conf) 255
  { psiD := weigh cs (fun c => (at_ c).psiD)
    psiQ := weigh cs (fun c => (at_ c).psiQ)
    tau := weigh cs (fun c => (at_ c).tau)
    cconf := cconf
    flags := b2n coarse + 2 * b2n edge + 4 * b2n sc + 8 * b2n (decide (cconf < confMin)) }

/-- The lookup in the coarse resident atlas. -/
def State.lookCoarse (s : State) (n : Nat) (id iq : Int) (th : Nat) (tm : Int) : Looked :=
  let g := s.geo n
  lookupWith g.coarse (s.parN P.CONF_MIN n) (s.coarseNode n g) true id iq th tm

/-- The lookup in the window. -/
def State.lookWindow (s : State) (n : Nat) (id iq : Int) (th : Nat) (tm : Int) : Looked :=
  let g := s.geo n
  lookupWith g (s.parN P.CONF_MIN n) (s.windowNode n g) false id iq th tm

/-- The lookup in the bedrock. -/
def State.lookBedrock (s : State) (n : Nat) (id iq : Int) (th : Nat) (tm : Int) : Looked :=
  let g := s.geo n
  lookupWith g.coarse 0 (s.bedrockNode n g) false id iq th tm

/-- Whether all 16 corners are present in the window (R128). -/
def State.isHit (s : State) (n : Nat) (id iq : Int) (th : Nat) (tm : Int) : Bool :=
  ((s.geo n).corners id iq th tm).1.all (fun c => (s.atl n).present c.d c.q c.st)

/-- The value that the lookup returns, hit or COARSE (R128). -/
def State.lookAtlas (s : State) (n : Nat) (id iq : Int) (th : Nat) (tm : Int) : Looked :=
  if s.isHit n id iq th tm then s.lookWindow n id iq th tm else s.lookCoarse n id iq th tm

/-- B_c of R143: the bedrock value at a node's position, within its own stratum. -/
def State.bedrockAt (s : State) (n : Nat) (d q t st : Nat) : Looked :=
  let g := s.geo n
  s.lookBedrock n (g.dMin + d * g.dStep) (g.qMin + q * g.qStep) (t * 65536 / g.nth) (g.strata.getD st 0)

/-! ### Readiness (R123) -/

/-- Whether a bedrock header matches the geometry record in force. -/
def State.headerGeo (s : State) (n : Nat) (h : List Byte) : Bool :=
  let g := s.geo n
  let i16 (o : Nat) : Int := toSigned 16 (leNat ((h.drop o).take 2))
  leNat ((h.drop 24).take 2) == g.nd && leNat ((h.drop 26).take 2) == g.nq && leNat ((h.drop 28).take 2) == g.nth &&
  leNat ((h.drop 30).take 2) == g.ns && i16 32 == g.dMin && leNat ((h.drop 34).take 2) == g.dStep && i16 36 == g.qMin &&
  leNat ((h.drop 38).take 2) == g.qStep && (List.range 4).all (fun k => i16 (40 + 2 * k) == s.par P.T_STRATA n k)

/-- Whether its bases match the machine record. -/
def State.headerBases (s : State) (n : Nat) (h : List Byte) : Bool :=
  leNat ((h.drop 48).take 4) == s.parN P.PSI_BASE n && leNat ((h.drop 52).take 4) == s.parN P.I_BASE n

/-- The recorded header of a slot's bedrock. -/
def State.bedrockHdr (s : State) (n : Nat) : List Byte := s.atlasNv.hdr.at [] n

/-- Whether a slot's bedrock is valid, its signature checked (R164). -/
def State.bedrockValid (s : State) (n : Nat) : Bool := (s.atl n).bedrock && s.atlasC.sig.at none n == some true

/-- The conditions of R123 but for fencing. -/
def State.atlasReadyBut (s : State) (n : Nat) : Bool :=
  let h := s.bedrockHdr n
  s.hasGeo n && s.bedrockValid n && s.headerGeo n h && s.headerBases n h &&
  leNat ((h.drop 106).take 2) == s.parN P.POLE_PAIRS n && (s.atlasNv.policy.at none n).isNone && (s.atl n).coarse && (s.atl n).window

/-- ATLAS.SLOT_STATUS.READY. -/
def State.atlasReady (s : State) (n : Nat) : Bool := s.pdOn 5 && s.atlasReadyBut n && !s.flag F.ATLAS_MRAM_STATUS_FENCED

/-- Whether lookups of a slot are served (R132): fencing alone does not stop those of a slot that is not OFF. -/
def State.atlasServes (s : State) (n : Nat) : Bool :=
  s.pdOn 5 && s.atlasReadyBut n && (!s.flag F.ATLAS_MRAM_STATUS_FENCED || !s.isOff .slot n)

/-- PTIME in seconds (R157). -/
def State.ptime (s : State) : Nat := s.atlasC.ptimeBase + (if s.pdOn 5 then (s.now - s.atlasC.ptimeFrom) / secT else 0)

end Sys2Proof.Machine
end

