-- ==== Sys2Proof/Machine/AqCore.lean ====
section
/-! DEFINITION. The receive objects of the CAN controllers as their records list them, and the object a slot takes its commands from
(R499, R501, R517). -/

namespace Sys2Proof.Machine

/-- The place of a list's length beside its elements, for the parameters that are lists of up to n entries. -/
abbrev P.lenIdx : Nat := 65535

/-- How many entries a list parameter in force has. -/
def State.parLen (s : State) (id inst : Nat) : Nat := s.parN id inst P.lenIdx

/-- Entry j of the CAN_RXOBJ record in force of a controller. -/
def State.rxObj (s : State) (n j : Nat) : Option Nat := if j < s.parLen P.CAN_RXOBJ n then some (s.parN P.CAN_RXOBJ n j) else none

/-- The fields of a CAN_RXOBJ entry (R501). -/
def rxoPair (e : Nat) : Nat := bits e 63 56
def rxoConn (e : Nat) : Nat := bits e 55 51
def rxoPass (e : Nat) : Nat := bits e 50 49
def rxoXtd (e : Nat) : Bool := bits e 29 29 == 1
def rxoId (e : Nat) : Nat := bits e 28 0

/-- The controller and the object of a slot's CMD_CAN_OBJ. -/
def State.cmdCan (s : State) (n : Nat) : Nat := bits (s.parN P.CMD_CAN_OBJ n) 10 9
def State.cmdObj (s : State) (n : Nat) : Nat := bits (s.parN P.CMD_CAN_OBJ n) 8 0

/-- The Aqosh connection of a slot's command object. -/
def State.cmdConn (s : State) (n : Nat) : Option Nat :=
  match s.rxObj (s.cmdCan n) (s.cmdObj n) with
  | some e => if rxoPass e = 2 then some (rxoConn e) else none
  | none => none

/-- Whether a slot can take commands over CAN (R517): its object has PASS = 2, the connection AQ_LEN = 24, and the controller is ON. -/
def State.canCmdOk (s : State) (n : Nat) : Bool :=
  match s.cmdConn n with
  | some c => s.parN P.AQ_LEN c == 24 && s.isOn .can (s.cmdCan n)
  | none => false

/-- A command that came over CAN completes with a status (R517). -/
def State.canStatus (s : State) (n st : Nat) : State :=
  match s.cmdConn n with
  | some c => if st ≤ 1 then s else s.bump F.CAN_AQ_STATUS_REFUSED c
  | none => s

end Sys2Proof.Machine
end

