-- ==== Sys2Proof/Machine/Desc.lean ====
section
/-! DEFINITION. How Derrick runs a fetched descriptor (R405, R410, R413, R416): the order within a pair, the class, the
right and the header and body checks, and the data buffer; and the audit log that a role-gated change writes first
(R457 to R459). -/

namespace Sys2Proof.Machine

/-! ### Rights (R405, R416) -/

/-- The right an opcode or a kind asks for. Roles are 1 operator, 2 installer, 3 maker. -/
inductive Right where
  | any
  | drive
  | roles (l : List Nat)
  | driveOr (l : List Nat)
  | bound
  deriving DecidableEq, Repr

/-- The bound role of a pair. -/
def State.rpRole (s : State) (n : Nat) : Nat := s.fld F.DERRICK_RP_BIND_ROLE n
/-- Whether a pair holds DRIVE; in RMA no pair does (R437). -/
def State.rpDrive (s : State) (n : Nat) : Bool := s.flag F.DERRICK_RP_BIND_DRIVE n && s.lifecycle != 2
/-- The role whose session is open on a pair, 0 for none. -/
def State.sessionRole (s : State) (n : Nat) : Nat := if (s.ring n).session.isSome then s.rpRole n else 0

def State.holds (s : State) (n : Nat) : Right → Bool
  | .any => true
  | .drive => s.rpDrive n
  | .roles l => l.contains (s.sessionRole n)
  | .driveOr l => s.rpDrive n || l.contains (s.sessionRole n)
  | .bound => s.rpRole n != 0

/-! ### Header and body checks (R413) -/

/-- The reserved bytes of a body are zero: every byte of 24 to 63 outside the used ranges. -/
def bodyClean (d : List Byte) (used : List (Nat × Nat)) : Bool :=
  (List.range 40).all (fun k =>
    let o := 24 + k
    used.any (fun u => decide (u.1 ≤ o) && decide (o < u.1 + u.2)) || d.getD o 0#8 == 0#8)

/-- The header is clean: reserved FLAGS bits and bytes are zero, DATA is zero where unused, TARGET is in range. -/
def headClean (d : List Byte) (usesData : Bool) (targets : Nat) : Bool :=
  decide (rawFlags d < 4) && rawField d 6 2 == 0 && rawField d 20 4 == 0 && decide (rawTarget d < targets) &&
  (usesData || (rawAddr d == 0 && rawLen d == 0))

/-- What an opcode asks of its descriptor. -/
structure OpSpec where
  op : Nat
  classes : List Nat
  right : Right
  usesData : Bool
  targets : Nat
  used : List (Nat × Nat)

/-- The opcodes Derrick executes in recovery (R441): NOP, the AUTH opcodes, RECV_BUF, LOG_EXPORT and FW_UPDATE. -/
def recoveryOps : List Nat := [0x00, 0x01, 0x20, 0x21, 0x22, 0x24, 0x32]

/-- The classes in which an opcode is allowed (R416); none for a reserved opcode. -/
def opClasses : Nat → List Nat
  | 0x00 => [1, 2, 3, 4, 5, 6]
  | 0x01 => [2, 3, 4, 5, 6]
  | 0x10 => [1] | 0x11 => [1] | 0x12 => [1] | 0x13 => [1] | 0x14 => [1] | 0x15 => [1] | 0x16 => [1] | 0x17 => [1]
  | 0x18 => [1] | 0x19 => [1] | 0x1A => [1] | 0x1B => [1] | 0x20 => [1] | 0x21 => [1] | 0x22 => [1] | 0x23 => [1]
  | 0x24 => [6] | 0x30 => [6] | 0x31 => [6] | 0x32 => [6] | 0x33 => [6]
  | 0x40 => [5] | 0x41 => [5]
  | _ => []

/-- Whether an opcode may be executed on a pair. -/
def State.opAllowed (s : State) (n op : Nat) : Bool :=
  (opClasses op).contains (s.rpClass n) && (!s.flag F.PROT_STATUS_RECOVERY || recoveryOps.contains op)

/-! ### The next descriptor of a pair -/

/-- The first fetched descriptor that has not started. -/
def RingPair.nextItem (r : RingPair) : Option WorkItem := r.work.find? (fun w => !w.started)

/-- Whether a descriptor with FENCE may start: every earlier descriptor of the pair has completed. -/
def RingPair.fenceOk (r : RingPair) (w : WorkItem) : Bool :=
  rawFlags w.raw / 2 % 2 == 0 ||
  (r.work.all (fun v => decide (w.wid ≤ v.wid)) && r.bufs.all (fun b => decide (w.wid ≤ b.wid)))

/-- Mark a descriptor as started. -/
def State.markStarted (s : State) (n wid : Nat) : State :=
  let r := s.ring n
  s.setRing n { r with work := r.work.map (fun w => if w.wid = wid then { w with started := true } else w) }

/-- Run the pair's next descriptor when it carries this opcode, is of the kind asked for and may start: in an ON pair its
class, its right and its body are checked in this order (R405), and a refusal completes it. -/
def State.runDescIf (s : State) (n : Nat) (sp : OpSpec) (pre : WorkItem → Bool) (body : State → WorkItem → State) : State :=
  if !s.isOn .ring n then s
  else match (s.ring n).nextItem with
    | none => s
    | some w =>
      if rawOpcode w.raw != sp.op || !pre w || !(s.ring n).fenceOk w then s
      else
        let s := s.markStarted n w.wid
        if !s.opAllowed n sp.op then s.finish n w.wid St.badOpcode 0
        else if !s.holds n sp.right then s.finish n w.wid St.roleRefused 0
        else if !(headClean w.raw sp.usesData sp.targets && bodyClean w.raw sp.used) then s.finish n w.wid St.badField 0
        else body s w

/-- Run the pair's next descriptor when it carries this opcode. -/
def State.runDesc (s : State) (n : Nat) (sp : OpSpec) (body : State → WorkItem → State) : State :=
  s.runDescIf n sp (fun _ => true) body

/-! ### The data buffer (R413) -/

/-- Read a data buffer: LOCAL from memory as master 15, PCIE from the bytes the host's memory answers. -/
def State.dataIn (s : State) (n : Nat) (w : WorkItem) (host : Option (List Byte)) : Option (List Byte) :=
  let a := rawAddr w.raw
  let len := rawLen w.raw
  if len = 0 then some []
  else if !s.hostOk n a len false then none
  else if s.rpPcie n then (match host with
    | some l => if l.length = len then some l else none
    | none => none)
  else some (s.sysBytes a len)

/-- Write a data buffer; `none` where the access fails. -/
def State.dataOut (s : State) (n : Nat) (w : WorkItem) (l : List Byte) : Option State :=
  if s.hostOk n (rawAddr w.raw) l.length true && decide (l.length ≤ rawLen w.raw) then
    some (s.hostWrite n (rawAddr w.raw) l)
  else none

/-! ### MRAM and the audit log (R457 to R459) -/

/-- Whether the MRAM die can be reached: PD5 on, trained and not fenced (R154). -/
def State.mramReady (s : State) : Bool :=
  s.pdOn 5 && s.flag F.ATLAS_MRAM_STATUS_TRAINED && !s.flag F.ATLAS_MRAM_STATUS_FENCED

/-- Write bytes at an MRAM offset. -/
def State.mramWrite (s : State) (off : Nat) (l : List Byte) : State := { s with mram := Memory.write s.mram off l }
/-- Read bytes at an MRAM offset. -/
def State.mramRead (s : State) (off n : Nat) : List Byte := Memory.read s.mram off n

/-- Whether network time counts as synchronised: SYNCED or HOLDOVER (R524). -/
def State.timeSynced (s : State) : Bool := let x := s.fld F.TIME_STATUS_STATE; x == 1 || x == 2

def State.setAudit (s : State) (a : AuditLog) : State := { s with prot := { s.prot with audit := a } }

/-- Raise a fault of the audit log. -/
def State.auditFault (s : State) (f : FaultName) : State := (s.setFlag F.PROT_INT_STATUS_AUDIT true).raise f 255 scopeModule

/-- Write one entry (R457): its ring, its chain, its bytes in MRAM. -/
def State.auditPut (s : State) (role kind rp subject target : Nat) (digest : List Byte) (reserved : Bool) : State :=
  let a := s.prot.audit
  let body := leBytes 8 s.ts ++ leBytes 4 a.seq ++ leBytes 1 role ++ leBytes 1 kind ++ leBytes 1 rp ++
    leBytes 1 (b2n reserved + 2 * b2n s.timeSynced) ++ leBytes 2 subject ++ leBytes 2 target ++ (digest ++ leBytes 4 0).take 4
  let prev := if a.seq = 0 then List.replicate 32 0#8 else a.prev
  let entry := body ++ (Config.sha256 (prev ++ body)).take 8
  let pos := if reserved then 24576 + a.resNext else a.genNext
  let s := s.mramWrite (0x5200000 + 32 * pos) entry
  let s := s.setAudit { a with
    seq := (a.seq + 1) % 2 ^ 32
    prev := entry
    genNext := if reserved then a.genNext else (a.genNext + 1) % 24576
    resNext := if reserved then (a.resNext + 1) % 8192 else a.resNext
    index := a.index.filter (fun p => p.2 != pos) ++ [(a.seq, pos)]
    unacked := if reserved then a.unacked ++ [a.seq] else a.unacked }
  if s.prot.audit.unacked.length ≥ 7168 && reserved then s.auditFault .AUDIT_NEAR_FULL else s

/-- The audit entry that goes before a change (R458). `false`: the change is refused with STATE_REFUSED. Entries of
installer and maker sessions and boot entries go to the reserved ring; a boot entry goes to the general ring when the
reserved one is full (R459). -/
def State.auditWrite (s : State) (role kind rp subject target : Nat) (digest : List Byte) (general : Bool := false) :
    State × Bool :=
  if !s.mramReady then (s.auditFault .AUDIT_WRITE_FAIL, false)
  else
    let full := decide (8192 ≤ s.prot.audit.unacked.length)
    let wants := !general && (role == 2 || role == 3 || role == 4)
    if wants && full && role != 4 then (s.auditFault .AUDIT_FULL, false)
    else (s.auditPut role kind rp subject target digest (wants && !full), true)

/-- The digest of R634: the first four bytes of SHA-256. -/
def digest4 (l : List Byte) : List Byte := (Config.sha256 l).take 4

end Sys2Proof.Machine
end

