-- ==== Sys2Proof/Machine/Prot.lean ====
section
/-! DEFINITION. Boot state, roles, tokens, audit and firmware images (chapter 11). The boot ROM itself is part of
START_UP in ResetOps.lean. -/

namespace Sys2Proof.Machine

/-! ### BOOTLOCK and the confirm (R443, R444) -/

/-- A write of PROT.BOOTLOCK.LOCK = 1 sets BOOTLOCK and starts the confirm window. A write of 0, or after BOOTLOCK, has
no effect of its own; after BOOTLOCK it is a locked write (R443). -/
def State.lockBoot (s : State) : State :=
  let s := (s.setFlag F.PROT_BOOTLOCK_LOCK true).setFlag F.PROT_STATUS_BOOTLOCK true
  { s with prot := { s.prot with lockSince := some s.now } }

/-- A write to an RWL field after BOOTLOCK (R443): recorded, and PROT_WRITE_LOCKED raised. -/
def State.lockedWrite (s : State) (m addr : Nat) : State :=
  let s := s.setFlag F.PROT_STATUS_LOCK_VIOLATION true
  let s := s.setFld F.PROT_LOCK_VIOL_ADDR_ADDR addr
  let s := s.setFld F.PROT_LOCK_VIOL_INFO_MASTER m
  let s := s.setFld F.PROT_LOCK_VIOL_INFO_COUNT (min 255 (s.fld F.PROT_LOCK_VIOL_INFO_COUNT + 1))
  (s.setFlag F.PROT_INT_STATUS_LOCKED_WRITE true).raise .PROT_WRITE_LOCKED m scopeModule addr

/-- BOOTLOCK_WRITE. At BOOTLOCK the fixed priority of the start-up gives way to the service mode of the arbiters
(R569). -/
def execBootlockWrite (master : Fin 21) (value : Nat) (s : State) : Out :=
  .next (s.onWrite master.val .PROT_BOOTLOCK 0 (fun s =>
    if s.bootlock then s.lockedWrite master.val (regAddr .PROT_BOOTLOCK 0 0)
    else if value % 2 = 1 then s.lockBoot else s))

/-- The confirm of AC0 (R444): once per boot and only from master 8. A pending running slot becomes ACTIVE, and the
rollback counter is raised to the image's. -/
def State.confirmBoot (s : State) : State :=
  let p := s.prot
  let p := if p.running.isSome && p.pendingSlot == p.running then
      { p with active := p.running.getD p.active, pendingSlot := none, tries := 0 } else p
  let p := { p with rollback := max p.rollback p.runRollback, lockSince := none }
  let s := { s with prot := p }
  (s.setFlag F.PROT_STATUS_CONFIRMED true).setFld F.PROT_ROLLBACK_COUNT p.rollback

def execBootConfirm (master : Fin 21) (value : Nat) (s : State) : Out :=
  .next (s.onWrite master.val .PROT_BOOT_CONFIRM 0 (fun s =>
    if master.val = 8 && value % 2 = 1 && !s.flag F.PROT_STATUS_CONFIRMED && s.prot.running.isSome then s.confirmBoot
    else s))

/-- No confirm within 5 s of BOOTLOCK (R443): a BOOT_UNCONFIRMED package reset. -/
def execBootConfirmTimeout (s : State) : Out :=
  match s.prot.lockSince with
  | some t =>
    if s.elapsed t (5 * secT) && !s.flag F.PROT_STATUS_CONFIRMED then
      .next (({ s with prot := { s.prot with lockSince := none } } : State).triggerReset 7 0)
    else .next s
  | none => .next s

/-! ### Sessions (R448 to R450) -/

/-- The public key of a role: 1 operator, 2 installer, 3 maker. -/
def State.roleKey (s : State) (role : Nat) : List Byte :=
  if role = 1 then beBytes 64 (s.parN P.OPERATOR_KEY)
  else if role = 2 then beBytes 64 (s.parN P.INSTALLER_KEY) else Config.makerKey

/-- The signed message of an AUTH_RESPONSE (R448). -/
def authMessage (nonce : List Byte) (pair role : Nat) : List Byte :=
  [0x41#8, 0x55#8, 0x54#8, 0x48#8] ++ nonce ++ Config.moduleUid ++ leBytes 1 pair ++ leBytes 1 role ++ leBytes 2 0

/-- Sixteen bytes of a nonce. -/
def nonceBytes (k : Nat) : List Byte := (Config.nonce k ++ List.replicate 16 0#8).take 16

def State.nonceOf (s : State) (n : Nat) : Option (Nat × Nat) := s.prot.nonces.at none n
def State.setNonce (s : State) (n : Nat) (v : Option (Nat × Nat)) : State :=
  { s with prot := { s.prot with nonces := s.prot.nonces.setAt none n v } }
def State.setFails (s : State) (role v : Nat) : State :=
  { s with prot := { s.prot with fails := s.prot.fails.setAt 0 role v } }
def State.setLockout (s : State) (role : Nat) (v : Option Nat) : State :=
  { s with prot := { s.prot with lockout := s.prot.lockout.setAt none role v } }

/-- Open the session of a role on a COMMAND pair and on every pair with the same ROLE and HOST (R449). -/
def State.openSession (s : State) (n : Nat) : State :=
  (List.range 64).foldl (fun s k =>
    if s.rpRole k = s.rpRole n && s.rpPcie k == s.rpPcie n && !s.isOff .ring k then
      s.setRing k { s.ring k with session := some n } else s) s

/-- Close the sessions that a COMMAND pair opened. -/
def State.closeSessions (s : State) (opener : Nat) : State :=
  (List.range 64).foldl (fun s k =>
    if (s.ring k).session == some opener then s.setRing k { s.ring k with session := none } else s) s

/-- Close every session of a role (R449, R461). -/
def State.closeRole (s : State) (role : Nat) : State :=
  (List.range 64).foldl (fun s k =>
    if s.rpRole k = role then s.setRing k { s.ring k with session := none } else s) s

def execAuthChallenge (n : Fin 64) (s : State) : Out :=
  .next (s.runDesc n.val ⟨0x20, [1], .bound, true, 1, []⟩ (fun s w =>
    let role := s.rpRole n.val
    if (s.prot.lockout.at none role).isSome then s.finish n.val w.wid St.stateRefused 0
    else if rawLen w.raw ≠ 16 then s.finish n.val w.wid St.badField 0
    else
      let (k, s) := s.takeFresh
      match s.dataOut n.val w (nonceBytes k) with
      | none => s.finish n.val w.wid St.dataError 0
      | some s => (s.setNonce n.val (some (k, s.now))).finish n.val w.wid St.ok 0))

/-- A failed response (R448, R450). -/
def State.authFail (s : State) (n wid : Nat) : State :=
  let role := s.rpRole n
  let c := s.prot.fails.at 0 role + 1
  let s := (s.auditWrite role 7 n 0x21 0 (leBytes 4 0) true).1
  let s := (s.setFlag F.PROT_INT_STATUS_AUTH true).raise .AUTH_FAIL n scopeModule role
  let s := s.setFails role c
  let s := if decide (s.parN P.AUTH_FAIL_N ≤ c) then
      ((s.setLockout role (some s.now)).setFails role 0).raise .AUTH_LOCKOUT n scopeModule role else s
  s.finish n wid St.signatureRefused 0

/-- An accepted response (R449, R450), after its audit entry (R458). -/
def State.authAccept (s : State) (n wid : Nat) : State :=
  let role := s.rpRole n
  let (s, ok) := s.auditWrite role 6 n 0x21 0 (leBytes 4 0) true
  if !ok then s.finish n wid St.stateRefused 0
  else ((s.setFails role 0).openSession n).finish n wid St.ok 0

def execAuthResponse (n : Fin 64) (data : Option (List Byte)) (s : State) : Out :=
  .next (s.runDesc n.val ⟨0x21, [1], .bound, true, 1, []⟩ (fun s w =>
    if rawLen w.raw ≠ 64 then s.finish n.val w.wid St.badField 0
    else match s.dataIn n.val w data with
      | none => s.finish n.val w.wid St.dataError 0
      | some sig =>
        let role := s.rpRole n.val
        let nn := s.nonceOf n.val
        let s := s.setNonce n.val none
        match nn with
        | none => s.authFail n.val w.wid
        | some (k, t) =>
          let key := s.roleKey role
          if !s.elapsed t (60 * secT) && !key.all (fun b => b == 0#8) &&
              Config.ecdsaOk key (Config.sha256 (authMessage (nonceBytes k) n.val role)) sig then s.authAccept n.val w.wid
          else s.authFail n.val w.wid))

def execAuthClose (n : Fin 64) (s : State) : Out :=
  .next (s.runDesc n.val ⟨0x22, [1], .bound, false, 1, []⟩ (fun s w =>
    let s := match (s.ring n.val).session with
      | some k => s.closeSessions k
      | none => s
    s.finish n.val w.wid St.ok 0))

/-- AUTH_LOCKOUT_T has passed for a role (R450): 0 operator, 1 installer, 2 maker. -/
def execAuthLockoutExpiry (role : Fin 3) (s : State) : Out :=
  match s.prot.lockout.at none (role.val + 1) with
  | some t => .next (if s.elapsed t (s.parN P.AUTH_LOCKOUT_T * secT) then s.setLockout (role.val + 1) none else s)
  | none => .next s

/-! ### Drive-enable tokens and immobilisation (R453 to R456) -/

/-- Whether the held token is valid for a slot (R455): in its window once network time has been synchronised since the
package reset, before that while the resume time of a token valid at the reset runs. -/
def State.tokenValid (s : State) (n : Nat) : Bool :=
  match s.prot.token with
  | none => false
  | some t => !t.revoke && bits t.slots n n == 1 &&
    (if s.prot.everSynced then decide (t.notBefore ≤ s.ts) && decide (s.ts < t.expiry) else s.prot.resume)

def State.immobOf (s : State) (n : Nat) : Immob := s.prot.immob.at {} n

/-- Replace a slot's record, and show it in PROT.STATUS. -/
def State.setImmob (s : State) (n : Nat) (x : Immob) : State :=
  let s := { s with prot := { s.prot with immob := s.prot.immob.setAt {} n x } }
  s.setFld F.PROT_STATUS_IMMOBILISED (b2n (s.immobOf 0).on + 2 * b2n (s.immobOf 1).on)

/-- A slot becomes immobilised (R456). -/
def State.immobilise (s : State) (n : Nat) : State :=
  let s := s.setImmob n { s.immobOf n with on := true, pending := false, ending := false }
  (s.setFlag F.PROT_INT_STATUS_TOKEN true).raise .TOKEN_EXPIRED n scopeModule

/-- Judge a slot again after a change of policy or of the token (R456). -/
def State.judgeImmob (s : State) (n : Nat) : State :=
  let want := s.par P.IMMOB_POLICY == 1 && !s.tokenValid n
  let x := s.immobOf n
  let off := s.isOff .slot n
  if want && x.on then s.setImmob n { x with ending := false }
  else if want && off then s.setImmob n { x with on := true, pending := false, ending := false }
  else if want then s.setImmob n { x with pending := true }
  else if x.on && off then s.setImmob n { x with on := false, pending := false, ending := false }
  else s.setImmob n { x with pending := false, ending := x.on }

/-- Judge both slots. -/
def State.judgeImmobs (s : State) : State := (s.judgeImmob 0).judgeImmob 1

/-- A slot reaches OFF: a pending change takes effect, and an end does. -/
def State.immobAtOff (s : State) (n : Nat) : State :=
  let x := s.immobOf n
  if x.pending then s.immobilise n
  else if x.ending then s.setImmob n { x with on := false, ending := false } else s

/-- The checks of R453 and R454 on the 128 bytes of a token. -/
def State.tokenOk (s : State) (d : List Byte) : Bool :=
  rawField d 0 4 == 0x4E4B5444 && rawField d 4 2 == 1 && decide (rawField d 6 1 < 2) && decide (rawField d 7 1 < 4) &&
  (d.drop 8).take 16 == Config.moduleUid && rawField d 28 4 == 0 && leNat ((d.drop 48).take 16) == 0 &&
  Config.ecdsaOk (beBytes 64 (s.parN P.OPERATOR_KEY)) (Config.sha256 (d.take 64)) (d.drop 64) &&
  (match s.prot.tokenSeq with
   | some q => decide (q < rawField d 24 4)
   | none => true) && s.timeSynced

def tokenOf (d : List Byte) : Token :=
  ⟨rawField d 6 1 % 2 == 1, rawField d 7 1, rawField d 24 4, rawField d 32 8, rawField d 40 8⟩

def execDriveToken (n : Fin 64) (data : Option (List Byte)) (s : State) : Out :=
  .next (s.runDesc n.val ⟨0x23, [1], .any, true, 1, []⟩ (fun s w =>
    if rawLen w.raw ≠ 128 then s.finish n.val w.wid St.badField 0
    else match s.dataIn n.val w data with
      | none => s.finish n.val w.wid St.dataError 0
      | some d =>
        if !s.tokenOk d then
          let s := (s.setFlag F.PROT_INT_STATUS_TOKEN true).raise .TOKEN_REFUSED n.val scopeModule
          s.finish n.val w.wid St.tokenRefused 0
        else
          let (s, ok) := s.auditWrite (s.sessionRole n.val) 8 n.val 0x23 0 (digest4 d)
          if !ok then s.finish n.val w.wid St.stateRefused 0
          else
            let t := tokenOf d
            let s := { s with prot := { s.prot with token := some t, tokenSeq := some t.seq, resume := false } }
            let s := (s.setFlag F.PROT_INT_STATUS_TOKEN true).setFlag F.PROT_STATUS_TOKEN_HELD (!t.revoke)
            s.judgeImmobs.finish n.val w.wid St.ok t.expiry))

/-- Device time reaches the held token's EXPIRY (R455). -/
def execTokenExpiry (s : State) : Out :=
  match s.prot.token with
  | some t => .next (if t.expiry ≤ s.ts then s.judgeImmobs else s)
  | none => .next s

/-- Device time reaches the held token's NOT_BEFORE (R455). -/
def execTokenNotBefore (s : State) : Out :=
  match s.prot.token with
  | some t => .next (if t.notBefore ≤ s.ts then s.judgeImmobs else s)
  | none => .next s

/-- TOKEN_RESUME_T has passed without synchronisation (R455). -/
def execTokenResumeExpiry (s : State) : Out :=
  if s.prot.resume && s.elapsed s.prot.resumeSince (s.parN P.TOKEN_RESUME_T * secT) then
    .next ({ s with prot := { s.prot with resume := false } } : State).judgeImmobs
  else .next s

/-- The speed has stayed low for IMMOB_STANDSTILL_T (R456). -/
def execImmobStandstillExpiry (n : Fin 2) (s : State) : Out :=
  let x := s.immobOf n.val
  match x.lowSince with
  | some t => .next (if x.pending && s.elapsed t (s.parN P.IMMOB_STANDSTILL_T * msT) then s.immobilise n.val else s)
  | none => .next s

/-! ### Firmware images (R439, R440, R460) -/

/-- The MRAM offset of an image slot (R153). -/
def fwBase (slot : Nat) : Nat := if slot = 0 then 0x4000000 else 0x4800000

/-- Section k of a header: TYPE, OFFSET, LENGTH, HASH. -/
def fwSection (h : List Byte) (k : Nat) : List Byte := (h.drop (32 + 48 * k)).take 48

/-- Whether the header of an image has the form of R439. -/
def fwFormOk (h : List Byte) : Bool :=
  let n := rawField h 6 2
  let len := rawField h 16 4
  rawField h 0 4 == 0x4D525746 && rawField h 4 2 == 1 && decide (1 ≤ n) && decide (n ≤ 8) &&
  decide (rawField h 12 4 ≤ 64) && decide (512 ≤ len) && decide (len ≤ 0x800000) &&
  leNat ((h.drop 20).take 12) == 0 && leNat ((h.drop 416).take 32) == 0 &&
  (List.range n).all (fun k =>
    let x := fwSection h k
    decide (1 ≤ rawField x 0 1) && decide (rawField x 0 1 ≤ 6) && rawField x 1 3 == 0 &&
    (decide (rawField x 12 4 = 0) || (rawField x 0 1 != 4 && rawField x 0 1 != 6)) &&
    decide (512 ≤ rawField x 4 4) && decide (rawField x 4 4 + rawField x 8 4 ≤ len)) &&
  ((List.range n).filter (fun k => rawField (fwSection h k) 0 1 == 1)).length == 1 &&
  ((List.range n).filter (fun k => rawField (fwSection h k) 0 1 == 2)).length == 1

/-- Whether the maker's signature of the header passes. -/
def fwSigOk (h : List Byte) : Bool := Config.ecdsaOk Config.makerKey (Config.sha256 (h.take 448)) ((h.drop 448).take 64)

/-- Whether the HASH of section k passes over the bytes of the slot. -/
def State.fwHashOk (s : State) (slot : Nat) (h : List Byte) (k : Nat) : Bool :=
  let x := fwSection h k
  Config.sha256 (s.mramRead (fwBase slot + rawField x 4 4) (rawField x 8 4)) == (x.drop 16).take 32

/-- The header bytes of an image slot. -/
def State.fwHeader (s : State) (slot : Nat) : List Byte := s.mramRead (fwBase slot) 512

/-- Mark an image slot empty: its MAGIC is erased. -/
def State.fwErase (s : State) (slot : Nat) : State := s.mramWrite (fwBase slot) (leBytes 4 0)

/-- FW_UPDATE writes its image into the slot (R460); it is checked at FW_UPDATE_DONE. The running slot, a full reserved
audit ring and another bulk transfer refuse it before any write. -/
def execFwUpdate (n : Fin 64) (data : Option (List Byte)) (s : State) : Out :=
  .next (s.runDesc n.val ⟨0x24, [6], .roles [3], true, 2, []⟩ (fun s w =>
    let slot := rawTarget w.raw
    if s.bulk.isSome then s.finish n.val w.wid St.busy 0
    else if s.prot.running == some slot then s.finish n.val w.wid St.stateRefused 0
    else if rawLen w.raw < 512 || 0x800000 < rawLen w.raw then s.finish n.val w.wid St.badField 0
    else match s.dataIn n.val w data with
      | none => s.finish n.val w.wid St.dataError 0
      | some d =>
        let (s, ok) := s.auditWrite (s.sessionRole n.val) 5 n.val (rawField d 8 2) slot
          (digest4 (d.take (rawField d 16 4)))
        if !ok then s.finish n.val w.wid St.stateRefused 0
        else { s.mramWrite (fwBase slot) d with bulk := some ⟨.fwUpdate, n.val, w.wid, slot, [], 0, false, d.length⟩ }))

/-- The end of an update: the checks of R439 and R440 decide (R460). -/
def State.fwVerdict (s : State) (b : Bulk) : State :=
  let h := s.fwHeader b.target
  let cnt := rawField h 6 2
  if !fwFormOk h || decide (b.param < rawField h 16 4) then
    ((s.fwErase b.target).raise .FW_UPDATE_FAIL b.target scopeModule).finish b.pair b.wid St.badField 0
  else if !fwSigOk h || !(List.range cnt).all (s.fwHashOk b.target h) then
    ((s.fwErase b.target).raise .FW_UPDATE_FAIL b.target scopeModule).finish b.pair b.wid St.signatureRefused 0
  else if rawField h 12 4 < s.prot.rollback then
    ((s.fwErase b.target).raise .ROLLBACK_REFUSED b.target scopeModule).finish b.pair b.wid St.badField 0
  else
    let s := { s with prot := { s.prot with pendingSlot := some b.target, tries := 0 } }
    s.finish b.pair b.wid St.ok 0

def execFwUpdateDone (s : State) : Out :=
  match s.bulk with
  | some b =>
    if b.kind = .fwUpdate then
      .next (({ s with bulk := none } : State).setFlag F.PROT_INT_STATUS_FW_UPDATE true |>.fwVerdict b)
    else .next s
  | none => .next s

/-! ### Descriptors of the safety island under this chapter's rights (R391, R392, R398) -/

def execDischarge (n : Fin 64) (s : State) : Out :=
  .next (s.runDesc n.val ⟨0x16, [1], .drive, false, 1, [(24, 1), (25, 1)]⟩ (fun s w =>
    let br := rawField w.raw 24 1
    if br = 0 || 3 < br || 1 < rawField w.raw 25 1 then s.finish n.val w.wid St.badField 0
    else if !s.pdOn 1 then s.finish n.val w.wid St.stateRefused 0
    else
      let (s, st) := s.requestDischarge (br % 2 == 1) (br / 2 == 1) (rawField w.raw 25 1 == 1)
      s.finish n.val w.wid st 0))

def execResetLatch (n : Fin 64) (s : State) : Out :=
  .next (s.runDesc n.val ⟨0x17, [1], .roles [1, 2], false, 1, [(24, 4)]⟩ (fun s w =>
    let v := rawField w.raw 24 4
    if !s.pdOn 1 then s.finish n.val w.wid St.stateRefused 0
    else if v ≠ (s.island.resetCount + 1) % 2 ^ 32 then
      let s := (s.setFlag F.SAFETY_INT_STATUS_RESET_REFUSED true).raise .SAFE_RESET_REFUSED 255 scopeModule
      s.finish n.val w.wid St.counterRefused 0
    else
      let (s, ok) := s.auditWrite (s.sessionRole n.val) 9 n.val 0x17 0 (leBytes 4 v)
      if !ok then s.finish n.val w.wid St.stateRefused 0
      else
        let s := { s with island := { s.island with resetCount := v } }
        let s := if s.releasedThisMs then s else s.releaseLatch
        s.finish n.val w.wid St.ok 0))

/-- Whether both DC-link channels read below 60 V in the last housekeeping round (R398, R588). -/
def State.benchAllowed (s : State) : Bool :=
  [0, 1].all (fun b => s.flag F.HKEEP_VDC_VALID b && decide (s.fld F.HKEEP_VDC_MV b < 60000))

def execBenchMode (n : Fin 64) (s : State) : Out :=
  .next (s.runDesc n.val ⟨0x18, [1], .roles [2], false, 1, [(24, 1)]⟩ (fun s w =>
    let v := rawField w.raw 24 1
    if 1 < v then s.finish n.val w.wid St.badField 0
    else if !s.pdOn 1 || (v = 1 && !s.benchAllowed) then s.finish n.val w.wid St.stateRefused 0
    else
      let (s, ok) := s.auditWrite (s.sessionRole n.val) 11 n.val 0x18 0 (leBytes 4 v)
      if !ok then s.finish n.val w.wid St.stateRefused 0
      else ({ s with island := { s.island with bench := v == 1 } } : State).finish n.val w.wid St.ok 0))

/-- AUDIT_ACK (R459). -/
def execAuditAck (n : Fin 64) (s : State) : Out :=
  .next (s.runDesc n.val ⟨0x33, [6], .roles [1, 2, 3], false, 1, [(24, 4)]⟩ (fun s w =>
    let v := rawField w.raw 24 4
    let ok := match s.prot.audit.exported with
      | some e => decide (v ≤ e)
      | none => false
    if !ok then s.finish n.val w.wid St.badField 0
    else
      let (s, ok) := s.auditWrite (s.sessionRole n.val) 14 n.val 0x33 0 (leBytes 4 v) true
      if !ok then s.finish n.val w.wid St.stateRefused 0
      else
        let a := s.prot.audit
        (s.setAudit { a with unacked := a.unacked.filter (fun q => decide (v < q)) }).finish n.val w.wid St.ok 0))

end Sys2Proof.Machine
end

