-- ==== Sys2Proof/Machine/Rings.lean ====
section
/-! DEFINITION. Derrick: doorbells, fetching, the life of a ring pair, posted buffers, bulk streams, hosts and the PCIe
link (chapter 10). -/

namespace Sys2Proof.Machine

/-! ### Stopping a pair (R406, R421, R425) -/

/-- Each fetched descriptor that has not started completes with ABORTED, and each posted buffer with its bytes. -/
def State.ringDrain (s : State) (n : Nat) : State :=
  let s := ((s.ring n).work.filter (fun w => !w.started)).foldl (fun s w => s.finish n w.wid St.aborted 0) s
  let bufs := (s.ring n).bufs
  bufs.foldl (fun s b => s.completeBuf n b) (s.setRing n { s.ring n with bufs := [] })

/-- What a bulk transfer of a pair leaves when its pair or its host is gone (R425, R460): an export ends, an image still
being read or written is dropped; one already checked installs to its end. -/
def State.dropBulk (s : State) (p : Bulk → Bool) : State :=
  match s.bulk with
  | none => s
  | some b =>
    if !p b then s
    else match b.kind with
      | .atlasExport => { s with bulk := none }
      | .logExport => { s with bulk := none }
      | .fwUpdate => ({ s with bulk := none } : State).fwErase b.target
      | .bedrockImport =>
        if b.checked then s
        else (({ s with bulk := none } : State).setFlag F.ATLAS_MRAM_STATUS_IMPORT_BUSY false).raise .IMPORT_REFUSED
          b.target scopeModule

/-- The stop of an ON pair by disable: nothing further is fetched (R406). -/
def State.ringStopping (s : State) (n : Nat) : State := s.ringDrain n

def State.slotHost (s : State) (n : Nat) : SlotHost := s.slotHosts.at {} n
def State.setSlotHost (s : State) (n : Nat) (x : SlotHost) : State :=
  { s with slotHosts := s.slotHosts.setAt {} n x }

/-- The host-loss policy of a slot comes into force (R426): it is ON, takes ring commands, and has a commanding host. A
policy already in force continues (R432). A handover to an object that does not meet R517 acts as RAMP_ZERO. -/
def State.startPolicy (s : State) (n : Nat) : State :=
  let x := s.slotHost n
  if s.isOn .slot n && s.par P.CMD_SOURCE n == 0 && x.policy == 0 && !x.source then
    let pol := if s.parN P.HOST_LOSS_POLICY n = 1 ∧ s.canCmdOk n = false then 0 else s.parN P.HOST_LOSS_POLICY n
    s.setSlotHost n { x with policy := pol + 1, lossAt := s.now, holdT := s.parN P.HOLD_T n, due := pol == 0,
                             ramped := false, sourceDue := pol == 1, firstCan := false }
  else s

/-- The policies of every slot a host commands (R426). -/
def State.policiesOf (s : State) (h : Nat) : State :=
  [0, 1].foldl (fun s n => if (s.slotHost n).host == some h then s.startPolicy n else s) s

/-- Whether a host still has a DRIVE pair that is not OFF. -/
def State.hasDrivePair (s : State) (h : Nat) : Bool :=
  (List.range 64).any (fun k => s.rpHost k == h && s.rpDrive k && !s.isOff .ring k)

/-- A pair reaches OFF: its session closes, with the sessions it opened (R405, R449); its state is cleared; the last
DRIVE pair of a host starts the policies (R426). -/
def State.ringOff (s : State) (n : Nat) : State :=
  let s := s.closeSessions n
  let s := s.setRing n { tail := (s.ring n).tail, head := (s.ring n).head, compl := (s.ring n).compl,
                         phase := (s.ring n).phase, nextWid := (s.ring n).nextWid }
  let s := s.setNonce n none
  let s := s.dropBulk (fun b => b.pair == n)
  if s.rpDrive n && !s.hasDrivePair (s.rpHost n) then s.policiesOf (s.rpHost n) else s

/-- A pair's start sequence: both indices 0, the next completion phase 1 (R406). -/
def State.ringStart (s : State) (n : Nat) : State := s.setRing n { nextWid := (s.ring n).nextWid }

/-- Whether a host has a pair that is ON. -/
def State.hostPresent (s : State) (h : Nat) : Bool := (List.range 64).any (fun k => s.rpHost k == h && s.isOn .ring k)

/-- A tail outside the ring: RING_FORMAT, and the pair stops through its fault path (R407). -/
def State.ringBadTail (s : State) (n : Nat) : State :=
  ((s.raise .RING_FORMAT n scopeModule).ringFaultStop n 5).ringDrain n

/-- A new tail for an ON pair (R407). -/
def State.takeTail (s : State) (n tail : Nat) : State :=
  if s.rpSize n ≤ tail then s.ringBadTail n else s.setRing n { s.ring n with tail := tail }

/-- A pair reaches ON: its host is present again (R430, R435), and a doorbell that waited is taken (R407). -/
def State.ringOn (s : State) (n : Nat) : State :=
  let h := s.rpHost n
  let first := !(List.range 64).any (fun k => k != n && s.rpHost k == h && s.isOn .ring k)
  let s := s.setHost h { s.hostOf h with lost := false, lastDb := if first then s.now else (s.hostOf h).lastDb }
  let s := if h = 1 then s.setFlag F.DERRICK_HOST_PCIE_LOST false else s.setFlag F.DERRICK_HOST_LOCAL_LOST false
  let s := if h = 1 && first then s.setFlag F.DERRICK_INT_STATUS_PCIE_ATTACH true else s
  match (s.ring n).dbWaiting with
  | some t => (s.setRing n { s.ring n with dbWaiting := none }).takeTail n t
  | none => s

/-! ### Enable and disable (R406) -/

/-- Whether an enable is refused, with the CAUSE of RP_ERR: 1 unbound, 3 a LOCAL ring outside system SRAM, 4 LOG2_SIZE
out of range, 0 for none. RP_BASE is a multiple of 64 because bits 5 to 0 read 0. -/
def State.rpRefusal (s : State) (n : Nat) : Nat :=
  let size := s.rpSize n
  let a := s.rpBase n
  if s.rpClass n = 0 then 1
  else if s.fld F.DERRICK_RP_CFG_LOG2_SIZE n < 4 || 12 < s.fld F.DERRICK_RP_CFG_LOG2_SIZE n then 4
  else if !s.rpPcie n && !(decide (0x10000000 ≤ a) && decide (a + size * 80 ≤ 0x10800000)) then 3
  else 0

/-- Carry out an enable of a pair. -/
def State.rpEnable (s : State) (n : Nat) : State :=
  let c := s.rpRefusal n
  if c ≠ 0 then s.setFld F.DERRICK_RP_ERR_CAUSE c n
  else
    let was := (s.lc .ring n).state
    let s := s.updLc .ring n Lc.enable
    if was == .off then s.ringStart n else s

/-- Carry out a disable of a pair. -/
def State.rpDisable (s : State) (n : Nat) : State :=
  let was := (s.lc .ring n).state
  let s := s.updLc .ring n (Lc.disable FuncKind.ring.hasAbort)
  if was == .on then s.ringStopping n else s

/-- RING_ACCESS (R406, R407, R429). -/
def State.ringAccess (s : State) (n : Nat) : State :=
  (s.setFlag F.DERRICK_INT_STATUS_ACCESS true).raise .RING_ACCESS n scopeModule

/-- A write to a register of a ring pair: master 16 may not write those of LOCAL pairs (R429). -/
def State.onRingWrite (s : State) (m : Nat) (r : Reg) (n : Nat) (act : State → State) : State :=
  s.onWrite m r n (fun s => if m = 16 && !s.rpPcie n then s.ringAccess n else act s)

def execRpEnable (master : Fin 21) (n : Fin 64) (s : State) : Out :=
  .next (s.onRingWrite master.val .DERRICK_RP_CTRL n.val (fun s => s.rpEnable n.val))

def execRpDisable (master : Fin 21) (n : Fin 64) (s : State) : Out :=
  .next (s.onRingWrite master.val .DERRICK_RP_CTRL n.val (fun s => s.rpDisable n.val))

/-! ### Doorbells (R407, R408) -/

/-- Whether a master may write the doorbells of a pair. -/
def State.doorbellMaster (s : State) (m n : Nat) : Bool :=
  if s.rpPcie n then m == 16 else decide (8 ≤ m) && decide (m ≤ 11)

/-- The heartbeat of a doorbell write (R424). -/
def State.heartbeat (s : State) (n : Nat) : State :=
  let h := s.rpHost n
  s.setHost h { s.hostOf h with lastDb := s.now }

def execDbSqWrite (master : Fin 21) (n : Fin 64) (tail : Fin 4096) (s : State) : Out :=
  .next (s.onWrite master.val .DERRICK_DB_SQ n.val (fun s =>
    if !s.doorbellMaster master.val n.val then s.ringAccess n.val
    else
      let s := s.heartbeat n.val
      match (s.lc .ring n.val).state with
      | .on => s.takeTail n.val tail.val
      | .starting => s.setRing n.val { s.ring n.val with dbWaiting := some tail.val }
      | _ => s))

/-- Entries between two indices of a ring of `size`. -/
def ringDist (size a b : Nat) : Nat := (b + size - a % size) % size

def execDbCqWrite (master : Fin 21) (n : Fin 64) (head : Fin 4096) (s : State) : Out :=
  .next (s.onWrite master.val .DERRICK_DB_CQ n.val (fun s =>
    if !s.doorbellMaster master.val n.val then s.ringAccess n.val
    else
      let s := s.heartbeat n.val
      let r := s.ring n.val
      if s.isOn .ring n.val || s.isStopping .ring n.val then
        let size := s.rpSize n.val
        let d := ringDist size r.released head.val
        if head.val < size && d ≤ r.outstanding then
          s.setRing n.val { r with released := head.val, outstanding := r.outstanding - d }
        else s
      else s))

/-! ### Fetching (R408, R410, R411) -/

/-- Whether a pair has a pending descriptor and room for its completion (R408). -/
def State.canFetch (s : State) (n : Nat) : Bool :=
  let r := s.ring n
  s.isOn .ring n && !r.dmaErr && r.head != r.tail &&
  decide (r.work.length + r.bufs.length + r.outstanding + 2 ≤ s.rpSize n)

/-- Whether it is a pair's turn (R411): in each round COMMAND-class pairs come first, one descriptor per pair. -/
def State.myTurn (s : State) (n : Nat) : Bool :=
  let waiting := (List.range 64).filter (fun k => s.canFetch k && !s.served.contains k)
  let left := if waiting.isEmpty then (List.range 64).filter s.canFetch else waiting
  left.contains n && (s.rpClass n == 1 || !left.any (fun k => s.rpClass k == 1))

/-- Note that a pair has been served, beginning a new round when every pair with a descriptor had been. -/
def State.noteServed (s : State) (n : Nat) : State :=
  if (List.range 64).any (fun k => s.canFetch k && !s.served.contains k) then { s with served := s.served ++ [n] }
  else { s with served := [n] }

/-- A ring access to host memory failed or timed out: the pair stops through its fault path (R434). -/
def State.ringDmaErr (s : State) (n : Nat) : State := (s.raise .RING_DMA_ERR n scopeModule).ringFaultStop n 6

/-- Put a fetched descriptor into the pair's work. -/
def State.takeIn (s : State) (n : Nat) (raw : List Byte) : State :=
  let r := s.ring n
  s.setRing n { r with head := (r.head + 1) % s.rpSize n, nextWid := r.nextWid + 1,
                       work := r.work ++ [⟨r.nextWid, raw, false, none⟩] }

/-- A pair whose completion could not be written stops (R434). Else Derrick fetches its next descriptor: from system SRAM for LOCAL, from the bytes the host's memory answers
for PCIE. -/
def execDescriptorFetch (n : Fin 64) (host : List Byte) (s : State) : Out :=
  if s.isOn .ring n.val && (s.ring n.val).dmaErr then .next (s.ringDmaErr n.val)
  else if !(s.canFetch n.val && s.myTurn n.val) then .next s
  else
    let a := s.rpBase n.val + 64 * (s.ring n.val).head
    if !s.hostOk n.val a 64 false then .next (s.ringDmaErr n.val)
    else
      let raw := if s.rpPcie n.val then (host ++ List.replicate 64 0#8).take 64 else s.sysBytes a 64
      .next ((s.noteServed n.val).takeIn n.val raw)

/-- A reserved opcode, or one not allowed in the pair's class, completes with BAD_OPCODE (R415, R416). -/
def execReservedDescriptorOpcode (n : Fin 64) (s : State) : Out :=
  if !s.isOn .ring n.val then .next s
  else match (s.ring n.val).nextItem with
    | none => .next s
    | some w =>
      if s.opAllowed n.val (rawOpcode w.raw) || !(s.ring n.val).fenceOk w then .next s
      else .next (s.finish n.val w.wid St.badOpcode 0)

def execNopDescriptor (n : Fin 64) (s : State) : Out :=
  .next (s.runDesc n.val ⟨0x00, [], .any, false, 1, []⟩ (fun s w => s.finish n.val w.wid St.ok 0))

/-! ### Interrupts (R412) -/

def execIrqTimerExpiry (n : Fin 64) (s : State) : Out :=
  match (s.ring n.val).unsigSince with
  | some t =>
    let us := s.fld F.DERRICK_RP_CFG_IRQ_TIME n.val
    .next (if us ≠ 0 && s.elapsed t (us * usT) then s.signalPair n.val else s)
  | none => .next s

/-! ### Streams into host buffers (R420, R421) -/

/-- Write the records of a bulk export into the buffers of its pair, as far as they reach: it waits for buffers and is
never dropped. -/
def State.pumpRecs (n : Nat) : List (List Byte) → State → List (List Byte) × State
  | [], s => ([], s)
  | r :: t, s =>
    match (s.ring n).bufs with
    | [] => (r :: t, s)
    | b :: rest =>
      if b.used + r.length ≤ b.len then State.pumpRecs n t (s.putRecord n r).1
      else
        let s := (s.setRing n { s.ring n with bufs := rest }).completeBuf n b
        match rest with
        | [] => (r :: t, s)
        | b2 :: _ => if r.length ≤ b2.len then State.pumpRecs n t (s.putRecord n r).1 else (r :: t, s)

/-- Move the running export on. -/
def State.pumpBulk (s : State) : State :=
  match s.bulk with
  | none => s
  | some b =>
    if b.kind = .logExport || b.kind = .atlasExport then
      let (left, s) := State.pumpRecs b.pair b.queue s
      { s with bulk := some { b with queue := left } }
    else s

/-- RECV_BUF posts a buffer of 64 to 65,536 bytes, a multiple of 16 (R417). Its completion comes when it is filled or
flushed, so it leaves the ordered work of the pair (R410). -/
def execRecvBuf (n : Fin 64) (s : State) : Out :=
  .next (s.runDesc n.val ⟨0x01, [], .any, true, 1, []⟩ (fun s w =>
    let len := rawLen w.raw
    if len < 64 || 65536 < len || len % 16 ≠ 0 then s.finish n.val w.wid St.badField 0
    else if !s.hostOk n.val (rawAddr w.raw) len true then s.finish n.val w.wid St.dataError 0
    else
      let r := s.ring n.val
      let (work, s) := flushWork n.val (r.work.filter (fun v => v.wid != w.wid)) s
      let s := s.setRing n.val { s.ring n.val with
        work := work
        bufs := (s.ring n.val).bufs ++ [⟨w.wid, rawAddr w.raw, len, 0, 0, none, rawTag w.raw, rawFlags w.raw⟩] }
      s.pumpBulk))

/-- FLUSH_T after its first record a buffer is completed. -/
def execFlushTExpiry (n : Fin 64) (s : State) : Out :=
  match (s.ring n.val).bufs with
  | [] => .next s
  | b :: rest =>
    match b.firstAt with
    | some t =>
      if s.elapsed t (s.parN P.FLUSH_T * usT) then
        .next ((s.setRing n.val { s.ring n.val with bufs := rest }).completeBuf n.val b).pumpBulk
      else .next s
    | none => .next s

/-- The entries of a log from a SEQ on, oldest first: 0 the scree log, 1 the audit log. -/
def State.logEntries (s : State) (log frm count : Nat) : List (List Byte) :=
  let l := if log = 0 then (s.faults.scree.reverse.filter (fun e => decide (frm ≤ e.seq))).map ScreeEntry.bytes
    else ((s.prot.audit.index.filter (fun p => decide (frm ≤ p.1))).map (fun p => s.mramRead (0x5200000 + 32 * p.2) 32))
  if count = 0 then l else l.take count

def execLogExport (n : Fin 64) (s : State) : Out :=
  .next (s.runDesc n.val ⟨0x32, [6], .roles [1, 2, 3], false, 1, [(24, 1), (28, 4), (32, 4)]⟩ (fun s w =>
    let log := rawField w.raw 24 1
    if 1 < log then s.finish n.val w.wid St.badField 0
    else if s.bulk.isSome then s.finish n.val w.wid St.busy 0
    else if !s.mramReady then s.finish n.val w.wid St.stateRefused 0
    else
      let recs := s.logEntries log (rawField w.raw 28 4) (rawField w.raw 32 4)
      ({ s with bulk := some ⟨.logExport, n.val, w.wid, log, recs, recs.length, false,
          rawField w.raw 28 4 + recs.length⟩ } : State).pumpBulk))

/-- The last entry has been written: the export completes with the number of entries. A completed audit export sets what
AUDIT_ACK may acknowledge (R459). -/
def execLogExportDone (s : State) : Out :=
  match s.bulk with
  | some b =>
    if b.kind = .logExport && b.queue.isEmpty then
      let s := { s with bulk := none }
      let last := s.prot.audit.index.filter (fun p => decide (p.1 < b.param))
      let s := if b.target = 1 && b.result != 0 then
          s.setAudit { s.prot.audit with exported := (last.getLast?.map (fun p => p.1)) } else s
      .next (s.finish b.pair b.wid St.ok b.result)
    else .next s
  | none => .next s

/-! ### Host presence and loss (R424 to R427) -/

/-- A host is lost: HOST_LOST, and each of its ON pairs stops through the fault path, with no further access to its
memory (R424, R425). -/
def State.hostLost (s : State) (h : Nat) : State :=
  let s := s.setHost h { s.hostOf h with lost := true }
  let s := if h = 1 then (s.setFlag F.DERRICK_HOST_PCIE_LOST true).setFlag F.DERRICK_INT_STATUS_PCIE_LOST true
    else (s.setFlag F.DERRICK_HOST_LOCAL_LOST true).setFlag F.DERRICK_INT_STATUS_LOCAL_LOST true
  let s := s.raise .HOST_LOST h scopeModule
  let s := (List.range 64).foldl (fun s n =>
    if s.rpHost n == h && s.isOn .ring n then s.ringFaultStop n 7 else s) s
  let s := s.dropBulk (fun b => s.rpHost b.pair == h)
  s.policiesOf h

/-- A present host is lost. -/
def State.loseHost (s : State) (h : Nat) : State := if s.hostPresent h then s.hostLost h else s

/-- No doorbell from a host for HB_TIMEOUT: 0 LOCAL, 1 PCIE. -/
def execHbTimeoutExpiry (h : Fin 2) (s : State) : Out :=
  if s.hostPresent h.val && s.elapsed (s.hostOf h.val).lastDb (s.parN P.HB_TIMEOUT h.val * msT) then .next (s.hostLost h.val)
  else .next s

/-- HOLD_T after a host loss the policy acts as RAMP_ZERO; under HANDOVER_CAN, when no command has been accepted from
the CAN object, HANDOVER_FAIL is raised (R426). -/
def execHoldTExpiry (n : Fin 2) (s : State) : Out :=
  let x := s.slotHost n.val
  if !s.elapsed x.lossAt (x.holdT * msT) || x.ramped || x.due then .next s
  else if x.policy = 3 then
    .next (s.setSlotHost n.val { x with due := true })
  else if x.policy = 2 && !x.firstCan then
    .next ((s.setSlotHost n.val { x with due := true }).raise .HANDOVER_FAIL n.val
      (s.scopeSlot n.val))
  else .next s

/-! ### The PCIe link (R428 to R430) -/

/-- The link reaches DL_Active, with the negotiated speed and width. Sent while the link is active it stands for the
host's configuration writes (log entry): `bme` and `memEn` are what the host sets. -/
def execPcieLinkUp (speed : Fin 4) (wide bme memEn : Bool) (s : State) : Out :=
  if !(s.pdOn 9 && s.flag F.PCIE_CTRL_LINK_EN) then .next s
  else
    let up := s.flag F.PCIE_STATUS_DL_ACTIVE
    let s := if up then s else
      (((s.setFlag F.PCIE_STATUS_DL_ACTIVE true).setFld F.PCIE_STATUS_SPEED speed.val).setFld F.PCIE_STATUS_WIDTH
        (if wide then 2 else 1)).setFlag F.PCIE_INT_STATUS_LINK_UP true
    .next ((s.setFlag F.PCIE_STATUS_BME bme).setFlag F.PCIE_STATUS_MEM_EN memEn)

/-- The link leaves DL_Active: surprise removal when a PCIE pair was ON (R430). -/
def State.linkDown (s : State) : State :=
  if !s.flag F.PCIE_STATUS_DL_ACTIVE then s
  else
    let on := s.hostPresent 1
    let s := ((s.setFlag F.PCIE_STATUS_DL_ACTIVE false).setFlag F.PCIE_STATUS_BME false).setFlag F.PCIE_STATUS_MEM_EN false
    let s := (s.setFld F.PCIE_STATUS_SPEED 0).setFld F.PCIE_STATUS_WIDTH 0
    let s := s.setFlag F.PCIE_INT_STATUS_LINK_DOWN true
    let s := if on then s.setFlag F.PCIE_INT_STATUS_SURPRISE true else s
    let s := s.setFld F.PCIE_ERR_COUNT_LINK_DOWNS (min 255 (s.fld F.PCIE_ERR_COUNT_LINK_DOWNS + 1))
    s.loseHost 1

def execPcieLinkDown (s : State) : Out := .next s.linkDown

def execBmeCleared (s : State) : Out :=
  if s.flag F.PCIE_STATUS_BME then
    .next (((s.setFlag F.PCIE_STATUS_BME false).setFlag F.PCIE_INT_STATUS_BME_CLEARED true).loseHost 1)
  else .next s

/-- A ring or data access to PCIe host memory receives no completion within 1 ms (R434). -/
def execPcieCompletionTimeout (n : Fin 64) (s : State) : Out :=
  if s.rpPcie n.val && !s.isOff .ring n.val then .next (s.ringDmaErr n.val) else .next s

end Sys2Proof.Machine
end

