-- ==== Sys2Proof/Machine/Atlas.lean ====
section
/-! DEFINITION. The flux atlas at work (chapter 3): lookups, the window, dressing, commits, the MRAM die, bedrock images and exports. -/

namespace Sys2Proof.Machine

def State.setNv (s : State) (x : AtlasNv) : State := { s with atlasNv := x }
def State.setAtlC (s : State) (x : AtlasCommon) : State := { s with atlasC := x }
def State.fenced (s : State) : Bool := s.flag F.ATLAS_MRAM_STATUS_FENCED

/-! ### Lookups of a running slot (R128, R131, R132, R135, R139) -/

/-- A lookup for a slot: its result, and what it leaves. -/
def State.atlasLookup (s : State) (n : Nat) (id iq : Int) (th : Nat) (tm : Int) : Looked × State :=
  if !s.atlasServes n then ({ flags := 16 }, s.raise .ATLAS_UNAVAIL n (s.scopeSlot n))
  else
    let hit := s.isHit n id iq th tm
    let r := s.lookAtlas n id iq th tm
    let a := s.atl n
    let edge := bits r.flags 1 1 == 1
    let s := s.setAtl n { a with
      nowD := id, nowQ := iq, theta := th, tmag := tm, looked := true
      coarseSince := if hit then none else some (a.coarseSince.getD s.now)
      edgeSeen := a.edgeSeen || (edge && s.isOn .slot n) }
    let s := if hit then (s.setFld F.ATLAS_LOOKUP_HIT_COUNT (s.fld F.ATLAS_LOOKUP_HIT_COUNT n + 1) n).cease .WINDOW_STARVED n
      else s.setFld F.ATLAS_LOOKUP_COARSE_COUNT (s.fld F.ATLAS_LOOKUP_COARSE_COUNT n + 1) n
    let s := if bits r.flags 2 2 == 1 && s.isOn .slot n then s.raise .STRATA_CLAMP n (s.scopeSlot n) else s
    let s := if edge && s.isOn .slot n && !a.edgeSeen then s.raise .ATLAS_EDGE n (s.scopeSlot n) else s
    (r, s)

/-- Whether the prefetcher has a transfer queued. -/
def State.prefetchIdle (s : State) : Bool := [0, 1].all (fun n => (s.atl n).fillQ.isEmpty && (s.atl n).halfQ.isEmpty)

/-- The seam: the difference of window and coarse values at a slot's operating point (R133). -/
def State.seamCheck (s : State) (n : Nat) : State :=
  let a := s.atl n
  if !(s.isOn .slot n && a.looked && s.atlasServes n && s.prefetchIdle && s.isHit n a.nowD a.nowQ a.theta a.tmag) then s
  else
    let w := s.lookWindow n a.nowD a.nowQ a.theta a.tmag
    let c := s.lookCoarse n a.nowD a.nowQ a.theta a.tmag
    let s := s.setFld F.ATLAS_SEAM_MAX_SEAM_PSI_Q (max (s.fld F.ATLAS_SEAM_MAX_SEAM_PSI_Q n) (w.psiQ - c.psiQ).natAbs) n
    s.setFld F.ATLAS_SEAM_MAX_SEAM_PSI_D (max (s.fld F.ATLAS_SEAM_MAX_SEAM_PSI_D n) (w.psiD - c.psiD).natAbs) n

def execSeamCheck (s : State) : Out := .next ((s.seamCheck 0).seamCheck 1)

/-- WINDOW_STARVED: COARSE_WARN_T of COARSE lookups without a hit (R139). -/
def execWindowStarvedTimer (n : Fin 2) (s : State) : Out :=
  match (s.atl n.val).coarseSince with
  | some t =>
    .next (if s.isOn .slot n.val && s.elapsed t (s.parN P.COARSE_WARN_T n.val * msT) && !s.faultActive .WINDOW_STARVED n.val then
      (s.setFlag (if n.val = 0 then F.ATLAS_INT_STATUS_STARVED0 else F.ATLAS_INT_STATUS_STARVED1) true).raise .WINDOW_STARVED n.val
        (s.scopeSlot n.val) 0 none true
    else s)
  | none => .next s

/-! ### Writing to MRAM: counters, commits, spill (R148 to R151, R159) -/

/-- The bytes of a commit block as the window holds them. -/
def State.windowBlock (s : State) (n : Nat) (g : Geo) (d q st : Nat) : List Byte := Memory.read s.mem (g.windowAddr n d q 0 st) (8 * g.nth)

/-- Write a block of a slot's atlas and count the write (R149, R153, R159). -/
def State.writeBlock (s : State) (n blk : Nat) (l : List Byte) : State :=
  let off := s.atlasBase n + l.length * blk
  let k := off / 512
  let c := s.atlasNv.writes.at 0 k + 1
  let s := (s.mramWrite off l).setNv { s.atlasNv with writes := s.atlasNv.writes.setAt 0 k c }
  let s := if s.fld F.ATLAS_WEAR_MAX_MAX_WRITES < c then
      (s.setFld F.ATLAS_WEAR_MAX_MAX_WRITES c).setFld F.ATLAS_WEAR_MAX_BLOCK_BLOCK k else s
  if c = s.parN P.WEAR_WARN then (s.setFlag F.ATLAS_INT_STATUS_WEAR true).raise .WEAR_LIMIT n scopeModule else s

/-- The place of a spilled block. -/
def State.spillPlace (s : State) (n blk : Nat) : Option Nat := (s.atlasC.spill.find? (fun e => e.2 == some (n, blk))).map (·.1)

/-- The block's present content: in the spill buffer, or in the window. -/
def State.blockBytes (s : State) (n blk : Nat) : List Byte :=
  let g := s.geo n
  let (d, q, st) := g.ofBlock blk
  match s.spillPlace n blk with
  | some k => Memory.read s.mem (spillBase k) (8 * g.nth)
  | none => s.windowBlock n g d q st

/-- Whether a block may be committed (R149), or is queued for rewrite (R156). -/
def State.commitDue (s : State) (n blk : Nat) : Bool :=
  let a := s.atl n
  a.rewrite.contains blk ||
  (decide (s.parN P.COMMIT_DELTA n ≤ a.drift.at 0 blk) && decide (a.last.at 0 blk + s.parN P.COMMIT_MIN_T n ≤ s.ptime))

/-- Commit a block: its copy is written, DRIFT starts from 0, a place in the spill buffer becomes free. -/
def State.commitBlock (s : State) (n blk : Nat) : State :=
  let l := s.blockBytes n blk
  let place := s.spillPlace n blk
  let s := s.writeBlock n blk l
  let a := s.atl n
  let s := s.setAtl n { a with drift := a.drift.setAt 0 blk 0, last := a.last.setAt 0 blk s.ptime, rewrite := a.rewrite.filter (· != blk) }
  let s := s.setNv { s.atlasNv with commits := s.atlasNv.commits.setAt 0 n (s.atlasNv.commits.at 0 n + 1) }
  let s := s.setFld F.ATLAS_COMMIT_COUNT_COUNT (s.fld F.ATLAS_COMMIT_COUNT_COUNT n + 1) n
  match place with
  | some k => s.setAtlC { s.atlasC with spill := s.atlasC.spill.setAt none k none }
  | none => s

/-- Forget a block's drift. -/
def State.forgetBlock (s : State) (n blk : Nat) : State :=
  let a := s.atl n
  s.setAtl n { a with drift := a.drift.setAt 0 blk 0, last := a.last.setAt 0 blk 0, rewrite := a.rewrite.filter (· != blk) }

/-- The spilled block of least DRIFT, the lowest place first. -/
def State.leastSpilled (s : State) : Option (Nat × Nat × Nat) :=
  s.atlasC.spill.foldl (fun best e =>
    match e.2, best with
    | some (n, b), none => some (e.1, n, b)
    | some (n, b), some (k, m, c) => if (s.atl n).drift.at 0 b < (s.atl m).drift.at 0 c then some (e.1, n, b) else some (k, m, c)
    | none, x => x) none

/-- Put a block of the window into the spill buffer (R150). -/
def State.spillBlock (s : State) (n blk : Nat) (l : List Byte) : State :=
  let put (s : State) (k : Nat) : State :=
    (s.sysWrite (spillBase k) l).setAtlC { s.atlasC with spill := s.atlasC.spill.setAt none k (some (n, blk)) }
  match (List.range 1536).find? (fun k => (s.atlasC.spill.at none k).isNone) with
  | some k => put s k
  | none =>
    match s.leastSpilled with
    | some (k, m, b) =>
      let s := (s.forgetBlock m b).bump F.ATLAS_LOSS_COUNT_SPILL_DROP m
      (put (s.setFlag F.ATLAS_INT_STATUS_SPILL_DROP true) k).raise .DRESS_LOSS m (s.scopeSlot m)
    | none => s

/-- A changed block leaves the window (R150). After fencing nothing is committed or spilled (R154). -/
def State.evictBlock (s : State) (n : Nat) (g : Geo) (d q st : Nat) : State :=
  let blk := g.block d q st
  if s.fenced then s
  else if s.commitDue n blk then s.commitBlock n blk
  else if 0 < (s.atl n).drift.at 0 blk then s.spillBlock n blk (s.windowBlock n g d q st)
  else s

/-- The 64 (d, q) of a tile. -/
def tilePoints (td tq : Nat) : List (Nat × Nat) := (List.range 64).map (fun k => (8 * td + k / 8, 8 * tq + k % 8))

/-- A half of a window position is marked absent, its changed blocks committed or spilled (R137). -/
def State.clearHalf (s : State) (n pos half : Nat) : State :=
  let a := s.atl n
  match a.tiles.at none (2 * pos + half) with
  | none => s
  | some (td, tq, st) =>
    let g := s.geo n
    let s := s.setAtl n { a with tiles := a.tiles.setAt none (2 * pos + half) none }
    (tilePoints td tq).foldl (fun s p => s.evictBlock n g p.1 p.2 st) s

/-! ### Filling tiles (R137, R138, R156) -/

/-- One node read from MRAM with `bad` naming the words found uncorrectable: such a node is replaced by its bedrock value. -/
def State.readNode (s : State) (n : Nat) (g : Geo) (bad : List Nat) (d q t st : Nat) : Node :=
  if bad.contains (s.atlasBase n + 8 * g.index d q t st) then
    let b := s.bedrockAt n d q t st
    ⟨b.psiD, b.psiQ, b.tau, 0, 0⟩
  else s.fullNode n g d q t st

/-- Count the words found in error, 1 or 2 bits corrected, 3 not (R154, R156, R167). -/
def State.countWords (s : State) (errs : List (Nat × Nat)) : State :=
  let cor := (errs.filter (fun e => e.2 == 1 || e.2 == 2)).length
  let unc := (errs.filter (fun e => decide (3 ≤ e.2))).length
  let s := s.bump F.ATLAS_ECC_COUNT_CORR 0 0 cor
  if unc = 0 then s else (s.bump F.ATLAS_ECC_COUNT_UNCORR 0 0 unc).setFlag F.ATLAS_INT_STATUS_UNCORR true

/-- Load one commit block into the window, from the spill buffer where it is held there, else from MRAM. -/
def State.fillBlock (s : State) (n : Nat) (g : Geo) (bad : List Nat) (d q st : Nat) : State :=
  let blk := g.block d q st
  let at_ := g.windowAddr n d q 0 st
  match s.spillPlace n blk with
  | some k =>
    (s.sysWrite at_ (Memory.read s.mem (spillBase k) (8 * g.nth))).setAtlC { s.atlasC with spill := s.atlasC.spill.setAt none k none }
  | none =>
    let off := s.atlasBase n + 8 * g.index d q 0 st
    let hurt := bad.any (fun w => decide (off ≤ w) && decide (w < off + 8 * g.nth))
    let l := (List.range g.nth).flatMap (fun t => (s.readNode n g bad d q t st).bytes)
    let a := s.atl n
    let s := s.setAtl n { a with drift := a.drift.setAt 0 blk 0, last := a.last.setAt 0 blk s.ptime,
                                 rewrite := if hurt then a.rewrite ++ [blk] else a.rewrite }
    s.sysWrite at_ l

/-- Load a half-tile and mark it present. -/
def State.fillHalf (s : State) (n : Nat) (bad : List Nat) (td tq st : Nat) : State :=
  let g := s.geo n
  let s := (tilePoints td tq).foldl (fun s p => s.fillBlock n g bad p.1 p.2 st) s
  let a := s.atl n
  s.setAtl n { a with tiles := a.tiles.setAt none (2 * tilePos td tq + st % 2) (some (td, tq, st)) }

def badWords (errs : List (Nat × Nat)) : List Nat := (errs.filter (fun e => decide (3 ≤ e.2))).map (·.1)

/-- Uncorrectable atlas nodes read in a fill raise ATLAS_NODE_UNCORR (R156). -/
def State.noteNodes (s : State) (n : Nat) (errs : List (Nat × Nat)) : State :=
  match badWords errs with
  | [] => s
  | w :: _ => s.raise .ATLAS_NODE_UNCORR n (s.scopeSlot n) w

/-- The next tile of a move: its position is marked absent as its fill begins. -/
def State.beginFill (s : State) (n : Nat) : State :=
  match (s.atl n).fillQ with
  | [] => s
  | (td, tq) :: _ => (s.clearHalf n (tilePos td tq) 0).clearHalf n (tilePos td tq) 1

/-- A tile of the move has been filled; `errs` are the words found in error, by MRAM offset and number of bits. -/
def execTileFillDone (n : Fin 2) (errs : List (Nat × Nat)) (s : State) : Out :=
  match (s.atl n.val).fillQ with
  | [] => .next s
  | (td, tq) :: rest =>
    if !s.mramReady then .next s
    else
      let lo := (s.atl n.val).sLo
      let s := (s.setAtl n.val { s.atl n.val with fillQ := rest }).countWords errs
      let s := (s.fillHalf n.val (badWords errs) td tq lo).fillHalf n.val (badWords errs) td tq (lo + 1)
      .next ((s.noteNodes n.val errs).beginFill n.val)

/-- A half-tile of the arriving stratum has been loaded. -/
def execStrataReloadDone (n : Fin 2) (errs : List (Nat × Nat)) (s : State) : Out :=
  match (s.atl n.val).halfQ with
  | [] => .next s
  | (td, tq, st) :: rest =>
    if !s.mramReady then .next s
    else
      let s := (s.setAtl n.val { s.atl n.val with halfQ := rest }).countWords errs
      .next ((s.fillHalf n.val (badWords errs) td tq st).noteNodes n.val errs)

/-! ### Where the window lies (R127, R135 to R138) -/

/-- The window's tiles per axis. -/
def Geo.winD (g : Geo) : Nat := min 4 (g.nd / 8)
def Geo.winQ (g : Geo) : Nat := min 4 (g.nq / 8)

/-- The tiles of a window origin. -/
def Geo.tilesAt (g : Geo) (td0 tq0 : Nat) : List (Nat × Nat) :=
  (List.range g.winD).flatMap (fun i => (List.range g.winQ).map (fun k => (td0 + i, tq0 + k)))

/-- The origin for a lead point, in LSB from the axis origin. -/
def originFor (lead : Int) (step n : Nat) : Nat :=
  if n / 8 ≤ 4 then 0 else (clampI 0 (n / 8 - 4 : Nat) (roundUpHalf lead (8 * step) - 2)).toNat

/-- Whether a point of an axis asks for a move: outside the window, or less than PF_MARGIN points from an edge that is no edge of the grid. -/
def edgeNear (x : Int) (step n t0 w margin : Nat) : Bool :=
  let lo : Int := (8 * t0 * step : Nat)
  let hi : Int := ((8 * (t0 + w) - 1) * step : Nat)
  x < lo || hi < x || (t0 != 0 && decide (x - lo < (margin * step : Nat))) ||
  (8 * (t0 + w) != n && decide (hi - x < (margin * step : Nat)))

/-- The decision of a reference step (R136): the lead point, whether to move, the new origin, and the tiles queued nearest first. -/
def State.prefetch (s : State) (n : Nat) : State :=
  let a := s.atl n
  let g := s.geo n
  if !(s.atlasServes n && a.looked) || s.fenced then s
  else
    let pd := a.nowD - g.dMin
    let pq := a.nowQ - g.qMin
    let (td, tq) := match a.target with
      | some (x, y) => (x - g.dMin, y - g.qMin)
      | none => (pd, pq)
    let ld := pd + clampI (-(8 * g.dStep : Nat)) (8 * g.dStep : Nat) (td - pd)
    let lq := pq + clampI (-(8 * g.qStep : Nat)) (8 * g.qStep : Nat) (tq - pq)
    let m := s.parN P.PF_MARGIN n
    let need := edgeNear pd g.dStep g.nd a.td0 g.winD m || edgeNear ld g.dStep g.nd a.td0 g.winD m ||
      edgeNear pq g.qStep g.nq a.tq0 g.winQ m || edgeNear lq g.qStep g.nq a.tq0 g.winQ m
    let d0 := originFor ld g.dStep g.nd
    let q0 := originFor lq g.qStep g.nq
    if !need || (d0 = a.td0 && q0 = a.tq0) then s
    else
      let missing := (g.tilesAt d0 q0).filter (fun t =>
        !(a.tiles.at none (2 * tilePos t.1 t.2 + a.sLo % 2) == some (t.1, t.2, a.sLo) &&
          a.tiles.at none (2 * tilePos t.1 t.2 + (a.sLo + 1) % 2) == some (t.1, t.2, a.sLo + 1)))
      let dist (t : Nat × Nat) : Nat :=
        (2 * pd - ((2 * (8 * t.1) + 7) * g.dStep : Nat)).natAbs * g.qStep + (2 * pq - ((2 * (8 * t.2) + 7) * g.qStep : Nat)).natAbs * g.dStep
      let order := missing.foldl (fun l t =>
        (l.takeWhile (fun u => decide (dist u ≤ dist t))) ++ t :: (l.dropWhile (fun u => decide (dist u ≤ dist t)))) []
      (s.setAtl n { a with td0 := d0, tq0 := q0, fillQ := order, halfQ := a.halfQ.filter (fun h => (g.tilesAt d0 q0).contains (h.1, h.2.1) &&
        !order.contains (h.1, h.2.1)) }).beginFill n

/-- The stratum pair for a magnet temperature (R138). -/
def Geo.pairFor (g : Geo) (tm : Int) : Nat := (g.stratumAt tm).1

/-- T_MAG has left the pair: the half-tiles of the departing stratum are reloaded with the arriving one. -/
def State.strataCheck (s : State) (n : Nat) (tm : Int) : State :=
  let a := s.atl n
  let g := s.geo n
  let lo := g.pairFor tm
  if !(s.pdOn 5 && a.window) || s.fenced || lo = a.sLo then s
  else
    let s := s.setAtl n { a with sLo := lo }
    let tiles := (g.tilesAt a.td0 a.tq0).filter (fun t => !a.fillQ.contains t)
    let want := tiles.flatMap (fun t => [lo, lo + 1].filterMap (fun st =>
      if a.tiles.at none (2 * tilePos t.1 t.2 + st % 2) == some (t.1, t.2, st) then none else some (t.1, t.2, st)))
    let s := want.foldl (fun s h => s.clearHalf n (tilePos h.1 h.2.1) (h.2.2 % 2)) s
    s.setAtl n { s.atl n with halfQ := want }

/-- Steps 4 and 5 of the start-up of the atlas for a slot: the coarse atlas from the full one, and the window around zero current. -/
def State.atlasLoad (s : State) (n : Nat) : State :=
  if !s.hasGeo n then s
  else
    let g := s.geo n
    let c := g.coarse
    let nodes := (List.range c.ns).flatMap (fun st => (List.range c.nd).flatMap (fun d => (List.range c.nq).flatMap (fun q =>
      (List.range c.nth).flatMap (fun t => (s.fullNode n g (4 * d) (4 * q) (8 * t) st).bytes))))
    let s := s.sysWrite (coarseBase n) nodes
    let lo := g.pairFor (s.fldS F.HKEEP_TMAG_TEMP n)
    let d0 := originFor (-g.dMin) g.dStep g.nd
    let q0 := originFor (-g.qMin) g.qStep g.nq
    let s := s.setAtl n { s.atl n with td0 := d0, tq0 := q0, sLo := lo, tiles := [], fillQ := [], halfQ := [], coarse := true, window := true,
                                             drift := [], last := [], rewrite := [] }
    (g.tilesAt d0 q0).foldl (fun s t => (s.fillHalf n [] t.1 t.2 lo).fillHalf n [] t.1 t.2 (lo + 1)) s

/-! ### Dressing (R140 to R145) -/

/-- PUBL to box 0: into the FIFO of 64, or dropped when it is full (R142). -/
def State.dressPush (s : State) (n : Nat) (rec : List Byte) : State :=
  let a := s.atl n
  if 64 ≤ a.fifo.length then s.setFld F.ATLAS_DRESS_DROP_RATE (s.fld F.ATLAS_DRESS_DROP_RATE n + 1) n
  else s.setAtl n { a with fifo := a.fifo ++ [rec] }

/-- The rate credit at the start of a 1 ms window of device time (R15, R142). -/
def execDressCreditWindow (n : Fin 2) (s : State) : Out :=
  let a := s.atl n.val
  let w := s.ts / 1000000 + 1
  if w = a.creditAt || !s.isOn .dressing n.val then .next s
  else
    let r := s.parN P.DRESS_RATE n.val
    .next (s.setAtl n.val { a with credit := min (a.credit + r) (r + 999), creditAt := w })

/-- The bits of a byte in reverse order. -/
def bitreverse8 (x : Nat) : Nat := (List.range 8).foldl (fun a k => a + bits x k k * 2 ^ (7 - k)) 0

/-- The VISITS code after one more visit (R144). -/
def visitsNext (v useq : Nat) : Nat :=
  if v < 8 then v + 1 else if useq % 2 ^ (v / 8 - 1) = 0 then min 255 (v + 1) else v

/-- Δψ and Δτ in LSB. -/
def State.dPsi (s : State) (n : Nat) : Int := roundUpHalf (s.par P.TRUST n * 32768) 1000
def State.dTau (s : State) (n : Nat) : Int := roundUpHalf (s.par P.TRUST_TAU n * 32768) 1000

/-- One quantity of a corner after an update (R143): `num / den` is g. -/
def blend (old e num den b delta : Int) : Int := clampI (b - delta) (b + delta) (sat16 (old + sat16 (roundEven (num * e) den.toNat)))

/-- Update one corner; answers the largest change (R143, R144, R148). -/
def State.dressCorner (s : State) (n : Nat) (g : Geo) (l x : Looked) (quality useq : Nat) (visit : Bool) (c : Corner) : State × Nat :=
  let o := s.windowNode n g c.d c.q c.t c.st
  let b := s.bedrockAt n c.d c.q c.t c.st
  let num := c.w * quality
  let den := (16 * s.par P.DRESS_PRIOR n + 16 * o.conf) * (32768 * 255) + num
  let pd := blend o.psiD (x.psiD - l.psiD) num den b.psiD (s.dPsi n)
  let pq := blend o.psiQ (x.psiQ - l.psiQ) num den b.psiQ (s.dPsi n)
  let ta := if s.par P.TAU_DRESS n = 1 then blend o.tau (x.tau - l.tau) num den b.tau (s.dTau n) else o.tau
  let unit : Int := 16 * 32768 * 255
  let conf := min 255 ((o.conf : Int) + (num * 256 + (bitreverse8 (useq % 256) : Nat) * unit) / (unit * 256)).toNat
  let y : Node := ⟨pd, pq, ta, conf, if visit then visitsNext o.visits useq else o.visits⟩
  let s := s.sysWrite (g.windowAddr n c.d c.q c.t c.st) y.bytes
  let s : State := if c.d % 4 = 0 ∧ c.q % 4 = 0 ∧ c.t % 8 = 0 then
      s.sysWrite (coarseBase n + 8 * g.coarse.index (c.d / 4) (c.q / 4) (c.t / 8) c.st) y.bytes else s
  (s, max (max (pd - o.psiD).natAbs (pq - o.psiQ).natAbs) (ta - o.tau).natAbs)

/-- The corner whose VISITS count: the largest weight, on a tie the lowest node index. -/
def heaviest (g : Geo) : List Corner → Option Corner
  | [] => none
  | c :: t =>
    match heaviest g t with
    | none => some c
    | some b => if c.w > b.w ∨ (c.w = b.w ∧ g.index c.d c.q c.t c.st < g.index b.d b.q b.t b.st) then some c else some b

/-- An accepted publication moves the corners of its cell and their blocks' DRIFT. -/
def State.dressUpdate (s : State) (n : Nat) (id iq : Int) (th : Nat) (tm : Int) (x : Looked) (quality : Nat) : State :=
  let g := s.geo n
  let cs := (g.corners id iq th tm).1
  let l := s.lookWindow n id iq th tm
  let useq := s.fld F.ATLAS_USEQ_USEQ n
  let top := heaviest g cs
  let (s, moved) := cs.foldl (fun (p : State × List (Nat × Nat)) c =>
    let (s, m) := p.1.dressCorner n g l x quality useq (top == some c) c
    (s, p.2 ++ [(g.block c.d c.q c.st, m)])) (s, [])
  let blocks := (moved.map (·.1)).foldl (fun l b => if l.contains b then l else l ++ [b]) []
  blocks.foldl (fun s b =>
    let m := (moved.filter (fun p => p.1 == b)).foldl (fun a p => max a p.2) 0
    let a := s.atl n
    s.setAtl n { a with drift := a.drift.setAt 0 b (min 65535 (a.drift.at 0 b + m)) }) s

/-- Count a discarded publication. -/
def State.dressDrop (s : State) (f : Fld) (n : Nat) : State := s.setFld f (s.fld f n + 1) n

/-- The screening of a publication in the order of R142, and the update. -/
def State.dressScreen (s : State) (n : Nat) (r : List Byte) : State :=
  let i16 (o : Nat) : Int := rawFieldS r o 2
  let fl := rawField r 25 1
  let q := rawField r 24 1
  let id := i16 8
  let iq := i16 10
  let th := rawField r 12 2
  let tm := i16 16
  let sensing := s.faults.active.any (fun (e : ActiveFault) => e.active && decide (1 ≤ e.cls) && e.scope.hasSlot n && (e.name.code / 256 == 7 || e.name.code / 256 == 8))
  if bits fl 7 7 = 1 then s.setAtl n { s.atl n with target := some (id, iq) }
  else if !(s.isOn .dressing n && s.isOn .slot n) then s.dressDrop F.ATLAS_DRESS_DROP_OTHER n
  else if bits fl 0 0 = 0 then s.dressDrop F.ATLAS_DRESS_DROP_UNSTEADY n
  else if bits fl 1 1 = 1 || bits fl 3 3 = 1 || q = 0 then s.dressDrop F.ATLAS_DRESS_DROP_OTHER n
  else if s.parN P.POLE_PAIRS n * (i16 14).natAbs * s.parN P.W_BASE n < s.parN P.DRESS_WMIN n * 60 * 32768 then
    s.dressDrop F.ATLAS_DRESS_DROP_OTHER n
  else if sensing then s.dressDrop F.ATLAS_DRESS_DROP_OTHER n
  else if !s.isHit n id iq th tm then s.dressDrop F.ATLAS_DRESS_DROP_OUTSIDE n
  else if (s.atl n).credit < 1000 then s.dressDrop F.ATLAS_DRESS_DROP_RATE n
  else
    let s := s.setAtl n { s.atl n with credit := (s.atl n).credit - 1000 }
    let s := s.setFld F.ATLAS_USEQ_USEQ (s.fld F.ATLAS_USEQ_USEQ n + 1) n
    s.dressUpdate n id iq th tm { psiD := i16 18, psiQ := i16 20, tau := i16 22 } q

/-- The dressing unit takes the oldest publication. -/
def execDressPublication (n : Fin 2) (s : State) : Out :=
  match (s.atl n.val).fifo with
  | [] => .next s
  | r :: rest =>
    if !s.pdOn 5 then .next s
    else .next ((s.setAtl n.val { s.atl n.val with fifo := rest }).dressScreen n.val r)

/-- The blocks of a slot with changes, in ascending order. -/
def State.changedBlocks (s : State) (n : Nat) : List Nat :=
  let a := s.atl n
  (a.drift.map (·.1)) ++ a.rewrite.filter (fun b => a.drift.at 0 b = 0)

/-- The committer takes the slot's eligible block of lowest index (R149). -/
def execCommitBlock (n : Fin 2) (s : State) : Out :=
  if !s.mramReady then .next s
  else
    match (s.changedBlocks n.val).filter (s.commitDue n.val) with
    | [] => .next s
    | b :: t => .next (s.commitBlock n.val (t.foldl min b))

/-- The stop sequence of dressing (R140): eligible blocks are committed, the remaining changes discarded and the committed content read again. -/
def State.dressStop (s : State) (n : Nat) : State :=
  let blocks := s.changedBlocks n
  let s := if s.mramReady then (blocks.filter (s.commitDue n)).foldl (fun s b => s.commitBlock n b) s else s
  let rest := (s.changedBlocks n).filter (fun b => decide (0 < (s.atl n).drift.at 0 b))
  if rest.isEmpty then s
  else
    let g := s.geo n
    let s := s.bump F.ATLAS_LOSS_COUNT_STOP_DISCARD n 0 rest.length
    let s := rest.foldl (fun s b =>
      let (d, q, st) := g.ofBlock b
      let old := Memory.read s.mram (s.atlasBase n + 8 * g.nth * b) (8 * g.nth)
      let s := match s.spillPlace n b with
        | some k => s.setAtlC { s.atlasC with spill := s.atlasC.spill.setAt none k none }
        | none => if s.mramReady then s.sysWrite (g.windowAddr n d q 0 st) old else s
      let s := if s.mramReady && d % 4 == 0 && q % 4 == 0 then
          s.sysWrite (coarseBase n + 8 * g.coarse.index (d / 4) (q / 4) 0 st) ((List.range g.coarse.nth).flatMap (fun t => (old.drop (64 * t)).take 8))
        else s
      s.forgetBlock n b) s
    s.raise .DRESS_LOSS n (s.scopeSlot n)

/-- Dressing reaches ON with a credit of 0. -/
def State.dressOn (s : State) (n : Nat) : State := s.setAtl n { s.atl n with credit := 0 }

/-! ### The MRAM die (R154, R157, R158) -/

/-- The link check has failed: the die is fenced until the next package reset. -/
def State.mramFence (s : State) : State :=
  ((s.setFlag F.ATLAS_MRAM_STATUS_FENCED true).setFlag F.ATLAS_INT_STATUS_FENCED true).raise .MRAM_FENCED 255 scopeModule 0 none true

/-- An address-parity error: four within 1 s fail the link check. -/
def execMramAddressParityError (s : State) : Out :=
  if !(s.pdOn 5 && s.flag F.ATLAS_MRAM_STATUS_TRAINED) || s.fenced then .next s
  else
    let times := (s.atlasC.parity.filter (fun t => !s.elapsed t secT)) ++ [s.now]
    let s := (s.bump F.ATLAS_MRAM_STATUS_PARITY_CNT).setAtlC { s.atlasC with parity := times }
    .next (if 4 ≤ times.length then s.mramFence else s)

/-- The scrubber's registers show what the metadata hold. -/
def State.showScrub (s : State) : State :=
  let v := s.atlasNv
  let s := (s.setFld F.ATLAS_SCRUB_STATUS_PASS_COUNT v.passCount).setFld F.ATLAS_SCRUB_STATUS_NEXT_BLOCK v.nextBlock
  (s.setFld F.ATLAS_REMAP_STATUS_SPARE_LEFT (4096 - v.remap.length)).setFld F.ATLAS_REMAP_STATUS_REMAPPED v.remap.length

/-- Remap a 4 KiB block to a spare (R158). -/
def State.remapBlock (s : State) (blk : Nat) : State :=
  let v := s.atlasNv
  let used := v.remap.length
  if used ≥ 4096 || v.remap.at 0 blk != 0 then s
  else
    let s := (s.setNv { v with remap := v.remap.setAt 0 blk (used + 1) }).showScrub
    if 4096 - (used + 1) < 256 then (s.setFlag F.ATLAS_INT_STATUS_REMAP_LOW true).raise .REMAP_LOW 255 scopeModule else s

/-- An uncorrectable word met by the scrubber, by where it lies (R156); `both`: the other bedrock copy's word is lost too. -/
def State.scrubBad (s : State) (w : Nat) (both : Bool) : State :=
  if w < 0x4000000 then
    let n := if s.hasGeo 1 && decide (s.atlasBase 1 ≤ w) then 1 else 0
    let g := s.geo n
    let k := (w - s.atlasBase n) / 8
    if !s.hasGeo n || g.count ≤ k then s
    else
      let t := k % g.nth
      let (d, q, st) := g.ofBlock (k / g.nth)
      (s.mramWrite w (s.readNode n g [w] d q t st).bytes).raise .ATLAS_NODE_UNCORR n (s.scopeSlot n) w
  else if 0x5000000 ≤ w ∧ w < 0x5200000 then
    let n := (w - 0x5000000) / 0x80000 % 2
    let copy := (w - 0x5000000) / 0x100000
    if both then
      let s := s.setAtl n { s.atl n with bedrock := false }
      if s.hasGeo n then s.raise .BEDROCK_INVALID n (s.scopeSlot n) w else s
    else
      let other := if copy = 0 then w + 0x100000 else w - 0x100000
      (s.mramWrite w (s.mramRead other 8)).raise .BEDROCK_REPAIRED n (s.scopeSlot n) w
  else s.raise .MRAM_UNCORR_OTHER 255 scopeModule w

/-- The scrubber's next block, with the words it finds in error as (place in the block, bits); 4 bits stand for an uncorrectable
bedrock word whose other copy is uncorrectable as well. -/
def execMramScrubBlock (errs : List (Nat × Nat)) (s : State) : Out :=
  let v := s.atlasNv
  if !s.mramReady || !decide (v.nextBlock * (s.parN P.SCRUB_PASS_H * 3600) ≤ (s.ptime - v.passStart) * 32768) then .next s
  else
    let blk := v.nextBlock
    let words := errs.map (fun e => (4096 * blk + 8 * (e.1 % 512), e.2))
    let s := s.countWords words
    let ones := (words.filter (fun e => e.2 == 1)).map (·.1)
    let s := if words.any (fun e => e.2 == 2) || ones.any (fun w => v.corrPrev.contains w) then s.remapBlock blk else s
    let s := words.foldl (fun s e => if 3 ≤ e.2 then s.scrubBad e.1 (decide (4 ≤ e.2)) else s) s
    let v := s.atlasNv
    let now := v.corrNow ++ ones
    if blk + 1 < 32768 then .next (s.setNv { v with nextBlock := blk + 1, corrNow := now }).showScrub
    else
      let s := s.setNv { v with nextBlock := 0, passCount := v.passCount + 1, passStart := s.ptime, corrPrev := now, corrNow := [] }
      .next (s.showScrub.cease .SCRUB_OVERDUE 255)

/-- PTIME is saved; a pass that has run longer than 17,520 h raises SCRUB_OVERDUE (R157). -/
def State.savePtime (s : State) : State :=
  let s := (s.setNv { s.atlasNv with ptime := s.ptime }).setAtlC { s.atlasC with savedAt := s.ptime }
  if 17520 * 3600 < s.ptime - s.atlasNv.passStart && !s.faultActive .SCRUB_OVERDUE 255 then
    (s.setFlag F.ATLAS_INT_STATUS_SCRUB_OVERDUE true).raise .SCRUB_OVERDUE 255 scopeModule 0 none true
  else s

/-! ### Bedrock (R160 to R164) -/

/-- The coarse body of a bedrock copy. -/
def State.bedrockBody (s : State) (n copy : Nat) : List Byte := s.mramRead (bedrockBase n copy) (8 * (s.geo n).coarse.count)

/-- Whether a copy agrees with its recorded header. -/
def State.copyOk (s : State) (n copy : Nat) : Bool :=
  let h := s.atlasNv.hdr.at [] (n + 2 * copy)
  h.length == 256 && Config.sha256 (s.bedrockBody n copy) == (h.drop 56).take 32

def bedrockVersion (h : List Byte) : Nat := leNat ((h.drop 108).take 4)

/-- One copy is rewritten from the other. -/
def State.copyFrom (s : State) (n frm dst : Nat) : State :=
  let s := s.mramWrite (bedrockBase n dst) (s.bedrockBody n frm)
  let s := s.setNv { s.atlasNv with hdr := s.atlasNv.hdr.setAt [] (n + 2 * dst) (s.atlasNv.hdr.at [] (n + 2 * frm)) }
  s.raise .BEDROCK_REPAIRED n (s.scopeSlot n)

/-- Step 3 of the start-up: the copies are resolved (R164). -/
def State.bedrockResolve (s : State) (n : Nat) : State :=
  let a := s.copyOk n 0
  let b := s.copyOk n 1
  let va := bedrockVersion (s.atlasNv.hdr.at [] n)
  let vb := bedrockVersion (s.atlasNv.hdr.at [] (n + 2))
  let s := if a && (!b || vb < va) then s.copyFrom n 0 1 else if b && (!a || va < vb) then s.copyFrom n 1 0 else s
  let s := s.setAtl n { s.atl n with resolved := true, bedrock := a || b }
  if !(a || b) && s.hasGeo n then s.raise .BEDROCK_INVALID n (s.scopeSlot n) else s

/-- The safety island verifies a header's signature, once after a package reset. -/
def State.sigCheck (s : State) (n : Nat) : State :=
  if (s.atlasC.sig.at none n).isSome || !(s.atl n).bedrock then s
  else
    let h := s.bedrockHdr n
    let key := beBytes 64 (s.parN P.INSTALLER_KEY)
    let ok := Config.ecdsaOk key (Config.sha256 (h.take 192 ++ s.bedrockBody n 0)) ((h.drop 192).take 64)
    let s := s.setAtlC { s.atlasC with sig := s.atlasC.sig.setAt none n (some ok) }
    if !ok && s.hasGeo n then s.raise .BEDROCK_INVALID n (s.scopeSlot n) else s

def execBedrockSigCheck (n : Fin 2) (s : State) : Out :=
  .next (if s.pdOn 1 && s.island.sp0.selftest && s.island.sp1.selftest && s.pdOn 5 && (s.atl n.val).resolved then s.sigCheck n.val else s)

/-- A geometry record has been written (R122): the bedrock is invalid, the atlas not ready. -/
def State.geoWritten (s : State) (n : Nat) : State :=
  let v := s.atlasNv
  let s := s.setNv { v with geom := v.geom.setAt false n true, hdr := (v.hdr.setAt [] n []).setAt [] (n + 2) [], policy := v.policy.setAt none n none }
  s.setAtl n { s.atl n with bedrock := false, coarse := false, window := false, tiles := [], fillQ := [], halfQ := [], drift := [], last := [], rewrite := [] }

/-- BEDROCK_IMPORT: the image is read into the import staging and checked there (R162). -/
def execBedrockImport (n : Fin 64) (data : Option (List Byte)) (s : State) : Out :=
  .next (s.runDesc n.val ⟨0x31, [6], .roles [2], true, 2, [(24, 1)]⟩ (fun s w =>
    let slot := rawTarget w.raw
    if 1 < rawField w.raw 24 1 || rawLen w.raw < 256 || 0x200000 < rawLen w.raw then s.finish n.val w.wid St.badField 0
    else if s.bulk.isSome then s.finish n.val w.wid St.busy 0
    else if !(s.isOff .slot slot && s.isOff .dressing slot && s.mramReady) then s.finish n.val w.wid St.stateRefused 0
    else match s.dataIn n.val w data with
      | none => s.finish n.val w.wid St.dataError 0
      | some d =>
        let s := (s.mramWrite 0x5600000 d).setFlag F.ATLAS_MRAM_STATUS_IMPORT_BUSY true
        { s with bulk := some ⟨.bedrockImport, n.val, w.wid, slot, [], d.length, false, rawField w.raw 24 1⟩ }))

/-- The form of a staged image (R160, R162). -/
def State.imageForm (s : State) (slot len : Nat) (h : List Byte) : Bool :=
  let cnt := (s.geo slot).coarse.count
  let uid := (h.drop 8).take 16
  leNat (h.take 4) == 0x584C5441 && leNat ((h.drop 4).take 2) == 2 && leNat ((h.drop 6).take 1) == slot &&
  leNat ((h.drop 100).take 4) == cnt && len == 256 + 8 * cnt && s.hasGeo slot && s.headerGeo slot h && s.headerBases slot h &&
  (uid == List.replicate 16 0#8 || uid == Config.moduleUid)

/-- Whether every node of the image has CONF and VISITS 0. -/
def imageBlank (body : List Byte) (cnt : Nat) : Bool :=
  (List.range cnt).all (fun k => (body.getD (8 * k + 6) 0#8) == 0#8 && (body.getD (8 * k + 7) 0#8) == 0#8)

/-- An import is refused as a whole. -/
def State.importRefused (s : State) (b : Bulk) (st : Nat) : State :=
  let s := ({ s with bulk := none } : State).setFlag F.ATLAS_MRAM_STATUS_IMPORT_BUSY false
  (s.raise .IMPORT_REFUSED b.target (s.scopeSlot b.target)).finish b.pair b.wid st 0

/-- The staged image has been checked: it is refused, or its installation begins with the audit entry (R162, R163, R458). -/
def execBedrockImageChecked (s : State) : Out :=
  match s.bulk with
  | some b =>
    if !(b.kind = .bedrockImport ∧ b.checked = false) then .next s
    else
      let slot := b.target
      let img := s.mramRead 0x5600000 b.result
      let h := img.take 256
      let body := img.drop 256
      let v := bedrockVersion h
      let key := beBytes 64 (s.parN P.INSTALLER_KEY)
      if !s.mramReady || !(s.isOff .slot slot && s.isOff .dressing slot) then .next (s.importRefused b St.stateRefused)
      else if !(s.imageForm slot b.result h && imageBlank body (s.geo slot).coarse.count) then .next (s.importRefused b St.badField)
      else if !(Config.sha256 body == (h.drop 56).take 32 &&
          Config.ecdsaOk key (Config.sha256 (h.take 192 ++ body)) ((h.drop 192).take 64)) then .next (s.importRefused b St.signatureRefused)
      else if s.bedrockValid slot && decide (v ≤ bedrockVersion (s.bedrockHdr slot)) then .next (s.importRefused b St.badField)
      else
        let (s, ok) := s.auditWrite (s.sessionRole b.pair) 4 b.pair 0x31 slot (digest4 img)
        if !ok then .next (s.importRefused b St.stateRefused)
        else
          let s := (s.mramWrite (bedrockBase slot 0) body).mramWrite (bedrockBase slot 1) body
          let nv := s.atlasNv
          let s := s.setNv { nv with hdr := (nv.hdr.setAt [] slot h).setAt [] (slot + 2) h, policy := nv.policy.setAt none slot (some b.param),
                                     commits := nv.commits.setAt 0 slot 0 }
          let s := s.setAtlC { s.atlasC with sig := s.atlasC.sig.setAt none slot (some true) }
          let s := s.setAtl slot { s.atl slot with bedrock := true, resolved := true }
          .next { s with bulk := some { b with checked := true, result := v } }
  | none => .next s

/-- One node under a policy (R163). -/
def State.policyNode (s : State) (n : Nat) (g : Geo) (keep : Bool) (d q t st : Nat) : Node :=
  let b := s.bedrockAt n d q t st
  if keep then
    let o := s.fullNode n g d q t st
    ⟨clampI (b.psiD - s.dPsi n) (b.psiD + s.dPsi n) o.psiD, clampI (b.psiQ - s.dPsi n) (b.psiQ + s.dPsi n) o.psiQ,
      clampI (b.tau - s.dTau n) (b.tau + s.dTau n) o.tau, o.conf, o.visits⟩
  else ⟨b.psiD, b.psiQ, b.tau, 0, 0⟩

/-- The policy pass over every node of a slot's full atlas. -/
def State.policyPass (s : State) (n : Nat) (keep : Bool) : State :=
  let g := s.geo n
  (List.range (g.ns * g.nd * g.nq)).foldl (fun s blk =>
    let (d, q, st) := g.ofBlock blk
    s.writeBlock n blk ((List.range g.nth).flatMap (fun t => (s.policyNode n g keep d q t st).bytes))) s

/-- The slot whose policy pass ends: that of the import, else the first with a pass pending from before (R164). -/
def State.policySlot (s : State) : Option Nat := [0, 1].find? (fun n => (s.atlasNv.policy.at none n).isSome)

/-- The policy pass has ended: the atlas is loaded from it, IMPORT_DONE is set and the descriptor completes. -/
def execImportInstallDone (s : State) : Out :=
  match s.policySlot with
  | none => .next s
  | some n =>
    if !s.mramReady then .next s
    else
      let s := s.policyPass n (s.atlasNv.policy.at none n == some 1)
      let s := (s.setNv { s.atlasNv with policy := s.atlasNv.policy.setAt none n none }).atlasLoad n
      let s := s.setFlag F.ATLAS_INT_STATUS_IMPORT_DONE true
      let s := s.setFlag F.ATLAS_MRAM_STATUS_IMPORT_BUSY s.policySlot.isSome
      match s.bulk with
      | some b =>
        if b.kind = .bedrockImport ∧ b.checked = true ∧ b.target = n then
          .next (({ s with bulk := none } : State).finish b.pair b.wid St.ok b.result)
        else .next s
      | none => .next s

/-! ### Dressed exports (R161) -/

/-- The header of a dressed export. -/
def State.exportHeader (s : State) (n : Nat) (body : List Byte) : List Byte :=
  let g := s.geo n
  let i16 (x : Int) : List Byte := leBytes 2 (ofSigned 16 x)
  let h := leBytes 4 0x584C5441 ++ leBytes 2 1 ++ leBytes 1 n ++ leBytes 1 0 ++ (Config.moduleUid ++ List.replicate 16 0#8).take 16 ++
    leBytes 2 g.nd ++ leBytes 2 g.nq ++ leBytes 2 g.nth ++ leBytes 2 g.ns ++ i16 g.dMin ++ leBytes 2 g.dStep ++ i16 g.qMin ++
    leBytes 2 g.qStep ++ (List.range 4).flatMap (fun k => i16 (s.par P.T_STRATA n k)) ++
    leBytes 4 (s.parN P.PSI_BASE n) ++ leBytes 4 (s.parN P.I_BASE n) ++
    (Config.sha256 (s.bedrockBody n 0) ++ List.replicate 32 0#8).take 32 ++ leBytes 8 s.ts ++ leBytes 4 s.ptime ++ leBytes 4 g.count ++
    leBytes 2 (s.parN P.TRUST n) ++ leBytes 2 (s.parN P.POLE_PAIRS n) ++ leBytes 4 (s.atlasNv.commits.at 0 n) ++ List.replicate 80 0#8
  h ++ (Config.deviceSign (Config.sha256 (h ++ body)) ++ List.replicate 64 0#8).take 64

/-- Cut bytes into node records. -/
def nodeRecords : Nat → List Byte → List (List Byte)
  | 0, _ => []
  | k + 1, l => l.take 8 :: nodeRecords k (l.drop 8)

/-- ATLAS_EXPORT streams the header and the committed nodes into the pair's buffers. -/
def execAtlasExport (n : Fin 64) (s : State) : Out :=
  .next (s.runDesc n.val ⟨0x30, [6], .roles [1, 2], false, 2, []⟩ (fun s w =>
    let slot := rawTarget w.raw
    if s.bulk.isSome then s.finish n.val w.wid St.busy 0
    else if !s.atlasReady slot then s.finish n.val w.wid St.notReady 0
    else
      let cnt := (s.geo slot).count
      let body := s.mramRead (s.atlasBase slot) (8 * cnt)
      let recs := s.exportHeader slot body :: nodeRecords cnt body
      ({ s with bulk := some ⟨.atlasExport, n.val, w.wid, slot, recs, 256 + 8 * cnt, false, 0⟩ } : State).pumpBulk))

/-- The last record has been written. -/
def execAtlasExportDone (s : State) : Out :=
  match s.bulk with
  | some b =>
    if b.kind = .atlasExport && b.queue.isEmpty then
      .next ((({ s with bulk := none } : State).setFlag F.ATLAS_INT_STATUS_EXPORT_DONE true).finish b.pair b.wid St.ok b.result)
    else .next s
  | none => .next s

end Sys2Proof.Machine
end

