-- ==== Sys2Proof/Machine/CeMath.lean ====
section
/-! DEFINITION. The function units of an engine (R178): values to the nearest integer, and the deviation the spec allows. -/

namespace Sys2Proof.Machine

/-- π / 2 in units of 2^-62. -/
def halfPi62 : Int := 7244019458077122842

/-- The remaining terms of the sine series from `term`, in units of 2^-62. -/
def sinTerms : Nat → Int → Int → Nat → Int
  | 0, _, _, _ => 0
  | fuel + 1, term, x2, k => term + sinTerms fuel (-(term * x2 / 2 ^ 62) / (((2 * k + 2) * (2 * k + 3) : Nat) : Int)) x2 (k + 1)

/-- 32,767 × sin of q quarter-turn parts of 1/16,384, q from 0 to 16,384, to the nearest integer. -/
def sinQuarter (q : Nat) : Int :=
  let x := halfPi62 * q / 16384
  roundUpHalf (32767 * sinTerms 14 x (x * x / 2 ^ 62) 0) (2 ^ 62)

/-- 32,767 × sin θ to the nearest integer, θ a 16-bit angle. -/
def sinExact (th : Nat) : Int :=
  let q := th % 16384
  match th / 16384 % 4 with
  | 0 => sinQuarter q
  | 1 => sinQuarter (16384 - q)
  | 2 => -sinQuarter q
  | _ => -sinQuarter (16384 - q)

def cosExact (th : Nat) : Int := sinExact (th + 16384)

/-- Cosine and sine as SINCOS returns them: within 1 LSB. -/
def cosUnit (th : Nat) : Int := sat16 (cosExact th + clampI (-1) 1 (Config.unitDev 0 th))
def sinUnit (th : Nat) : Int := sat16 (sinExact th + clampI (-1) 1 (Config.unitDev 1 th))

/-- The least k with |n| × 2^k at least `lim` (fuel bounds it). -/
def normShift (lim : Nat) : Nat → Nat → Nat
  | 0, _ => 0
  | fuel + 1, n => if lim ≤ n then 0 else 1 + normShift lim fuel (2 * n)

/-- RECIP of a nonzero Q15 value: mantissa 1 / (2m) within 2 LSB, before saturation, and exponent k + 1. -/
def recipUnit (x : Int) : Int × Int :=
  let k := normShift 16384 15 x.natAbs
  (roundAway (if x < 0 then -536870912 else 536870912) (x.natAbs * 2 ^ k) + clampI (-2) 2 (Config.unitDev 2 x), k + 1)

/-- The integer square root, by bits from 2^`b` downwards. -/
def isqrtBits : Nat → Nat → Nat → Nat
  | 0, _, r => r
  | b + 1, n, r => let c := r + 2 ^ b; isqrtBits b n (if c * c ≤ n then c else r)

def isqrt (n : Nat) : Nat := isqrtBits 128 n 0

/-- √n to the nearest integer. -/
def isqrtNear (n : Nat) : Nat := let r := isqrt n; if n - r * r > r then r + 1 else r

/-- The least j with n × 4^j at least 8,192. -/
def normShift4 : Nat → Nat → Nat
  | 0, _ => 0
  | fuel + 1, n => if 8192 ≤ n then 0 else 1 + normShift4 fuel (4 * n)

/-- RSQRT of a positive Q15 value: mantissa 1 / (2√m) within 2 LSB, before saturation, and exponent j + 1. -/
def rsqrtUnit (x : Int) : Int × Int :=
  let j := normShift4 8 x.toNat
  let m := x.toNat * 4 ^ j
  -- 16,384 × √(32,768 / m), to the nearest integer
  ((isqrtNear (2 ^ 43 / m) : Nat) + clampI (-2) 2 (Config.unitDev 3 x), j + 1)

end Sys2Proof.Machine
end

