-- ==== Sys2Proof/Machine/SlotCore.lean ====
section
/-! DEFINITION. A motor slot and the commands it is given (R57, R62, R66 to R70, R187, R188, R427). -/

namespace Sys2Proof.Machine

/-- A free value of a place, and the state in which it has been taken. -/
def State.free (s : State) (site : Nat) : Int × State :=
  let (k, s) := s.takeFresh
  (Config.free site k, s)

/-! ### Who runs a slot -/

/-- The engine that owns a slot, and its helper (R62, R199). -/
def State.ownerOf (s : State) (n : Nat) : Option Nat :=
  (List.range 8).find? (fun c => (s.engine c).task == 1 && (s.engine c).slot == n && !s.isOff .engine c)
def State.helperOf (s : State) (n : Nat) : Option Nat :=
  (List.range 8).find? (fun c => (s.engine c).task == 2 && (s.engine c).slot == n && !s.isOff .engine c)

/-- The command source in force: 0 ring, 1 CAN (R67, R426). -/
def State.cmdSourceOf (s : State) (n : Nat) : Nat :=
  let x := s.slotHost n
  if x.source || x.policy == 2 then 1 else s.parN P.CMD_SOURCE n

/-- Torque in mN·m from µN·m. -/
def mNm (t : Int) : Int := roundFree 20 t 1000

/-- RESULT of a DRIVE_CMD (R417). -/
def State.cmdResult (s : State) (n seq : Nat) : Nat :=
  let x := s.slot n
  seq % 65536 + x.limitSrc % 65536 * 65536 + ofSigned 32 (mNm x.tCmd) * 4294967296

/-- Complete a command; a status of one from CAN is counted (R517), one from the T960 itself has nobody to tell. -/
def State.reply (s : State) (n : Nat) (c : SlotCmd) (st : Nat) : State :=
  match c.reply with
  | some (pair, wid) => s.finish pair wid st (s.cmdResult n c.seq)
  | none => if c.source = 1 then s.canStatus n st else s

/-- Complete several commands alike. -/
def State.replyAll (s : State) (n : Nat) (l : List SlotCmd) (st : Nat) : State := l.foldl (fun s c => s.reply n c st) s

/-- The 32 bytes of a mailbox buffer (R187). -/
def SlotCmd.bytes (c : SlotCmd) : List Byte :=
  let i32 (x : Int) : List Byte := leBytes 4 (ofSigned 32 x)
  leBytes 8 c.arrival ++ leBytes 2 c.seq ++ leBytes 1 c.mode ++ leBytes 1 c.source ++ i32 c.torque ++ i32 c.speed ++ i32 c.acc ++
    i32 c.iD ++ i32 c.iQ

/-- Place a command in the slot's mailbox (R66): a command still in the buffer it goes into is superseded (R68, R188). -/
def State.placeCmd (s : State) (n : Nat) (c : SlotCmd) : State :=
  let x := s.slot n
  let owner := s.ownerOf n
  let buf := match owner with
    | some e => (s.engine e).freeBuffer 4
    | none => 0
  let c := { c with seq := x.cmdSeq, buf := buf }
  let old := x.mail.filter (fun o => o.buf == buf)
  let s := s.setSlot n { x with mail := x.mail.filter (fun o => o.buf != buf) ++ [c], cmdSeq := (x.cmdSeq + 1) % 65536 }
  let s := s.replyAll n old St.superseded
  match owner with
  | some e => s.deliverTo e 4 c.bytes
  | none => s

/-- Offer a checked command to a slot (R67, R68): the refusal, or `none` and the slot with the command held or in its mailbox. -/
def State.offerCmd (s : State) (n : Nat) (c : SlotCmd) : Option Nat × State :=
  let x := s.slot n
  if s.cmdSourceOf n != c.source then (some St.sourceRefused, s)
  else match (s.lc .slot n).state with
    | .off => (some St.slotNotOn, s)
    | .stopping => (some St.slotNotOn, s)
    | .starting =>
      let s := s.setSlot n { x with held := some c }
      (none, match x.held with
        | some o => s.reply n o St.superseded
        | none => s)
    | .on => if c.mode = 2 ∧ x.expert = false then (some St.modeRefused, s) else (none, s.placeCmd n c)

/-- A command from a ring has been accepted: its host commands the slot, and a policy of RAMP_ZERO or HOLD_T ends (R426, R427). -/
def State.commandedBy (s : State) (n host : Nat) : State :=
  let x := s.slotHost n
  s.setSlotHost n (if x.policy = 2 then { x with host := some host } else { x with host := some host, policy := 0, due := false, ramped := false })

/-- The command that a DRIVE_CMD descriptor carries (R417). -/
def driveCmdOf (d : List Byte) (ts pair wid : Nat) : SlotCmd :=
  { mode := rawField d 24 1, torque := rawFieldS d 28 4, speed := rawFieldS d 32 4, acc := rawFieldS d 36 4, iD := rawFieldS d 40 4,
    iQ := rawFieldS d 44 4, arrival := ts, reply := some (pair, wid) }

def driveCmdUsed : List (Nat × Nat) := [(24, 1), (25, 1), (28, 4), (32, 4), (36, 4), (40, 4), (44, 4)]

/-- DRIVE_CMD with a mode other than DISCHARGE (R68): completed at once when refused, else after the reference step that uses it. -/
def execDriveCmd (n : Fin 64) (s : State) : Out :=
  .next (s.runDescIf n.val ⟨0x10, [1], .drive, false, 2, driveCmdUsed⟩ (fun w => rawField w.raw 24 1 != 3) (fun s w =>
    let slot := rawTarget w.raw
    let c := driveCmdOf w.raw s.ts n.val w.wid
    if 3 < c.mode || rawField w.raw 25 1 ≠ 0 || c.acc < 0 then s.finish n.val w.wid St.badField 0
    else match s.offerCmd slot c with
      | (some st, s) => s.finish n.val w.wid st 0
      | (none, s) => s.commandedBy slot (s.rpHost n.val)))

/-- DRIVE_CMD with MODE = 3: a request for active discharge of the slot's bridges (R70). -/
def execDriveCmdDischarge (n : Fin 64) (s : State) : Out :=
  .next (s.runDescIf n.val ⟨0x10, [1], .drive, false, 2, driveCmdUsed⟩ (fun w => rawField w.raw 24 1 == 3) (fun s w =>
    let slot := rawTarget w.raw
    let force := rawField w.raw 25 1
    if 1 < force then s.finish n.val w.wid St.badField 0
    else if s.cmdSourceOf slot != 0 then s.finish n.val w.wid St.sourceRefused 0
    else if !s.pdOn 1 then s.finish n.val w.wid St.stateRefused 0
    else
      let bs := s.bridgesOfSlot slot
      let (s, st) := s.requestDischarge (bs.contains 0) (bs.contains 1) (force == 1)
      s.finish n.val w.wid st 0))

/-- CLAIM_SOURCE ends a handover (R427). -/
def execClaimSource (n : Fin 64) (s : State) : Out :=
  .next (s.runDesc n.val ⟨0x1A, [1], .drive, false, 2, []⟩ (fun s w =>
    let slot := rawTarget w.raw
    let x := s.slotHost slot
    if !(s.isOn .slot slot && (x.policy == 2 || x.source)) then s.finish n.val w.wid St.stateRefused 0
    else (s.setSlotHost slot { x with policy := 0, source := false, sourceDue := false, due := false, ramped := false }).finish n.val w.wid St.ok 0))

/-- The program of an engine has used the command of a SEQ, or refused it (R188). -/
def State.cmdAck (s : State) (ce seq st : Nat) : State :=
  let e := s.engine ce
  let n := e.slot
  if e.task ≠ 1 then s
  else
    let x := s.slot n
    match x.mail.find? (fun c => c.seq == seq) with
    | none => s
    | some c =>
      let s := s.setSlot n { x with mail := x.mail.filter (fun o => o.seq != seq), cmd := if st < 0x100 ∧ st ≠ St.superseded then c else x.cmd }
      s.reply n c st

end Sys2Proof.Machine
end

