-- ==== Sys2Proof/Machine/Debug.lean ====
section
/-! DEFINITION. Debug: halts of engines, safety pairs and application cores, and the guard on a live stage (R204, R231, R359,
R397, R398). -/

namespace Sys2Proof.Machine

/-! ### Engines -/

/-- The domain of an engine (R168). -/
def ceDomain (c : Nat) : Nat := if c < 4 then 3 else 4

/-- A halted engine freezes a granted bridge whose FREEZE_ON_HALT is set (R231). -/
def State.haltFreezes (s : State) : State :=
  let held (b : Nat) : Bool := s.par P.FREEZE_ON_HALT b == 1 && (List.range 8).any (fun c => (s.engine c).halted && (s.engine c).writes.contains b)
  let s := [0, 1].foldl (fun s b => s.setPwm b { s.pwm b with haltFreeze := held b }) s
  (s.refreshFreeze 0).refreshFreeze 1

/-- An engine halts. -/
def State.haltEngine (s : State) (c : Nat) : State :=
  ((s.setEngine c { s.engine c with halted := true, haltAsked := false, haltedSince := s.now }).setFlag F.CE_DEBUG_CTRL_HALT_REQ false c).haltFreezes

/-- An engine halts at its next instruction boundary: a lookup, a publication or a fabric access in progress completes first, a sleeping WAITEV
halts at once. -/
def State.haltSoon (s : State) (c : Nat) : State :=
  match (s.engine c).wait with
  | .none => s.haltEngine c
  | .event _ _ => s.haltEngine c
  | _ => s.setEngine c { s.engine c with haltAsked := true }

/-- An instruction boundary: a halt asked for takes effect. -/
def State.ceBoundary (s : State) (c : Nat) : State := if (s.engine c).haltAsked then s.haltEngine c else s

/-! ### The guard (R397) -/

/-- Whether a bridge is live. -/
def State.bridgeLive (s : State) (b : Nat) : Bool :=
  (satsOfBridge b).all (fun n => s.isOn .satellite n) && decide (mvQ 60000 ≤ s.vdcQ b)

/-- The bridges that a halt of a master bears on: an engine's granted bridges, both for a safety pair, none for another. -/
def State.haltBridges (s : State) (m : Nat) : List Nat :=
  if m < 8 then (s.engine m).writes else if m = 12 ∨ m = 13 then [0, 1] else []

/-- The halt itself. -/
def State.haltMaster (s : State) (m : Nat) : State :=
  if m < 8 then s.haltSoon m
  else
    let i := s.island
    let first := m ≤ 11 && !i.halted.any (fun h => decide (8 ≤ h) && decide (h ≤ 11))
    let s : State := { s with island := { i with halted := if i.halted.contains m then i.halted else i.halted ++ [m],
                                                 appHaltAt := if first then s.lpo else i.appHaltAt } }
    if m = 12 ∨ m = 13 then (s.setPair (m - 12) { s.pair (m - 12) with halted := true }).breakLockstep (m - 12) else s

/-- A halt request of master 20: on a live stage the guard first requests SPO and the halt waits until it is at the gates; not in bench
mode (R398), and without waiting when the bridges are in a safe state already (R399). -/
def State.askHalt (s : State) (m : Nat) : State :=
  let bs := s.haltBridges m
  if s.island.bench || !bs.any s.bridgeLive then s.haltMaster m
  else
    let still := bs.all (fun b => (s.safeOf b).state != .run)
    let s := bs.foldl (fun s b => (s.setSafe b { s.safeOf b with debug := true, debugSpo := true }).enterSafe b) s
    let i := s.island
    let s : State := { s with island := { i with guardCount := min 255 (i.guardCount + 1), guardTarget := m, guardDelay := 0,
                                                 guardSince := s.now, haltPending := if still then none else some m } }
    let s := (s.setFlag F.SAFETY_INT_STATUS_DEBUG_GUARD true).raise .DEBUG_GUARD 255 scopeModule
    if still then s.haltMaster m else s

/-- SPO is at the gates: the delayed halt takes effect. -/
def execDebugGuardHalt (s : State) : Out :=
  match s.island.haltPending with
  | none => .next s
  | some m =>
    let i := s.island
    .next (State.haltMaster { s with island := { i with haltPending := none, guardDelay := min 65535 ((s.now - i.guardSince) * 5 / 4) } } m)

/-- The guard's request for a bridge ends once no halt bears on it and the slots using it are OFF. -/
def State.debugSettle (s : State) : State :=
  [0, 1].foldl (fun s b =>
    let held := (List.range 8).any (fun c => ((s.engine c).halted || (s.engine c).haltAsked) && (s.engine c).writes.contains b) ||
      s.island.halted.any (fun m => m == 12 || m == 13) || s.island.haltPending.any (fun m => (s.haltBridges m).contains b)
    if (s.safeOf b).debug && !held && s.isOff .slot (s.slotOfBridge b) then
      s.setSafe b { s.safeOf b with debug := false, debugSpo := false } else s) s

/-- CE.DEBUG_CTRL.HALT_REQ (R204). The master is `m`. -/
def execCeHaltReq (m : Fin 21) (c : Fin 8) (s : State) : Out :=
  let (s, ok) := s.debugAccess m.val .ceHalt .CE_DEBUG_CTRL c.val
  .next (if !ok || (s.engine c.val).halted then s else (s.setFlag F.CE_DEBUG_CTRL_HALT_REQ true c.val).askHalt c.val)

/-- An engine leaves HALTED. -/
def State.resumeEngine (s : State) (c : Nat) : State :=
  let e := s.engine c
  let gone := s.now - e.haltedSince
  ((s.setEngine c { e with halted := false, lastReturn := e.lastReturn + gone, loopFrom := e.loopFrom + gone }).haltFreezes).debugSettle

/-- CE.DEBUG_CTRL.RESUME: the watchdogs of R200 and R201 run on from where they stood. -/
def execCeResume (m : Fin 21) (c : Fin 8) (s : State) : Out :=
  let (s, ok) := s.debugAccess m.val .ceHalt .CE_DEBUG_CTRL c.val
  .next (if !ok || !(s.engine c.val).halted then s else s.resumeEngine c.val)

/-- Whether an engine stands at an enabled breakpoint. -/
def State.atBreak (s : State) (c : Nat) : Bool :=
  let en := s.fld F.CE_DEBUG_CTRL_BP_EN c
  let pc := (s.engine c).pc
  (bits en 0 0 == 1 && s.fld F.CE_BREAK_BP0 c == pc) || (bits en 1 1 == 1 && s.fld F.CE_BREAK_BP1 c == pc)

/-- The engine reaches an enabled breakpoint: it halts where the policy permits halting it. -/
def execCeBreakpoint (c : Fin 8) (s : State) : Out :=
  let e := s.engine c.val
  .next (if (s.isOn .engine c.val || s.isStopping .engine c.val) && !e.halted && !e.faulted && e.wait == .none && s.atBreak c.val && s.debugOpen .ceHalt
    then s.askHalt c.val else s)

/-- A halt request for a safety pair (12, 13) or an application core (8 to 11). -/
def execDebugHaltRequest (m : Fin 21) (s : State) : Out :=
  let m := m.val
  let area := if m = 12 ∨ m = 13 then DebugArea.safetyHalt else DebugArea.appHalt
  .next (if 8 ≤ m ∧ m ≤ 13 ∧ s.debugOpen area = true ∧ s.island.halted.contains m = false then s.askHalt m else s)

/-- The end of such a halt: the guard's request ends once the slots are OFF, and the watchdog counts on (R487). -/
def execCoreHaltEnd (m : Fin 21) (s : State) : Out :=
  let m := m.val
  if !s.island.halted.contains m then .next s
  else
    let i := s.island
    let rest := i.halted.filter (· != m)
    let app (l : List Nat) : Bool := l.any (fun h => decide (8 ≤ h) && decide (h ≤ 11))
    let s : State := { s with island := { i with halted := rest } }
    let s : State := if app i.halted && !app rest then { s with power := { s.power with wdtKick := s.power.wdtKick + (s.lpo - i.appHaltAt) } } else s
    let s := if m = 12 ∨ m = 13 then s.setPair (m - 12) { s.pair (m - 12) with halted := false } else s
    .next s.debugSettle

end Sys2Proof.Machine
end

