-- ==== Sys2Proof/Machine/CeDecode.lean ====
section
/-! DEFINITION. The instruction words of a control engine (R175, R176). -/

namespace Sys2Proof.Machine

/-- A decoded engine instruction, with the fields of R175. -/
inductive CeOp where
  | nop
  | ldi (d : Nat) (h : Bool) (imm : Nat)
  | ldip (p v : Nat)
  | move (dst src sub : Nat)
  | ld (d p am sz : Nat) (off : Int)
  | st (d p am sz : Nat) (off : Int)
  | fld (d a : Nat)
  | fst (d a : Nat)
  | mac (a b acc : Nat) (ha hb neg clr : Bool)
  | dmac (a b c d pair : Nat) (clr x0 n0a n0b x1 n1a n1b : Bool)
  | accop (a b d : Nat) (h : Bool) (sub : Nat) (sh : Int)
  | rnd (d : Nat) (h : Bool) (acc : Nat) (pre : Int)
  | aluh (d a b sub : Nat)
  | aluw (d a b sub : Nat) (imm : Option Int)
  | shh (d a b : Nat) (amt : Option Int)
  | sincos (d a : Nat) (h : Bool)
  | recip (d a : Nat) (h : Bool)
  | rsqrt (d a : Nat) (h : Bool)
  | atlas (dx dy o1 o2 : Nat)
  | waitev (d mask : Nat)
  | wpwm (d br sel : Nat) (commit : Bool)
  | publ (box p : Nat)
  | b (cond target : Nat)
  | call (target : Nat)
  | ret
  | loop (imm : Bool) (count last : Nat)
  | bkpt
  | movsr (d : Nat) (write : Bool)
  deriving DecidableEq, Repr

/-- One bit of a word. -/
def bitAt (w k : Nat) : Bool := bits w k k == 1

/-- The instruction of a word; `none` for a reserved opcode or field value and for a nonzero reserved bit (R176). -/
def decodeCe (w : Nat) : Option CeOp :=
  let f (hi lo : Nat) : Nat := bits w hi lo
  let ok (c : Bool) (x : CeOp) : Option CeOp := if c then some x else none
  match f 31 26 with
  | 0x00 => ok (f 25 0 == 0) .nop
  | 0x01 => ok (f 20 16 == 0) (.ldi (f 25 22) (bitAt w 21) (f 15 0))
  | 0x02 => ok (f 25 25 == 0 && f 21 20 == 0 && f 19 16 != 1) (.ldip (f 24 22) (f 19 0))
  | 0x03 => ok (f 14 0 == 0 && !(f 17 15 == 6 && bitAt w 21) && !(f 17 15 == 7 && bitAt w 25)) (.move (f 25 22) (f 21 18) (f 17 15))
  | 0x04 => ok (f 18 17 != 3 && f 16 15 != 3) (.ld (f 25 22) (f 21 19) (f 18 17) (f 16 15) (toSigned 15 (f 14 0)))
  | 0x05 => ok (f 18 17 != 3 && f 16 15 != 3) (.st (f 25 22) (f 21 19) (f 18 17) (f 16 15) (toSigned 15 (f 14 0)))
  | 0x06 => ok (f 17 0 == 0) (.fld (f 25 22) (f 21 18))
  | 0x07 => ok (f 17 0 == 0) (.fst (f 25 22) (f 21 18))
  | 0x08 => ok (f 11 0 == 0) (.mac (f 25 22) (f 21 18) (f 17 16) (bitAt w 15) (bitAt w 14) (bitAt w 13) (bitAt w 12))
  | 0x09 => ok (f 1 0 == 0) (.dmac (f 25 22) (f 21 18) (f 17 14) (f 13 10) (f 9 9) (bitAt w 8) (bitAt w 7) (bitAt w 6) (bitAt w 5)
      (bitAt w 4) (bitAt w 3) (bitAt w 2))
  | 0x0A => ok (f 7 0 == 0) (.accop (f 25 24) (f 23 22) (f 21 18) (bitAt w 17) (f 16 14) (toSigned 6 (f 13 8)))
  | 0x0B => ok (f 13 0 == 0) (.rnd (f 25 22) (bitAt w 21) (f 20 19) (toSigned 5 (f 18 14)))
  | 0x0C => ok (f 10 0 == 0 && decide (f 13 11 < 6)) (.aluh (f 25 22) (f 21 18) (f 17 14) (f 13 11))
  | 0x0D => ok (decide (f 13 10 < 10)) (.aluw (f 25 22) (f 21 18) (f 17 14) (f 13 10) (if bitAt w 9 then some (toSigned 9 (f 8 0)) else none))
  | 0x0E => ok (f 7 0 == 0) (.shh (f 25 22) (f 21 18) (f 17 14) (if bitAt w 13 then some (toSigned 5 (f 12 8)) else none))
  | 0x10 => ok (f 16 0 == 0) (.sincos (f 25 22) (f 21 18) (bitAt w 17))
  | 0x11 => ok (f 16 0 == 0) (.recip (f 25 22) (f 21 18) (bitAt w 17))
  | 0x12 => ok (f 16 0 == 0) (.rsqrt (f 25 22) (f 21 18) (bitAt w 17))
  | 0x13 => ok (f 9 0 == 0) (.atlas (f 25 22) (f 21 18) (f 17 14) (f 13 10))
  | 0x14 => ok (f 21 16 == 0 && f 15 0 != 0 && f 15 12 == 0) (.waitev (f 25 22) (f 15 0))
  | 0x15 => ok (f 16 0 == 0 && f 20 18 != 7) (.wpwm (f 25 22) (f 21 21) (f 20 18) (bitAt w 17))
  | 0x16 => ok (f 19 0 == 0 && decide (f 25 23 < 5)) (.publ (f 25 23) (f 22 20))
  | 0x17 => ok (f 21 13 == 0 && decide (f 25 22 < 11)) (.b (f 25 22) (f 12 0))
  | 0x18 => ok (f 25 13 == 0) (.call (f 12 0))
  | 0x19 => ok (f 25 0 == 0) .ret
  | 0x1A => if bitAt w 25 then some (.loop true (f 24 13) (f 12 0)) else ok (f 20 13 == 0) (.loop false (f 24 21) (f 12 0))
  | 0x1B => ok (f 25 0 == 0) .bkpt
  | 0x1C => ok (f 20 0 == 0) (.movsr (f 25 22) (bitAt w 21))
  | _ => none

end Sys2Proof.Machine
end

