-- ==== Sys2Proof/Machine/Operands.lean ====
section
/-! DEFINITION. The operands of engine instructions: registers and halves, accumulators (R171, R173), addressing (R174), the scratchpad
map (R183, R184). -/

namespace Sys2Proof.Machine

/-! ### Registers -/

def Engine.dReg (e : Engine) (i : Nat) : Nat := (e.d.at 0#32 i).toNat
def Engine.setD (e : Engine) (i v : Nat) : Engine := { e with d := e.d.setAt 0#32 i (BitVec.ofNat 32 v) }

/-- A half of a register as a Q15 value. -/
def Engine.half (e : Engine) (i : Nat) (h : Bool) : Int := toSigned 16 (if h then e.dReg i / 65536 else e.dReg i % 65536)

/-- Write a half, the other unchanged. -/
def Engine.putHalf (e : Engine) (i : Nat) (h : Bool) (v : Int) : Engine :=
  e.setD i (if h then putBits (e.dReg i) 31 16 (ofSigned 16 v) else putBits (e.dReg i) 15 0 (ofSigned 16 v))

/-- Write both halves. -/
def Engine.putHalves (e : Engine) (i : Nat) (hi lo : Int) : Engine := (e.putHalf i true hi).putHalf i false lo

def Engine.pReg (e : Engine) (i : Nat) : Nat := e.p.at 0 i
/-- Write an address register: CLOG and ADDR, the rest reserved. -/
def Engine.setP (e : Engine) (i v : Nat) : Engine := { e with p := e.p.setAt 0 i (v % 1048576) }
def Engine.pAddr (e : Engine) (i : Nat) : Nat := e.pReg i % 65536
def Engine.pClog (e : Engine) (i : Nat) : Nat := e.pReg i / 65536 % 16

def Engine.accum (e : Engine) (i : Nat) : Int := (e.acc.at 0#40 i).toInt

/-- Write an accumulator: a result outside 40 bits saturates and sets AOVn (R171). -/
def Engine.setAcc (e : Engine) (i : Nat) (x : Int) : Engine :=
  let y := clampI (-549755813888) 549755813887 x
  { e with acc := e.acc.setAt 0#40 i (BitVec.ofInt 40 y), srHigh := if y = x then e.srHigh else e.srHigh ||| 2 ^ (10 + i) }

/-! ### Addressing (R174) -/

/-- The address of an access and the address register after it. -/
def Engine.address (e : Engine) (p am : Nat) (off : Int) : Nat × Engine :=
  let a := e.pAddr p
  let next := ofSigned 16 ((a : Int) + off)
  match am with
  | 0 => (next, e)
  | 1 => (a, e.setP p (e.pClog p * 65536 + next))
  | _ =>
    let k := e.pClog p
    if k < 2 then (a, e.setP p (k * 65536 + next))
    else (a, e.setP p (k * 65536 + (a / 2 ^ k * 2 ^ k + next % 2 ^ k)))

/-! ### The scratchpad (R183, R184, R190) -/

/-- Whether an address lies in the local I/O words. -/
def isLocalIo (a : Nat) : Bool := decide (0xFC00 ≤ a) && decide (a < 0xFC40)

/-- Whether an address is reserved: reads 0, writes ignored. -/
def isReservedData (a : Nat) : Bool :=
  (decide (0xF130 ≤ a) && decide (a < 0xF140)) || (decide (0xF170 ≤ a) && decide (a < 0xF200)) ||
  (decide (0xF280 ≤ a) && decide (a < 0xFC00)) || decide (0xFC40 ≤ a)

/-- The bridge whose frames and measurements lie at an address. -/
def frameBridge (a : Nat) : Option Nat :=
  if (0xF000 ≤ a ∧ a < 0xF080) ∨ (0xF100 ≤ a ∧ a < 0xF130) then some 0
  else if (0xF080 ≤ a ∧ a < 0xF100) ∨ (0xF140 ≤ a ∧ a < 0xF170) then some 1
  else none

/-- A byte of the scratchpad as the program reads it. -/
def Engine.dataByte (e : Engine) (a : Nat) : Byte :=
  if isReservedData a || isLocalIo a then 0#8
  else match frameBridge a with
    | some b => if e.frames.contains b then Memory.byte e.mem a else 0#8
    | none => Memory.byte e.mem a

def Engine.dataNat (e : Engine) (a n : Nat) : Nat := leNat ((List.range n).map (fun k => e.dataByte (a + k)))

/-- Store bytes in the scratchpad. -/
def Engine.store (e : Engine) (a : Nat) (l : List Byte) : Engine :=
  if isReservedData a || isLocalIo a then e else { e with mem := Memory.write e.mem a l }

/-- A local I/O word (R190); a read of NOW_LO latches NOW_HI. -/
def State.ioRead (s : State) (c a : Nat) : Nat × State :=
  let e := s.engine c
  match a - 0xFC00 with
  | 0x00 => (e.evPend, s)
  | 0x04 => (e.evOvr, s)
  | 0x08 => ((s.now - e.cyclesFrom) / 2 % 2 ^ 32, s)
  | 0x0C => (s.ts % 2 ^ 32, s.setEngine c { e with nowHi := s.ts / 2 ^ 32 })
  | 0x10 => (e.nowHi, s)
  | 0x14 => (e.timer0.word, s)
  | 0x18 => (e.timer1.word, s)
  | 0x1C => (e.genB * 256 + e.genA, s)
  | 0x20 => (e.dmeasA % 2 ^ 32, s)
  | 0x24 => (e.dmeasB % 2 ^ 32, s)
  | _ => (0, s)

end Sys2Proof.Machine
end

