-- ==== Sys2Proof/Machine/Flags.lean ====
section
/-! DEFINITION. The status register of an engine (R173), the flags of ALUW and the branch conditions (R175). -/

namespace Sys2Proof.Machine

/-- SR as MOVSR and the debug port read it. -/
def Engine.sr (e : Engine) : Nat :=
  e.srHigh + 256 * e.loops.length + 8 * b2n e.flags.v + 4 * b2n e.flags.c + 2 * b2n e.flags.z + b2n e.flags.n

/-- LC: the count of the innermost active loop. -/
def Engine.lc (e : Engine) : Nat := match e.loops with
  | [] => 0
  | (_, _, k) :: _ => k

/-- Set the sticky SAT when a Q15 result was saturated. -/
def Engine.satIf (e : Engine) (c : Bool) : Engine := if c then { e with srHigh := e.srHigh ||| 0x4000 } else e

/-- Set the sticky DOM. -/
def Engine.domSet (e : Engine) : Engine := { e with srHigh := e.srHigh ||| 0x8000 }

/-- MOVSR with DIR 1: the four flags from bits [3:0], each sticky bit with a 1 cleared. -/
def Engine.writeSr (e : Engine) (w : Nat) : Engine :=
  { e with flags := { v := bitAt w 3, c := bitAt w 2, z := bitAt w 1, n := bitAt w 0 }, srHigh := e.srHigh &&& (0xFC00 - (w &&& 0xFC00)) }

/-- The flags of an addition of 32-bit words. -/
def addFlags (a b : Nat) : CeFlags :=
  let r := (a + b) % 2 ^ 32
  { n := decide (2 ^ 31 ≤ r), z := r == 0, c := decide (2 ^ 32 ≤ a + b)
    v := toSigned 32 r != toSigned 32 a + toSigned 32 b }

/-- The flags of a subtraction: C is no borrow. -/
def subFlags (a b : Nat) : CeFlags :=
  let r := (a + 2 ^ 32 - b) % 2 ^ 32
  { n := decide (2 ^ 31 ≤ r), z := r == 0, c := decide (b ≤ a), v := toSigned 32 r != toSigned 32 a - toSigned 32 b }

/-- Whether a condition of B holds. -/
def Engine.cond (e : Engine) (k : Nat) : Bool :=
  let f := e.flags
  match k with
  | 0 => true
  | 1 => f.z
  | 2 => !f.z
  | 3 => f.n != f.v
  | 4 => f.n == f.v
  | 5 => f.z || f.n != f.v
  | 6 => !f.z && f.n == f.v
  | 7 => !f.c
  | 8 => f.c
  | 9 => bitAt e.srHigh 14
  | _ => !bitAt e.srHigh 14

end Sys2Proof.Machine
end

