-- ==== Sys2Proof/Machine/Engine.lean ====
section
/-! DEFINITION. The instructions of the control engines (R168 to R194, R200 to R203): all but the fabric accesses. Each command names the
engine and executes its next instruction when that instruction is the command's own; otherwise nothing happens. -/

namespace Sys2Proof.Machine

/-! ### The next instruction -/

/-- Whether an engine takes its next instruction: its program runs, it is neither halted nor stopped by a fault, and nothing it waits for is
outstanding. -/
def State.ceReady (s : State) (c : Nat) : Bool :=
  let e := s.engine c
  (s.isOn .engine c || s.isStopping .engine c) && !e.faulted && !e.halted && e.wait == .none && s.pdOn (ceDomain c)

/-- The instruction at PC; `none` where CE_ILLEGAL is raised (R176). Unused program words are a reserved opcode (R197). -/
def Engine.fetch (e : Engine) : Option CeOp := if e.pc < 8192 then decodeCe (e.prog.at 0xFC000000#32 e.pc).toNat else none

/-- The instruction an engine executes next. -/
def State.ceNext (s : State) (c : Nat) : Option CeOp := if s.ceReady c then (s.engine c).fetch else none

/-! ### Sequencing (R175) -/

/-- Where a program goes on after an instruction: at the END of the innermost loop back to its start while its count lasts. -/
def loopNext : List (Nat × Nat × Nat) → Nat → Nat × List (Nat × Nat × Nat)
  | [], pc => (pc + 1, [])
  | (st, en, k) :: rest, pc =>
    if pc = en then (if 1 < k then (st, (st, en, k - 1) :: rest) else loopNext rest pc) else (pc + 1, (st, en, k) :: rest)

def Engine.advance (e : Engine) : Engine :=
  let (pc, l) := loopNext e.loops e.pc
  { e with pc := pc, loops := l }

/-- A taken branch: one from a loop body to a target outside it ends that loop. -/
def Engine.jump (e : Engine) (target : Nat) : Engine :=
  let inside (x : Nat × Nat × Nat) (a : Nat) : Bool := decide (x.1 ≤ a) && decide (a ≤ x.2.1)
  { e with pc := target, loops := e.loops.dropWhile (fun x => inside x e.pc && !inside x target) }

/-- An instruction that changes the engine alone and goes on behind it. -/
def State.ceDo (s : State) (c : Nat) (f : Engine → Engine) : State := s.setEngine c (f (s.engine c)).advance

/-- Run the next instruction of an engine when it is of the given form. -/
def State.ceRun (s : State) (c : Nat) (f : CeOp → Option State) : State :=
  match s.ceNext c with
  | some op => (f op).getD s
  | none => s

/-! ### Data movement -/

def State.ceNop (s : State) (c : Nat) : State := s.ceDo c id

def execNop (c : Fin 8) (s : State) : Out :=
  .next (s.ceRun c fun
    | .nop => some (s.ceNop c)
    | _ => none)

/-- LDI: IMM into one half. -/
def execLdi (c : Fin 8) (s : State) : Out :=
  .next (s.ceRun c fun
    | .ldi d h imm => some (s.ceDo c (·.putHalf d h (toSigned 16 imm)))
    | _ => none)

/-- LDIP: Pn = CLOG:ADDR. -/
def execLdip (c : Fin 8) (s : State) : Out :=
  .next (s.ceRun c fun
    | .ldip p v => some (s.ceDo c (·.setP p v))
    | _ => none)

/-- What MOVE does; CLOG = 1 in a P register is CE_ILLEGAL (R176). -/
def State.ceMove (s : State) (c dst src sub : Nat) : State :=
  let e := s.engine c
  let w := e.dReg src
  match sub with
  | 0 => s.ceDo c (·.setD dst w)
  | 1 => s.ceDo c (·.putHalf dst true (e.half src true))
  | 2 => s.ceDo c (·.putHalf dst true (e.half src false))
  | 3 => s.ceDo c (·.putHalf dst false (e.half src true))
  | 4 => s.ceDo c (·.putHalf dst false (e.half src false))
  | 5 => s.ceDo c (·.setD dst (w % 65536 * 65536 + w / 65536))
  | 6 => s.ceDo c (·.setD dst (e.pReg src))
  | _ => if w / 65536 % 16 = 1 then s.engineFault c .CE_ILLEGAL else s.ceDo c (·.setP dst w)

def execMove (c : Fin 8) (s : State) : Out :=
  .next (s.ceRun c fun
    | .move dst src sub => some (s.ceMove c dst src sub)
    | _ => none)

/-- MOVSR: DIR 0 reads SR, DIR 1 writes flags and clears sticky bits. -/
def execMovsr (c : Fin 8) (s : State) : Out :=
  .next (s.ceRun c fun
    | .movsr d write => some (s.ceDo c (fun e => if write then e.writeSr (e.dReg d) else e.setD d e.sr))
    | _ => none)

/-! ### Loads and stores (R174, R176, R183, R190, R202) -/

/-- The bytes that an access of SZ 0, 1 (a half) or 2 (a word) takes. -/
def ceSize (sz : Nat) : Nat := if sz = 2 then 4 else 2

/-- An ECC finding of an access: 1 corrected, 2 uncorrectable. Answers whether the engine stops. -/
def State.ceEcc (s : State) (c : Nat) (ecc : Nat) : State × Bool :=
  if ecc = 1 then
    ((((s.bump F.CE_ECC_COUNT_CORR c).setFlag F.CE_INT_STATUS_MEM_CORR true c).engineNote c .CE_MEM_CORR), false)
  else if ecc = 2 then
    ((((s.bump F.CE_ECC_COUNT_UNCORR c).setFlag F.CE_INT_STATUS_MEM_UNCORR true c).engineFault c .CE_MEM_UNCORR), true)
  else (s, false)

/-- LD: a half of a local I/O word reads that half of the word. -/
def State.ceLoad (s : State) (c d p am sz : Nat) (off : Int) (ecc : Nat) : State :=
  let (a, e) := (s.engine c).address p am off
  if a % ceSize sz ≠ 0 then s.engineFault c .CE_ALIGN
  else
    let (s, stop) := s.ceEcc c ecc
    if stop then s
    else
      let s := s.setEngine c { s.engine c with p := e.p }
      let (v, s) := if isLocalIo a then
          let (w, s) := s.ioRead c (a / 4 * 4)
          ((if a % 4 = 2 then w / 65536 else w) % 2 ^ (8 * ceSize sz), s)
        else ((s.engine c).dataNat a (ceSize sz), s)
      s.ceDo c (fun e => match sz with
        | 0 => e.putHalf d false (toSigned 16 v)
        | 1 => e.putHalf d true (toSigned 16 v)
        | _ => e.setD d v)

/-- A timer word written: bits [30:24] are reserved. -/
def timerWord (v now : Nat) : CeTimer := { word := v &&& 0x80FFFFFF, start := now }

/-- A store to a local I/O word. A half store leaves the other half of a timer as it is, and is 0 in the other half of EVOVR and CMD_ACK. -/
def State.ioWrite (s : State) (c a sz v : Nat) : State :=
  let e := s.engine c
  let ovr (old : Nat) : Nat := if sz = 2 then v else if a % 4 = 2 then putBits old 31 16 v else putBits old 15 0 v
  match a / 4 * 4 - 0xFC00 with
  | 0x04 => s.setEngine c { e with evOvr := e.evOvr - (e.evOvr &&& ovr 0) }
  | 0x14 => s.setEngine c { e with timer0 := timerWord (ovr e.timer0.word) s.now }
  | 0x18 => s.setEngine c { e with timer1 := timerWord (ovr e.timer1.word) s.now }
  | 0x28 => s.cmdAck c (ovr 0 / 65536) (ovr 0 % 65536)
  | _ => s

/-- ST: SZ 0 the low half, 1 the high half, 2 the word. -/
def State.ceStore (s : State) (c d p am sz : Nat) (off : Int) (ecc : Nat) : State :=
  let (a, e) := (s.engine c).address p am off
  if a % ceSize sz ≠ 0 then s.engineFault c .CE_ALIGN
  else
    let (s, stop) := s.ceEcc c ecc
    if stop then s
    else
      let w := e.dReg d
      let v := match sz with
        | 0 => w % 65536
        | 1 => w / 65536
        | _ => w
      let s := s.setEngine c { s.engine c with p := e.p }
      let s := if isLocalIo a then s.ioWrite c a sz v else s.setEngine c ((s.engine c).store a (leBytes (ceSize sz) v))
      s.ceDo c id

def execLd (c : Fin 8) (ecc : Fin 3) (s : State) : Out :=
  .next (s.ceRun c fun
    | .ld d p am sz off => some (s.ceLoad c d p am sz off ecc)
    | _ => none)

def execSt (c : Fin 8) (ecc : Fin 3) (s : State) : Out :=
  .next (s.ceRun c fun
    | .st d p am sz off => some (s.ceStore c d p am sz off ecc)
    | _ => none)

/-- The local I/O word that a load or store of an engine addresses. -/
def State.ioTarget (s : State) (c p am : Nat) (off : Int) : Nat := ((s.engine c).address p am off).1 / 4 * 4

/-- A load of NOW_LO (R190). -/
def execNowLoRead (c : Fin 8) (s : State) : Out :=
  .next (s.ceRun c fun
    | .ld d p am sz off => if s.ioTarget c p am off = 0xFC0C then some (s.ceLoad c d p am sz off 0) else none
    | _ => none)

/-- A store to TIMER0 or TIMER1 (R190). -/
def execCeTimerWrite (c : Fin 8) (s : State) : Out :=
  .next (s.ceRun c fun
    | .st d p am sz off => if s.ioTarget c p am off = 0xFC14 ∨ s.ioTarget c p am off = 0xFC18 then some (s.ceStore c d p am sz off 0) else none
    | _ => none)

/-- A store to CMD_ACK (R188). -/
def execCmdAck (c : Fin 8) (s : State) : Out :=
  .next (s.ceRun c fun
    | .st d p am sz off => if s.ioTarget c p am off = 0xFC28 then some (s.ceStore c d p am sz off 0) else none
    | _ => none)

/-! ### Multiply-accumulate (R171, R177) -/

/-- The sum of MAC before saturation. -/
def Engine.macSum (e : Engine) (a b acc : Nat) (ha hb neg clr : Bool) : Int :=
  let p := e.half a ha * e.half b hb
  (if clr then 0 else e.accum acc) + (if neg then -p else p)

def execMac (c : Fin 8) (s : State) : Out :=
  .next (s.ceRun c fun
    | .mac a b acc ha hb neg clr => some (s.ceDo c (fun e => e.setAcc acc (e.macSum a b acc ha hb neg clr)))
    | _ => none)

/-- One lane of DMAC: the sum before saturation. -/
def Engine.lane (e : Engine) (a b acc : Nat) (clr x na nb : Bool) : Int :=
  let p := e.half a true * e.half b (!x)
  let q := e.half a false * e.half b x
  (if clr then 0 else e.accum acc) + (if na then -p else p) + (if nb then -q else q)

def execDmac (c : Fin 8) (s : State) : Out :=
  .next (s.ceRun c fun
    | .dmac a b k d pair clr x0 n0a n0b x1 n1a n1b => some (s.ceDo c (fun e =>
        let l0 := e.lane a b (2 * pair) clr x0 n0a n0b
        let l1 := e.lane k d (2 * pair + 1) clr x1 n1a n1b
        (e.setAcc (2 * pair) l0).setAcc (2 * pair + 1) l1))
    | _ => none)

/-- A value shifted left by `n`, right arithmetically by `-n`. -/
def shiftBy (x n : Int) : Int := if 0 ≤ n then x * 2 ^ n.toNat else x / 2 ^ (-n).toNat

/-- Redundant sign bits of a 40-bit value: 0 to 39. -/
def signBits (x : Int) : Nat :=
  let m := (if x < 0 then -(x + 1) else x).toNat
  if m = 0 then 39 else 38 - Nat.log2 m

def Engine.accop (e : Engine) (a b d : Nat) (h : Bool) (sub : Nat) (sh : Int) : Engine :=
  match sub with
  | 0 => e.setAcc a 0
  | 1 => e.setAcc a (e.accum a + e.accum b)
  | 2 => e.setAcc a (e.accum a - e.accum b)
  | 3 => e.setAcc a (e.accum b)
  | 4 => e.setAcc a (shiftBy (e.accum a) sh)
  | 5 => e.putHalf d false (signBits (e.accum a))
  | 6 => e.setAcc a (e.half d h * 32768)
  | _ => e.setAcc a (toSigned 32 (e.dReg d))

def execAccop (c : Fin 8) (s : State) : Out :=
  .next (s.ceRun c fun
    | .accop a b d h sub sh => some (s.ceDo c (·.accop a b d h sub sh))
    | _ => none)

/-- A saturated Q15 result into a half, SAT set when it was clamped (R172). -/
def Engine.putSat (e : Engine) (d : Nat) (h : Bool) (x : Int) : Engine := (e.putHalf d h (sat16 x)).satIf (x != sat16 x)

/-- RND: rnd15 after a saturating pre-shift of 40 bits. -/
def Engine.rnd (e : Engine) (d : Nat) (h : Bool) (acc : Nat) (pre : Int) : Engine :=
  e.putSat d h (rnd15Raw (clampI (-549755813888) 549755813887 (shiftBy (e.accum acc) pre)))

def execRnd (c : Fin 8) (s : State) : Out :=
  .next (s.ceRun c fun
    | .rnd d h acc pre => some (s.ceDo c (·.rnd d h acc pre))
    | _ => none)

/-! ### Arithmetic -/

/-- ALUH on one half, before saturation. -/
def aluhOf (sub : Nat) (a b : Int) : Int :=
  match sub with
  | 0 => a + b
  | 1 => a - b
  | 2 => -a
  | 3 => if a < 0 then -a else a
  | 4 => min a b
  | _ => max a b

def execAluh (c : Fin 8) (s : State) : Out :=
  .next (s.ceRun c fun
    | .aluh d a b sub => some (s.ceDo c (fun e =>
        (e.putSat d true (aluhOf sub (e.half a true) (e.half b true))).putSat d false (aluhOf sub (e.half a false) (e.half b false))))
    | _ => none)

/-- The word result of ALUW for SUB 0 to 7. -/
def aluwOf (sub a b : Nat) : Nat :=
  match sub with
  | 0 => (a + b) % 2 ^ 32
  | 1 => (a + 2 ^ 32 - b) % 2 ^ 32
  | 2 => a &&& b
  | 3 => a ||| b
  | 4 => Nat.xor a b
  | 5 => a * 2 ^ (b % 32) % 2 ^ 32
  | 6 => a / 2 ^ (b % 32)
  | _ => ofSigned 32 (toSigned 32 a / (2 ^ (b % 32) : Nat))

/-- The flags of ALUW. C and V of a logical operation or a shift are free values: SR's layout states them for additions and subtractions. -/
def State.aluwFlags (s : State) (sub a b : Nat) : CeFlags × State :=
  match sub with
  | 0 => (addFlags a b, s)
  | 1 => (subFlags a b, s)
  | 8 => (subFlags a b, s)
  | 9 => (subFlags (ofSigned 32 (toSigned 16 (a / 65536))) (ofSigned 32 (toSigned 16 (b / 65536))), s)
  | _ =>
    let (x, s) := s.free 40
    let r := aluwOf sub a b
    ({ n := decide (2 ^ 31 ≤ r), z := r == 0, c := x % 2 != 0, v := x / 2 % 2 != 0 }, s)

def State.ceAluw (s : State) (c d a b sub : Nat) (imm : Option Int) : State :=
  let e := s.engine c
  let x := e.dReg a
  let y := match imm with
    | some i => ofSigned 32 i
    | none => e.dReg b
  let (f, s) := s.aluwFlags sub x y
  s.ceDo c (fun e => { (if sub < 8 then e.setD d (aluwOf sub x y) else e) with flags := f })

def execAluw (c : Fin 8) (s : State) : Out :=
  .next (s.ceRun c fun
    | .aluw d a b sub imm => some (s.ceAluw c d a b sub imm)
    | _ => none)

/-- SHH: both halves shifted by the same signed amount. -/
def execShh (c : Fin 8) (s : State) : Out :=
  .next (s.ceRun c fun
    | .shh d a b amt => some (s.ceDo c (fun e =>
        let n := amt.getD (toSigned 5 (e.dReg b % 32))
        (e.putSat d true (shiftBy (e.half a true) n)).putSat d false (shiftBy (e.half a false) n)))
    | _ => none)

/-! ### Function units (R178) -/

/-- SINCOS: Dd.H the cosine, Dd.L the sine. -/
def execSincos (c : Fin 8) (s : State) : Out :=
  .next (s.ceRun c fun
    | .sincos d a h => some (s.ceDo c (fun e =>
        let th := ofSigned 16 (e.half a h)
        e.putHalves d (cosUnit th) (sinUnit th)))
    | _ => none)

/-- The result of a function unit: mantissa (saturated) and exponent; outside the domain 32,767 and 16, with DOM. -/
def Engine.unitResult (e : Engine) (d : Nat) (dom : Bool) (r : Int × Int) : Engine :=
  if dom then (e.putSat d true r.1).putHalf d false r.2 else (e.putHalves d 32767 16).domSet

def execRecip (c : Fin 8) (s : State) : Out :=
  .next (s.ceRun c fun
    | .recip d a h => some (s.ceDo c (fun e => e.unitResult d (e.half a h != 0) (recipUnit (e.half a h))))
    | _ => none)

def execRsqrt (c : Fin 8) (s : State) : Out :=
  .next (s.ceRun c fun
    | .rsqrt d a h => some (s.ceDo c (fun e => e.unitResult d (decide (0 < e.half a h)) (rsqrtUnit (e.half a h))))
    | _ => none)

/-! ### Atlas lookups (R179) -/

def execAtlas (c : Fin 8) (s : State) : Out :=
  .next (s.ceRun c fun
    | .atlas dx dy o1 o2 =>
      let e := s.engine c
      some (if e.task = 0 then s.engineFault c .CE_ILLEGAL
        else s.setEngine c { e with wait := .atlas o1 o2 (e.dReg dx) (e.dReg dy) })
    | _ => none)

/-- The lookup's results arrive. -/
def execAtlasLookupDone (c : Fin 8) (s : State) : Out :=
  let e := s.engine c
  match e.wait with
  | .atlas o1 o2 x y =>
    let i16 (w : Nat) : Int := toSigned 16 w
    let tm := i16 (y % 65536)
    let (r, s) := s.atlasLookup e.slot (i16 (x / 65536)) (i16 (x % 65536)) (y / 65536) tm
    let s := s.strataCheck e.slot tm
    let s := s.ceDo c (fun e =>
      { ((e.putHalves o1 r.psiD r.psiQ).putHalves o2 r.tau (toSigned 16 (r.cconf * 256 + r.flags))) with wait := .none })
    .next (s.ceBoundary c)
  | _ => .next s

/-! ### Waiting (R181, R182, R198, R201) -/

/-- A held load whose pending enable is gone completes with STATE_REFUSED (R45, R196). -/
def State.dropHeld (s : State) (c : Nat) : State :=
  if (s.lc .engine c).pending == .enable then s
  else match (s.engine c).held with
    | some l => (s.setEngine c { s.engine c with held := none }).finish l.fromPair l.wid St.stateRefused 0
    | none => s

/-- The engine's stop sequence ends (R198): OFF; a held load waits for the next cycle (R45). -/
def State.engineOff (s : State) (c : Nat) : State :=
  let e := s.engine c
  let s := (s.updLc .engine c Lc.stopDone).setFlag F.CE_INT_STATUS_STOPPED true c
  (s.setEngine c { e with wait := .none, stopReturned := false }).dropHeld c

/-- WAITEV returns an event: its bit is cleared, and the buffer returned is the announced one. -/
def State.takeEvent (s : State) (c ev : Nat) : State :=
  let e := s.engine c
  let info := e.evInfo.at 0 ev
  let e := { e with evPend := e.evPend - (e.evPend &&& 2 ^ ev), lastReturn := s.now, wait := .none }
  let e := if ev < 2 ∨ (4 ≤ ev ∧ ev ≤ 6) then
      { e with announced := e.announced.setAt 1 ev info, filled := e.filled.setAt false ev false } else e
  let at_ := e.frameAt.at 0 (2 * ev + info)
  let e := match ev with
    | 0 => { e with sampleA := some at_, dueA := e.writes.contains 0, loopFrom := s.now }
    | 1 => { e with sampleB := some at_, dueB := e.writes.contains 1, loopFrom := s.now }
    | 11 => { e with stopReturned := true }
    | _ => e
  s.setEngine c e

/-- WAITEV returns an event to its program: Dd.L is its number and Dd.H its info. -/
def State.waitReturn (s : State) (c d ev : Nat) : State :=
  let info := (s.engine c).evInfo.at 0 ev
  (s.takeEvent c ev).ceDo c (·.setD d (info % 65536 * 65536 + ev))

/-- The lowest-numbered pending event of a mask. -/
def Engine.pendingIn (e : Engine) (mask : Nat) : Option Nat := (List.range 12).find? (fun k => bitAt e.evPend k && bitAt mask k)

/-- WAITEV at the present events; `none` while there is nothing to return and no stop. -/
def State.waitTry (s : State) (c d mask : Nat) : Option State :=
  let e := s.engine c
  if e.stopReturned then some (s.engineOff c)
  else if bitAt e.evPend Ev.stop then some (if bitAt mask Ev.stop then s.waitReturn c d Ev.stop else s.engineOff c)
  else (e.pendingIn mask).map (s.waitReturn c d)

def execWaitev (c : Fin 8) (s : State) : Out :=
  .next (s.ceRun c fun
    | .waitev d mask => some ((s.waitTry c d mask).getD (s.setEngine c { s.engine c with wait := .event mask d }))
    | _ => none)

/-- A sleeping WAITEV goes on. -/
def execWaitevResume (c : Fin 8) (s : State) : Out :=
  let e := s.engine c
  match e.wait with
  | .event mask d => .next (if e.halted || !s.pdOn (ceDomain c) then s else (s.waitTry c d mask).getD s)
  | _ => .next s

/-! ### Writing the bridge (R191, R192, R199) -/

/-- The generation that WPWM tags its writes with. -/
def Engine.gen (e : Engine) (br : Nat) : Nat := if br = 0 then e.genA else e.genB

/-- The engine's cycles from the SAMPLE return to the issue of a commit (R192). -/
def State.loopCycles (s : State) (c : Nat) : State :=
  let k := min 65535 ((s.now - (s.engine c).loopFrom) / 2)
  (s.setFld F.CE_LOOP_CYCLES_LAST k c).setFld F.CE_LOOP_CYCLES_MAX (max k (s.fld F.CE_LOOP_CYCLES_MAX c)) c

/-- A write under way to a bridge: a write behind no commit reaches the shadow at once, another follows in issue order. -/
def State.wpwmWrite (s : State) (c br idx v : Nat) (commit : Bool) : State :=
  let e := s.engine c
  if !s.pdOn (Reg.PWM_STATUS.domain br) then s
  else if (s.pwm br).flight.isEmpty && !commit then s.shadowWrite br idx v (e.gen br)
  else s.setPwm br { s.pwm br with flight := (s.pwm br).flight ++ [⟨idx, v, e.gen br, commit, c, s.now⟩] }

/-- A commit increments the engine's generation of the bridge. -/
def Engine.nextGen (e : Engine) (br : Nat) : Engine :=
  if br = 0 then { e with genA := (e.genA + 1) % 256 } else { e with genB := (e.genB + 1) % 256 }

def State.ceWpwm (s : State) (c d br sel : Nat) (commit : Bool) : State :=
  let e := s.engine c
  if e.task = 0 then s.engineFault c .CE_ILLEGAL
  else if !e.writes.contains br then s.engineFault c .CE_WPWM_DENIED
  else
    let s := s.wpwmWrite c br (if sel = 6 then 12 else sel) (e.dReg d) commit
    let s := if commit then s.loopCycles c else s
    s.ceDo c (fun e => if commit then e.nextGen br else e)

def execWpwm (c : Fin 8) (s : State) : Out :=
  .next (s.ceRun c fun
    | .wpwm d br sel commit => some (s.ceWpwm c d br sel commit)
    | _ => none)

/-! ### Publishing (R193, R194) -/

/-- Copy 32 bytes into the staging buffer of a box, and go on. -/
def State.publStage (s : State) (c box addr : Nat) : State :=
  s.ceDo c (fun e => { e with staged := e.staged.setAt [] box ((List.range 32).map (fun k => e.dataByte ((addr + k) % 65536))), wait := .none })

def execPubl (c : Fin 8) (s : State) : Out :=
  .next (s.ceRun c fun
    | .publ box p =>
      let e := s.engine c
      let a := e.pAddr p
      some (if a % 8 ≠ 0 then s.engineFault c .CE_ALIGN
        else if (e.staged.at [] box).isEmpty then s.publStage c box a
        else s.setEngine c { e with wait := .publ box a })
    | _ => none)

/-- A counted drop of a published record; the first one since the register was zero raises CE_PUBL_DROP. -/
def State.publDrop (s : State) (c : Nat) (f : Fld) : State :=
  let first := s.reg ⟨.CE_PUBL_DROP, c, 0⟩ == 0#32
  let s := (s.bump f c).setFlag F.CE_INT_STATUS_PUBL_DROP true c
  if first then s.engineNote c .CE_PUBL_DROP else s

/-- Whether a pair would take a record of `len` bytes (R421). -/
def State.canPut (s : State) (n len : Nat) : Bool :=
  s.isOn .ring n && (match (s.ring n).bufs with
    | [] => false
    | b :: rest => decide (b.used + len ≤ b.len) || (b.used != 0 && (match rest with
      | [] => false
      | b2 :: _ => decide (len ≤ b2.len))))

/-- A TELEMETRY or CAPTURE record goes to its pair, or is dropped. -/
def State.publPair (s : State) (c n : Nat) (rec : List Byte) : State :=
  let s' := if n < 64 then s.deliver n rec else s
  if n < 64 ∧ s.canPut n rec.length = true then s' else s'.publDrop c F.CE_PUBL_DROP_RING

/-- The partner of a task: the slot's helper for its owner, its owner for its helper. -/
def State.partnerOf (s : State) (c : Nat) : Option Nat :=
  let e := s.engine c
  if e.task = 1 then s.helperOf e.slot else if e.task = 2 then s.ownerOf e.slot else none

/-- A record for the slot's torque monitor: a running island reads it at once, else it replaces one not read yet. -/
def State.monitorPost (s : State) (n : Nat) (rec : List Byte) : State :=
  let x := s.slot n
  if s.pairOk 0 || s.pairOk 1 then
    s.setSlot n { x with monBox := none, monRecs := x.monRecs ++ [rec], monLast := some rec, monAt := s.now }
  else s.setSlot n { x with monBox := some (rec, s.now), monAt := s.now }

/-- A record reaches its target. An engine without a slot has only its TELEMETRY pair; what it publishes elsewhere is discarded. -/
def State.publGive (s : State) (c box : Nat) (rec : List Byte) : State :=
  let e := s.engine c
  let n := e.slot
  match box with
  | 2 => s.publPair c e.pair rec
  | _ =>
    if e.task = 0 then s
    else match box with
      | 0 =>
        let full := decide (64 ≤ (s.atl n).fifo.length)
        let s := s.dressPush n rec
        if full then s.publDrop c F.CE_PUBL_DROP_DRESS else s
      | 1 =>
        let s := if (s.slot n).monBox.isSome then s.publDrop c F.CE_PUBL_DROP_MONITOR else s
        s.monitorPost n rec
      | 3 =>
        if !s.isOn .injector n then s.publDrop c F.CE_PUBL_DROP_RING
        else
          let x := s.slot n
          let lost := !s.canPut x.inj.pair rec.length
          (s.setSlot n { x with inj := { x.inj with seq := (x.inj.seq + 1) % 65536, overrun := lost } }).publPair c x.inj.pair rec
      | _ => match s.partnerOf c with
        | none => s
        | some q =>
          let s := if (s.engine q).filled.at false 6 then s.publDrop c F.CE_PUBL_DROP_PEER else s
          s.deliverTo q 6 rec

/-- A staged record has drained; a PUBL that waits for its box takes its place. -/
def execPublDrainDone (c : Fin 8) (box : Fin 5) (s : State) : Out :=
  let rec_ := (s.engine c).staged.at [] box
  if rec_.isEmpty then .next s
  else
    let s := s.setEngine c { s.engine c with staged := (s.engine c).staged.setAt [] box [] }
    let s := s.publGive c box rec_
    .next (match (s.engine c).wait with
      | .publ b a => if b = box.val then (s.publStage c b a).ceBoundary c else s
      | _ => s)

/-! ### Control flow -/

def execB (c : Fin 8) (s : State) : Out :=
  .next (s.ceRun c fun
    | .b cond target => some (if (s.engine c).cond cond then s.setEngine c ((s.engine c).jump target) else s.ceDo c id)
    | _ => none)

/-- CALL: a fifth one is CE_STACK. -/
def execCall (c : Fin 8) (s : State) : Out :=
  .next (s.ceRun c fun
    | .call target =>
      let e := s.engine c
      some (if 4 ≤ e.stack.length then s.engineFault c .CE_STACK
        else s.setEngine c { e with stack := (e.pc + 1) :: e.stack, pc := target })
    | _ => none)

/-- RET: CE_STACK on an empty stack. -/
def execRet (c : Fin 8) (s : State) : Out :=
  .next (s.ceRun c fun
    | .ret =>
      let e := s.engine c
      some (match e.stack with
        | [] => s.engineFault c .CE_STACK
        | r :: t => s.setEngine c { e with stack := t, pc := r })
    | _ => none)

/-- LOOP over PC + 1 to END; a count of 0 skips the body. -/
def State.ceLoop (s : State) (c : Nat) (imm : Bool) (count last : Nat) : State :=
  let e := s.engine c
  let k := if imm then count else e.dReg count % 65536
  if last ≤ e.pc ∨ 2 ≤ e.loops.length then s.engineFault c .CE_STACK
  else if k = 0 then
    let (pc, l) := loopNext e.loops last
    s.setEngine c { e with pc := pc, loops := l }
  else s.setEngine c { e with loops := (e.pc + 1, last, k) :: e.loops, pc := e.pc + 1 }

def execLoop (c : Fin 8) (s : State) : Out :=
  .next (s.ceRun c fun
    | .loop imm count last => some (s.ceLoop c imm count last)
    | _ => none)

/-- BKPT halts the engine behind it where the debug policy permits, else it is a NOP (R204). -/
def execBkpt (c : Fin 8) (s : State) : Out :=
  .next (s.ceRun c fun
    | .bkpt => some (let s := s.ceDo c id; if s.debugOpen .ceHalt then s.askHalt c else s)
    | _ => none)

/-- The instruction at PC is no instruction: CE_ILLEGAL (R176). -/
def execReservedOpcode (c : Fin 8) (s : State) : Out :=
  .next (if s.ceReady c && (s.engine c).fetch.isNone then s.engineFault c .CE_ILLEGAL else s)

/-! ### Timers and the hang watchdog (R190, R201) -/

def Engine.timer (e : Engine) (t : Nat) : CeTimer := if t = 0 then e.timer0 else e.timer1

/-- A local timer that counts, by its COUNT in CE cycles, has run out: a periodic one starts again, another stops. -/
def execCeTimerExpiry (c : Fin 8) (t : Fin 2) (s : State) : Out :=
  let e := s.engine c
  let x := e.timer t
  let k := x.word % 2 ^ 24
  if k = 0 || !s.elapsed x.start (2 * k) || !(s.isOn .engine c || s.isStopping .engine c) then .next s
  else
    let x : CeTimer := if bitAt x.word 31 then { x with start := x.start + 2 * k } else { word := 0, start := s.now }
    let s := s.setEngine c (if t = 0 then { e with timer0 := x } else { e with timer1 := x })
    .next (s.raiseEvent c (2 + t) 0)

/-- More than WDG_CYCLES cycles without a WAITEV return. -/
def execCeHangExpiry (c : Fin 8) (s : State) : Out :=
  let e := s.engine c
  let waits := match e.wait with
    | .event _ _ => true
    | _ => false
  .next (if (s.isOn .engine c || s.isStopping .engine c) && !e.faulted && !e.halted && !waits &&
      decide (s.parN P.WDG_CYCLES c < (s.now - e.lastReturn) / 2) then s.engineWatchdog c .CE_HANG else s)

end Sys2Proof.Machine
end

