-- ==== Sys2Proof/Machine/Field.lean ====
section
/-! DEFINITION. Field control (chapter 2): what its tasks share. Frames and currents, torque from the atlas, limits and derating,
the injector's conditions. Torques are in µN·m, speeds in 0.01 rpm unless a name says otherwise. -/

namespace Sys2Proof.Machine

/-! ### Frames (R185) -/

/-- What field control reads of a sample frame. -/
structure Frame where
  time : Nat
  ia : Int
  ib : Int
  theta : Nat
  flags : Nat
  speed : Int
  vdc : Int
  dPrev : Nat
  deriving DecidableEq, Repr

def frameOf (l : List Byte) : Frame :=
  ⟨rawField l 0 8, rawFieldS l 8 2, rawFieldS l 10 2, rawField l 20 2, rawField l 22 2, rawFieldS l 24 4, rawFieldS l 28 4, rawField l 36 4⟩

/-- The frame of a bridge that an engine's program holds. -/
def State.frameHeld (s : State) (c b : Nat) : Frame :=
  let e := s.engine c
  frameOf (Memory.read e.mem (bufferAddr b (min 1 (e.announced.at 1 b))) 64)

/-- i_d and i_q of two phase currents at an angle, as the program of chapter 4's example forms them. -/
def parkOf (ia ib : Int) (th : Nat) : Int × Int :=
  let beta := rnd15 ((ia + ib) * 18918 + ib * 18918)
  let c := cosUnit th
  let n := sinUnit th
  (rnd15 (ia * c + beta * n), rnd15 (beta * c - ia * n))

/-- Q15 of I_BASE to mA, and back. -/
def State.toMa (s : State) (n : Nat) (q : Int) : Int := roundFree 50 (q * s.par P.I_BASE n) 32768
def State.fromMa (s : State) (n : Nat) (i : Int) : Int := sat16 (roundFree 51 (i * 32768) (max 1 (s.parN P.I_BASE n)))

/-! ### Torque of the atlas (R65) -/

/-- 1.5 × POLE_PAIRS × (ψ_d × i_q − ψ_q × i_d), currents in Q15 of I_BASE. -/
def State.fluxTorque (s : State) (n : Nat) (psiD psiQ id iq : Int) : Int :=
  roundFree 52 (3 * s.par P.POLE_PAIRS n * (psiD * iq - psiQ * id) * s.par P.PSI_BASE n * s.par P.I_BASE n) 2147483648000

/-- A torque in Q15 of T_BASE. -/
def State.baseTorque (s : State) (n : Nat) (tau : Int) : Int :=
  roundFree 53 (3 * s.par P.POLE_PAIRS n * tau * s.par P.PSI_BASE n * s.par P.I_BASE n) 65536000

/-- T_MAG of a slot (R587). -/
def State.tMag (s : State) (n : Nat) : Int := s.fldS F.HKEEP_TMAG_TEMP n

/-! ### Rates (R63, R64) -/

/-- The bridge whose timeline clocks a slot. -/
def State.mainBridge (_s : State) (n : Nat) : Nat := n

/-- REF_DIV: the largest count of current cycles within 100 µs, at least 1. -/
def State.refDiv (s : State) (n : Nat) : Nat := max 1 (80000 * s.parN P.LOOP_RATE n / max 1 (s.period (s.mainBridge n)))

/-- The time of `k` current cycles as a fraction of ticks. -/
def State.cycleTime (s : State) (n k : Nat) : Nat × Nat := (k * s.period (s.mainBridge n), max 1 (s.parN P.LOOP_RATE n))

/-! ### Limits and derating (R74 to R78) -/

/-- A derating curve at an input, as a fraction of ‰ (R76). -/
def State.derate (s : State) (id n : Nat) (x : Int) : Int × Nat :=
  let p (i : Nat) : Int × Int := (s.par id n (2 * i), s.par id n (2 * i + 1))
  if x ≤ (p 0).1 then ((p 0).2, 1)
  else if (p 7).1 ≤ x then ((p 7).2, 1)
  else match (List.range 7).find? (fun i => decide (x < (p (i + 1)).1)) with
    | some i =>
      let a := p i
      let b := p (i + 1)
      (a.2 * (b.1 - a.1) + (b.2 - a.2) * (x - a.1), (b.1 - a.1).toNat)
    | none => ((p 7).2, 1)

/-- The sensors of R582 that R77 gives to a slot: its satellites' dies, the island NTCs of its banks, its machine NTCs. -/
def State.slotSensors (s : State) (n : Nat) : List Nat :=
  ((s.bridgesOfSlot n).map (fun b => (satsOfBridge b).map (16 + ·) ++ (List.range 4).map (35 + 4 * b + ·))).flatten ++
    ((List.range 6).filter (fun k => bitAt (s.parN P.SLOT_NTC n) k)).map (29 + ·)

/-- The temperature input of DERATE_TEMP (R77): the highest of the sensors that have a value. -/
def State.slotTemp (s : State) (n : Nat) : Int :=
  match ((s.slotSensors n).filter (fun i => s.flag F.HKEEP_TEMP_VALID i)).map (fun i => s.fldS F.HKEEP_TEMP_TEMP i) with
  | [] => 0
  | t :: l => l.foldl max t

/-- The input of DERATE_VDC (R77). -/
def State.slotVdc (s : State) (n : Nat) : Int :=
  match (s.bridgesOfSlot n).map s.vdcMv with
  | [] => 0
  | v :: l => l.foldl min v

/-- w_max for a direction of rotation. -/
def State.wMax (s : State) (n : Nat) (w : Int) : Int :=
  let base := if w < 0 then s.par P.SPEED_MAX_REV n else s.par P.SPEED_MAX_FWD n
  let cap := s.par P.FLEET_SPEED_MAX n
  if cap ≠ 0 ∧ cap < base then cap else base

/-- k_fault in ‰ (R74, R106). -/
def State.kFault (s : State) (n : Nat) : Int :=
  if s.derated n then (if (s.slot n).lostSet.isSome then min (s.par P.DERATE_FAULT n) 500 else s.par P.DERATE_FAULT n) else 1000

/-- What the limit chain gives for a request: T_lim, T_cmd, and LIMIT_SRC bits 0, 1 and 4 to 9 (R80). -/
structure Chain where
  lim : Int
  cmd : Int
  src : Nat
  deriving DecidableEq, Repr

/-- 10^15 × π, to the nearest integer. -/
def piE15 : Nat := 3141592653589793

/-- The limit chain up to T_cmd at a measured speed. -/
def State.limitChain (s : State) (n : Nat) (req w : Int) : Chain :=
  let mot := decide (0 ≤ req * w)
  let kt := s.derate P.DERATE_TEMP n (s.slotTemp n)
  let kv := s.derate P.DERATE_VDC n (s.slotVdc n)
  let kf := s.kFault n
  let comN := kt.1 * kv.1 * kf
  let comD := kt.2 * 1000 * (kv.2 * 1000) * 1000
  let ft := s.par P.FLEET_TORQUE n
  let fp := s.par P.FLEET_POWER n
  let tT := roundFree 54 ((if mot then s.par P.TORQUE_MAX_MOT n else s.par P.TORQUE_MAX_GEN n) * 1000 * comN * ft) (comD * 1000)
  -- P_lim / |w_m| with w_m = w × π / 3,000 rad/s
  let tP := roundFree 55 ((if mot then s.par P.POWER_MAX_MOT n else s.par P.POWER_MAX_GEN n) * comN * fp * 3000000000 * 10 ^ 15)
    (max 1 (comD * 1000 * piE15 * w.natAbs))
  let byPower := w ≠ 0 ∧ tP < tT
  let l1 := if byPower then tP else tT
  let creep := 1000 * s.par P.CREEP_TORQUE n
  let byCreep := (s.immobOf n).on = true ∧ creep < l1
  let l2 := if byCreep then creep else l1
  let band := s.par P.SPEED_LIM_BAND n
  let ks := clampI 0 band (s.wMax n w - w.natAbs)
  let lim := if mot then roundFree 56 (l2 * ks) (max 1 band.toNat) else l2
  let cmd := clampI (-lim) lim req
  let cut := cmd ≠ req
  let bit (k : Nat) (c : Bool) : Nat := if c ∧ cut then 2 ^ k else 0
  { lim := lim, cmd := cmd
    src := bit 0 (decide (¬byPower ∧ ¬byCreep)) + bit 1 (decide (byPower ∧ ¬byCreep)) + bit 4 (decide (ks < band)) +
      bit 5 (decide (kt.1 < 1000 * kt.2)) + bit 6 (decide (kv.1 < 1000 * kv.2)) + bit 7 (decide (ft < 1000) || decide (fp < 1000)) +
      bit 8 (decide (kf < 1000)) + bit 9 (decide byCreep) }

/-! ### The tuning injector (R110 to R114) -/

/-- The conditions of R112 in traffic. -/
def State.injOk (s : State) (n : Nat) : Bool :=
  let x := s.slot n
  x.inj.axis == 0 && decide (50 * x.inj.amp.natAbs ≤ s.parN P.I_RATED n) && s.elapsed x.inj.steadyAt (msT * s.parN P.INJ_STEADY_T n) &&
    decide (s.parN P.INJ_MARGIN n ≤ s.fld F.SAFETY_SLOT_MARGIN n) && x.limitSrc == 0

/-- Whether bench mode applies (R113, R588): the DC link measured below 60 V. -/
def State.injBench (s : State) (n : Nat) : Bool :=
  (s.bridgesOfSlot n).all (fun b => s.flag F.HKEEP_VDC_VALID b && decide (s.fldS F.HKEEP_VDC_MV b < 60000))

/-- Whether a fault of RC1 or above has been raised for a slot since a tick. -/
def State.faultSince (s : State) (n t : Nat) : Bool :=
  s.faults.scree.any (fun e => decide (1 ≤ e.cls) && e.event == 0 && decide (t ≤ e.tick) && (e.scope == n || e.scope == 4))

/-- The injector aborts (R114): it stops, and its last record will say so. -/
def State.injAbort (s : State) (n : Nat) : State :=
  if !(s.isOn .injector n || s.isStarting .injector n) then s
  else
    let x := s.slot n
    let s := s.setSlot n { x with inj := { x.inj with aborting := true, value := 0 } }
    (s.updLc .injector n (Lc.disable true)).raise .INJ_ABORT n (s.scopeSlot n)

/-- Whether an ON injector has to abort. -/
def State.injMustAbort (s : State) (n : Nat) : Bool :=
  let x := s.slot n
  s.isOn .injector n && (!s.isOn .slot n || s.faultSince n x.inj.since || (!x.inj.bench && !s.injOk n))

/-- How long the signal of an injector lasts, in current cycles; STEP and CHIRP by their duration (R111, R417). -/
def State.injLength (s : State) (n : Nat) : Nat :=
  let i := (s.slot n).inj
  let ct := s.cycleTime n 1
  match i.signal with
  | 0 => i.duration * i.reps * msT * ct.2 / max 1 ct.1
  | 1 => i.duration * msT * ct.2 / max 1 ct.1
  | _ => i.reps * (2 ^ i.prbsLen - 1) * i.prbsBit

end Sys2Proof.Machine
end

