-- ==== Sys2Proof/Machine/FieldCycle.lean ====
section
/-! DEFINITION. The current cycle of a slot and its supervision (R79, R91 to R116), as the field-control program shipped with the module runs it on the
slot's engines. The gains of the current controllers, the observer and the placing of the pulses are not stated: what they give is a free value. -/

namespace Sys2Proof.Machine

/-! ### Free values with bounds -/

/-- A free value from `lo` to `hi`. -/
def State.freeIn (s : State) (site : Nat) (lo hi : Int) : Int × State :=
  let (x, s) := s.free site
  (clampI lo hi x, s)

/-- `k` of them. -/
def State.freeList (site : Nat) (lo hi : Int) : Nat → State → List Int × State
  | 0, s => ([], s)
  | k + 1, s =>
    let (x, s) := s.freeIn site lo hi
    let (l, s) := State.freeList site lo hi k s
    (x :: l, s)

/-! ### Taking the samples and writing the compares -/

/-- Whether an engine's program is at its wait, or runs, with a SAMPLE of a bridge pending. -/
def State.cycleReady (s : State) (c b : Nat) : Bool :=
  let e := s.engine c
  let free := match e.wait with
    | .none => true
    | .event _ _ => true
    | _ => false
  (s.isOn .engine c || s.isStopping .engine c) && !e.faulted && !e.halted && free && s.pdOn (ceDomain c) && bitAt e.evPend b

/-- The program of an engine takes the pending SAMPLEs of bridges. -/
def State.takeSamples (s : State) (c : Nat) (bs : List Nat) : State :=
  bs.foldl (fun s b => if bitAt (s.engine c).evPend b then s.takeEvent c b else s) s

/-- The six compares of a bridge and their commit (R191, R192). The shipped cycle takes 440 to 960 cycles. -/
def State.programWrites (s : State) (c b : Nat) (vals : List Int) : State :=
  if !(s.engine c).writes.contains b then s
  else
    let s := ((List.range 6).zip vals).foldl (fun s p => s.wpwmWrite c b p.1 p.2.toNat (p.1 == 5)) s
    let (k, s) := s.freeIn 60 440 960
    let s := (s.setFld F.CE_LOOP_CYCLES_LAST k.toNat c).setFld F.CE_LOOP_CYCLES_MAX (max k.toNat (s.fld F.CE_LOOP_CYCLES_MAX c)) c
    s.setEngine c ((s.engine c).nextGen b)

/-- The compares of a bridge: the float code while it is not to be driven (R211), else what the modulation gives, from 0 to P8. -/
def State.writeBridge (s : State) (c b : Nat) (drive : Bool) : State :=
  if drive then
    let (l, s) := State.freeList 61 0 (s.p8 b) 6 s
    s.programWrites c b l
  else s.programWrites c b (List.replicate 6 (floatCode : Int))

/-! ### Voltage (R91, R94) -/

/-- The square of the voltage limit, in mV² × 3,000,000: the amplitude is V_UTIL_MAX / 1,000 × V_DC / √3. -/
def State.vLimSq (s : State) (n : Nat) (vdc : Int) : Int := (s.par P.V_UTIL_MAX n * vdc) ^ 2

/-- The voltage applied: at the limit the d component is kept and the q component reduced; a d component beyond it is cut to it. -/
def voltageLimit (lim3 : Int) (vd vq : Int) : Int × Int × Bool :=
  if 3000000 * (vd * vd + vq * vq) ≤ lim3 then (vd, vq, false)
  else
    let amp (x : Int) : Int := isqrt (x / 3000000).toNat
    if lim3 < 3000000 * (vd * vd) then ((if vd < 0 then -amp lim3 else amp lim3), 0, true)
    else
      let q := amp (lim3 - 3000000 * (vd * vd))
      (vd, if vq < 0 then -q else q, true)

/-! ### Angle advance (R96) -/

/-- The delay D of this cycle in ticks: in immediate mode the last cycle's D_meas, else the time from the sample to the update point that follows. -/
def State.delayOf (s : State) (n : Nat) (f : Frame) : Nat :=
  let b := s.mainBridge n
  let x := s.pwm b
  let per := s.period b
  let since := (s.sens b).sampleAt - x.wrapAt
  if s.par P.UPD_MODE b == 2 then f.dPrev
  else if s.par P.UPD_MODE b == 1 ∧ since < per / 2 then per / 2 - since
  else per - min per since

/-- An electrical angle in 1/65,536 turn that a speed covers in `t / d` half ticks. -/
def State.angleIn (s : State) (n : Nat) (w t : Int) (d : Nat) : Int :=
  roundUpHalf (65536 * w * s.par P.POLE_PAIRS n * t) (6000 * 2 * 800000000 * d)

/-! ### Supervision -/

/-- OVERSPEED while the speed is beyond w_max with its margin, or beyond 30,000 rpm (R79). -/
def State.overspeed (s : State) (n : Nat) (w : Int) : State :=
  let ovr := decide (s.wMax n w * (1000 + s.par P.OVERSPEED_MARGIN n) < 1000 * w.natAbs) || decide (3000000 < w.natAbs)
  if ovr then (if s.faultActive .OVERSPEED n then s else s.raise .OVERSPEED n (s.scopeSlot n) 0 none true) else s.cease .OVERSPEED n

/-- SHUNT_PREDICT_LIMIT of each bridge (R100). -/
def State.shuntPredict (s : State) (n : Nat) : State :=
  (s.bridgesOfSlot n).foldl (fun s b =>
    let act := s.faultActive .SHUNT_PREDICT_LIMIT b
    if 8 ≤ s.fld F.ADC_CHK_STATUS_PRED_CONSEC b ∧ act = false then
      (s.setSens b { s.sens b with paused := true }).raise .SHUNT_PREDICT_LIMIT b (s.scopeSlot n) 0
        (if s.par P.PREDICT_DERATE n == 1 then some 2 else none) true
    else if 4 ≤ s.fld F.ADC_CHK_STATUS_VALID_CONSEC b ∧ act = true then
      (s.setSens b { s.sens b with paused := false }).cease .SHUNT_PREDICT_LIMIT b
    else s) s

/-- A safe state fixed by the rule that raises a fault (R364). -/
def State.fixSafe (s : State) (bs : List Nat) (x : Nat → SafeState) : State :=
  bs.foldl (fun s b => s.setSafe b { s.safeOf b with forced := some (s.swapSide b (x b)) }) s

/-- Observer loss (R108): continue on a healthy sensor, else the safe state by the speed at the first sample of the run. -/
def State.observerLoss (s : State) (n : Nat) : State :=
  let x := s.slot n
  let healthy := s.par P.POS_MODE n == 2 && (match s.posSource n with
    | some i => s.posValid i
    | none => false)
  let s := s.setSlot n { x with obsRun := 0, obsLost := true }
  if healthy then s.raise .OBSERVER_LOSS n (s.scopeSlot n) 0 (some 1)
  else (s.fixSafe (s.bridgesOfSlot n) (fun b => if s.par P.ASC_SPEED n < x.obsSpeed then s.ascOf b else .spo)).raise .OBSERVER_LOSS n (s.scopeSlot n)

/-- The residual of a cycle in ‰ of I_RATED against both bounds (R107, R109). -/
def State.residual (s : State) (n : Nat) (r w : Int) (limited : Bool) : State :=
  let x := s.slot n
  let hi := decide (s.par P.OBS_RES_HI n < r)
  let satSince := if limited then some (x.satSince.getD s.now) else none
  let s := s.setSlot n { x with
    vLimit := limited, satSince := satSince, obsRun := if hi then x.obsRun + 1 else 0
    obsSpeed := if hi ∧ x.obsRun = 0 then (w.natAbs : Int) else x.obsSpeed, obsLost := x.obsLost && hi }
  let s := match satSince with
    | some t => if decide (usT * s.parN P.T_SAT n < s.now - t) && decide (s.par P.OBS_RES_LO n < r)
        then s.raise .CTRL_SAT_IMPLAUSIBLE n (s.scopeSlot n) else s
    | none => s
  if hi && decide (s.parN P.OBS_N n ≤ x.obsRun + 1) then s.observerLoss n else s

/-- The sums of squares of R104 over the electrical period, by phase of each bridge, and whether the reference stayed above 20 % of I_RATED. -/
def State.missingSums (s : State) (n c : Nat) : State :=
  let x := s.slot n
  let sums := (s.bridgesOfSlot n).foldl (fun l b =>
    let f := s.frameHeld c b
    let add (l : List Nat) (k : Nat) (i : Int) : List Nat := l.set (3 * b + k) (l.getD (3 * b + k) 0 + i.natAbs * i.natAbs)
    add (add (add l 0 f.ia) 1 f.ib) 2 (f.ia + f.ib)) (if x.squares.length = 6 then x.squares else List.replicate 6 0)
  let amp := x.iD.natAbs * x.iD.natAbs + x.iQ.natAbs * x.iQ.natAbs
  let big := decide (s.parN P.I_RATED n * s.parN P.I_RATED n < 25 * amp)
  s.setSlot n { x with squares := sums, periodOk := x.periodOk && big }

/-! ### The injector (R110 to R116) -/

/-- A capture record (R115). -/
def State.captureRecord (s : State) (n : Nat) (time : Nat) (flags vd vq : Int) : List Byte :=
  let x := s.slot n
  let i32 (v : Int) : List Byte := leBytes 4 (ofSigned 32 v)
  leBytes 8 time ++ i32 x.inj.value ++ i32 (s.toMa n x.measD) ++ i32 (s.toMa n x.measQ) ++ i32 vd ++ i32 vq ++ leBytes 2 x.inj.seq ++
    leBytes 2 flags.toNat

/-- Put a capture record; while the ring is full it is dropped and still counted (R116). -/
def State.capture (s : State) (n : Nat) (time : Nat) (flags : Nat) (vd vq : Int) : State :=
  let i := (s.slot n).inj
  let rec_ := s.captureRecord n time (flags + 32 * b2n i.overrun : Nat) vd vq
  let lost := !s.canPut i.pair 32
  let s := s.deliver i.pair rec_
  s.setSlot n { s.slot n with inj := { (s.slot n).inj with seq := (i.seq + 1) % 65536, overrun := lost, first := false } }

/-- The injector's part of a current cycle: the value, a record every DECIM cycles, the last record. -/
def State.injCycle (s : State) (n time : Nat) (coarse vsat : Bool) (vd vq : Int) : State :=
  let s := if s.injMustAbort n then s.injAbort n else s
  let fl := 8 * b2n coarse + 16 * b2n vsat
  let i := (s.slot n).inj
  if s.isOn .injector n then
    if s.injLength n ≤ i.cycles then
      (s.setSlot n { s.slot n with inj := { i with value := 0 } }).updLc .injector n (Lc.disable true)
    else
      let (v, s) := s.freeIn 62 (-(i.amp.natAbs : Int)) i.amp.natAbs
      let s := s.setSlot n { s.slot n with inj := { i with value := v, cycles := i.cycles + 1 } }
      if i.cycles % max 1 i.decim = 0 then s.capture n time (fl + b2n i.first) vd vq else s
  else if s.isStopping .injector n && !i.closed && i.replies.isEmpty then
    let s := s.setSlot n { s.slot n with inj := { i with value := 0, closed := true } }
    s.capture n time (fl + 2 + 4 * b2n i.aborting + b2n i.first) vd vq
  else s

/-! ### Records (R141, R194) -/

/-- The monitor record of a cycle (R194). -/
def State.monitorRecord (s : State) (n : Nat) (f : Frame) (r : Looked) (predicted : Bool) : List Byte :=
  let x := s.slot n
  let est := s.fluxTorque n r.psiD r.psiQ x.measD x.measQ + s.baseTorque n r.tau
  let i16 (v : Int) : List Byte := leBytes 2 (ofSigned 16 v)
  let fb (k : Nat) : Nat := bits r.flags k k
  leBytes 8 f.time ++ leBytes 4 (ofSigned 32 (mNm x.tRef)) ++ leBytes 4 (ofSigned 32 (mNm est)) ++ i16 x.measD ++ i16 x.measQ ++ i16 r.psiD ++
    i16 r.psiQ ++ leBytes 2 f.theta ++ leBytes 1 (fb 0 + 2 * b2n predicted + 4 * fb 3 + 8 * b2n x.vLimit + 16 * fb 1 + 32 * fb 2) ++
    leBytes 1 r.cconf ++ leBytes 2 x.monSeq ++ leBytes 2 (min 65535 f.dPrev)

/-- A publication for dressing (R141); the estimates of flux and torque are free values. -/
def State.dressRecord (s : State) (n : Nat) (f : Frame) (w : Int) (r : Looked) (predicted : Bool) : List Byte × State :=
  let x := s.slot n
  let (e, s) := State.freeList 63 (-32768) 32767 3 s
  let (q, s) := s.freeIn 64 0 255
  let q := if x.measD = 0 ∧ x.measQ = 0 then 255 else q
  let steady := s.elapsed x.steadyAt (msT * s.parN P.DRESS_STEADY_T n)
  let i16 (v : Int) : List Byte := leBytes 2 (ofSigned 16 v)
  let speed := sat16 (roundFree 57 (w * 32768) (max 1 (s.parN P.W_BASE n)))
  (leBytes 8 f.time ++ i16 x.measD ++ i16 x.measQ ++ leBytes 2 x.thetaOut ++ i16 speed ++ i16 (s.tMag n) ++ i16 (e.getD 0 0) ++ i16 (e.getD 1 0) ++
    i16 (e.getD 2 0) ++ leBytes 1 q.toNat ++
    leBytes 1 (b2n steady + 2 * b2n predicted + 4 * bits r.flags 0 0 + 8 * b2n x.vLimit + 16 * b2n (s.isOn .injector n)) ++ leBytes 2 x.pubSeq ++ leBytes 4 0, s)

/-! ### The cycle -/

/-- The measured currents of a slot in its dq frame; the two sets of a DUAL3 slot are averaged, the second turned by SET2_OFFSET (R102). -/
def State.slotCurrents (s : State) (n c : Nat) (th : Nat) : Int × Int :=
  match s.bridgesOfSlot n with
  | [b] => let f := s.frameHeld c b; parkOf f.ia f.ib th
  | _ =>
    let f := s.frameHeld c 0
    let g := s.frameHeld c 1
    let off := (roundUpHalf (s.par P.SET2_OFFSET n * 65536) 3600).toNat
    let a := parkOf f.ia f.ib th
    let d := parkOf g.ia g.ib ((th + 65536 - off) % 65536)
    (roundFree 58 (a.1 + d.1) 2, roundFree 58 (a.2 + d.2) 2)

/-- Angle and speed of a cycle: the frame's, or in SENSORLESS mode the observer's. -/
def State.cycleAngle (s : State) (n : Nat) (f : Frame) : Nat × Int × State :=
  if s.par P.POS_MODE n == 1 then
    let (th, s) := s.freeIn 65 0 65535
    let (w, s) := s.freeIn 66 (-2147483648) 2147483647
    (th.toNat, w, s)
  else (f.theta, f.speed, s)

/-- Whether field control drives a slot's currents: from the step after synchronisation on, and in the discharge of its bridges (R86, R394). -/
def State.driven (s : State) (n : Nat) : Bool :=
  s.isOn .slot n || (s.isStopping .slot n && !(s.lc .slot n).fault && (s.slot n).fly == .idle) ||
  (s.isStarting .slot n && (match (s.slot n).fly with
    | .synced _ => true
    | _ => false)) ||
  (s.bridgesOfSlot n).any (fun b => (s.safeOf b).state == .discharge)

/-- The bridges that the compares drive: not the set that has lost a phase (R106). -/
def State.drives (s : State) (n b : Nat) : Bool := s.driven n && (s.slot n).lostSet != some b

/-- The transforms, lookup, controllers, modulation and supervision of one cycle. -/
def State.controlCycle (s : State) (n c : Nat) (f : Frame) (th : Nat) (w : Int) : State :=
  let i := s.slotCurrents n c th
  let s := s.setSlot n { s.slot n with measD := i.1, measQ := i.2 }
  let tm := s.tMag n
  let (r, s) := s.atlasLookup n i.1 i.2 th tm
  let s := s.strataCheck n tm
  let (vd, s) := s.free 67
  let (vq, s) := s.free 68
  let (vd, vq, limited) := voltageLimit (s.vLimSq n f.vdc) vd vq
  let d := s.delayOf n f
  let x := s.slot n
  let ct := s.cycleTime n 1
  let s := s.setSlot n { x with
    thetaOut := (((th : Int) + s.angleIn n w (2 * d * ct.2 + ct.1 : Nat) ct.2) % 65536).toNat, dUsed := d
    angleErr := s.angleIn n w (2 * ((f.dPrev : Int) - x.dUsed)) 1, lastFlags := r.flags }
  let (res, s) := s.freeIn 69 0 1000000
  let s := s.residual n res w limited
  let s := s.missingSums n c
  let pred := bitAt f.flags 4
  let s := s.injCycle n f.time (bitAt r.flags 0) limited vd vq
  let s := s.monitorPost n (s.monitorRecord n f r pred)
  let (p, s) := s.dressRecord n f w r pred
  let s := if s.isOn .slot n then s.dressPush n p else s
  let x := s.slot n
  s.setSlot n { x with lastTest := s.fluxTorque n r.psiD r.psiQ x.measD x.measQ + s.baseTorque n r.tau,
                       monSeq := (x.monSeq + 1) % 65536, pubSeq := (x.pubSeq + 1) % 65536 }

/-- While a start observes the rotor, a change of its direction restarts the criteria (R87). -/
def State.observe (s : State) (n : Nat) (w : Int) : State :=
  let x := s.slot n
  if x.fly == .observe && decide (w * x.seenSpeed < 0) then s.setSlot n { x with steadyAt := s.now } else s

/-- The electrical frequency is below MISSING_FMIN (R104). -/
def State.missingSlow (s : State) (n : Nat) : Bool := decide ((s.slot n).seenSpeed.natAbs * s.parN P.POLE_PAIRS n < 60 * s.parN P.MISSING_FMIN n)

/-- One current cycle of a slot on its owner. -/
def State.currentCycle (s : State) (n c : Nat) : State :=
  let bs := s.bridgesOfSlot n
  let s := s.takeSamples c bs
  let f := s.frameHeld c (s.mainBridge n)
  let (th, w, s) := s.cycleAngle n f
  let s := s.observe n w
  let s := s.setSlot n { s.slot n with seenSpeed := w, refCount := (s.slot n).refCount + 1, spdCount := (s.slot n).spdCount + 1 }
  let s := s.setSlot n { s.slot n with missingOff := s.missingSlow n }
  let s := (if s.isOff .slot n then s else s.overspeed n w).shuntPredict n
  let s := if s.driven n then (s.closeCaptures bs).controlCycle n c f th w else s.setSlot n { s.slot n with vLimit := false, satSince := none, obsRun := 0 }
  let s := s.writeBridge c (s.mainBridge n) (s.drives n (s.mainBridge n))
  match s.helperOf n with
  | some h =>
    if bs.length = 2 && s.cycleReady h 1 then (s.takeSamples h bs).writeBridge h 1 (s.drives n 1) else s
  | none => s

def execCurrentCycle (n : Fin 2) (s : State) : Out :=
  match s.ownerOf n.val with
  | none => .next s
  | some c => .next (if (s.bridgesOfSlot n.val).contains n.val && s.cycleReady c (s.mainBridge n.val) then s.currentCycle n.val c else s)

/-! ### Missing phase (R104 to R106) -/

/-- The phase of a set that is missing by its sums of squares: below 10 % RMS of the smaller of the other two. -/
def missingPhase (sums : List Nat) (b : Nat) : Option Nat :=
  let q (k : Nat) : Nat := sums.getD (3 * b + k % 3) 0
  (List.range 3).find? (fun k => decide (100 * q k < min (q (k + 1)) (q (k + 2))))

/-- A missing phase is handled by the winding; `bemf` is the peak line-to-line back-EMF of the faulty set in mV. -/
def State.phaseLost (s : State) (n b bemf : Nat) : State :=
  let x := s.slot n
  if s.dual3 && s.par P.PHASE_LOSS_CONTINUE n == 1 && x.lostSet.isNone && decide ((10 * bemf : Int) < 9 * s.vdcMv b) then
    (s.setSlot n { x with lostSet := some b }).raise .MISSING_PHASE n (s.scopeSlot n) b (some 2) true
  else s.raise .MISSING_PHASE n (s.scopeSlot n) b

/-- The check of one set. -/
def State.phaseCheck (s : State) (n b bemf : Nat) : State :=
  let x := s.slot n
  if x.lostSet = some b then s
  else match missingPhase x.squares b with
    | none => s
    | some k =>
      let sensor := s.flag F.ADC_CHK_STATUS_FAULTED b && s.fld F.ADC_CHK_STATUS_ATTRIB b == 1 && s.fld F.ADC_CHK_STATUS_PHASE b == k
      if sensor then s else s.phaseLost n b bemf

/-- The end of an electrical period. `bemfA`, `bemfB` are the back-EMFs of the sets, measured as R86 says. -/
def execMissingPhaseCheck (n : Fin 2) (bemfA bemfB : Nat) (s : State) : Out :=
  let n := n.val
  let x := s.slot n
  if !s.isOn .slot n || x.squares.length ≠ 6 then .next s
  else
    let slow := s.missingSlow n
    let s := if slow || !x.periodOk then s
      else (s.bridgesOfSlot n).foldl (fun s b => s.phaseCheck n b (if b = 0 then bemfA else bemfB)) s
    .next (s.setSlot n { s.slot n with squares := [], periodOk := true, missingOff := slow })

/-! ### INJECT_START (R110 to R113, R417) -/

def injectUsed : List (Nat × Nat) :=
  [(24, 1), (25, 1), (26, 1), (27, 1), (28, 4), (32, 4), (36, 4), (40, 4), (44, 1), (45, 1), (46, 1), (48, 2), (50, 2)]

/-- Whether the fields of a start descriptor are in their ranges. -/
def State.injFields (s : State) (n : Nat) (d : List Byte) : Bool :=
  let sig := rawField d 24 1
  let dur := rawField d 32 4
  let ct := s.cycleTime n 1
  -- frequencies of 1 Hz to 10 kHz, at most a quarter of the current-cycle rate, in 0.01 Hz
  let fOk (f : Nat) : Bool := decide (100 ≤ f) && decide (f ≤ 1000000) && decide (4 * f * ct.1 ≤ 100 * 800000000 * ct.2)
  decide (sig ≤ 2) && decide (rawField d 25 1 ≤ 1) && decide (rawField d 26 1 < 64) && decide (1 ≤ rawField d 48 2) &&
    decide (rawField d 48 2 ≤ 256) && decide (rawField d 50 2 ≤ 60000) &&
    (match sig with
     | 0 => decide (1 ≤ dur) && decide (dur ≤ 10000) && decide (1 ≤ rawField d 44 1)
     | 1 => decide (10 ≤ dur) && decide (dur ≤ 60000) && decide (rawField d 27 1 ≤ 1) && fOk (rawField d 36 4) && fOk (rawField d 40 4)
     | _ => decide (7 ≤ rawField d 45 1) && decide (rawField d 45 1 ≤ 15) && decide (1 ≤ rawField d 46 1) && decide (rawField d 46 1 ≤ 64) &&
         decide (1 ≤ rawField d 44 1))

/-- Whether the axis and amplitude of a start descriptor are within the limits of R112, or of R113 in bench mode. -/
def State.injLimits (s : State) (n : Nat) (d : List Byte) : Bool :=
  let amp := (rawFieldS d 28 4).natAbs
  let rated := s.parN P.I_RATED n
  if s.injBench n then decide (amp ≤ rated) else rawField d 25 1 == 0 && decide (50 * amp ≤ rated)

/-- The injector takes the content of a start descriptor; bench mode is judged now (R113). -/
def State.injLoad (s : State) (n : Nat) (r : InjReq) : State :=
  let x := s.slot n
  let d := r.raw
  s.setSlot n { x with inj := { x.inj with
    signal := rawField d 24 1, axis := rawField d 25 1, pair := rawField d 26 1, sweep := rawField d 27 1, amp := rawFieldS d 28 4
    duration := rawField d 32 4, fStart := rawField d 36 4, fEnd := rawField d 40 4, reps := rawField d 44 1, prbsLen := rawField d 45 1
    prbsBit := rawField d 46 1, decim := rawField d 48 2, waitLimit := rawField d 50 2, replies := [(r.pair, r.wid)], held := none
    bench := s.injBench n, overrun := false, first := true, cycles := 0, value := 0, aborting := false, closed := false } }

/-- An accepted start descriptor acts as an enable (R45): of an OFF injector it starts it, of a STOPPING one it is held, a later one in its place. -/
def State.injEnable (s : State) (n : Nat) (r : InjReq) : State :=
  let x := s.slot n
  let old (s : State) : State := match x.inj.held with
    | some o => s.finish o.pair o.wid St.superseded 0
    | none => s
  match (s.lc .injector n).state with
  | .off => ((old s).injLoad n r).updLc .injector n Lc.enable
  | .starting => (s.setSlot n { x with inj := { x.inj with replies := x.inj.replies ++ [(r.pair, r.wid)] } }).updLc .injector n Lc.enable
  | .on => (s.updLc .injector n Lc.enable).finish r.pair r.wid St.ok x.inj.seq0
  | .stopping => old ((s.setSlot n { x with inj := { x.inj with held := some r } }).updLc .injector n Lc.enable)

/-- The pending enable of an injector is taken (R45): its held descriptor starts it. -/
def State.injTake (s : State) (n : Nat) : State :=
  match (s.slot n).inj.held with
  | some r => s.injLoad n r
  | none => s

/-- A held start descriptor whose pending enable is gone completes with ABORTED (R45). -/
def State.dropInj (s : State) (n : Nat) : State :=
  let x := s.slot n
  if (s.lc .injector n).pending == .enable then s
  else match x.inj.held with
    | some r => (s.setSlot n { x with inj := { x.inj with held := none } }).finish r.pair r.wid St.aborted 0
    | none => s

/-- The injector reaches OFF: descriptors that waited for its ON complete with ABORTED. -/
def State.injOff (s : State) (n : Nat) : State :=
  let x := s.slot n
  x.inj.replies.foldl (fun s r => s.finish r.1 r.2 St.aborted 0)
    (s.setSlot n { x with inj := { x.inj with replies := [], closed := false, aborting := false, value := 0 } })

/-- INJECT_START: refused outside its fields or limits and for a slot that does not exist; else it reaches the lifecycle (R44, R58, R110 to R113). -/
def execInjectStart (n : Fin 64) (s : State) : Out :=
  .next (s.runDesc n.val ⟨0x15, [1], .roles [1, 2], false, 2, injectUsed⟩ (fun s w =>
    let k := rawTarget w.raw
    if !s.injFields k w.raw || s.rpClass (rawField w.raw 26 1) != 3 || !s.injLimits k w.raw then s.finish n.val w.wid St.badField 0
    else if (k == 1 && s.dual3) || !s.pdOn 7 || s.stillFaulted .injector k then s.finish n.val w.wid St.stateRefused 0
    else s.injEnable k ⟨w.raw, n.val, w.wid⟩))

/-- The conditions hold: the injector is ON, and its start descriptors complete with the SEQ of its first record. -/
def execInjConditionsMet (n : Fin 2) (s : State) : Out :=
  let n := n.val
  let x := s.slot n
  if !s.isStarting .injector n || !s.isOn .slot n || !(x.inj.bench || s.injOk n) then .next s
  else
    let s := (s.updLc .injector n Lc.startDone).setSlot n { x with inj := { x.inj with since := s.now, replies := [], seq0 := x.inj.seq } }
    .next (x.inj.replies.foldl (fun s r => s.finish r.1 r.2 St.ok x.inj.seq) s)

end Sys2Proof.Machine
end

