-- ==== Sys2Proof/Machine/FieldRef.lean ====
section
/-! DEFINITION. The reference step and the speed loop of a slot (R61, R64 to R82, R124, R136, R146, R422, R426). -/

namespace Sys2Proof.Machine

/-! ### What a reference step takes in -/

/-- The records accepted since the last step come into force as a whole (R61). -/
def State.takeRecords (s : State) (n : Nat) : State :=
  let due := (s.slot n).recDue
  let s := due.foldl (fun s r => s.takeEffect r.1 r.2 n) s
  s.setSlot n { s.slot n with recDue := [] }

/-- A command comes into force (R69): entering speed mode the profile starts at the measured speed and the integrator at the present torque. -/
def State.adopt (s : State) (n : Nat) (c : SlotCmd) : State :=
  let x := s.slot n
  s.setSlot n (if c.mode = 1 ∧ x.cmd.mode ≠ 1 then { x with cmd := c, wRef := x.seenSpeed * 10000, aRef := 0, integ := x.tRef, tReq := x.tRef }
    else { x with cmd := c })

/-- Host-loss policies and a CAN timeout act, a handover of the source and the end of an immobilisation take effect (R426, R456, R513). -/
def State.policyStep (s : State) (n : Nat) : State :=
  let h := s.slotHost n
  let zero := h.due || (s.slot n).zeroDue
  let s := s.setSlotHost n { h with due := false, ramped := h.ramped || h.due, source := h.source || h.sourceDue, sourceDue := false }
  let s := if zero then (s.setSlot n { s.slot n with zeroDue := false }).adopt n { source := (s.slot n).cmd.source, seq := (s.slot n).cmd.seq } else s
  if (s.immobOf n).ending then s.setImmob n { s.immobOf n with on := false, ending := false } else s

/-- Whether a command reverses direction beyond REVERSE_SPEED (R81). -/
def State.reverses (s : State) (n : Nat) (c : SlotCmd) : Bool :=
  let w := (s.slot n).seenSpeed
  c.mode == 1 && decide (c.speed * w < 0) && decide (s.parN P.REVERSE_SPEED n < w.natAbs)

/-- The command that arrived last is used, or refused; the earlier ones are superseded (R68). -/
def State.mailStep (s : State) (n : Nat) : Option SlotCmd × State :=
  let x := s.slot n
  match x.mail.getLast? with
  | none => (none, s)
  | some c =>
    let s := (s.setSlot n { x with mail := [] }).replyAll n x.mail.dropLast St.superseded
    if c.mode = 2 ∧ x.expert = false then (none, s.reply n c St.modeRefused)
    else if s.reverses n c then (none, s.reply n c St.reverseRefused)
    else (some c, s.adopt n c)

/-- The program takes the events of its mailbox and parameter image. -/
def State.takeMailEvents (s : State) (c : Nat) : State :=
  [Ev.cmd, Ev.param].foldl (fun s ev => if bitAt (s.engine c).evPend ev then s.takeEvent c ev else s) s

/-! ### The current-reference search (R65, R124) -/

/-- Whether zero current is within the voltage bound of R65, 0.95 of the voltage limit: the back-EMF of the atlas' flux at the present speed. -/
def State.idleVoltageOk (s : State) (n : Nat) : Bool :=
  let r := s.lookAtlas n 0 0 (s.atl n).theta (s.tMag n)
  let v : Int := match s.ownerOf n with
    | some c => (s.frameHeld c (s.mainBridge n)).vdc
    | none => s.slotVdc n
  let we := (s.slot n).seenSpeed * s.par P.POLE_PAIRS n * piE15
  decide (3 * 10 ^ 10 * we ^ 2 * (r.psiD ^ 2 + r.psiQ ^ 2) * s.par P.PSI_BASE n ^ 2 ≤ (95 * s.par P.V_UTIL_MAX n * v) ^ 2 * (98304 * 10 ^ 21 : Int) ^ 2)

/-- The reference for a torque: zero current for zero torque where the voltage allows it; else within I_MAX, on the side of the d axis that R124
allows. Which one is then a free value, as is what kept it from meeting the torque: 0 nothing, 1 I_MAX, 2 the voltage. -/
def State.search (s : State) (n : Nat) (torque : Int) : Int × Int × Nat × State :=
  if torque = 0 ∧ s.idleVoltageOk n = true then (0, 0, 0, s)
  else
    let m := s.par P.I_MAX n
    let (d, s) := if s.par P.MACH_TYPE n == 2 then s.freeIn 70 0 m else s.freeIn 70 (-m) 0
    let q : Int := isqrt (m * m - d * d).toNat
    let (iq, s) := s.freeIn 71 (-q) q
    let (why, s) := s.freeIn 72 0 2
    (d, iq, why.toNat, s)

/-- Whether the lookup at a reference in mA carries LOWCONF (R131, R146). -/
def State.lowConf (s : State) (n : Nat) (d q : Int) : Bool :=
  s.atlasServes n && bitAt (s.lookAtlas n (s.fromMa n d) (s.fromMa n q) (s.atl n).theta (s.tMag n)).flags 3

/-! ### The step -/

/-- `slew` mN·m/ms over the time of a reference step. -/
def State.slewStep (s : State) (n : Nat) (slew : Int) : Int :=
  let t := s.cycleTime n (s.refDiv n)
  roundFree 73 (slew * t.1) (800 * t.2)

/-- The torque request of the command in force. -/
def State.request (s : State) (n : Nat) : Int :=
  let x := s.slot n
  if s.isStopping .slot n then 0 else if x.cmd.mode = 1 then x.tReq else 1000 * x.cmd.torque

/-- Since when a value has stayed within a band around where it was. -/
def steadySince (since now : Nat) (old new band : Int) : Nat × Int := if band < absI (new - old) then (now, new) else (since, old)

/-- Steadiness of the torque request (R112) and of the current reference (R141). -/
def State.noteSteady (s : State) (n : Nat) (req : Int) : State :=
  let x := s.slot n
  let a := steadySince x.inj.steadyAt s.now x.inj.steadyReq req (s.par P.INJ_STEADY_BAND n * s.par P.TORQUE_MAX_MOT n)
  let band := s.par P.DRESS_STEADY_BAND n * s.par P.I_RATED n
  let same := absI (x.iD - x.steadyD) * 1000 ≤ band ∧ absI (x.iQ - x.steadyQ) * 1000 ≤ band
  s.setSlot n { x with inj := { x.inj with steadyAt := a.1, steadyReq := a.2 }
                       steadyAt := if same then x.steadyAt else s.now
                       steadyD := if same then x.steadyD else x.iD
                       steadyQ := if same then x.steadyQ else x.iQ }

/-- TORQUE and SPEED mode: the chain of R74, the slew of R74, R85 and R146, the search. Answers whether a limit reduced the request. -/
def State.torqueStep (s : State) (n : Nat) : Bool × State :=
  let req := s.request n
  let x := s.slot n
  let ch := s.limitChain n req x.seenSpeed
  let (pd, pq, _, s) := s.search n ch.cmd
  let low := s.par P.CONF_MIN n != 0 && (s.lowConf n x.iD x.iQ || s.lowConf n pd pq)
  let stop := s.isStopping .slot n
  let slew := if stop then s.par P.STOP_SLEW n else if low then min (s.par P.TORQUE_SLEW n) (s.par P.LOWCONF_SLEW n) else s.par P.TORQUE_SLEW n
  let k := s.slewStep n slew
  let ref := x.tRef + clampI (-k) k (ch.cmd - x.tRef)
  let (d, q, why, s) := s.search n ref
  let cut := ch.cmd ≠ req
  let s := s.setSlot n { s.slot n with
    tReq := if x.cmd.mode = 1 then x.tReq else req, tCmd := ch.cmd, tRef := ref, iD := d, iQ := q
    outLimited := cut, outExcess := req - ch.cmd
    limitSrc := ch.src + 4 * b2n (why == 1) + 8 * b2n x.vLimit + 1024 * b2n (ref != ch.cmd) + 2048 * b2n (low && !stop) }
  let s := s.dressPush n (leBytes 8 s.ts ++ leBytes 2 (ofSigned 16 (s.fromMa n pd)) ++ leBytes 2 (ofSigned 16 (s.fromMa n pq)) ++ leBytes 13 0 ++
    leBytes 1 128 ++ leBytes 6 0)
  (decide cut || why == 1, s.noteSteady n req)

/-- CURRENT mode (R73): the commanded currents, scaled to the I_MAX circle. -/
def State.currentStep (s : State) (n : Nat) : Bool × State :=
  let x := s.slot n
  let amp2 := x.cmd.iD.natAbs * x.cmd.iD.natAbs + x.cmd.iQ.natAbs * x.cmd.iQ.natAbs
  let m := s.parN P.I_MAX n
  let ovr := decide (m * m < amp2)
  let scale (v : Int) : Int := if ovr then roundFree 74 (v * m) (max 1 (isqrtNear amp2)) else v
  let d := scale x.cmd.iD
  let q := scale x.cmd.iQ
  let r := s.lookAtlas n (s.fromMa n d) (s.fromMa n q) (s.atl n).theta (s.tMag n)
  let t := s.fluxTorque n r.psiD r.psiQ (s.fromMa n d) (s.fromMa n q)
  let s := s.setSlot n { x with iD := d, iQ := q, tReq := t, tCmd := t, tRef := t, limitSrc := 4 * b2n ovr + 8 * b2n x.vLimit }
  let s := s.dressPush n (leBytes 8 s.ts ++ leBytes 2 (ofSigned 16 (s.fromMa n d)) ++ leBytes 2 (ofSigned 16 (s.fromMa n q)) ++ leBytes 13 0 ++
    leBytes 1 128 ++ leBytes 6 0)
  (ovr, s.noteSteady n t)

/-- The TELEMETRY record of a reference step (R422). -/
def State.telemetryRecord (s : State) (n c : Nat) : List Byte :=
  let x := s.slot n
  let f := s.frameHeld c (s.mainBridge n)
  let fb (k : Nat) : Nat := bits x.lastFlags k k
  let i32 (v : Int) : List Byte := leBytes 4 (ofSigned 32 v)
  leBytes 8 f.time ++ i32 (mNm x.tRef) ++ i32 (mNm x.lastTest) ++ i32 x.seenSpeed ++ leBytes 2 (ofSigned 16 x.measD) ++ leBytes 2 (ofSigned 16 x.measQ) ++
    leBytes 2 (f.vdc.toNat / 100) ++ leBytes 2 x.limitSrc ++ leBytes 2 (ofSigned 16 (s.slotTemp n)) ++
    leBytes 1 (n + 2 * fb 0 + 4 * fb 3 + 8 * b2n x.vLimit + 16 * bits f.flags 4 4 + 32 * b2n ((s.slotHost n).policy != 0)) ++ leBytes 1 x.telSeq

/-- One reference step. -/
def State.referenceStep (s : State) (n c : Nat) : State :=
  let s := s.setSlot n { s.slot n with refCount := 0 }
  let s := ((s.takeMailEvents c).takeRecords n).policyStep n
  let (used, s) := if s.isOn .slot n then s.mailStep n else (none, s)
  let (cut, s) := if (s.slot n).cmd.mode = 2 ∧ s.isOn .slot n = true then s.currentStep n else s.torqueStep n
  let s := match used with
    | some cmd => s.reply n cmd (if cut then St.limited else St.ok)
    | none => s
  let s := s.prefetch n
  let s := s.publPair c (s.engine c).pair (s.telemetryRecord n c)
  s.setSlot n { s.slot n with telSeq := ((s.slot n).telSeq + 1) % 256 }

/-- Whether a slot's program takes its steps: ON, or ramping down to its stop. -/
def State.slotSteps (s : State) (n c : Nat) : Bool :=
  (s.isOn .slot n || (s.isStopping .slot n && !(s.lc .slot n).fault && (s.slot n).fly == .idle)) &&
    !(s.engine c).faulted && !(s.engine c).halted && s.pdOn (ceDomain c)

/-- A reference step is due after REF_DIV current cycles (R64). -/
def execReferenceStep (n : Fin 2) (s : State) : Out :=
  match s.ownerOf n.val with
  | none => .next s
  | some c => .next (if s.slotSteps n.val c && decide (s.refDiv n.val ≤ (s.slot n.val).refCount) then s.referenceStep n.val c else s)

/-! ### The speed loop (R71, R72) -/

/-- The target speed in 10⁻⁶ rpm, within the speed range and the fleet cap. -/
def State.speedTarget (s : State) (n : Nat) : Int := 10000 * clampI (-(s.wMax n (-1))) (s.wMax n 1) (s.slot n).cmd.speed

/-- √x, or the next integer where x is no square, by a free choice. -/
def rootFree (site x : Nat) : Int :=
  let r := isqrt x
  (r : Int) + (if r * r ≠ x ∧ Config.roundUp site x 1 then 1 else 0)

/-- One step of profile and controller. Speeds are in 10⁻⁶ rpm. -/
def State.speedStep (s : State) (n : Nat) : State :=
  let x := s.slot n
  let t := s.cycleTime n (s.parN P.SPD_DIV n)
  let hz := 800000000 * t.2
  let amax := s.par P.SPD_ACC_MAX n
  let alim := 1000000 * (if x.cmd.acc ≠ 0 then min x.cmd.acc amax else amax)
  let jerk := s.par P.SPD_JERK_MAX n
  let target := s.speedTarget n
  let dv := target - x.wRef
  let mag := min alim (rootFree 75 (2 * jerk.toNat * dv.natAbs * 1000000))
  let need := if dv < 0 then -mag else if dv = 0 then 0 else mag
  let js := roundFree 76 (jerk * 1000000 * t.1) hz
  let a := x.aRef + clampI (-js) js (need - x.aRef)
  let w := x.wRef + roundFree 77 (a * t.1) hz
  let passed := (0 < dv ∧ target < w) ∨ (dv < 0 ∧ w < target)
  let w := if passed then target else w
  let a := if passed then 0 else a
  let e := w - 10000 * x.seenSpeed
  let hold := x.outLimited && decide (0 < e * x.outExcess)
  let integ := if hold then x.integ else x.integ + roundFree 78 (s.par P.SPD_KI n * e * t.1) (1000 * hz)
  let req := roundFree 79 (s.par P.SPD_KP n * e) 1000 + integ + 1000 * x.cmd.torque
  s.setSlot n { x with wRef := w, aRef := a, integ := integ, tReq := req, spdCount := 0 }

def execSpeedLoopStep (n : Fin 2) (s : State) : Out :=
  let n := n.val
  match s.ownerOf n with
  | none => .next s
  | some c => .next (if s.slotSteps n c && s.isOn .slot n && (s.slot n).cmd.mode == 1 && decide (s.parN P.SPD_DIV n ≤ (s.slot n).spdCount)
      then s.speedStep n else s)

end Sys2Proof.Machine
end

