-- ==== Sys2Proof/Machine/Timeline.lean ====
section
/-! DEFINITION. Timelines (R236 to R239) and the wrap of a bridge's counter (R208), at which everything that runs by periods moves on. -/

namespace Sys2Proof.Machine

/-! ### The timeline in force (R236, R237, R239) -/

/-- The two words of a slot built from its fields (R236, R238). -/
def tlTime (anchor : Nat) (count : Int) : Nat := 2 ^ 31 + anchor * 2 ^ 27 + ofSigned 21 count
def tlAct (type arg : Nat) : Nat := type * 2 ^ 28 + arg

/-- The default timeline of R239. -/
def State.builtSlot (s : State) (b k : Nat) : Nat × Nat :=
  let off := s.par P.SAMPLE_OFFSET b
  let adc := tlAct 1 (7 * 2 ^ (3 * b) + 256 + 512)
  let mark (m : Nat) : Nat := tlAct 2 ((1 + 6 * b) + 16 * m)
  match k with
  | 0 => (tlTime 2 off, adc)
  | 1 => if s.par P.LOOP_RATE (s.slotOfBridge b) == 2 then (tlTime 1 off, adc) else (0, 0)
  | 2 => (tlTime 7 (-80), mark 0)
  | 3 => (tlTime 7 0, mark 1)
  | 4 => (tlTime 8 (-80), mark 2)
  | 5 => (tlTime 8 0, mark 3)
  | _ => (0, 0)

/-- Put the timeline record, or the built timeline where none has been written, into the slots (R239, R242). -/
def State.loadTimeline (s : State) (b : Nat) : State :=
  let s := s.takeEffect P.TIMELINE P.TIMELINE b
  let own := s.params.any (fun e => e.1.inRange P.TIMELINE P.TIMELINE b)
  (List.range 32).foldl (fun s k =>
    let (t, a) := if own then (s.parN P.TIMELINE b (2 * k), s.parN P.TIMELINE b (2 * k + 1)) else s.builtSlot b k
    (s.setReg ⟨.PWM_TL_TIME, b, k⟩ (BitVec.ofNat 32 t)).setReg ⟨.PWM_TL_ACT, b, k⟩ (BitVec.ofNat 32 a)) s

/-- The value of an anchor (R236); `none` for a reserved anchor, and for anchors 3 to 8 unless all three compares are below P8 (R237). -/
def State.anchorValue (s : State) (b a : Nat) : Option Nat :=
  let x := s.pwm b
  let p8 := s.p8 b
  let vals := if a < 6 then (List.range 3).map (fun k => (x.ch (2 * k)).effOn) else (List.range 3).map (fun k => (x.ch (2 * k)).effOff)
  let sorted := vals.mergeSort
  match a with
  | 0 => some 0
  | 1 => some (8 * (s.period b / 2))
  | 2 => some p8
  | _ => if a ≤ 8 then (if vals.all (fun v => decide (v < p8)) then sorted[(a - 3) % 3]? else none) else none

/-- The time of a slot within the period, in fine units, where it can fire (R236, R237). -/
def State.slotTime (s : State) (b k : Nat) : Option Nat :=
  let a := s.fld F.PWM_TL_TIME_ANCHOR b k
  let c := s.fld F.PWM_TL_TIME_COUNT b k
  let cnt : Int := if a = 0 then c else toSigned 21 c
  match s.anchorValue b a with
  | none => none
  | some v =>
    let t : Int := (v : Int) + 8 * cnt + s.fld F.PWM_TL_TIME_FINE b k
    if 0 ≤ t ∧ t < (s.p8 b : Int) then some t.toNat else none

/-- Whether a slot belongs to this period: enabled, and its phase is due (R237). -/
def State.slotActive (s : State) (b k : Nat) : Bool :=
  s.flag F.PWM_TL_TIME_EN b k &&
    s.fld F.PWM_PERIOD_SEQ_SEQ b % (s.fld F.PWM_TL_ACT_EVERY b k + 1) == s.fld F.PWM_TL_ACT_PHASE b k

/-- Fire a slot of a type when its tick has come, once per period (R237, R238). -/
def State.tlFire (s : State) (b k type : Nat) (act : State → Nat → State) : State :=
  let x := s.pwm b
  if !x.live || x.fired.contains k || s.fld F.PWM_TL_ACT_TYPE b k != type || !s.slotActive b k then s
  else match s.slotTime b k with
    | none => s
    | some t =>
      if t / 8 ≤ s.counter b then act (s.setPwm b { x with fired := k :: x.fired }) t else s

/-- ADC_START (R238): start bits of the named ADCs of the bridge, with FRAME the sample frame, with LATCH_POS the positions. A second start of
an ADC in the same tick starts nothing more. -/
def execTlAdcStart (b : Fin 2) (k : Fin 32) (s : State) : Out :=
  let b := b.val
  .next (s.tlFire b k.val 1 (fun s _ =>
    let arg := s.fld F.PWM_TL_ACT_ARG b k.val
    let frame := bits arg 8 8 == 1
    let latch := bits arg 9 9 == 1
    let s := if latch then s.latchPosition b else s
    let s := s.setSens b { s.sens b with latchPos := latch }
    let again (n : Nat) : Bool := match (s.adc n).run with
      | some c => c.at_ == s.now && c.src.prio == 2
      | none => false
    let adcs := (adcsOfBridge b).filter (fun n => bits arg n n == 1 && !again n)
    if s.pdOn 8 && !adcs.isEmpty then s.timelineStart b adcs frame else s))

/-- DS_MARK (R238, R254): marks 0 and 2 open a shunt window, marks 1 and 3 close it and give its estimate (R311, R312) from the bits of the
shunt channel up to the mark, newest last. -/
def execTlDsMark (b : Fin 2) (k : Fin 32) (stream : List Bool) (s : State) : Out :=
  let b := b.val
  .next (s.tlFire b k.val 2 (fun s t =>
    let arg := s.fld F.PWM_TL_ACT_ARG b k.val
    let mark := bits arg 5 4
    let at_ := 8 * (t / 8)
    if bits arg 3 0 ≠ 1 + 6 * b ∨ !s.pdOn 8 then s
    else if mark % 2 = 0 then s.setSens b { s.sens b with openMark := (s.sens b).openMark.setAt 0 mark (at_ + 1) }
    else s.shuntWindow b (mark / 2) at_ stream))

/-- CAPTURE (R238, R326): device time, counter, PERIOD_SEQ and, with LATCH_POS, the position. -/
def execTlCapture (b : Fin 2) (k : Fin 32) (s : State) : Out :=
  let b := b.val
  .next (s.tlFire b k.val 3 (fun s t =>
    let arg := s.fld F.PWM_TL_ACT_ARG b k.val
    let r := bits arg 2 0
    let unread := s.flag F.PWM_CAP_INFO_VALID b r
    let s := s.setFld F.PWM_CAP_TS_LO_TS (s.ts % 2 ^ 32) b r
    let s := { s with capHi := s.capHi.setAt 0 (8 * b + r) (s.ts / 2 ^ 32) }
    let s := (s.setFlag F.PWM_CAP_INFO_VALID true b r).setFld F.PWM_CAP_INFO_COUNT (t / 8) b r
    let s := s.setFld F.PWM_CAP_INFO_SEQ (s.fld F.PWM_PERIOD_SEQ_SEQ b % 1024) b r
    let s := if unread then (s.setFlag F.PWM_CAP_INFO_OVR true b r).setFlag F.PWM_INT_STATUS_CAP_OVR true b else s
    if bits arg 8 8 = 1 then
      let n := s.slotOfBridge b
      let s := if (s.bridgesOfSlot n).head? == some b then s.positionCheck n else s
      s.setFld F.PWM_CAP_POS_POS32 (s.latchOf n).pos b r
    else s))

/-- ENGINE_EVENT (R180, R238): TL_A or TL_B with the slot number. -/
def execTlEngineEvent (b : Fin 2) (k : Fin 32) (s : State) : Out :=
  let b := b.val
  .next (s.tlFire b k.val 4 (fun s _ =>
    let arg := s.fld F.PWM_TL_ACT_ARG b k.val
    (List.range 8).foldl (fun s c => if bits arg c c = 1 then s.raiseEvent c (7 + b) k.val else s) s))

/-! ### The wrap (R208) -/

/-- Trip accounting of the period that ends (R229). -/
def State.tripPeriod (s : State) (b : Nat) : State :=
  let x := s.pwm b
  let n := s.fld F.PWM_TRIP_STATUS_CONSEC b
  let src (s : State) : State := ((s.setFld F.PWM_TRIP_STATUS_SRC_CT 0 b).setFld F.PWM_TRIP_STATUS_SRC_PIN 0 b).setFld F.PWM_TRIP_STATUS_SRC_SAT 0 b
  if x.tripped then
    let s := (s.setPwm b { x with tripped := false }).bump F.PWM_TRIP_COUNT_COUNT b
    let s := (src s).setFld F.PWM_TRIP_STATUS_CONSEC (min 255 (n + 1)) b
    if n + 1 = s.parN P.TRIP_ESC_N b then (s.setFlag F.PWM_INT_STATUS_TRIP_ESC true b).raise .TRIP_ESCALATE b (s.scopeBridge b) else s
  else src (s.setFld F.PWM_TRIP_STATUS_CONSEC 0 b)

/-- Low-side conduction of a leg in the period that ends (R235). -/
def State.bootPeriod (s : State) (b k : Nat) : State :=
  let x := s.pwm b
  let l := x.leg k
  let best := match l.lowSince with
    | some t => max l.lowBest (8 * s.now - t)
    | none => l.lowBest
  let short := decide (best < 8 * s.parN P.BOOT_T b * 4 / 5) || l.refreshed
  s.setPwm b (x.setLeg k { l with bootCount := if short then l.bootCount + 1 else 0, lowBest := 0, lowSince := l.lowSince.map (fun _ => 8 * s.now),
                                  refreshed := false, refreshDue := false })

/-- A refresh is due in the new period (R235): not for a leg that floats or that a safe state holds. -/
def State.bootDue (s : State) (b k : Nat) : State :=
  let x := s.pwm b
  let l := x.leg k
  if s.par P.BOOT_EN b == 1 && decide (s.parN P.BOOT_N b ≤ l.bootCount) && !(x.ch (2 * k)).isFloat && s.pwmDrives b then
    s.setPwm b (x.setLeg k { l with refreshDue := true }) else s

/-- The set that takes effect at a wrap at tick `t` (R222 to R224). -/
def State.wrapUpdate (s : State) (b t : Nat) : State :=
  match (s.pwm b).pending with
  | none => s
  | some g =>
    let changes := g.period.isSome && g.period != some (s.period b)
    let due := if s.par P.UPD_MODE b == 2 then changes else decide (g.arrival + 4 < t)
    if due then s.takeSet b g else s

/-- Bridge B locked to A takes A's period; its compares in force are handled by TORN_POLICY unless a set that holds all six takes effect
at this wrap (R233). -/
def State.followA (s : State) (whole : Bool) : State :=
  let old := s.period 1
  let new := s.period 0
  if !s.lockedToA 1 || old = new then s
  else
    let s := s.setFld F.PWM_PERIOD_EFF_PERIOD new 1
    if whole || s.par P.TORN_POLICY 1 != 1 then s
    else (s.pwmChans 1).foldl (fun s c =>
      let x := s.pwm 1
      let y := x.ch c
      s.setPwm 1 (x.setCh c { y with on := rescale old new y.on, off := rescale old new y.off })) s

/-- Every leg floats: the compares in force are the float code (R211). -/
def State.floatAll (s : State) (b : Nat) : State :=
  (List.range 6).foldl (fun s c => let x := s.pwm b; s.setPwm b (x.setCh c { x.ch c with on := floatCode, off := floatCode })) s

/-- The bridge leaves its safe state at the wrap when no request is left (R230, R367): floated first when no slot using it is ON. -/
def State.leaveSafe (s : State) (b : Nat) : State :=
  let y := s.safeOf b
  if !(y.leaving && !s.safeRequested b) then s
  else
    let s := s.setSafe b { y with state := .run, leaving := false, dtPending := false, forced := if y.locked then y.forced else none }
    let s := { s with skipAt := (satsOfBridge b).foldl (fun t n => Table.setAt none t n none) s.skipAt }
    let s := if s.isOn .slot (s.slotOfBridge b) then s else s.floatAll b
    (s.setPwm b { s.pwm b with resync := true }).safeEvent b

/-- After a safe state the gates follow the demand again, from off (R230). -/
def State.resyncGates (s : State) (b : Nat) : State :=
  let x := s.pwm b
  if x.resync then
    (satsOfBridge b).foldl (fun s n => s.setLane n false) (s.setPwm b { x with resync := false, gates := [] })
  else s

/-- The ADC gains published since the last wrap take effect for the bridge's three ADCs together (R589). -/
def State.takeGains (s : State) (b : Nat) : State :=
  (adcsOfBridge b).foldl (fun s n =>
    match s.sense.gainNext.at none n with
    | none => s
    | some g => { s.setFldS F.HKEEP_ADC_GAIN_CORR g n with sense := { s.sense with gainNext := s.sense.gainNext.setAt none n none } }) s

/-- Slots of this period that cannot fire set TL_SKIP (R237). -/
def State.noteSkips (s : State) (b : Nat) : State :=
  if (List.range 32).any (fun k => s.slotActive b k && !(s.pwm b).fired.contains k && s.fld F.PWM_TL_ACT_TYPE b k != 0 && (s.slotTime b k).isNone) then
    s.setFlag F.PWM_INT_STATUS_TL_SKIP true b else s

/-- What ends with a period: satellite runs (R272), shunt windows (R313), trips (R229), conduction (R235), ERR (R216, R230). -/
def State.endPeriod (s : State) (b : Nat) : State :=
  let s := s.noteSkips b
  let s := (satsOfBridge b).foldl State.satPeriod s
  let s := ((s.shuntPeriod b).tripPeriod b)
  let s := [0, 1, 2].foldl (fun s k => s.bootPeriod b k) s
  let keep := s.pwmDrives b
  (s.pwmChans b).foldl (fun s c => let x := s.pwm b; s.setPwm b (x.setCh c { x.ch c with err0 := if keep then (x.ch c).err else 0 })) s

/-- What begins with a period that starts at tick `t`. -/
def State.beginPeriod (s : State) (b t : Nat) : State :=
  let whole := match (s.pwm b).pending with
    | some g => s.holdsAll b g
    | none => false
  let s := s.wrapUpdate b t
  let s := if b = 1 then s.followA (whole && (s.pwm 1).pending.isNone) else s
  let s := if (s.pwm b).stopPhase = 1 then (s.floatAll b).setPwm b { (s.floatAll b).pwm b with stopPhase := 2 } else s
  let s := (s.leaveSafe b)
  let x := s.pwm b
  let again := x.resync
  let cuts := (List.range 3).filter (fun k => (x.leg k).blocked)
  let s := [0, 1, 2].foldl (fun s k => let y := s.pwm b; s.setPwm b (y.setLeg k { y.leg k with cut := false, blocked := false })) s
  let s := s.resyncGates b
  let x := s.pwm b
  let s := s.setPwm b { x with wrapAt := t, length := ((s.period b : Int) + x.nextAdj).toNat, nextAdj := 0, midDone := false, clearDone := false,
                               fired := [], blankOpen := x.blankOpen || !cuts.isEmpty }
  let s := s.setFlag F.PWM_STATUS_TRIP_ACTIVE false b
  let s := if (s.pwm b).tlReload then
      (((s.takeEffect P.SYNC_PHASE P.SYNC_PHASE b).loadTimeline b).setPwm b { ((s.takeEffect P.SYNC_PHASE P.SYNC_PHASE b).loadTimeline b).pwm b with tlReload := false })
    else s
  let s := s.takeGains b
  let s := (s.pwmChans b).foldl (fun s c => s.startDemand b c (again || cuts.contains (c / 2))) s
  let s := [0, 1, 2].foldl (fun s k => s.bootDue b k) s
  s.noteSkips b

/-- The tick of a bridge's next wrap, once it has come (R208, R232). -/
def State.wrapDue (s : State) (b : Nat) : Option Nat :=
  let x := s.pwm b
  if !x.live then none
  else if s.lockedToA b then
    let t := (s.pwm 0).wrapAt + s.parN P.SYNC_PHASE 1
    if x.wrapAt < t ∧ t ≤ s.now then some t else none
  else if s.elapsed x.wrapAt x.length then some (x.wrapAt + x.length) else none

/-- The counter of a bridge wraps (R208). The stop sequence ends at its second wrap (R240). -/
def execPwmWrap (b : Fin 2) (s : State) : Out :=
  let b := b.val
  match s.wrapDue b with
  | none => .next s
  | some t =>
    let s := s.endPeriod b
    let s := s.setFld F.PWM_PERIOD_SEQ_SEQ ((s.fld F.PWM_PERIOD_SEQ_SEQ b + 1) % 2 ^ 32) b
    .next (if (s.pwm b).stopPhase = 2 then s.pwmHalt b else s.beginPeriod b t)

end Sys2Proof.Machine
end

