-- ==== Sys2Proof/Machine/FieldStart.lean ====
section
/-! DEFINITION. Starting and stopping a slot (R82 to R90): the flying start, the ramp, and what enters and leaves with a slot's lifecycle. -/

namespace Sys2Proof.Machine

/-! ### Entering STARTING -/

/-- The grants of a task (R199): frames received and bridges written. -/
def State.grantsOf (s : State) (task slot : Nat) : List Nat × List Nat :=
  if s.dual3 then (if task = 1 then ([0, 1], [0]) else ([0, 1], [1])) else ([slot], [slot])

/-- An engine's grants are fixed for a slot. -/
def State.grant (s : State) (c n : Nat) : State :=
  let e := s.engine c
  let g := s.grantsOf e.task n
  s.setEngine c { e with frames := g.1, writes := g.2 }

/-- The sensing records of a bridge come into force at a slot's enable (R319). -/
def State.takeSensing (s : State) (b : Nat) : State :=
  let s := (adcsOfBridge b).foldl (fun s n => s.takeEffect P.SENSE_GAIN P.OFFSET_LIM n) s
  let s := (List.range 12).foldl (fun s k => s.takeEffect P.DS_OSR P.DS_OSR (12 * b + k)) s
  ((s.takeEffect P.R_SHUNT P.VDC_DIV b).takeEffect P.CHK_AVG P.TRIP_CAPTURE b)

/-- The low-side satellites' channel 0 is held in the blocking range, or no longer (R86). -/
def State.blockingRange (s : State) (b : Nat) (v : Bool) : State :=
  [1, 3, 5].foldl (fun s k => let n := 6 * b + k; s.putSat n { s.sat n with ch0Force := b2n v }) s

/-- A slot enters STARTING: step 1 of the flying start, the grants and the level (R49, R86, R199), offset capture and current check anew (R296, R316), the
slot's position-check and safety records come into force (R350, R400). -/
def State.slotStarting (s : State) (n : Nat) : State :=
  let bs := s.bridgesOfSlot n
  let s := match s.ownerOf n with
    | some c => (s.grant c n).setSlot n { s.slot n with expert := (s.engine c).signer == 1 }
    | none => s
  let s := match s.helperOf n with
    | some c => s.grant c n
    | none => s
  let s := (s.takeEffect 0x0860 0x0862 n).takeEffect 0x0900 0x0923 n
  let s := bs.foldl (fun s b => (((s.takeSensing b).openCapture b).checkReset b).blockingRange b true) s
  let x := s.slot n
  let s := s.setSlot n { x with
    fly := .observe, rates := [], angle0 := 0, stopHold := none, lostSet := none, squares := [], periodOk := true, obsRun := 0, obsLost := false
    satSince := none, vLimit := false, tRef := 0, tCmd := 0, tReq := 0, limitSrc := 0, steadyAt := s.now, recDue := [], monNone := 0, monDist := [], monRecs := [] }
  s.setReg ⟨.SAFETY_MON_CNT, n, 0⟩ 0

/-! ### Flying start (R86 to R90) -/

/-- The peak phase back-EMF is below BEMF_MIN. -/
def State.bemfLow (s : State) (n amp : Nat) : Bool := decide (1000 * amp < s.parN P.BEMF_MIN n * s.parN P.V_BASE n)

/-- Synchronised: current control starts in the next current cycle. -/
def State.flySync (s : State) (n : Nat) : State := s.setSlot n { s.slot n with fly := .synced s.now }

/-- No synchronisation: the gates stay off. -/
def State.flyFail (s : State) (n : Nat) : State := (s.setSlot n { s.slot n with fly := .failed }).raise .FLY_NO_SYNC n (s.scopeSlot n)

/-- Whether an incremental encoder that the slot starts by is aligned (R88, R340). -/
def State.encAligned (s : State) (n : Nat) : Bool :=
  match s.posSource n with
  | some i => (i != 2 && i != 3) || s.posValid i
  | none => true

/-- The rotor is at rest: the amplitude, in mV, has stayed below BEMF_MIN for the first 1 ms. -/
def execFlyBemfRest (n : Fin 2) (amp : Nat) (s : State) : Out :=
  let n := n.val
  if !s.isStarting .slot n || (s.slot n).fly != .observe || !s.elapsed (s.lc .slot n).since msT || !s.bemfLow n amp then .next s
  else if s.par P.POS_MODE n == 1 then .next ((s.closeCaptures (s.bridgesOfSlot n)).setSlot n { s.slot n with fly := .pulse 0, rates := [] })
  else .next (if s.encAligned n then s.flySync n else s)

/-- Pulse k ends, with the current along its vector (mA) and its duration (ticks): at 10 % of I_RATED, or after 20 µs. -/
def execAnglePulseEnd (n : Fin 2) (peak ticks : Nat) (s : State) : Out :=
  let n := n.val
  let x := s.slot n
  match x.fly with
  | .pulse k =>
    .next (if s.isStarting .slot n && decide (0 < ticks) && decide (ticks ≤ 16000) && (decide (s.parN P.I_RATED n ≤ 10 * peak) || ticks == 16000)
      then s.setSlot n { x with fly := .decay k, rates := x.rates ++ [(peak, ticks)] } else s)
  | _ => .next s

/-- Whether a rise rate exceeds another. -/
def rateLt (a b : Nat × Nat) : Bool := decide (a.1 * b.2 < b.1 * a.2)

/-- The index of the highest rate, the lowest index among equals, leaving one index out. -/
def topRate (l : List (Nat × Nat)) (skip : Option Nat) : Nat :=
  (List.range l.length).foldl (fun best k =>
    if some k = skip then best
    else if some best = skip then k
    else if rateLt (l.getD best (0, 1)) (l.getD k (0, 1)) then k else best) 0

/-- The angle of the north pole by R88, in units of 30°; `none` without saliency. -/
def poleAngle (l : List (Nat × Nat)) : Option Nat :=
  let i := topRate l none
  let j := topRate l (some i)
  let hi := l.getD i (0, 1)
  let second := l.getD j (0, 1)
  let lo := l.foldl (fun m r => if rateLt r m then r else m) hi
  let near := decide (100 * (hi.1 * second.2 - second.1 * hi.2) < 2 * hi.1 * second.2)
  if 100 * (hi.1 * lo.2 - lo.1 * hi.2) < 2 * lo.1 * hi.2 then none
  else if near ∧ (i + 1) % 6 = j then some ((2 * i + 1) % 12)
  else if near ∧ (j + 1) % 6 = i then some ((2 * j + 1) % 12)
  else if near then some (2 * min i j)
  else some (2 * i)

/-- The current has decayed below 1 % of I_RATED: the next pulse, or the angle. -/
def execAnglePulseDecay (n : Fin 2) (s : State) : Out :=
  let n := n.val
  let x := s.slot n
  match x.fly with
  | .decay k =>
    if !s.isStarting .slot n then .next s
    else if k < 5 then .next (s.setSlot n { x with fly := .pulse (k + 1) })
    else match poleAngle x.rates with
      | some a => .next ((s.setSlot n { x with angle0 := a }).flySync n)
      | none => .next (s.flyFail n)
  | _ => .next s

/-- Synchronisation (R86, step 3): the predicted angle has stayed within 5° for 1 ms (`tracked`) at a sufficient back-EMF, or SPEED_VALID is set. -/
def execFlySync (n : Fin 2) (amp : Nat) (tracked : Bool) (s : State) : Out :=
  let n := n.val
  let x := s.slot n
  let t := (s.lc .slot n).since
  let sensor := match s.posSource n with
    | some i => s.speedValid i
    | none => false
  .next (if s.isStarting .slot n && x.fly == .observe && s.elapsed t msT && decide (s.now ≤ t + 5 * msT) &&
      ((tracked && s.elapsed x.steadyAt msT && !s.bemfLow n amp) || sensor) then s.flySync n else s)

/-- No synchronisation 5 ms after the start (R90). -/
def execFlySyncTimeout (n : Fin 2) (s : State) : Out :=
  let n := n.val
  let seeks := match (s.slot n).fly with
    | .observe => true
    | .pulse _ => true
    | .decay _ => true
    | _ => false
  .next (if s.isStarting .slot n && seeks && s.elapsed (s.lc .slot n).since (5 * msT) then s.flyFail n else s)

/-- The peak line-to-line back-EMF, √3 times the amplitude (mV), reaches the DC link (R89). -/
def execFlyBemfOverDc (n : Fin 2) (amp : Nat) (s : State) : Out :=
  let n := n.val
  let v := s.slotVdc n
  if !s.isStarting .slot n || (s.slot n).fly != .observe || decide ((3 * amp * amp : Int) < v * v) then .next s
  else
    let bs := s.bridgesOfSlot n
    let s := bs.foldl (fun s b => s.setSens b { s.sens b with ascUsed := true }) (s.fixSafe bs s.ascOf)
    .next ((s.closeCaptures bs).raise .FLY_BEMF_OVER_DC n (s.scopeSlot n))

/-- A slot becomes ON under the implicit command of R82; a command held since STARTING is placed in its mailbox (R68). -/
def State.slotOn (s : State) (n : Nat) : State :=
  let x := s.slot n
  let s := (s.bridgesOfSlot n).foldl (fun s b => s.blockingRange b false) s
  let s := s.setAtl n { s.atl n with coarseSince := none, edgeSeen := false }
  let s := s.setSlot n { x with fly := .idle, cmd := {}, held := none, mail := [], tRef := 0, refCount := 0, spdCount := 0, outLimited := false, monAt := s.now }
  match x.held with
  | some c => s.placeCmd n c
  | none => s

/-- 1 ms after synchronisation (R86, step 5). -/
def execFlyOnDelay (n : Fin 2) (s : State) : Out :=
  let n := n.val
  match (s.slot n).fly with
  | .synced t =>
    if !s.isStarting .slot n || !s.elapsed t msT then .next s
    else .next ((s.updLc .slot n Lc.startDone).slotOn n)
  | _ => .next s

/-! ### Stopping (R85) -/

/-- Commands that a leaving slot has not applied complete with SLOT_NOT_ON. -/
def State.dropCommands (s : State) (n : Nat) : State :=
  let x := s.slot n
  let l := x.held.toList ++ x.mail
  (s.setSlot n { x with held := none, mail := [] }).replyAll n l St.slotNotOn

/-- The stop sequence begins: its bound is |T_ref| / STOP_SLEW + 2 ms. -/
def State.slotStopping (s : State) (n : Nat) : State :=
  let s := s.dropCommands n
  let x := s.slot n
  let ramp := x.tRef.natAbs * 800 / max 1 (s.parN P.STOP_SLEW n)
  let s := s.setSlot n { x with stopHold := none, stopBound := ramp + 2 * msT }
  if s.isOn .injector n || s.isStarting .injector n then s.injAbort n else s

/-- A slot reaches OFF: policies end, immobilisation is judged, reactions and guards that waited for it end (R22, R371, R427, R456). -/
def State.slotOff (s : State) (n : Nat) : State :=
  let s := s.dropCommands n
  let s := (s.bridgesOfSlot n).foldl (fun s b => (s.endCapture b).blockingRange b false) s
  let s := s.setSlot n { s.slot n with fly := .idle, stopHold := none, tRef := 0, tCmd := 0, iD := 0, iQ := 0, limitSrc := 0, vLimit := false, satSince := none }
  let s := s.setSlotHost n { s.slotHost n with policy := 0, due := false, ramped := false, source := false, sourceDue := false }
  let s := (s.slot n).recDue.foldl (fun s r => s.takeEffect r.1 r.2 n) s
  let s := s.setSlot n { s.slot n with recDue := [], zeroDue := false }
  ((s.immobAtOff n).sweepFaults).debugSettle

/-- The torque reference has reached zero (step 2). -/
def execStopRampDone (n : Fin 2) (s : State) : Out :=
  let n := n.val
  let x := s.slot n
  .next (if s.isStopping .slot n && !(s.lc .slot n).fault && x.fly == .idle && x.tRef == 0 && x.stopHold.isNone
    then s.setSlot n { x with stopHold := some s.now } else s)

/-- The gates of a stopped slot (step 3): off at low speed, else the bridge rests in active short circuit by a request of kind (f). -/
def State.restBridge (s : State) (n b : Nat) : State :=
  if ((s.slot n).seenSpeed.natAbs : Int) ≤ s.par P.ASC_SPEED n then s.floatAll b
  else (s.setSafe b { s.safeOf b with rest := true }).enterSafe b

/-- Zero current has been held for 1 ms. -/
def execZeroCurrentHoldExpiry (n : Fin 2) (s : State) : Out :=
  let n := n.val
  match (s.slot n).stopHold with
  | none => .next s
  | some t =>
    if !s.isStopping .slot n || !s.elapsed t msT then .next s
    else
      let s := (s.bridgesOfSlot n).foldl (fun s b => s.restBridge n b) s
      .next ((s.updLc .slot n Lc.stopDone).slotOff n)

end Sys2Proof.Machine
end

