-- ==== Sys2Proof/Machine/Can.lean ====
section
/-! DEFINITION. CAN FD controllers and the Aqosh safety layer (chapter 13). -/

namespace Sys2Proof.Machine

/-! ### Bit timing (R496 to R498) -/

/-- The segments of a phase in quanta: BRP, TSEG1, TSEG2, SJW. -/
structure BitTiming where
  brp : Nat
  tseg1 : Nat
  tseg2 : Nat
  sjw : Nat
  deriving DecidableEq, Repr

/-- The limits of R496: the largest BRP, TSEG1 and TSEG2, and the least TSEG2. -/
structure BitLimits where
  brp : Nat
  tseg1 : Nat
  tseg2 : Nat
  tseg2Min : Nat

def nominalLimits : BitLimits := ⟨512, 256, 128, 2⟩
def dataLimits : BitLimits := ⟨32, 32, 16, 1⟩

/-- Whether a phase's segments lie within R496. -/
def BitTiming.ok (t : BitTiming) (l : BitLimits) : Bool :=
  decide (1 ≤ t.brp ∧ t.brp ≤ l.brp ∧ 2 ≤ t.tseg1 ∧ t.tseg1 ≤ l.tseg1 ∧ l.tseg2Min ≤ t.tseg2 ∧ t.tseg2 ≤ l.tseg2 ∧
    1 ≤ t.sjw ∧ t.sjw ≤ t.tseg2)

/-- The segments for a BRP when the bit is a whole number of quanta (R497). -/
def bitTimingAt (l : BitLimits) (kbit sp brp : Nat) : Option BitTiming :=
  if kbit = 0 ∨ 200000 % (kbit * brp) ≠ 0 then none
  else
    let n := 200000 / (kbit * brp)
    let p := (n * sp + 500) / 1000
    let t : BitTiming := ⟨brp, p - 1, n - p, min (n - p) l.tseg2⟩
    if t.ok l then some t else none

/-- The derivation of R497: the first BRP whose result lies within R496. -/
def bitTimingOf (l : BitLimits) (kbit sp : Nat) : Option BitTiming :=
  (List.range l.brp).findSome? (fun k => bitTimingAt l kbit sp (k + 1))

/-- The segments that a CAN record gives its phases, from its values (ID, element): the expert level's, or those derived. -/
def canTiming (g : Nat → Nat → Nat) (data : Bool) : Option BitTiming :=
  let l := if data then dataLimits else nominalLimits
  if (List.range 8).any (fun k => g P.CAN_BT_RAW k != 0) then
    let o := if data then 4 else 0
    let t : BitTiming := ⟨g P.CAN_BT_RAW o, g P.CAN_BT_RAW (o + 1), g P.CAN_BT_RAW (o + 2), g P.CAN_BT_RAW (o + 3)⟩
    if t.ok l then some t else none
  else if data then bitTimingOf l (g P.CAN_DBR 0) (g P.CAN_DSP 0)
  else bitTimingOf l (g P.CAN_NBR 0) (g P.CAN_NSP 0)

/-- The values in force of a controller's record. -/
def State.canPar (s : State) (n id idx : Nat) : Nat := s.parN id n idx

/-- A bit of the nominal rate, in ticks. -/
def State.canBit (s : State) (n : Nat) : Nat :=
  match canTiming (s.canPar n) false with
  | some t => t.brp * (1 + t.tseg1 + t.tseg2) * 4
  | none => 0

/-- Show the segments in force (R497), the compensation and its offset (R498). -/
def State.showTiming (s : State) (n : Nat) : State :=
  let s := match canTiming (s.canPar n) false with
    | some t => (((s.setFld F.CAN_BT_NOM_BRP (t.brp - 1) n).setFld F.CAN_BT_NOM_TSEG1 (t.tseg1 - 1) n).setFld F.CAN_BT_NOM_TSEG2
        (t.tseg2 - 1) n).setFld F.CAN_BT_NOM_SJW (t.sjw - 1) n
    | none => s
  match canTiming (s.canPar n) true with
  | some t =>
    let s := (((s.setFld F.CAN_BT_DATA_BRP (t.brp - 1) n).setFld F.CAN_BT_DATA_TSEG1 (t.tseg1 - 1) n).setFld F.CAN_BT_DATA_TSEG2
      (t.tseg2 - 1) n).setFld F.CAN_BT_DATA_SJW (t.sjw - 1) n
    let fast := decide (1000 * (t.brp * (1 + t.tseg1 + t.tseg2)) < 200000)
    let tdco := if s.parN P.CAN_TDCO n = 0 then min 255 ((t.tseg1 + 1) * t.brp) else s.parN P.CAN_TDCO n
    (s.setFlag F.CAN_TDC_EN (s.parN P.CAN_TDC n == 1 && fast) n).setFld F.CAN_TDC_TDCO tdco n
  | none => (s.setReg ⟨.CAN_BT_DATA, n, 0⟩ 0#32).setFlag F.CAN_TDC_EN false n

/-! ### Transmit buffers and the schedule matrix as the record lists them -/

/-- Entry b of CAN_TXBUF. -/
def State.txBuf (s : State) (n b : Nat) : Option Nat := if b < s.parLen P.CAN_TXBUF n then some (s.parN P.CAN_TXBUF n b) else none

def txbId (e : Nat) : Nat := bits e 28 0
def txbXtd (e : Nat) : Bool := bits e 29 29 == 1
def txbFdf (e : Nat) : Bool := bits e 30 30 == 1
def txbBrs (e : Nat) : Bool := bits e 31 31 == 1
def txbLen (e : Nat) : Nat := bits e 38 32
def txbConn (e : Nat) : Option Nat := if bits e 44 44 = 1 then some (bits e 43 39) else none

/-- A slot entry of CAN_SCHED (R504). -/
structure SchedSlot where
  start : Nat
  len : Nat
  type_ : Nat
  buffer : Nat
  mask : Nat
  deriving DecidableEq, Repr

/-- Slot k of a schedule given by its record's elements. -/
def schedSlot (g : Nat → Nat) (k : Nat) : SchedSlot := ⟨g (5 * k), g (5 * k + 1), g (5 * k + 2), g (5 * k + 3), g (5 * k + 4)⟩

/-- Whether a slot is active in a basic cycle. -/
def SchedSlot.activeIn (x : SchedSlot) (cycle : Nat) : Bool := x.type_ != 0 && bitAt x.mask cycle

def State.schedOf (s : State) (n k : Nat) : SchedSlot := schedSlot (fun i => s.parN P.CAN_SCHED n i) k

/-- The schedule is in force. -/
def State.schedOn (s : State) (n : Nat) : Bool := s.parN P.CAN_SCHED_EN n == 1

/-- The basic cycle in force, and the time within it in ns (R504). -/
def State.basicCycle (s : State) (n : Nat) : Nat × Nat :=
  let c := 1000 * max 1 (s.parN P.CAN_CYCLE_T n)
  (s.ts / c % 16, s.ts % c)

/-- Whether slot k's window is open now: half-open, in an active basic cycle. -/
def State.inWindow (s : State) (n k : Nat) : Bool :=
  let (cycle, t) := s.basicCycle n
  let x := s.schedOf n k
  x.activeIn cycle && decide (1000 * x.start ≤ t) && decide (t < 1000 * (x.start + x.len))

/-- Whether a buffer has an EXCLUSIVE slot. -/
def State.hasExclusive (s : State) (n b : Nat) : Bool :=
  (List.range 64).any (fun k => let x := s.schedOf n k; x.type_ == 1 && x.buffer == b && x.mask != 0)

/-! ### What makes a CAN record or an Aqosh record refused (R496, R499, R504, R515) -/

/-- Whether two slots overlap in some basic cycle. -/
def SchedSlot.overlaps (x y : SchedSlot) : Bool :=
  (List.range 16).any (fun c => x.activeIn c && y.activeIn c) && decide (x.start < y.start + y.len) && decide (y.start < x.start + x.len)

/-- Whether a controller's record can be accepted, from its values and the lengths of its two lists. -/
def canRecordOk (g : Nat → Nat → Nat) (rxLen txLen : Nat) : Bool :=
  let slots := (List.range 64).map (schedSlot (g P.CAN_SCHED))
  (canTiming g false).isSome && (g P.CAN_DBR 0 == 0 || (canTiming g true).isSome) &&
  (List.range rxLen).all (fun j =>
    let e := g P.CAN_RXOBJ j
    bits e 48 30 == 0 && bits e 50 49 != 3 && (rxoXtd e || bits e 28 11 == 0) && (bits e 63 56 ≤ 63 || bits e 63 56 == 255) &&
    (List.range j).all (fun i => bits (g P.CAN_RXOBJ i) 29 0 != bits e 29 0)) &&
  (List.range txLen).all (fun b =>
    let e := g P.CAN_TXBUF b
    bits e 63 45 == 0 && (txbXtd e || bits e 28 11 == 0) && txbLen e ≤ (if txbFdf e then 64 else 8)) &&
  slots.all (fun x => x.type_ ≤ 2 && (x.type_ == 0 || (x.start + x.len ≤ g P.CAN_CYCLE_T 0 && x.buffer ≤ 63))) &&
  (List.range 64).all (fun k => (List.range k).all (fun j =>
    match slots[j]?, slots[k]? with
    | some x, some y => !x.overlaps y
    | _, _ => true))

/-- Whether a connection's record can be accepted, from its values and those of the others (R515): a partner in use names it back and agrees
with it, and identities are unique. -/
def aqRecordOk (c : Nat) (g : Nat → Nat) (other : Nat → Nat → Nat) : Bool :=
  let p := g P.AQ_PARTNER
  let used := g P.AQ_DIR != 0
  (g P.AQ_NET ≤ 3 || g P.AQ_NET == 8) && (g P.AQ_DIR != 2 || g P.AQ_NET == 8 || g P.AQ_INDEX ≤ 63) &&
  (!used || (List.range 32).all (fun k => k == c || other k P.AQ_DIR == 0 || other k P.AQ_CONN_ID != g P.AQ_CONN_ID)) &&
  (!used || p == 255 || other p P.AQ_DIR == 0 ||
    (other p P.AQ_PARTNER == c && other p P.AQ_DIR == g P.AQ_DIR && other p P.AQ_LEN == g P.AQ_LEN && other p P.AQ_SKEW == g P.AQ_SKEW &&
     other p P.AQ_NET != g P.AQ_NET)) &&
  (!used || g P.AQ_NET != 8 || (p != 255 && p != c && (other p P.AQ_DIR == 0 || other p P.AQ_NET ≤ 3)))

/-! ### Connections (R510 to R516) -/

/-- Whether a connection is active. -/
def State.aqActive (s : State) (c : Nat) : Bool := s.flag F.CAN_AQ_STATUS_ACTIVE c

/-- The partner of a connection when both name each other (R515). -/
def State.aqPartner (s : State) (c : Nat) : Option Nat :=
  let p := s.parN P.AQ_PARTNER c
  if p < 32 ∧ p ≠ c ∧ s.parN P.AQ_PARTNER p = c ∧ s.parN P.AQ_DIR p = s.parN P.AQ_DIR c then some p else none

/-- The connection whose record keeps a pair's state. -/
def State.aqHome (s : State) (c : Nat) : Nat :=
  match s.aqPartner c with
  | some p => min c p
  | none => c

/-- The CAN member of a receive pair: the one whose object is written. -/
def State.aqCanMember (s : State) (c : Nat) : Nat :=
  match s.aqPartner c with
  | some p => if s.parN P.AQ_NET c = 8 then p else if s.parN P.AQ_NET p = 8 then c else min c p
  | none => c

/-- Its records come into force when a network starts (R519). 8 is Ethernet. -/
def State.aqLoad (s : State) (net : Nat) : State :=
  (List.range 32).foldl (fun s c =>
    if s.parStored P.AQ_NET c = net ∨ s.par P.AQ_NET c = net then s.takeEffect 0x0C40 0x0C4D c else s) s

/-- The connections of a network become active, their time running from then on; the first SEQ of a transmit connection is a free value (R510). -/
def State.aqUp (s : State) (net : Nat) : State :=
  (List.range 32).foldl (fun s c =>
    if s.parN P.AQ_NET c = net ∧ s.parN P.AQ_DIR c ≠ 0 then
      let (k, s) := s.free 80
      let x := s.aq c
      (s.setAq c { x with first := true, nextSeq := ofSigned 16 k, lastAcc := s.now, rejected := false, firsts := [], missRun := 0 }).setFlag
        F.CAN_AQ_STATUS_ACTIVE true c |>.setFlag F.CAN_AQ_STATUS_TIMED_OUT false c
    else s) s

/-- The connections of a network are no longer active. -/
def State.aqDown (s : State) (net : Nat) : State :=
  (List.range 32).foldl (fun s c => if s.parN P.AQ_NET c = net then (s.setFlag F.CAN_AQ_STATUS_ACTIVE false c).cease .AQ_TIMEOUT c else s) s

/-- The CAN FD data lengths (R510). -/
def canFdLengths : List Nat := [0, 1, 2, 3, 4, 5, 6, 7, 8, 12, 16, 20, 24, 32, 48, 64]

/-- The smallest CAN FD data length of at least `n`. -/
def canFdLen (n : Nat) : Nat := (canFdLengths.find? (fun l => decide (n ≤ l))).getD 64

/-- Bytes cut or filled with zeros to a length. -/
def fitBytes (k : Nat) (l : List Byte) : List Byte := (l ++ List.replicate k 0#8).take k

/-- A PDU of `len` bytes (R510). -/
def aqPdu (seq te conn len : Nat) (payload : List Byte) : List Byte :=
  let body := fitBytes (len - 4) (leBytes 2 seq ++ leBytes 4 te ++ leBytes 4 conn ++ payload)
  body ++ leBytes 4 (crc32c body)

/-- The length of a connection's PDU on its network. -/
def State.aqPduLen (s : State) (c : Nat) : Nat :=
  if s.parN P.AQ_NET c = 8 then 14 + s.parN P.AQ_LEN c else canFdLen (14 + s.parN P.AQ_LEN c)

/-- An Aqosh fault of a connection. -/
def State.aqFault (s : State) (f : FaultName) (c : Nat) (lasting : Bool := false) : State :=
  let net := s.parN P.AQ_NET c
  (if net < 4 then s.setFlag F.CAN_INT_STATUS_AQ true net else s).raise f c scopeModule 0 none lasting

/-- A PDU is rejected (R511): counted, AQ_REJECT at the first rejection after an accepted PDU (R520). -/
def State.aqReject (s : State) (c : Nat) (f : Fld) : State :=
  let s := s.bump f c
  if (s.aq c).rejected then s else (s.setAq c { s.aq c with rejected := true }).aqFault .AQ_REJECT c

/-- Check 5 (R511): the arrival against the half-open window from TE − AQ_WINDOW to TE, on the wrapped difference. -/
def aqInTime (arrivalNs te window : Nat) : Bool :=
  let m := 2 ^ 32 * 1000
  let d := (te % 2 ^ 32 * 1000 + m - arrivalNs % m) % m
  decide (0 < d) && decide (d ≤ window * 1000)

/-- The time check with what R512 does when device time is not synchronised. -/
def State.aqTimeCheck (s : State) (c te : Nat) : Bool × State :=
  let x := s.aq c
  if s.timeSynced then
    (aqInTime s.ts te (s.parN P.AQ_WINDOW c), (s.setAq c { x with unsync := false }).setFlag F.CAN_AQ_STATUS_UNCHECKED false c)
  else if s.parN P.AQ_TIME_REQ c = 1 then (false, s)
  else
    let s := s.setFlag F.CAN_AQ_STATUS_UNCHECKED true c
    (true, if x.unsync then s else (s.setAq c { x with unsync := true }).aqFault .AQ_TIME_UNSYNC c)

/-- A received PDU is checked (R511): SEQ, TE and PAYLOAD of an accepted one. -/
def State.aqCheck (s : State) (c : Nat) (form : Bool) (pdu : List Byte) : Option (Nat × Nat × List Byte) × State :=
  let l := s.aqPduLen c
  let seq := leNat (pdu.take 2)
  let te := leNat ((pdu.drop 2).take 4)
  let last := s.fld F.CAN_AQ_STATUS_LAST_SEQ c
  let d := (seq + 65536 - last) % 65536
  if !form || pdu.length != l then (none, s.aqReject c F.CAN_AQ_STATS_CRC)
  else if leNat (pdu.drop (l - 4)) ≠ crc32c (pdu.take (l - 4)) then (none, s.aqReject c F.CAN_AQ_STATS_CRC)
  else if leNat ((pdu.drop 6).take 4) ≠ s.parN P.AQ_CONN_ID c then (none, s.aqReject c F.CAN_AQ_STATS_CONN)
  else if !(s.aq c).first && (d == 0 || decide (s.parN P.AQ_SEQ_WIN c < d)) then (none, s.aqReject c F.CAN_AQ_STATS_SEQ)
  else
    let (ok, s) := s.aqTimeCheck c te
    if !ok then (none, s.aqReject c F.CAN_AQ_STATS_TIME)
    else
      let gaps := if (s.aq c).first then 0 else d - 1
      let s := (s.setFld F.CAN_AQ_STATUS_LAST_SEQ seq c).bump F.CAN_AQ_STATS2_GAPS c 0 gaps
      (some (seq, te, (pdu.drop 10).take (s.parN P.AQ_LEN c)), s.setAq c { s.aq c with first := false, rejected := false })

/-! ### Receive objects (R499 to R501) -/

/-- Store a frame in a receive object. -/
def State.objStore (s : State) (n j : Nat) (f : CanFrame) : State :=
  let unread := s.flag F.CAN_RXO_STATUS_NEW n j
  let s := if unread then (s.setFlag F.CAN_RXO_STATUS_LOST true n j).setFlag F.CAN_INT_STATUS_LOST true n else s
  let s := ((s.setFlag F.CAN_RXO_STATUS_NEW true n j).setFlag F.CAN_RXO_STATUS_FDF f.fdf n j).setFlag F.CAN_RXO_STATUS_BRS f.brs n j
  let s := (s.setFlag F.CAN_RXO_STATUS_ESI f.esi n j).setFld F.CAN_RXO_STATUS_LEN f.data.length n j
  let s := s.setFld F.CAN_RXO_STATUS_COUNT (s.fld F.CAN_RXO_STATUS_COUNT n j + 1) n j
  let s := s.setFlag F.CAN_INT_STATUS_RX true n
  s.setCan n { s.can n with objs := (s.can n).objs.setAt ([], 0) j (f.data, s.ts) }

/-- The FRAME record of a frame (R423). -/
def frameRecord (ts source flags id : Nat) (data : List Byte) : List Byte :=
  leBytes 8 ts ++ leBytes 1 source ++ leBytes 1 flags ++ leBytes 2 data.length ++ leBytes 4 id ++
    fitBytes ((data.length + 15) / 16 * 16) data

/-- Write a FRAME record to a pair, when one is named and it is a FRAME pair. -/
def State.toFramePair (s : State) (pair : Nat) (rec : List Byte) : State :=
  if pair < 64 ∧ s.rpClass pair = 5 then s.deliver pair rec else s

def CanFrame.flags (f : CanFrame) (lost : Bool) : Nat := b2n f.xtd + 2 * b2n f.fdf + 4 * b2n f.brs + 8 * b2n lost

/-! ### Commands over CAN (R517) -/

/-- The command a payload carries. -/
def canCmdOf (p : List Byte) (ts : Nat) : SlotCmd :=
  let i32 (o : Nat) : Int := toSigned 32 (leNat ((p.drop o).take 4))
  { mode := leNat (p.take 1), torque := i32 4, speed := i32 8, acc := i32 12, iD := i32 16, iQ := i32 20, arrival := ts, source := 1 }

/-- A slot takes an accepted payload as one command (R68), or as a discharge request (R70). -/
def State.canCommand (s : State) (n : Nat) (p : List Byte) : State :=
  let c := canCmdOf p s.ts
  let force := leNat ((p.drop 1).take 1)
  let clean := leNat ((p.drop 2).take 2) == 0
  if c.mode = 3 then
    if 1 < force || !clean then s.canStatus n St.badField
    else if !s.pdOn 1 then s.canStatus n St.stateRefused
    else
      let bs := s.bridgesOfSlot n
      let (s, st) := s.requestDischarge (bs.contains 0) (bs.contains 1) (force == 1)
      s.canStatus n st
  else if 3 < c.mode || force ≠ 0 || !clean || c.acc < 0 then s.canStatus n St.badField
  else match s.offerCmd n c with
    | (some st, s) => s.canStatus n st
    | (none, s) => s.setSlotHost n { s.slotHost n with firstCan := true }

/-- The slots that take an object's payload. -/
def State.commandedByObj (s : State) (n j m : Nat) : Bool := s.cmdCan m == n && s.cmdObj m == j && s.cmdSourceOf m == 1

/-- Write an accepted payload of a connection into its object (R511), and let a slot take it. -/
def State.aqWrite (s : State) (c : Nat) (f : CanFrame) (payload : List Byte) : State :=
  let m := s.aqCanMember c
  let n := s.parN P.AQ_NET m
  let j := s.parN P.AQ_INDEX m
  let mark (s : State) (k : Nat) : State := ((s.setAq k { s.aq k with lastAcc := s.now }).setFlag F.CAN_AQ_STATUS_TIMED_OUT false k).cease .AQ_TIMEOUT k
  let s := ((s.aqPartner c).toList).foldl mark (mark s c)
  let s := s.objStore n j { f with data := payload, fdf := true }
  [0, 1].foldl (fun s k =>
    if s.commandedByObj n j k && s.canCmdOk k then (s.setFlag F.CAN_RXO_STATUS_NEW false n j).canCommand k payload else s) s

/-! ### Receive pairs (R516) -/

/-- An accepted copy of a pair. -/
def State.aqCopy (s : State) (c p : Nat) (f : CanFrame) (seq te : Nat) (payload : List Byte) : State :=
  let h := s.aqHome c
  let x := s.aq h
  let open_ (e : AqFirst) : Bool := e.seq == seq && e.from_ == p && !s.elapsed e.at_ (s.parN P.AQ_SKEW c * usT)
  match x.firsts.find? open_ with
  | none => s.setAq h { x with firsts := x.firsts ++ [⟨seq, c, payload, te, s.now⟩] }
  | some e =>
    let s := s.setAq h { x with firsts := x.firsts.filter (fun y => y != e), missRun := 0 }
    if e.payload == payload && e.te == te then
      ((s.setFlag F.CAN_AQ_STATUS_DUAL_OK true c).setFlag F.CAN_AQ_STATUS_DUAL_OK true p).aqWrite c f payload
    else
      let s := [c, p].foldl (fun s k => (s.setFlag F.CAN_AQ_STATUS_DUAL_OK false k).bump F.CAN_AQ_STATS2_DUAL_MISMATCH k) s
      s.aqFault .AQ_DUAL_MISMATCH c

/-- A PDU of a connection arrives: check, pair, object. -/
def State.aqArrive (s : State) (c : Nat) (form : Bool) (pdu : List Byte) (f : CanFrame) : State :=
  if !s.aqActive c || s.parN P.AQ_DIR c ≠ 1 then s
  else match s.aqCheck c form pdu with
    | (none, s) => s
    | (some (seq, te, payload), s) =>
      match s.aqPartner c with
      | some p => s.aqCopy c p f seq te payload
      | none => s.aqWrite c f payload

/-- A skew window ends without a second copy. -/
def execAqSkewExpiry (c : Fin 32) (s : State) : Out :=
  let h := s.aqHome c.val
  let x := s.aq h
  match x.firsts.find? (fun e => s.elapsed e.at_ (s.parN P.AQ_SKEW e.from_ * usT)) with
  | none => .next s
  | some e =>
    let run := x.missRun + 1
    let s := s.setAq h { x with firsts := x.firsts.filter (fun y => y != e), missRun := run }
    let s := (s.setFlag F.CAN_AQ_STATUS_DUAL_OK false e.from_).bump F.CAN_AQ_STATS2_DUAL_MISSING e.from_
    .next (if run = s.parN P.AQ_DUAL_N h then s.aqFault .AQ_DUAL_MISSING e.from_ else s)

/-- No PDU accepted for AQ_TIMEOUT (R513). -/
def execAqTimeoutExpiry (c : Fin 32) (s : State) : Out :=
  if !s.aqActive c.val || s.parN P.AQ_DIR c.val ≠ 1 || s.flag F.CAN_AQ_STATUS_TIMED_OUT c.val ||
      !s.elapsed (s.aq c.val).lastAcc (s.parN P.AQ_TIMEOUT c.val * usT) then .next s
  else
    let s := (s.setFlag F.CAN_AQ_STATUS_TIMED_OUT true c.val).aqFault .AQ_TIMEOUT c.val true
    let m := s.aqCanMember c.val
    .next ([0, 1].foldl (fun s k =>
      if s.commandedByObj (s.parN P.AQ_NET m) (s.parN P.AQ_INDEX m) k && s.isOn .slot k then s.setSlot k { s.slot k with zeroDue := true } else s) s)

/-! ### Whether a controller works on its bus -/

/-- A controller takes part in the bus: not suspended (R507), not bus-off (R506). -/
def State.canLive (s : State) (n : Nat) : Bool :=
  (s.isOn .can n || s.isStopping .can n) && !s.flag F.CAN_STATUS_SUSPENDED n && !s.flag F.CAN_STATUS_BUS_OFF n

/-- A controller begins to integrate again: after a coast or a protocol exception. -/
def State.canIntegrate (s : State) (n : Nat) : State :=
  (s.setFlag F.CAN_STATUS_INTEGRATING true n).setCan n { s.can n with integSince := s.now }

/-- An event on the bus shows that integration has ended, once 11 bits can have passed: the state with INTEGRATING cleared, or `none`. -/
def State.canSettled (s : State) (n : Nat) : Option State :=
  if !s.canLive n then none
  else if !s.flag F.CAN_STATUS_INTEGRATING n then some s
  else if s.elapsed (s.can n).integSince (11 * s.canBit n) then some (s.setFlag F.CAN_STATUS_INTEGRATING false n)
  else none

/-- ERR_PASSIVE follows the counters; CAN_ERR_PASSIVE at the moment one reaches 128 (R506). -/
def State.setCounters (s : State) (n tec rec : Nat) : State :=
  let before := decide (128 ≤ s.fld F.CAN_ERR_COUNT_TEC n)
  let beforeR := decide (128 ≤ s.fld F.CAN_ERR_COUNT_REC n)
  let s := (s.setFld F.CAN_ERR_COUNT_TEC (min 511 tec) n).setFld F.CAN_ERR_COUNT_REC (min 128 rec) n
  let s := s.setFlag F.CAN_STATUS_ERR_PASSIVE (decide (128 ≤ tec) || decide (128 ≤ rec)) n
  if (128 ≤ tec && !before) || (128 ≤ rec && !beforeR) then
    (s.setFlag F.CAN_INT_STATUS_ERR_PASSIVE true n).raise .CAN_ERR_PASSIVE n scopeModule
  else s

/-! ### Reception -/

/-- The object of an identifier and format. -/
def State.objOf (s : State) (n id : Nat) (xtd : Bool) : Option (Nat × Nat) :=
  (List.range (s.parLen P.CAN_RXOBJ n)).findSome? (fun j =>
    match s.rxObj n j with
    | some e => if rxoId e = id && rxoXtd e == xtd then some (j, e) else none
    | none => none)

/-- The receive error counter after a valid frame: one less; from 128, a value the standard allows between 119 and 127. -/
def State.recAfterRx (s : State) (n : Nat) : Nat × State :=
  let r := s.fld F.CAN_ERR_COUNT_REC n
  if r < 128 then (r - 1, s)
  else
    let (k, s) := s.freeIn 81 119 127
    (k.toNat, s)

/-- A controller has received a valid frame. -/
def execCanFrameRx (n : Fin 4) (xtd rtr fdf brs esi : Bool) (id : Nat) (data : List Byte) (s : State) : Out :=
  match s.canSettled n.val with
  | none => .next s
  | some s =>
    let f : CanFrame := ⟨id % 2 ^ (if xtd then 29 else 11), xtd, fdf && !rtr, brs && fdf && !rtr, esi && fdf && !rtr,
      if rtr then [] else data.take (if fdf then 64 else 8)⟩
    let s := if s.parN P.CAN_MODE n.val = 1 then s else
      let (r, s) := s.recAfterRx n.val
      s.setCounters n.val (s.fld F.CAN_ERR_COUNT_TEC n.val) r
    match (if rtr then none else s.objOf n.val f.id f.xtd) with
    | none => .next (s.toFramePair (s.parN P.CAN_UNMATCHED_RP n.val) (frameRecord s.ts n.val (f.flags false) f.id f.data))
    | some (j, e) =>
      if rxoPass e = 2 then .next (s.aqArrive (rxoConn e) f.fdf f.data f)
      else
        let s := s.objStore n.val j f
        .next (if rxoPass e = 1 then
            s.toFramePair (rxoPair e) (frameRecord s.ts n.val (f.flags (s.flag F.CAN_RXO_STATUS_LOST n.val j)) f.id f.data)
          else s)

/-- A read of CAN.RXO_STATUS_j (R500): what a master reads, and the state after it. -/
def State.readRxoStatus (s : State) (m n j : Nat) : Word × State :=
  let w := s.reg ⟨.CAN_RXO_STATUS, n, j⟩
  let x := s.can n
  let s := s.setCan n { x with snaps := x.snaps.setAt none m (some (j, (x.objs.at ([], 0) j).1)) }
  (w, (s.setFlag F.CAN_RXO_STATUS_NEW false n j).setFlag F.CAN_RXO_STATUS_LOST false n j)

def execRxoStatusRead (master : Fin 21) (n : Fin 4) (j : Fin 512) (s : State) : Out :=
  let (s, ok) := s.mayRead master.val .CAN_RXO_STATUS n.val j.val
  .next (if ok then (s.readRxoStatus master.val n.val j.val).2 else s)

/-! ### Transmission (R502 to R505, R514) -/

/-- The buffer of an identifier and format. -/
def State.bufOf (s : State) (n id : Nat) (xtd : Bool) : Option (Nat × Nat) :=
  (List.range (s.parLen P.CAN_TXBUF n)).findSome? (fun b =>
    match s.txBuf n b with
    | some e => if txbId e = id && txbXtd e == xtd then some (b, e) else none
    | none => none)

def CanUnit.buf (x : CanUnit) (b : Nat) : CanBuf := x.bufs.at {} b
def CanUnit.setBuf (x : CanUnit) (b : Nat) (v : CanBuf) : CanUnit := { x with bufs := x.bufs.setAt {} b v }

/-- Complete a CAN_TX; a frame of a partner network has no descriptor. -/
def State.canReply (s : State) (t : CanTx) (st res : Nat) : State :=
  match t.reply with
  | some (pair, wid) => s.finish pair wid st res
  | none => s

/-- Put data into a buffer (R502): data still waiting there is superseded. -/
def State.bufPut (s : State) (n b : Nat) (t : CanTx) : State :=
  let v := (s.can n).buf b
  let s := s.setCan n ((s.can n).setBuf b { v with tx := some t })
  match v.tx with
  | some o => s.canReply o St.superseded 0
  | none => s

/-- The identifier and format of a CAN_TX. -/
def canTxId (d : List Byte) : Nat × Bool := (bits (rawField d 24 4) 28 0, bits (rawField d 24 4) 31 31 == 1)

/-- Whether a CAN_TX may start: not into a full queue (R502). -/
def State.canTxFits (s : State) (w : WorkItem) : Bool :=
  let n := rawTarget w.raw
  let (id, xtd) := canTxId w.raw
  n ≥ 4 || !s.isOn .can n || s.parN P.CAN_MODE n == 1 || (s.bufOf n id xtd).isSome || decide ((s.can n).queue.length < 32)

def execCanTx (n : Fin 64) (host : Option (List Byte)) (s : State) : Out :=
  .next (s.runDescIf n.val ⟨0x40, [5], .any, true, 4, [(24, 4), (28, 1), (29, 1), (32, 32)]⟩ s.canTxFits (fun s w =>
    let c := rawTarget w.raw
    let (id, xtd) := canTxId w.raw
    let flags := rawField w.raw 28 1
    let fdf := flags % 2 == 1
    let len := rawField w.raw 29 1
    let bad := bits (rawField w.raw 24 4) 30 29 ≠ 0 || 3 < flags || 64 < len || (!fdf && 8 < len) || (!xtd && 2 ^ 11 ≤ id) ||
      (if len ≤ 32 then rawAddr w.raw ≠ 0 || rawLen w.raw ≠ 0 else rawLen w.raw ≠ len)
    if bad then s.finish n.val w.wid St.badField 0
    else if !s.isOn .can c || s.parN P.CAN_MODE c = 1 || (fdf && s.parN P.CAN_DBR c = 0) then s.finish n.val w.wid St.stateRefused 0
    else match (if len ≤ 32 then some ((w.raw.drop 32).take len) else s.dataIn n.val w host) with
      | none => s.finish n.val w.wid St.dataError 0
      | some data =>
        match s.bufOf c id xtd with
        | some (b, e) => s.bufPut c b ⟨⟨id, xtd, txbFdf e, txbBrs e, false, fitBytes (txbLen e) data⟩, some (n.val, w.wid), none⟩
        | none =>
          let x := s.can c
          s.setCan c { x with queue := x.queue ++
            [⟨⟨id, xtd, fdf, fdf && 2 ≤ flags, false, fitBytes (if fdf then canFdLen len else len) data⟩, some (n.val, w.wid), none⟩] }))

/-- The order of arbitration: the lower value wins the bus. -/
def CanFrame.arbKey (f : CanFrame) : Nat :=
  if f.xtd then f.id / 2 ^ 18 * 2 ^ 19 + 2 ^ 18 + f.id % 2 ^ 18 else f.id * 2 ^ 19

/-- Of several frames with their places, the one of lowest identifier, the first of equals. -/
def lowest : List (Nat × CanTx) → Option (Nat × CanTx)
  | [] => none
  | p :: t =>
    match lowest t with
    | none => some p
    | some q => if q.2.frame.arbKey < p.2.frame.arbKey then some q else some p

/-- The buffers that hold data not yet transmitted. -/
def State.pendingBufs (s : State) (n : Nat) : List (Nat × CanTx) :=
  (List.range 64).filterMap (fun b => ((s.can n).buf b).tx.map (fun t => (b, t)))

/-- The queue entries, with places from 64 on. -/
def State.queued (s : State) (n : Nat) : List (Nat × CanTx) :=
  (s.can n).queue.zipIdx.map (fun p => (64 + p.2, p.1))

/-- What a controller may offer the bus now (R503, R504). -/
def State.candidate (s : State) (n : Nat) : Option (Nat × CanTx) :=
  if !s.schedOn n then lowest (s.pendingBufs n ++ s.queued n)
  else match (s.can n).window with
    | none => none
    | some k =>
      let x := s.schedOf n k
      if !s.inWindow n k then none
      else if x.type_ = 1 then ((s.can n).buf x.buffer).tx.map (fun t => (x.buffer, t))
      else (lowest ((s.pendingBufs n).filter (fun p => !s.hasExclusive n p.1))).or (lowest (s.queued n))

/-- The Ethernet frame of a PDU (R510, R515). -/
def State.aqEthFrame (s : State) (c : Nat) (pdu : List Byte) : List Byte :=
  beBytes 6 (s.parN P.AQ_ETH_DST c) ++ beBytes 6 (s.parN P.ETH_MAC_ADDR) ++ beBytes 2 (s.parN P.AQ_ETHERTYPE) ++ fitBytes (max 46 pdu.length) pdu

/-- The PDU of a partner goes to its own network (R515). -/
def State.aqPartnerSend (s : State) (p seq te : Nat) (payload : List Byte) : State :=
  let net := s.parN P.AQ_NET p
  if !s.aqActive p then s
  else
    let pdu := aqPdu seq te (s.parN P.AQ_CONN_ID p) (s.aqPduLen p) payload
    let s := s.setFld F.CAN_AQ_STATUS_LAST_SEQ seq p
    if net = 8 then { s with time := { s.time with ethQueue := s.time.ethQueue ++ [.aqosh (s.aqEthFrame p pdu)] } }
    else match s.txBuf net (s.parN P.AQ_INDEX p) with
      | some e => s.bufPut net (s.parN P.AQ_INDEX p) ⟨⟨txbId e, txbXtd e, true, txbBrs e, false, payload⟩, none, some pdu⟩
      | none => s

/-- A buffer's data is wrapped at the moment it is handed to the protocol engine (R514); a retransmission carries the same PDU. -/
def State.aqWrap (s : State) (n b : Nat) (t : CanTx) : CanTx × State :=
  match t.pdu, (s.txBuf n b).bind txbConn with
  | some _, _ => (t, s)
  | none, none => (t, s)
  | none, some c =>
    if !s.aqActive c || s.parN P.AQ_DIR c ≠ 2 then (t, s)
    else
      let x := s.aq c
      let te := (s.ts / 1000 + s.parN P.AQ_LIFETIME c) % 2 ^ 32
      let payload := fitBytes (s.parN P.AQ_LEN c) t.frame.data
      let pdu := aqPdu x.nextSeq te (s.parN P.AQ_CONN_ID c) (s.aqPduLen c) payload
      let s := (s.setAq c { x with nextSeq := (x.nextSeq + 1) % 65536 }).setFld F.CAN_AQ_STATUS_LAST_SEQ x.nextSeq c
      let s := match s.aqPartner c with
        | some p => s.aqPartnerSend p x.nextSeq te payload
        | none => s
      ({ t with pdu := some pdu }, s)

/-- Take a frame out of its buffer or queue place, or put the wrapped frame back into it. -/
def State.canPlace (s : State) (n place : Nat) (t : Option CanTx) : State :=
  let x := s.can n
  if place < 64 then s.setCan n (x.setBuf place { x.buf place with tx := t })
  else match t with
    | none => s.setCan n { x with queue := x.queue.eraseIdx (place - 64) }
    | some v => s.setCan n { x with queue := x.queue.set (place - 64) v }

/-- A controller offers the bus its frame. When it wins arbitration the frame begins, with its SOF bit at this tick; when it loses, the frame
waits, as wrapped. -/
def execCanTxStart (n : Fin 4) (won : Bool) (s : State) : Out :=
  if !s.isOn .can n.val || s.parN P.CAN_MODE n.val ≠ 0 || (s.can n.val).onBus.isSome then .next s
  else match s.canSettled n.val with
    | none => .next s
    | some s =>
      match s.candidate n.val with
      | none => .next s
      | some (place, t) =>
        let (t, s) := if place < 64 then s.aqWrap n.val place t else (t, s)
        if !won then .next (s.canPlace n.val place (some t))
        else
          let s := s.canPlace n.val place none
          let x := s.can n.val
          let x := if place < 64 then x.setBuf place { x.buf place with missRun := 0 } else x
          .next (s.setCan n.val { x with
            onBus := some ⟨if place < 64 then some place else none, t, s.ts⟩
            began := true })

/-- The frame on the bus waits again, for its retransmission, and counts as one that has not begun in its window (R505, R518); one whose buffer has been given new data is superseded (R502). -/
def State.canRetain (s : State) (n : Nat) : State :=
  match (s.can n).onBus with
  | none => s
  | some o =>
    let x := { s.can n with onBus := none, began := false }
    match o.buf with
    | none => s.setCan n { x with queue := o.tx :: x.queue }
    | some b =>
      if (x.buf b).tx.isSome then (s.setCan n x).canReply o.tx St.superseded 0
      else s.setCan n (x.setBuf b { x.buf b with tx := some o.tx })

/-- The measured loop delay of a frame with BRS, in 5 ns (R498). -/
def State.tdcMeasure (s : State) (n : Nat) (o : OnBus) (tdcv : Nat) : State :=
  if o.tx.frame.brs && s.flag F.CAN_TDC_EN n then
    (s.setFld F.CAN_TDC_TDCV (min 255 tdcv) n).setFlag F.CAN_TDC_SAT (decide (255 < tdcv + s.fld F.CAN_TDC_TDCO n)) n
  else s

/-- The frame on the bus has been transmitted without error. -/
def execCanFrameTxDone (n : Fin 4) (tdcv : Nat) (s : State) : Out :=
  match (s.can n.val).onBus with
  | none => .next s
  | some o =>
    if !s.canLive n.val then .next s
    else
      let s := s.setCan n.val { s.can n.val with onBus := none }
      let s := (s.tdcMeasure n.val o tdcv).setFlag F.CAN_INT_STATUS_TX_DONE true n.val
      let s := s.setCounters n.val (s.fld F.CAN_ERR_COUNT_TEC n.val - 1) (s.fld F.CAN_ERR_COUNT_REC n.val)
      .next (s.canReply o.tx St.ok o.sof)

/-! ### The schedule (R504, R505) -/

/-- The buffers whose frame waits past the end of a window. -/
def State.missedBufs (s : State) (n k : Nat) : List Nat :=
  let x := s.schedOf n k
  if x.type_ = 1 then (if (s.can n).began then [] else [x.buffer])
  else ((s.pendingBufs n).map (·.1)).filter (fun b => !s.hasExclusive n b)

/-- One missed window of a buffer. -/
def State.missWindow (s : State) (n b : Nat) : State :=
  let v := (s.can n).buf b
  if v.tx.isNone then s
  else
    let s := (s.setCan n ((s.can n).setBuf b { v with missRun := v.missRun + 1 })).bump F.CAN_SCHED_STATUS_MISSED n
    if v.missRun + 1 = s.parN P.CAN_MISS_N n then (s.setFlag F.CAN_INT_STATUS_SLOT_MISSED true n).raise .CAN_SLOT_MISSED n scopeModule else s

/-- The open window ends. -/
def State.closeWindow (s : State) (n : Nat) : State :=
  match (s.can n).window with
  | none => s
  | some k =>
    let s := (s.missedBufs n k).foldl (fun s b => s.missWindow n b) s
    s.setCan n { s.can n with window := none }

/-- The window of schedule slot k opens. -/
def execCanWindowOpen (n : Fin 4) (k : Fin 64) (s : State) : Out :=
  if !(s.isOn .can n.val && s.schedOn n.val && s.inWindow n.val k.val) || (s.can n.val).window == some k.val then .next s
  else
    let s := s.closeWindow n.val
    let s := (s.setFld F.CAN_SCHED_STATUS_SLOT k.val n.val).setFld F.CAN_SCHED_STATUS_CYCLE (s.basicCycle n.val).1 n.val
    .next (s.setCan n.val { s.can n.val with window := some k.val, windowAt := s.now, began := false })

/-- The open window has ended. -/
def execCanWindowEnd (n : Fin 4) (s : State) : Out :=
  match (s.can n.val).window with
  | none => .next s
  | some k => .next (if s.inWindow n.val k then s else s.closeWindow n.val)

/-- A step of device time: windows it passes over are neither used nor counted (R518). -/
def State.canTimeStep (s : State) : State :=
  (List.range 4).foldl (fun s n =>
    match (s.can n).window with
    | some k => if s.inWindow n k then s else s.setCan n { s.can n with window := none }
    | none => s) s

/-! ### Errors and bus-off (R506) -/

/-- The controller enters bus-off. -/
def State.busOff (s : State) (n : Nat) : State :=
  let x := s.can n
  let times := (x.offTimes.filter (fun t => !s.elapsed t (10 * secT))) ++ [s.now]
  let s := s.setCan n { x with offTimes := times, offSince := s.now }
  let s := ((s.setFlag F.CAN_STATUS_BUS_OFF true n).bump F.CAN_STATS_BUS_OFFS n).setFlag F.CAN_INT_STATUS_BUS_OFF true n
  let s := s.raise .CAN_BUS_OFF n scopeModule
  if s.parN P.CAN_BUSOFF_N n ≤ times.length then s.raise .CAN_BUS_OFF_REPEAT n scopeModule else s

/-- A bus error, or a protocol exception, as the controller sees it. -/
def execCanError (n : Fin 4) (kind : CanErr) (s : State) : Out :=
  if !s.canLive n.val then .next s
  else
    let n := n.val
    if kind = .protocolException then .next ((s.canRetain n).bump F.CAN_STATS_PROTOCOL_EXC n |>.canIntegrate n)
    else
      let s := (s.canRetain n).bump F.CAN_STATS_ERRORS n
      if s.parN P.CAN_MODE n = 1 then .next s
      else
        let tec := s.fld F.CAN_ERR_COUNT_TEC n
        let recv := s.fld F.CAN_ERR_COUNT_REC n
        let s := match kind with
          | .transmit => s.setCounters n (tec + 8) recv
          | .receive => s.setCounters n tec (recv + 1)
          | .receivePrimary => s.setCounters n tec (recv + 8)
          | _ => s
        .next (if 255 < s.fld F.CAN_ERR_COUNT_TEC n then s.busOff n else s)

/-- 128 occurrences of 11 consecutive recessive bits have been seen. -/
def execCanBusOffRecovery (n : Fin 4) (s : State) : Out :=
  if !s.flag F.CAN_STATUS_BUS_OFF n.val || s.flag F.CAN_STATUS_SUSPENDED n.val || !(s.isOn .can n.val || s.isStopping .can n.val) ||
      !s.elapsed (s.can n.val).offSince (128 * 11 * s.canBit n.val) then .next s
  else .next ((s.setFlag F.CAN_STATUS_BUS_OFF false n.val).setCounters n.val 0 0)

/-! ### Lifecycle and coast (R507, R508) -/

/-- The start sequence: the records come into force and are shown; the objects are loaded empty; the controller integrates. -/
def State.canStart (s : State) (n : Nat) : State :=
  let s := (s.takeEffect 0x0C00 0x0C23 n).aqLoad n
  let s := (s.resetRegs (fun k => k.reg == .CAN_RXO_STATUS && k.i == n)).setCan n { integSince := s.now }
  let s := ((s.showTiming n).setFld F.CAN_STATUS_MODE (s.parN P.CAN_MODE n) n).setFlag F.CAN_STATUS_SCHED (s.schedOn n) n
  let s := ((s.setFld F.CAN_STATS_BUS_OFFS 0 n).setFlag F.CAN_STATUS_BUS_OFF false n).setReg ⟨.CAN_ERR_COUNT, n, 0⟩ 0#32
  (s.setFlag F.CAN_STATUS_ERR_PASSIVE false n).setFlag F.CAN_STATUS_INTEGRATING true n

/-- Integration has ended: the controller is ON, its connections become active. -/
def State.canOn (s : State) (n : Nat) : State := (s.setFlag F.CAN_STATUS_INTEGRATING false n).aqUp n

/-- Every frame still queued or buffered completes with ABORTED (R502). -/
def State.canAbortAll (s : State) (n : Nat) : State :=
  let waiting := (s.pendingBufs n).map (·.2) ++ (s.can n).queue
  waiting.foldl (fun s t => s.canReply t St.aborted 0) (s.setCan n { s.can n with bufs := [], queue := [], window := none })

/-- The controller enters STOPPING. -/
def State.canStopping (s : State) (n : Nat) : State := (s.canAbortAll n).setFlag F.CAN_STATUS_INTEGRATING false n

/-- The controller reaches OFF: a frame cut short is not transmitted; its connections are no longer active. -/
def State.canOff (s : State) (n : Nat) : State :=
  let s := match (s.can n).onBus with
    | some o => (s.setCan n { s.can n with onBus := none }).canReply o.tx St.aborted 0
    | none => s
  let s := ((s.setFlag F.CAN_STATUS_INTEGRATING false n).setFlag F.CAN_STATUS_BUS_OFF false n).setFlag F.CAN_STATUS_SCHED false n
  (s.canAbortAll n).aqDown n

/-- Whether the stop sequence has ended: the frame it was transmitting is complete. -/
def State.canStopped (s : State) (n : Nat) : Bool := (s.can n).onBus.isNone

/-- A disable is refused while the controller carries the command object of an ON slot that takes its commands from CAN (R508). -/
def State.canDisableRefused (s : State) (n : Nat) : Bool :=
  [0, 1].any (fun m => s.isOn .slot m && s.cmdSourceOf m == 1 && s.cmdCan m == n)

/-- A coast suspends every controller (R507). -/
def State.canSuspend (s : State) : State :=
  (List.range 4).foldl (fun s n => if s.isOff .can n then s else (s.canRetain n).setFlag F.CAN_STATUS_SUSPENDED true n) s

/-- At relock each controller integrates again. -/
def State.canResume (s : State) : State :=
  (List.range 4).foldl (fun s n => if s.flag F.CAN_STATUS_SUSPENDED n then (s.setFlag F.CAN_STATUS_SUSPENDED false n).canIntegrate n else s) s

end Sys2Proof.Machine
end

