-- ==== Sys2Proof/Machine/MemCore.lean ====
section
/-! DEFINITION. The memories behind arbiters (R564) and how a march on request ends (R577, R578, R591). -/

namespace Sys2Proof.Machine

/-- The memories of R564: base, size, bank size, domain. The L2 has no address of its own in the system map. -/
structure MemGeom where
  base : Nat
  size : Nat
  bank : Nat
  domain : Nat

def memGeom : Nat → MemGeom
  | 0 => ⟨0x10000000, 0x800000, 0x80000, 6⟩
  | 1 => ⟨0x20000000, 0x400000, 0x20000, 5⟩
  | 2 => ⟨0x38000000, 0x100000, 0x20000, 1⟩
  | 3 => ⟨0, 0x100000, 0x20000, 2⟩
  | _ => ⟨0x39000000, 0x10000, 0x10000, 0⟩

/-- The number of banks of a memory. -/
def MemGeom.banks (g : MemGeom) : Nat := g.size / g.bank

/-- A march on request ends: GO and MARCH_BUSY clear, MARCH_STATUS says how. -/
def State.marchEnd (s : State) (how : Fld) : State :=
  let s : State := { s with memc := { s.memc with march := none } }
  let s := ((s.setFlag F.MEMCTL_MARCH_CTRL_GO false).setFlag F.MEMCTL_STATUS_MARCH_BUSY false).setFlag F.MEMCTL_INT_STATUS_MARCH_DONE true
  s.setFlag how true

/-- The segment is restored, the march ends early (R591). -/
def State.marchAbort (s : State) : State :=
  if s.memc.march.isSome then (s.marchEnd F.MEMCTL_MARCH_STATUS_ABORTED).raise .MARCH_ABORTED 255 scopeModule else s

/-- A march that tests a domain's memory ends before the domain is switched off or reset; the engine itself is in PD6. -/
def State.marchOff (s : State) (d : Nat) : State :=
  match s.memc.march with
  | some m => if (memGeom m.mem).domain = d ∨ d = 6 then s.marchAbort else s
  | none => s

end Sys2Proof.Machine
end

