-- ==== Sys2Proof/Machine/Monitor.lean ====
section
/-! DEFINITION. The diverse torque monitor of a slot (R377 to R384). Torques are in µN·m. -/

namespace Sys2Proof.Machine

/-! ### Its own currents (R378) -/

/-- The electrical angle of a bridge's set: the second set lags by SET2_OFFSET (R102). -/
def State.setAngle (s : State) (n b : Nat) : Int :=
  if b = s.mainBridge n then 0 else roundUpHalf (s.par P.SET2_OFFSET n * 65536) 3600

/-- One window's transform: the two shunt phase currents of its period, the third their negative sum, at an angle. -/
def MonPeriod.currents (p : MonPeriod) (th : Nat) : Int × Int :=
  let v (w : ShuntWin) : Int := if w.neg then -w.value else w.value
  let i (k : Nat) : Int := if p.w1.leg = k then v p.w1 else if p.w2.leg = k then v p.w2 else -(v p.w1 + v p.w2)
  parkOf (i 0) (i 1) th

/-- The angle at a window's closing mark, from the frame's angle and speed; in SENSORLESS mode the record's angle. -/
def State.markAngle (s : State) (n : Nat) (p : MonPeriod) (w : ShuntWin) (shared : Option Nat) : Nat :=
  match shared with
  | some th => th
  | none =>
    let dt : Int := ((w.at_ + 320 : Nat) : Int) - (8 * p.at_ : Nat)
    (((p.theta : Int) + roundUpHalf (65536 * p.speed * s.par P.POLE_PAIRS n * dt) 38400000000000) % 65536).toNat

/-- The transforms of a bridge's valid periods: angle and currents of each window. -/
def State.monMarks (s : State) (n b : Nat) (shared : Option Nat) : List (Nat × Int × Int) :=
  let off := s.setAngle n b
  ((s.sens b).monPeriods.map (fun p => [p.w1, p.w2].map (fun w =>
    let th := s.markAngle n p w shared
    (th, p.currents (((th : Int) - off) % 65536).toNat)))).flatten

/-- i_d,m, i_q,m and the mean angle over a slot's bridges; `none` without a valid period. -/
def State.monCurrents (s : State) (n : Nat) (shared : Option Nat) : Option (Int × Int × Nat) :=
  match ((s.bridgesOfSlot n).map (fun b => s.monMarks n b shared)).flatten with
  | [] => none
  | m :: l =>
    let k := l.length + 1
    let sum (f : Nat × Int × Int → Int) : Int := (m :: l).foldl (fun a x => a + f x) 0
    let turn := sum (fun x => toSigned 16 (((x.1 : Int) - m.1) % 65536).toNat)
    some (roundFree 80 (sum (fun x => x.2.1)) k, roundFree 80 (sum (fun x => x.2.2)) k, (((m.1 : Int) + roundFree 81 turn k) % 65536).toNat)

/-! ### Its estimates (R379) -/

/-- T_bed: the torque of the bedrock. -/
def State.tBed (s : State) (n : Nat) (id iq : Int) (th : Nat) : Int :=
  let r := s.lookBedrock n id iq th (s.tMag n)
  s.fluxTorque n r.psiD r.psiQ id iq + s.baseTorque n r.tau

/-- V_DC × I_DC of a bridge in µW, from the means of the window's outputs. -/
def State.dcPower (s : State) (b : Nat) : Int :=
  let x := s.sens b
  let v := if x.vN = 0 then s.fldS F.ADC_DS_VAL_VALUE (vdcCh b) else roundFree 82 x.vSum x.vN
  let i := if x.dcN = 0 then s.fldS F.ADC_DS_VAL_VALUE (shuntCh b) else roundFree 82 x.dcSum x.dcN
  roundFree 83 (v * 1280 * s.par P.VDC_DIV b * i * 320000000) (32768 * 32768 * max 1 (s.parN P.R_SHUNT b))

/-- P_loss in µW for currents in Q15. -/
def State.pLoss (s : State) (n : Nat) (id iq : Int) : Int :=
  let d := s.toMa n id
  let q := s.toMa n iq
  let sq := d.natAbs * d.natAbs + q.natAbs * q.natAbs
  let rs := Config.rsAt (s.parN P.RS_25 n) (s.tMag n)
  1000000 * s.par P.LOSS_C0 n + s.par P.LOSS_C1 n * isqrtNear sq + roundFree 84 (3 * rs * sq) 2000000

/-- T_pow at a speed that is not 0. -/
def State.tPow (s : State) (n : Nat) (w id iq : Int) : Int :=
  let p := ((s.bridgesOfSlot n).map s.dcPower).foldl (· + ·) 0 - s.pLoss n id iq
  roundFree 85 ((if w < 0 then -p else p) * 3000 * 10 ^ 15) (max 1 (piE15 * w.natAbs))

/-- The speed the monitor uses: the latest frame's, in SENSORLESS mode that of the safe-state choice. -/
def State.monSpeed (s : State) (n : Nat) : Int :=
  let b := s.mainBridge n
  if s.par P.POS_MODE n == 1 then (s.safeOf b).speed else (s.sens b).latch.speed

/-! ### The allowance (R380) -/

/-- A_T of R380. -/
def State.trustTorque (s : State) (n : Nat) (id iq : Int) : Int :=
  let dpsi := roundUpHalf (s.par P.TRUST n * 32768) 1000
  let dtau := roundUpHalf (s.par P.TRUST_TAU n * 32768) 1000
  s.fluxTorque n dpsi 0 0 (absI id + absI iq) + s.baseTorque n dtau

/-- max(MON_ABS, MON_REL × |T| / 1,000). -/
def State.monBand (s : State) (n : Nat) (t : Int) : Int := max (1000 * s.par P.MON_ABS n) (roundFree 86 (s.par P.MON_REL n * absI t) 1000)

/-! ### The checks (R381, R382) -/

/-- T_max of R381. -/
def State.monTMax (s : State) (n : Nat) : Int :=
  let t := max (s.par P.TORQUE_MAX_MOT n) (s.par P.TORQUE_MAX_GEN n) * s.par P.FLEET_TORQUE n
  if (s.immobOf n).on then min t (1000 * s.par P.CREEP_TORQUE n) else t

/-- T_c and the interval I of R381: lower end, upper end, T_c. -/
def State.refInterval (s : State) (n : Nat) : Int × Int × Int :=
  let x := s.slot n
  let c := x.mail.getLast?.getD x.cmd
  let tmax := s.monTMax n
  let upTo (t : Int) : Int × Int × Int := (min 0 t, max 0 t, t)
  if s.isStopping .slot n || (s.bridgesOfSlot n).any (fun b => (s.safeOf b).state == .discharge) then (0, 0, 0)
  else match c.mode with
    | 1 => (-tmax, tmax, tmax)
    | 2 => upTo (s.tBed n (s.fromMa n c.iD) (s.fromMa n c.iQ) (s.atl n).theta)
    | _ => upTo (clampI (-tmax) tmax (1000 * c.torque))

/-- One check's counter: a failed evaluation adds 1, a passed one subtracts 1; at MON_N its fault is raised. -/
def State.monCount (s : State) (n : Nat) (fld : Fld) (f : FaultName) (fail : Bool) : State :=
  let c := s.fld fld n
  let c' := if fail then min 255 (c + 1) else c - 1
  let s := s.setFld fld c' n
  if fail && c' == s.parN P.MON_N n && c' != c then s.raise f n (s.scopeSlot n) else s

/-- Nm as an int16 for a register. -/
def regNm (t : Int) : Int := sat16 (roundFree 87 t 1000000)

/-- The mean of an int32 field in mN·m over records, in µN·m. -/
def meanField (l : List (List Byte)) (off : Nat) : Int :=
  match l with
  | [] => 0
  | _ => roundFree 88 (1000 * l.foldl (fun a r => a + rawFieldS r off 4) 0) l.length

/-- What an evaluation compares. -/
structure MonEval where
  source : Nat
  tMon : Int
  tBed : Option Int
  tPow : Option Int
  tRef : Int
  tEst : Int
  trust : Int
  allow : Int
  deriving DecidableEq, Repr

/-- The quantities of an evaluation over its records. -/
def State.monEval (s : State) (n : Nat) (recs : List (List Byte)) : MonEval :=
  let sensorless := s.par P.POS_MODE n == 1
  let shared := if sensorless then (recs.getLast?).map (fun r => rawField r 24 2) else none
  let cur := s.monCurrents n shared
  let w := s.monSpeed n
  let fast := decide (s.par P.MON_PWR_WMIN n ≤ absI w) && w != 0
  let mean (off : Nat) : Int := match recs with
    | [] => 0
    | _ => roundFree 89 (recs.foldl (fun a r => a + rawFieldS r off 2) 0) recs.length
  let (id, iq) := match cur with
    | some (d, q, _) => (d, q)
    | none => (mean 16, mean 18)
  let bed := cur.map (fun x => s.tBed n x.1 x.2.1 x.2.2)
  let pow := if fast then some (s.tPow n w id iq) else none
  let source := if cur.isSome && !sensorless then 1 else if fast then 2 else if cur.isSome then 3 else 0
  let mon := if source = 2 then pow.getD 0 else bed.getD 0
  let ref := if (s.bridgesOfSlot n).any (fun b => (s.safeOf b).state == .discharge) then 0 else meanField recs 8
  let trust := s.trustTorque n id iq
  let coarse := recs.any (fun r => bitAt (rawField r 26 1) 0)
  let allow := s.monBand n ref + trust + (if coarse then 1000 * s.par P.MON_COARSE_PEN n else 0) +
    (if source = 2 then roundFree 86 (s.par P.MON_PWR_TOL n * absI mon) 1000 else 0)
  ⟨source, mon, bed, pow, ref, meanField recs 12, trust, allow⟩

/-- The registers of an evaluation, and the margin (R383). -/
def State.monShow (s : State) (n : Nat) (e : MonEval) (coarse : Bool) : State :=
  let worst := max (absI (e.tMon - e.tRef)) (absI (e.tEst - e.tMon))
  let margin := if e.source = 0 then 0 else (clampI 0 1000 ((e.allow - worst) * 1000 / (max 1 e.allow))).toNat
  let s := ((s.setFld F.SAFETY_SLOT_SOURCE e.source n).setFlag F.SAFETY_SLOT_COARSE_PEN coarse n).setFld F.SAFETY_SLOT_MARGIN margin n
  let s := (s.setFldS F.SAFETY_MON_ERR_E_EST (regNm (e.tEst - e.tMon)) n).setFldS F.SAFETY_MON_ERR_E_TRACK (regNm (e.tMon - e.tRef)) n
  let u16 (t : Int) : Nat := (clampI 0 65535 (roundFree 87 t 1000000)).toNat
  let s := (s.setFld F.SAFETY_MON_ALLOW_A_T (u16 e.trust) n).setFld F.SAFETY_MON_ALLOW_ALLOW (u16 e.allow) n
  if e.source = 0 then s else s.setFldS F.SAFETY_MON_TMON_T_MON (mNm e.tMon) n

/-- The four checks. `win` is the window's number. -/
def State.monChecks (s : State) (n win : Nat) (e : MonEval) (recorded : Bool) : State :=
  let s := if e.source = 0 || !recorded then s else
    (s.monCount n F.SAFETY_MON_CNT_TRACK .TORQUE_TRACK (decide (e.allow < absI (e.tMon - e.tRef)))).monCount n F.SAFETY_MON_CNT_EST .TORQUE_EST
      (decide (e.allow < absI (e.tEst - e.tMon)))
  let (lo, hi, tc) := s.refInterval n
  let d := if e.tRef < lo then lo - e.tRef else if hi < e.tRef then e.tRef - hi else 0
  let x := s.slot n
  let fallen := match x.monDist.find? (fun p => p.1 + 20 == win) with
    | some p => decide (d < p.2)
    | none => false
  let s := s.setSlot n { x with monDist := (win, d) :: x.monDist.take 20 }
  let s := if recorded then s.monCount n F.SAFETY_MON_CNT_REF .TORQUE_REF (decide (s.monBand n tc < d) && !fallen) else s
  match e.tBed, e.tPow with
  | some b, some p => s.monCount n F.SAFETY_MON_CNT_PWR .MON_PWR_MISMATCH
      (decide (e.allow + roundFree 86 (s.par P.MON_PWR_TOL n * absI b) 1000 < absI (b - p)))
  | _, _ => s

/-- MON_DEGRADED (R379). -/
def State.monDegraded (s : State) (n source : Nat) : State :=
  let x := s.slot n
  if source ≠ 0 then (s.setSlot n { x with monNone := 0 }).cease .MON_DEGRADED n
  else
    let s := s.setSlot n { x with monNone := x.monNone + 1 }
    if x.monNone + 1 = s.parN P.MON_N n then s.raise .MON_DEGRADED n (s.scopeSlot n) 0 none true else s

/-- A window of 50 µs of device time has ended (R377). -/
def State.monWindow (s : State) (n win : Nat) : State :=
  let x := s.slot n
  let inWin (r : List Byte) : Bool := decide (50000 * win ≤ rawField r 0 8) && decide (rawField r 0 8 < 50000 * (win + 1))
  let recs := match x.monRecs.filter inWin with
    | [] => x.monLast.toList
    | l => l
  let e := s.monEval n recs
  let s := s.setSlot n { x with monWin := win + 1, monRecs := x.monRecs.filter (fun r => decide (50000 * (win + 1) ≤ rawField r 0 8)) }
  let s := (s.bridgesOfSlot n).foldl (fun s b => s.setSens b { s.sens b with monPeriods := [], dcSum := 0, dcN := 0, vSum := 0, vN := 0 }) s
  let s := s.monShow n e (recs.any (fun r => bitAt (rawField r 26 1) 0))
  (s.monChecks n win e (!recs.isEmpty)).monDegraded n e.source

/-- Whether the monitor evaluates a slot (SAFETY.SLOT_s.MON_ON). -/
def State.monOn (s : State) (n : Nat) : Bool :=
  (s.isOn .slot n || (s.isStopping .slot n && (s.slot n).fly == .idle)) && (s.pairOk 0 || s.pairOk 1)

def execMonitorWindowEnd (n : Fin 2) (s : State) : Out :=
  let n := n.val
  let win := s.ts / 50000
  .next (if s.monOn n && decide ((s.slot n).monWin < win) then s.monWindow n (win - 1) else s)

/-- No monitor record for 200 µs or four current cycles (R384). -/
def execMonitorStaleTimer (n : Fin 2) (s : State) : Out :=
  let n := n.val
  let t := s.cycleTime n 4
  .next (if s.isOn .slot n && (s.pairOk 0 || s.pairOk 1) && s.elapsed (s.slot n).monAt (max (200 * usT) (t.1 / t.2)) then
    s.raise .MONITOR_STALE n (s.scopeSlot n) else s)

end Sys2Proof.Machine
end

