-- ==== Sys2Proof/Machine/Time.lean ====
section
/-! DEFINITION. Network time, the Ethernet MAC, timed pulse outputs and event captures (chapter 14). -/

namespace Sys2Proof.Machine

/-! ### The clock (R522, R523) -/

/-- The clock wraps after its 48 bits of seconds. -/
def devModulus : Nat := 2 ^ 48 * 1000000000 * devNs

/-- The PLL coasts (R473). -/
def State.coasting (s : State) : Bool := s.flag F.SYSCTL_CLK_STATUS_COAST

/-- Nominal lengths of 1.25 ns in a tick of CLK_PWM: four while the PLL coasts (R473, R529). -/
def State.tickLen (s : State) : Nat := if s.coasting then 4 else 1

/-- Units of `dev` that a tick adds: 1.25 ns × (1 + FREQ_ADJ), FREQ_ADJ in 1/256 ppb, and four times that at a coasting tick (R523, R529). -/
def State.devTick (s : State) : Nat := s.tickLen * (5 * (256000000000 + s.fldS F.TIME_FREQ_ADJ_ADJ)).toNat

/-- Device time `age` ticks ago. -/
def State.devAgo (s : State) (age : Nat) : Nat := s.dev - age * s.devTick
def State.tsAgo (s : State) (age : Nat) : Nat := s.devAgo age / devNs

/-- The clock state (R524): 0 FREE, 1 SYNCED, 2 HOLDOVER, 3 UNSYNC. -/
def State.clockState (s : State) : Nat := s.fld F.TIME_STATUS_STATE

/-- The clock enters a state (R524). -/
def State.enterClock (s : State) (x : Nat) : State :=
  let was := s.clockState
  let s := (s.setFld F.TIME_STATUS_STATE x).setTime { s.time with good := 0, bad := 0 }
  if x = 1 then
    let s := (s.setFlag F.TIME_INT_STATUS_SYNCED true).setFlag F.TIME_STATUS_COASTED false
    if s.prot.everSynced then s else ({ s with prot := { s.prot with everSynced := true, resume := false } } : State).judgeImmobs
  else if x = 2 then s.setTime { s.time with holdSince := s.now }
  else if x = 3 ∧ was ≠ 3 then (s.setFlag F.TIME_INT_STATUS_SYNC_LOST true).raise .SYNC_LOST 255 scopeModule
  else s

/-! ### Timed pulse outputs (R534 to R536) -/

def State.tpo (s : State) (k : Nat) : Tpo := s.time.tpos.at {} k
def State.setTpo (s : State) (k : Nat) (x : Tpo) : State := s.setTime { s.time with tpos := s.time.tpos.setAt {} k x }
/-- Whether an output is active; TPO_POL selects the level. -/
def State.tpoPin (s : State) (k : Nat) : Bool := s.time.tpoPins.at false k
def State.setTpoPin (s : State) (k : Nat) (v : Bool) : State := s.setTime { s.time with tpoPins := s.time.tpoPins.setAt false k v }

/-- The difference of two TS64 times, wrapped (R16). -/
def tsDiff (a b : Nat) : Int := toSigned 64 ((a % 2 ^ 64 + 2 ^ 64 - b % 2 ^ 64) % 2 ^ 64)

/-- The fine phases of an edge at a time in ns: the remainder beyond its tick in units of 156.25 ps (R535). -/
def tpoFine (t : Nat) : Nat := 4 * t % 5 * 8 / 5

/-- A disarmed output is inactive; its record comes into force (R541). -/
def State.tpoOff (s : State) (k : Nat) : State :=
  let s := ((s.setTpo k {}).setTpoPin k false).setFlag F.TIME_TPO_CTRL_ARM false k
  s.takeEffect 0x0D20 0x0D21 k

/-- The next edge of an armed output. -/
def Tpo.edge (x : Tpo) : Nat := x.start + x.k * x.period + (if x.active then x.width else 0)

/-- R536: the edges of an armed output judged against the present time, when it is armed or after a step; where a pulse is in progress, at its end. -/
def State.tpoJudge (s : State) (k : Nat) : State :=
  let x := s.tpo k
  if !x.armed then s
  else if x.active then s.setTpo k { x with late := decide (x.period ≠ 0) }
  else
    let ahead := tsDiff (x.start + x.k * x.period) s.ts
    if 1000 ≤ ahead then s
    else if x.period = 0 then
      ((((s.setTpo k { x with late := true, start := s.ts }).setFlag F.TIME_TPO_CTRL_LATE true k).setFlag F.TIME_INT_STATUS_TPO_LATE true).raise
        .TPO_LATE k scopeModule)
    else
      let skip := ((1000 - ahead).toNat + x.period - 1) / x.period
      (s.setTpo k { x with k := x.k + skip }).bump F.TIME_TPO_CTRL_SKIP k 0 skip

/-- Only masters 8 to 13 write the TPO and MDIO registers (R543). -/
def tpoMaster (m : Nat) : Bool := decide (8 ≤ m) && decide (m ≤ 13)

/-- ARM (R534): refused with ARM_ERR for its widths. -/
def State.tpoArm (s : State) (k width : Nat) : State :=
  let s := s.setFld F.TIME_TPO_CTRL_WIDTH width k
  let w := s.fld F.TIME_TPO_CTRL_WIDTH k
  let p := s.fld F.TIME_TPO_PERIOD_PERIOD k
  if s.par P.TPO_MODE k ≠ 1 then s
  else if w < 10 ∨ (p ≠ 0 ∧ p ≤ w) then s.setFlag F.TIME_TPO_CTRL_ARM_ERR true k
  else
    let start := s.fld F.TIME_TPO_START_HI_START k * 2 ^ 32 + s.fld F.TIME_TPO_START_LO_START k
    (((s.setTpo k { armed := true, start := start, period := p, width := w }).setTpoPin k false).setFlag F.TIME_TPO_CTRL_ARM true k).tpoJudge k

/-- A write of TIME.TPO_CTRL_k with ARM set. -/
def execTpoArm (master : Fin 21) (k : Fin 8) (width : Nat) (s : State) : Out :=
  .next (s.onWrite master.val .TIME_TPO_CTRL k.val (fun s => if tpoMaster master.val then s.tpoArm k.val width else s))

/-- A write of TIME.TPO_CTRL_k with DISARM set. -/
def execTpoDisarm (master : Fin 21) (k : Fin 8) (s : State) : Out :=
  .next (s.onWrite master.val .TIME_TPO_CTRL k.val (fun s => if tpoMaster master.val then s.tpoOff k.val else s))

/-- An edge's time is reached: the output becomes active, or inactive and moves to its next pulse. -/
def execTpoEdge (k : Fin 8) (s : State) : Out :=
  let k := k.val
  let x := s.tpo k
  if !x.armed || !s.pdOn 9 || decide (0 < tsDiff x.edge s.ts) then .next s
  else
    let fine := if x.late && !x.active then 0 else tpoFine x.edge
    if !x.active then .next ((s.setTpo k { x with active := true, fine := fine }).setTpoPin k true)
    else if x.period = 0 then .next (s.tpoOff k)
    else
      let s := (s.setTpo k { x with active := false, k := x.k + 1, fine := fine, late := false }).setTpoPin k false
      .next (if x.late then s.tpoJudge k else s)

/-- TPO_EDGE of a timeline (R238): low, high or toggled, when the output is assigned to this bridge. -/
def execTlTpoEdge (b : Fin 2) (k : Fin 32) (s : State) : Out :=
  .next (s.tlFire b.val k.val 5 (fun s _ =>
    let arg := s.fld F.PWM_TL_ACT_ARG b.val k.val
    let o := bits arg 2 0
    if s.parN P.TPO_MODE o ≠ 2 + b.val ∨ s.pdOn 9 = false then s
    else match bits arg 5 4 with
      | 0 => s.setTpoPin o false
      | 1 => s.setTpoPin o true
      | 2 => s.setTpoPin o (!s.tpoPin o)
      | _ => s))

/-! ### Steps (R528) -/

/-- The torque monitor's window in progress ends at a step and is evaluated; the next begins at a multiple of 50 µs of the new time. -/
def State.monStep (s : State) (old n : Nat) : State :=
  let on := s.isOn .slot n || (s.isStopping .slot n && (s.slot n).fly == .idle)
  let s := if on && (s.pairOk 0 || s.pairOk 1) then s.monWindow n (old / 50000) else s
  s.setSlot n { s.slot n with monWin := (s.ts + 49999) / 50000, monRecs := [] }

/-- Step the clock by `d` units of `dev`. -/
def State.stepClock (s : State) (d : Int) : State :=
  let old := s.ts
  let s := { s with dev := ((s.dev : Int) + d) % (devModulus : Int) |>.toNat }
  let s := s.setFld F.TIME_STATUS_STEP_COUNT (s.fld F.TIME_STATUS_STEP_COUNT + 1)
  let s := (s.setFlag F.TIME_INT_STATUS_STEPPED true).raise .TIME_STEPPED 255 scopeModule
  let s := ([0, 1].foldl (fun s n => s.monStep old n) s).canTimeStep
  ((List.range 8).foldl State.tpoJudge s).judgeImmobs

/-! ### The servo (R525 to R527) -/

/-- The clock's rate, clamped to ±FREQ_MAX (R523). -/
def State.setFreq (s : State) (adj256 : Int) : State :=
  let m : Int := 256 * s.par P.FREQ_MAX
  s.setFldS F.TIME_FREQ_ADJ_ADJ (clampI (-m) m adj256)

/-- A value in 1/65,536 ns as int32 ns, saturating. -/
def offsetNs (site : Nat) (o : Int) : Int := clampI (-2147483648) 2147483647 (roundFree site o 65536)

/-- An offset beyond JUMP_LIMIT (R526). -/
def State.refuseJump (s : State) (o : Int) : State :=
  let s := if s.flag F.TIME_STATUS_JUMP_PENDING then s else
    (((s.setFld F.TIME_JUMP_SEQ_SEQ (s.fld F.TIME_JUMP_SEQ_SEQ + 1)).setFlag F.TIME_STATUS_JUMP_PENDING true).setFlag
      F.TIME_INT_STATUS_JUMP_REFUSED true).raise .JUMP_REFUSED 255 scopeModule
  let s := (s.setFldS F.TIME_JUMP_OFFSET_O (offsetNs 82 o)).setTime { s.time with inLim := 0, good := 0, bad := s.time.bad + 1 }
  if s.clockState = 1 then s.enterClock 2 else s

/-- The state follows the run of offsets (R524). -/
def State.judgeOffset (s : State) (inside : Bool) : State :=
  let t := s.time
  let t := if inside then { t with good := t.good + 1, bad := 0 } else { t with good := 0, bad := t.bad + 1 }
  let s := s.setTime t
  if s.clockState = 1 then (if 4 ≤ t.bad then s.enterClock 2 else s)
  else if 4 ≤ t.good ∧ (s.clockState = 0 ∨ s.flag F.TIME_STATUS_JUMP_PENDING = false) then s.enterClock 1
  else s

/-- The servo's correction within JUMP_LIMIT: offset in 1/65,536 ns, rate in 1/256 ppb, `dt` in ticks. -/
def State.servoAdjust (s : State) (o rr : Int) (dt : Nat) : State :=
  let pending := s.flag F.TIME_STATUS_JUMP_PENDING
  let inLim := if pending then s.time.inLim + 1 else s.time.inLim
  let s := if pending && inLim == 4 then s.setFlag F.TIME_STATUS_JUMP_PENDING false else s
  let integ := s.time.integ + s.par P.SERVO_KI * o * dt
  let s := s.setTime { s.time with inLim := inLim, integ := integ }
  s.setFreq (rr - roundFree 83 ((s.par P.SERVO_KP * o * 800000000 + integ) * 256) (65536 * 1000 * 800000000))

/-- The servo runs at a Sync received at `rx` (units of `dev`). -/
def State.servo (s : State) (rx : Nat) (t : PtpTime) : State :=
  let rx16 : Int := ((rx * 65536 / devNs : Nat) : Int)
  let o := rx16 - ((t.origin : Int) * 65536 + t.correction + (s.fld F.TIME_LINK_DELAY_DELAY : Int) * 65536)
  let rr := t.rate + s.time.nbrRatio
  let dt := match s.time.lastSync with
    | some p => s.now - p
    | none => 0
  let s := (s.setFldS F.TIME_OFFSET_O (offsetNs 84 o)).setTime { s.time with lastSync := some s.now }
  let step (s : State) : State :=
    let s := s.stepClock (-(o * devNs / 65536))
    s.setTime { s.time with integ := 0, good := 0 }
  let tol := decide (o.natAbs ≤ s.parN P.SYNC_TOL * 65536)
  match s.time.accept with
  | (p, w, _) :: more =>
    let waiting := (p, w, 0) :: more
    let s := ((step (s.setTime { s.time with accept := [] })).setFlag F.TIME_STATUS_JUMP_PENDING false).enterClock 0
    (waiting.foldl (fun s x => s.finish x.1 x.2.1 St.ok 0) s).setFreq rr
  | [] =>
    if s.clockState = 0 then
      (if tol then s.judgeOffset true else step s).setFreq rr
    else if s.parN P.JUMP_LIMIT * 1000 * 65536 < o.natAbs then (s.refuseJump o).setFreq rr
    else (s.servoAdjust o rr dt).judgeOffset tol

/-! ### The Ethernet link (R530) -/

/-- The MAC runs while PD9 is ON with ETH_EN = 1; its transmission stops in a coast (R473). -/
def State.macRuns (s : State) : Bool := s.pdOn 9 && s.par P.ETH_EN == 1
def State.linkIsUp (s : State) : Bool := s.macRuns && s.flag F.ETH_STATUS_LINK_UP

/-- asCapable as found (R533); PDELAY_EXCEEDED when it clears. -/
def State.setAsCapable (s : State) (v : Bool) : State :=
  let was := s.flag F.TIME_STATUS_AS_CAPABLE
  let s := s.setFlag F.TIME_STATUS_AS_CAPABLE v
  if was && !v then s.raise .PDELAY_EXCEEDED 255 scopeModule else s

/-- Every ETH_TX that waits completes with ABORTED (R531). -/
def State.ethAbort (s : State) : State :=
  let q := s.time.ethQueue
  q.foldl (fun s x =>
    match x with
    | .host pair wid _ _ => (s.bump F.ETH_TX_STATS_ABORTED).finish pair wid St.aborted 0
    | _ => s) (s.setTime { s.time with ethQueue := [] })

/-- The link is lost. -/
def State.linkLost (s : State) : State :=
  let s := ((s.setFlag F.TIME_STATUS_LINK_UP false).setFlag F.ETH_STATUS_LINK_UP false).setFld F.ETH_STATUS_SPEED 0
  let s := ((s.setFlag F.TIME_INT_STATUS_LINK true).raise .ETH_LINK_DOWN 255 scopeModule).ethAbort
  let s := (s.setTime { s.time with pdelaySent := none, pdelayPrev := none, pendingSync := none }).setAsCapable false
  if s.clockState = 1 then s.enterClock 2 else s

/-- The Ethernet link goes up, at a speed the PHY negotiated (1 10, 2 100, 3 1,000 Mbit/s), or down. -/
def execEthLinkChange (up : Bool) (speed : Fin 3) (s : State) : Out :=
  if !s.macRuns || up == s.flag F.ETH_STATUS_LINK_UP then .next s
  else if up then
    let sp := if s.parN P.ETH_SPEED = 0 then speed.val + 1 else s.parN P.ETH_SPEED
    let s := ((s.setFlag F.TIME_STATUS_LINK_UP true).setFlag F.ETH_STATUS_LINK_UP true).setFld F.ETH_STATUS_SPEED sp
    .next (s.setFlag F.TIME_INT_STATUS_LINK true)
  else .next s.linkLost

/-- The MAC starts with PD9: the Ethernet records come into force (R541), the connections over Ethernet become active. -/
def State.ethStart (s : State) : State :=
  let s := (s.takeEffect 0x0D00 0x0D08 0).aqLoad 8
  let s := s.setFlag F.ETH_STATUS_IF (s.par P.ETH_IF == 1)
  if s.par P.ETH_EN == 1 then s.aqUp 8 else s

/-- The MAC stops with PD9. -/
def State.ethStop (s : State) : State := (if s.flag F.ETH_STATUS_LINK_UP then s.linkLost else s.ethAbort).aqDown 8

/-! ### IEEE 802.1AS (R533) -/

/-- An interval of 2^log2 s in ticks. -/
def logTicks (log2 : Int) : Nat := if 0 ≤ log2 then secT * 2 ^ log2.toNat else secT / 2 ^ (-log2).toNat

/-- Whether a message of a domain reaches the 802.1AS engine. -/
def State.ptpHears (s : State) (domain : Nat) : Bool := s.linkIsUp && s.parN P.PTP_DOMAIN == domain

/-- A Sync is received, its first bit `age` ticks ago; a one-step Sync carries its times and runs the servo at once. -/
def execPtpSyncRx (domain port seq : Nat) (logInterval : Int) (age : Nat) (oneStep : Option PtpTime) (s : State) : Out :=
  let known := s.flag F.TIME_STATUS_GM_KNOWN && (match s.time.gm with
    | some g => g.sourcePort == port
    | none => false)
  if !(s.ptpHears domain && s.flag F.TIME_STATUS_AS_CAPABLE && known) then .next s
  else
    let rx := s.devAgo age - s.parN P.PHY_RX_LAT * devNs
    let s := s.setTime { s.time with syncAt := s.now, syncInterval := logTicks (clampI (-7) 7 logInterval), pendingSync := some ⟨port, seq, rx⟩ }
    match oneStep with
    | some t => .next ((s.setTime { s.time with pendingSync := none }).servo rx t)
    | none => .next s

/-- The Follow_Up of the Sync that waits for it. -/
def execPtpFollowUpRx (domain port seq : Nat) (t : PtpTime) (s : State) : Out :=
  match s.time.pendingSync with
  | some p =>
    if s.ptpHears domain && p.port == port && p.seq == seq then .next ((s.setTime { s.time with pendingSync := none }).servo p.at_ t)
    else .next s
  | none => .next s

/-- The order of Announces: the better grandmaster is the lower. -/
def annRank (a : Announce) : List Nat := [a.priority1, a.quality, a.priority2, a.gmId, a.stepsRemoved, a.sourcePort]

def lexLt : List Nat → List Nat → Bool
  | [], [] => false
  | [], _ :: _ => true
  | _ :: _, [] => false
  | a :: s, b :: t => decide (a < b) || (a == b && lexLt s t)

/-- A grandmaster is selected (R526): GM_CHANGED when its identity is a new one. -/
def State.selectGm (s : State) (a : Announce) : State :=
  let id := a.gmId % 2 ^ 64
  let same := s.fld F.TIME_GM_ID_HI_ID == id / 2 ^ 32 && s.fld F.TIME_GM_ID_LO_ID == id % 2 ^ 32
  let s := (s.setFlag F.TIME_STATUS_GM_KNOWN true).setTime { s.time with gm := some a }
  if same then s
  else
    let s := (s.setFld F.TIME_GM_ID_HI_ID (id / 2 ^ 32)).setFld F.TIME_GM_ID_LO_ID (id % 2 ^ 32)
    (s.setFlag F.TIME_INT_STATUS_GM_CHANGED true).raise .GM_CHANGED 255 scopeModule

/-- An Announce is received. -/
def execPtpAnnounceRx (domain : Nat) (logInterval : Int) (a : Announce) (s : State) : Out :=
  if !(s.ptpHears domain && s.flag F.TIME_STATUS_AS_CAPABLE) || 255 ≤ a.stepsRemoved then .next s
  else
    let better := match s.time.gm with
      | none => true
      | some g => g.sourcePort == a.sourcePort || lexLt (annRank a) (annRank g)
    if !better then .next s
    else .next ((s.setTime { s.time with announceAt := s.now, announceInterval := logTicks (clampI (-7) 7 logInterval) }).selectGm a)

/-- announceReceiptTimeout, three intervals without an Announce: no grandmaster is selected any more. -/
def execAnnounceReceiptTimeout (s : State) : Out :=
  if s.time.gm.isSome && s.elapsed s.time.announceAt (3 * s.time.announceInterval) then
    .next ((s.setFlag F.TIME_STATUS_GM_KNOWN false).setTime { s.time with gm := none })
  else .next s

/-- syncReceiptTimeout, three intervals without a Sync: SYNCED becomes HOLDOVER. -/
def execSyncReceiptTimeout (s : State) : Out :=
  if s.clockState = 1 && s.elapsed s.time.syncAt (3 * s.time.syncInterval) then .next (s.enterClock 2) else .next s

def execHoldoverExpiry (s : State) : Out :=
  if s.clockState = 2 && s.elapsed s.time.holdSince (s.parN P.HOLDOVER_T * secT) then .next (s.enterClock 3) else .next s

/-- A frame waits for the MAC. -/
def State.ethPut (s : State) (x : EthTx) : State := s.setTime { s.time with ethQueue := s.time.ethQueue ++ [x] }

/-- Every 2^PDELAY_LOG_INT s a Pdelay_Req is sent. More than nine of them without an answer end asCapable. -/
def execPdelayReqSend (s : State) : Out :=
  if !s.linkIsUp || !s.elapsed s.time.pdelayAt (logTicks (s.par P.PDELAY_LOG_INT)) then .next s
  else
    let t := s.time
    let lost := if t.pdelaySent.isSome then t.pdelayLost + 1 else t.pdelayLost
    let seq := (t.pdelaySeq + 1) % 65536
    let s := (s.setTime { t with pdelaySeq := seq, pdelayAt := s.now, pdelayLost := lost, pdelaySent := none }).ethPut (.pdelayReq seq)
    .next (if 9 < lost then s.setAsCapable false else s)

/-- A received Pdelay_Req is answered two-step: the response, and its follow-up once the response has been sent. -/
def execPtpPdelayReqRx (requester seq age : Nat) (s : State) : Out :=
  if !s.linkIsUp then .next s
  else .next (s.ethPut (.pdelayResp requester seq ((s.devAgo age - s.parN P.PHY_RX_LAT * devNs) / devNs)))

/-- A Pdelay_Resp, its first bit `age` ticks ago, and its follow-up: the neighbour received the request at `t2` and sent the response at `t3` (ns of
its clock). The neighbour's rate follows from two exchanges; meanLinkDelay and asCapable from it. -/
def execPtpPdelayRespRx (seq t2 t3 age : Nat) (s : State) : Out :=
  match s.time.pdelaySent with
  | none => .next s
  | some (q, t1) =>
    if q ≠ seq || !s.linkIsUp then .next s
    else
      let t4 := s.devAgo age - s.parN P.PHY_RX_LAT * devNs
      let ratio : Int := match s.time.pdelayPrev with
        | some (p3, p4) =>
          let d3 : Int := ((t3 : Int) - p3) * devNs
          let d4 : Int := (t4 : Int) - p4
          if 0 < d4 then roundFree 85 ((d3 - d4) * 256000000000) d4.toNat else s.time.nbrRatio
        | none => s.time.nbrRatio
      let local_ : Int := ((t4 : Int) - t1) * (256000000000 + ratio)
      let remote : Int := ((t3 : Int) - t2) * devNs * 256000000000
      let delay := roundFree 86 (local_ - remote) (2 * devNs * 256000000000)
      let s := s.setTime { s.time with pdelaySent := none, pdelayPrev := some (t3, t4), nbrRatio := ratio, pdelayLost := 0 }
      let s := s.setFld F.TIME_LINK_DELAY_DELAY (clampI 0 4294967295 delay).toNat
      .next (s.setAsCapable (decide (delay ≤ s.par P.PDELAY_THRESH)))

/-! ### TIME_STEP_ACCEPT (R527) -/

def execTimeStepAccept (n : Fin 64) (s : State) : Out :=
  .next (s.runDesc n.val ⟨0x1B, [1], .roles [1, 2], false, 1, [(24, 4)]⟩ (fun s w =>
    let seq := rawField w.raw 24 4
    if !s.flag F.TIME_STATUS_JUMP_PENDING || seq ≠ s.fld F.TIME_JUMP_SEQ_SEQ then s.finish n.val w.wid St.stateRefused 0
    else
      let (s, ok) := s.auditWrite (s.sessionRole n.val) 10 n.val 0x1B 0 (leBytes 4 seq)
      if !ok then s.finish n.val w.wid St.stateRefused 0
      else s.setTime { s.time with accept := s.time.accept ++ [(n.val, w.wid, s.now)] }))

/-- No Sync within 2 s: the descriptor completes with STATE_REFUSED, the jump stays pending. -/
def execTimeStepTimeout (s : State) : Out :=
  let late (x : Nat × Nat × Nat) : Bool := s.elapsed x.2.2 (2 * secT)
  let gone := s.time.accept.filter late
  .next (gone.foldl (fun s x => s.finish x.1 x.2.1 St.stateRefused 0) (s.setTime { s.time with accept := s.time.accept.filter (fun x => !late x) }))

/-! ### Frames (R531, R532) -/

/-- The EtherType of a frame and the place of its payload, past one VLAN tag. -/
def etherType (f : List Byte) : Nat × Nat :=
  let t := beNat ((f.drop 12).take 2)
  if t = 0x8100 then (beNat ((f.drop 16).take 2), 18) else (t, 14)

/-- Whether a destination is accepted. -/
def State.ethAccepts (s : State) (dst : Nat) : Bool :=
  dst == s.parN P.ETH_MAC_ADDR || dst == 2 ^ 48 - 1 || dst == 0x0180C200000E ||
    (dst != 0 && (List.range 16).any (fun k => s.parN P.ETH_MCAST 0 k == dst))

/-- The Aqosh connection of an Ethernet PDU (R531). -/
def State.aqOfEth (s : State) (pdu : List Byte) : Option Nat :=
  (List.range 32).find? (fun c => s.aqActive c && s.par P.AQ_DIR c == 1 && s.par P.AQ_NET c == 8 && s.parN P.AQ_CONN_ID c == leNat ((pdu.drop 6).take 4))

/-- An Ethernet frame is received, from its destination address to the end of its payload, its first bit `age` ticks ago. -/
def execEthFrameRx (fcsOk : Bool) (frame : List Byte) (age : Nat) (s : State) : Out :=
  if !s.linkIsUp then .next s
  else if !fcsOk then .next (s.bump F.ETH_RX_STATS_FCS)
  else
    let (ty, at_) := etherType frame
    if frame.length < 60 || (if at_ = 18 then 1518 else 1514) < frame.length then .next (s.bump F.ETH_RX_STATS_LENGTH)
    else if !s.ethAccepts (beNat (frame.take 6)) then .next s
    else
      let s := s.bump F.ETH_RX_STATS_FRAMES
      if ty = 0x88F7 then .next s
      else if ty = s.parN P.AQ_ETHERTYPE then
        let pdu := frame.drop at_
        match s.aqOfEth pdu with
        | none => .next s
        | some c =>
          let l := s.aqPduLen c
          .next (s.aqArrive c (pdu.length == max 46 l) (pdu.take l) {})
      else
        let rx := (s.devAgo age - s.parN P.PHY_RX_LAT * devNs) / devNs
        .next (s.toFramePair (s.parN P.ETH_RX_RP) (frameRecord rx 8 0 0 frame))

/-- ETH_TX (R531). -/
def execEthTx (n : Fin 64) (host : Option (List Byte)) (s : State) : Out :=
  .next (s.runDesc n.val ⟨0x41, [5], .any, true, 1, [(24, 1)]⟩ (fun s w =>
    let len := rawLen w.raw
    let flags := rawField w.raw 24 1
    if len < 60 || 1518 < len || 1 < flags then s.finish n.val w.wid St.badField 0
    else if !s.linkIsUp then s.finish n.val w.wid St.stateRefused 0
    else match s.dataIn n.val w host with
      | none => s.finish n.val w.wid St.dataError 0
      | some f =>
        let ty := (etherType f).1
        if ty = 0x88F7 ∨ ty = s.parN P.AQ_ETHERTYPE then s.finish n.val w.wid St.badField 0
        else s.ethPut (.host n.val w.wid f (flags == 1))))

/-- The priority of a frame that waits: 802.1AS, Aqosh, ETH_TX. -/
def EthTx.prio : EthTx → Nat
  | .aqosh _ => 1
  | .host _ _ _ _ => 2
  | _ => 0

/-- The frame that is sent next, and the others. -/
def ethNext (q : List EthTx) : Option (EthTx × List EthTx) :=
  let best := q.foldl (fun m x => min m x.prio) 3
  match q.find? (fun x => x.prio == best) with
  | none => none
  | some x => some (x, q.eraseP (fun y => y.prio == best))

/-- The next frame has been sent, its first bit `age` ticks ago. -/
def execEthFrameTxDone (age : Nat) (s : State) : Out :=
  if !s.linkIsUp || s.coasting then .next s
  else match ethNext s.time.ethQueue with
    | none => .next s
    | some (x, rest) =>
      let s := (s.setTime { s.time with ethQueue := rest }).bump F.ETH_TX_STATS_FRAMES
      let tx := s.devAgo age + s.parN P.PHY_TX_LAT * devNs
      match x with
      | .pdelayReq seq => .next (s.setTime { s.time with pdelaySent := some (seq, tx) })
      | .pdelayResp r seq _ => .next (s.ethPut (.pdelayRespFollowUp r seq (tx / devNs)))
      | .pdelayRespFollowUp _ _ _ => .next s
      | .aqosh _ => .next s
      | .host pair wid _ tsReq => .next (s.finish pair wid St.ok (if tsReq then tx / devNs else 0))

/-! ### Registers with reads and writes of their own -/

/-- A read of TIME.NOW_NS returns NS and latches the other fields (R543). -/
def State.readNow (s : State) : Word × State :=
  let t := s.ts
  let sec := t / 1000000000
  let w := BitVec.ofNat 32 (t % 1000000000)
  let s := (s.setReg ⟨.TIME_NOW_NS, 0, 0⟩ w).setReg ⟨.TIME_NOW_SEC_LO, 0, 0⟩ (BitVec.ofNat 32 sec)
  (w, (s.setFld F.TIME_NOW_SEC_HI_SEC (sec / 2 ^ 32)).setFld F.TIME_NOW_SEC_HI_FRAC (s.dev % devNs * 256 / devNs))

def execTimeNowRead (master : Fin 21) (s : State) : Out :=
  let (s, ok) := s.mayRead master.val .TIME_NOW_NS
  .next (if ok then s.readNow.2 else s)

/-- The entries a capture channel holds, oldest first. -/
def State.caps (s : State) (c : Nat) : List Capture := s.time.caps.at [] c

/-- A qualified edge on a capture input: its time is that of the first edge, the filter and the synchroniser compensated (R537). -/
def execEvcapEdge (c : Fin 5) (falling : Bool) (s : State) : Out :=
  let e := s.parN P.CAPT_EDGE c.val
  if !s.pdOn 9 || !(e == 3 || e == (if falling then 2 else 1)) then .next s
  else if 4 ≤ (s.caps c.val).length then
    .next (((s.setFlag F.TIME_EVCAP_INFO_OVR true c.val).setFlag F.TIME_INT_STATUS_CAP_OVR true).raise .CAP_OVERRUN c.val scopeModule)
  else
    let x : Capture := ⟨s.tsAgo (s.parN P.CAPT_FILT c.val + 2), s.coasting, falling, s.fld F.TIME_STATUS_STEP_COUNT⟩
    .next ((s.setTime { s.time with caps := s.time.caps.setAt [] c.val (s.caps c.val ++ [x]) }).setFlag F.TIME_INT_STATUS_CAP true)

/-- TIME.EVCAP_INFO_c as it reads. -/
def State.evcapInfo (s : State) (c : Nat) : Word :=
  let l := s.caps c
  let e := match l with
    | [] => 0
    | x :: _ => 2 ^ 31 + 2 ^ 29 * b2n x.coast + 2 ^ 28 * b2n x.falling + 2 ^ 24 * (x.step % 16)
  BitVec.ofNat 32 (e + 2 ^ 30 * s.fld F.TIME_EVCAP_INFO_OVR c + l.length)

/-- The read removes the oldest entry and clears OVR. -/
def State.readEvcapInfo (s : State) (c : Nat) : Word × State :=
  (s.evcapInfo c, (s.setFlag F.TIME_EVCAP_INFO_OVR false c).setTime { s.time with caps := s.time.caps.setAt [] c ((s.caps c).drop 1) })

def execEvcapInfoRead (master : Fin 21) (c : Fin 5) (s : State) : Out :=
  let (s, ok) := s.mayRead master.val .TIME_EVCAP_INFO c.val
  .next (if ok then (s.readEvcapInfo c.val).2 else s)

/-- A write of ETH.MDIO; with GO set it starts a transaction, and while one runs it changes nothing (R543). -/
def State.mdioWrite (s : State) (w : Word) : State :=
  if s.flag F.ETH_MDIO_GO then s else s.setReg ⟨.ETH_MDIO, 0, 0⟩ (w &&& 0xFFFCFFFF#32)

/-- ETH.MDIO.GO is set, with the operation, addresses and data of the same write. -/
def execMdioGo (master : Fin 21) (value : Word) (s : State) : Out :=
  .next (s.onWrite master.val .ETH_MDIO 0 (fun s => if tpoMaster master.val then s.mdioWrite (value ||| 0x80000000#32) else s))

/-- An MDIO transaction ends; a read has brought data. -/
def execMdioDone (data : Fin 65536) (s : State) : Out :=
  if !s.flag F.ETH_MDIO_GO || !s.macRuns then .next s
  else
    let s := s.setFlag F.ETH_MDIO_GO false
    .next (if 2 ≤ s.fld F.ETH_MDIO_OP then s.setFld F.ETH_MDIO_DATA data.val else s)

/-! ### Coast and LPO (R523, R529) -/

/-- A coast begins: UNSYNC from any state, COASTED until SYNCED is next reached. -/
def State.timeCoast (s : State) : State := (s.enterClock 3).setFlag F.TIME_STATUS_COASTED true

/-- The end of a coast or of an LPO run puts the clock in FREE. -/
def State.timeFree (s : State) : State := s.enterClock 0

/-- What a tick adds to device time: with the PLL locked or coasting, FREQ_ADJ included (R523, R529); on the LPO, the nominal time. -/
def State.devAdvance (s : State) : Nat :=
  if s.flag F.SYSCTL_CLK_STATUS_PLL_LOCK || s.coasting then s.devTick else 5 * 256000000000

/-- One tick of CLK_PWM passes with no command waiting: time advances (R12, R469, R523, R529). Intervals counted in ticks last four times as long while
the PLL coasts (R474). DESIGN CHOICE: the table has no row for a tick, so the tick is what a step does on an empty queue. -/
def State.clockTick (s : State) : State :=
  { s with now := s.now + 1, lpo := s.lpo + s.tickLen, dev := (s.dev + s.devAdvance) % devModulus }

end Sys2Proof.Machine
end

