-- ==== Sys2Proof/Machine/DomainPower.lean ====
section
/-! DEFINITION. What a power domain brings when it is switched on and what it loses when it goes dark (R37, R476 to R478, R486, R576, R628), and the
life record (R627). -/

namespace Sys2Proof.Machine

/-! ### The life record (R627, R628) -/

/-- The MRAM offsets of its two copies. -/
def lifeBase (copy : Nat) : Nat := 0x5404000 + 0x80 * copy

/-- The bytes of the record. -/
def Life.bytes (x : Life) : List Byte :=
  let l := leBytes 4 0x4546494C ++ leBytes 4 x.seq ++ (List.range 11).flatMap (fun k => leBytes 4 (x.tbin.at 0 k)) ++ leBytes 4 x.hvA ++ leBytes 4 x.hvB ++
    leBytes 4 x.cyc20 ++ leBytes 4 x.cyc80 ++ (List.range 12).flatMap (fun n => leBytes 4 (x.soft.at 0 n)) ++ List.replicate 8 0#8
  l ++ leBytes 4 (crc32c l)

/-- Whether 128 bytes are a valid copy. -/
def lifeOk (l : List Byte) : Bool := leNat (l.take 4) == 0x4546494C && leNat (l.drop 124) == crc32c (l.take 124)

/-- The counts of a copy. -/
def lifeOf (l : List Byte) : Life :=
  let w (off : Nat) : Nat := leNat ((l.drop off).take 4)
  { seq := w 4, tbin := (List.range 11).foldl (fun t k => t.setAt 0 k (w (8 + 4 * k))) [], hvA := w 52, hvB := w 56, cyc20 := w 60, cyc80 := w 64,
    soft := (List.range 12).foldl (fun t n => t.setAt 0 n (w (68 + 4 * n))) [] }

/-- At a start of PD1 SP1 goes on from the valid copy of higher SEQ; with none the record restarts from zero, which is logged. -/
def State.lifeRead (s : State) : State :=
  let a := s.mramRead (lifeBase 0) 128
  let b := s.mramRead (lifeBase 1) 128
  if lifeOk a && (!lifeOk b || decide ((lifeOf b).seq < (lifeOf a).seq)) then { s with life := lifeOf a }
  else if lifeOk b then { s with life := lifeOf b }
  else (({ s with life := {} } : State).screeWrite FaultName.RESET_RECORDED.code 0 4 255 0 0xFFFF).1

/-- SP1 writes the record, alternately to its two copies, each with SEQ + 1. -/
def State.lifeWrite (s : State) : State :=
  let x := { s.life with seq := (s.life.seq + 1) % 2 ^ 32 }
  ({ s with life := x } : State).mramWrite (lifeBase (x.seq % 2)) x.bytes

/-! ### A domain goes dark (R478) -/

/-- The memories of a domain (R52). -/
def domainMem : Nat → List (Nat × Nat)
  | 1 => [(0x38000000, 0x38100000)]
  | 5 => [(0x20000000, 0x20400000)]
  | 6 => [(0x10000000, 0x10800000)]
  | _ => []

/-- The memories of a domain read as zero. -/
def State.zeroDomain (s : State) (d : Nat) : State :=
  let out (a : Nat) : Bool := (domainMem d).all (fun r => decide (a < r.1) || decide (r.2 ≤ a))
  { s with mem := s.mem.filter (fun e => out e.1), memc := { s.memc with poison := s.memc.poison.filter out } }

/-- The lasting faults of a satellite end with its bank. -/
def State.satFaultsEnd (s : State) (n : Nat) : State :=
  [FaultName.SAT_FENCED, .CROSS_LOSS, .SAT_OT_WARN, .UVLO_POS, .UVLO_NEG].foldl (fun s f => s.cease f n) s

/-- The bank's part of a satellite's state is lost, the satellite itself loses its carriers. -/
def State.bankDark (s : State) (b : Nat) : State :=
  let s := (satsOfBridge b).foldl (fun s n =>
    let x := s.sat n
    (s.setSat n { x with
      carriers := false, startStep := 0, badRun := 0, badTimes := [], hintSent := 0, hintSentAt := 0, ackMissing := none, report := false, desatNow := false
      latchedSinceWrap := false, noClear := false, txDuty := 0, txAt := 0, regSince := none, measSeq := 0, measAt := 0, ch0Force := 0, tempAt := none }).satFaultsEnd n) s
  s.setSafe b { s.safeOf b with forced := none, locked := false, linkLoss := false }

/-- HKEEP keeps its last values with VALID clear (R591). -/
def State.hkDark (s : State) : State :=
  let s := (List.range 45).foldl (fun s i => s.setFlag F.HKEEP_TEMP_VALID false i) s
  let s := (List.range 24).foldl (fun s i => s.setFlag F.HKEEP_CH_VALID false i) s
  let s := (List.range 5).foldl (fun s i => s.setFlag F.HKEEP_SUPPLY_VALID false i) s
  let s := [0, 1].foldl (fun s i => (s.setFlag F.HKEEP_VDC_VALID false i).setFlag F.HKEEP_TMAG_VALID false i) s
  ({ s with hk := { s.hk with roundAt := none } } : State).setFlag F.HKEEP_STATUS_RUNNING false

/-- Registers of a dark domain that keep their content: the last housekeeping values (R591). -/
def keptDark (r : Reg) : Bool := r.geom.blk == .HKEEP

/-- Domain resets are counted and their last cause kept (R485): 1 request, 2 escalation, 3 supply, 4 clock, 5 package. -/
def State.countReset (s : State) (d cause : Nat) : State :=
  (s.setFld F.SYSCTL_PD_STATUS_LAST_RST cause d).bump F.SYSCTL_PD_STATUS_RST_COUNT d

/-- A domain is switched off, or reset: its registers return to their reset values and its units forget their state. -/
def State.domainDark (s : State) (d : Nat) : State :=
  let s := s.marchOff d
  let fenced := s.fenced
  let s := if d = 9 then s.linkDown.ethStop else if d = 8 then s.hkDark else s
  let s := s.resetRegs (fun k => k.reg.domain k.i == d && !keptDark k.reg)
  match d with
  | 1 =>
    let i := s.island
    { s with island := { sto := i.sto, dchg := { out := i.dchg.out } } }
  | 2 => s.loseHost 0
  | 3 => { s with engines := s.engines.filter (fun e => !decide (e.1 < 4)) }
  | 4 => { s with engines := s.engines.filter (fun e => decide (e.1 < 4)) }
  | 5 =>
    let s := s.setFlag F.ATLAS_MRAM_STATUS_FENCED fenced
    ({ s with atlas := [] } : State).setAtlC { sig := s.atlasC.sig, ptimeBase := s.atlasC.ptimeBase }
  | 6 => { s with memc := { s.memc with march := none, recover := [], conf := [], writeback := [], scrubNext := [] } }
  | 7 => { s with pwms := [], posIfs := [], posCmps := [], capHi := [], sn := { s.sn with burstFresh := true } }
  | 8 => { s with adcs := [], sensing := [], sense := {} }
  | 9 => { s with cans := [], aqs := [], time := {} }
  | 10 => s.bankDark 0
  | 11 => s.bankDark 1
  | _ => s

/-! ### A domain comes on (R476) -/

/-- A domain enters STARTING, clamped and in reset: its power switch closes, and the march engine zero-fills its memories (R576). -/
def State.domainStarting (s : State) (d : Nat) : State :=
  let s := (s.setFlag F.SYSCTL_PD_STATUS_CLAMPED true d).setFlag F.SYSCTL_PD_STATUS_IN_RESET true d
  (if d = 1 ∨ d = 2 ∨ d = 5 then s.zeroDomain d else s).setDomain d { s.domainOf d with lost := false, heldOff := false, heldOn := false }

/-- The latch record is read back at a start of PD1, and the latch set again for what it holds (R486). -/
def State.latchRestore (s : State) : State :=
  let fs := s.faults
  if fs.latchRecord.isEmpty then s
  else ({ s with faults := { fs with latched := fs.latchRecord, latchSince := s.now } } : State).setFlag F.SAFETY_INT_STATUS_LATCH true

/-- Step 2 of the start-up of the atlas: the interface is trained, PTIME restored, the metadata shown (R157, R167); then steps 3 to 5. -/
def State.atlasStart (s : State) : State :=
  let v := s.atlasNv
  let s := s.setAtlC { s.atlasC with ptimeBase := v.ptime, ptimeFrom := s.now, savedAt := v.ptime }
  if s.fenced then s
  else
    let s := ((s.setFlag F.ATLAS_MRAM_STATUS_TRAINED true).setFld F.ATLAS_MRAM_ID_ID Config.dieIdMram.toNat).showScrub
    let top := v.writes.foldl (fun (m : Nat × Nat) e => if m.2 < e.2 then e else m) (0, 0)
    let s := (s.setFld F.ATLAS_WEAR_MAX_MAX_WRITES top.2).setFld F.ATLAS_WEAR_MAX_BLOCK_BLOCK top.1
    [0, 1].foldl (fun s n => (s.bedrockResolve n).atlasLoad n) s

/-- A domain reaches ON. -/
def State.domainOn (s : State) (d : Nat) : State :=
  let s := s.setFlag F.SYSCTL_INT_STATUS_DOMAIN_DONE true
  match d with
  | 1 => s.latchRestore.lifeRead
  | 5 => s.atlasStart
  | 8 =>
    let s := ({ s with hk := { s.hk with roundAt := some s.lpo } } : State).setFlag F.HKEEP_STATUS_RUNNING true
    let s := if s.hk.trim.isNone then s.setFld F.HKEEP_LPO_TRIM_CODE Config.trim25 else s
    (List.range 6).foldl State.nextConv s
  | 9 => s.ethStart
  | _ => s

end Sys2Proof.Machine
end

