-- ==== Sys2Proof/Machine/ParamRec.lean ====
section
/-! DEFINITION. Parameter records: the encoding of an entry (R419, R633), which IDs belong to an instance (R632), the consistency rules
that make a record refused (R47 and the chapters' own), the maker bounds (R51, R452), and the engines' parameter images (R189). -/

namespace Sys2Proof.Machine

/-! ### Encoding (R633) -/

/-- The bytes of one element. -/
def PElem.bytes (e : PElem) (v : Int) : List Byte :=
  let l := leBytes e.size (ofSigned (8 * e.size) v)
  if e.bigEndian then l.reverse else l

/-- The value that an element's bytes hold. -/
def PElem.value (e : PElem) (l : List Byte) : Int :=
  let n := leNat (if e.bigEndian then l.reverse else l)
  if e.signed then toSigned (8 * e.size) n else n

/-- Whether a value lies in an element's range. -/
def PElem.ok (e : PElem) (v : Int) : Bool := (decide (e.lo ≤ v) && decide (v ≤ e.hi)) || e.extra.contains v

/-- The elements of a value: all of an array, those of `n` entries of a list. -/
def PDef.elemsOf (d : PDef) (n : Nat) : List PElem := if d.listOf = 0 then d.elems else d.elems.take (d.listOf * n)

def sizeOfElems (l : List PElem) : Nat := l.foldl (fun a e => a + e.size) 0

/-- The entries of a list value of `len` bytes; 0 for any other value. `none` where the length is wrong. -/
def PDef.entriesIn (d : PDef) (len : Nat) : Option Nat :=
  if d.listOf = 0 then (if len = sizeOfElems d.elems then some 0 else none)
  else
    let one := sizeOfElems (d.elems.take d.listOf)
    if len % one = 0 ∧ len / one * d.listOf ≤ d.elems.length then some (len / one) else none

/-- Cut bytes into the values of elements. -/
def readElems : List PElem → List Byte → List Int
  | [], _ => []
  | e :: t, l => e.value (l.take e.size) :: readElems t (l.drop e.size)

/-- The bytes of elements, whose values are given by place. -/
def writeElems (g : Nat → Int) : Nat → List PElem → List Byte
  | _, [] => []
  | k, e :: t => e.bytes (g k) ++ writeElems g (k + 1) t

/-- The zeros that fill an entry's value to a multiple of four bytes. -/
def padBytes (l : List Byte) : List Byte := List.replicate ((4 - l.length % 4) % 4) 0#8

/-- The value of a parameter in its record encoding. -/
def PDef.valueBytes (d : PDef) (g : Nat → Int) : List Byte := writeElems g 0 (d.elemsOf (g P.lenIdx).toNat)

/-- One entry of R419. -/
def PDef.entry (d : PDef) (g : Nat → Int) : List Byte :=
  let v := d.valueBytes g
  leBytes 2 d.id ++ leBytes 2 v.length ++ v ++ padBytes v

/-! ### Records (R632) -/

/-- Whether an ID belongs to its record for an instance: the IDs of each kind of position interface (R350). -/
def idFits (id inst : Nat) : Bool :=
  if 0x0810 ≤ id ∧ id ≤ 0x0819 then inst / 2 == 0
  else if 0x0820 ≤ id ∧ id ≤ 0x082A then inst / 2 == 1
  else if 0x0830 ≤ id ∧ id ≤ 0x0831 then inst / 2 == 2
  else if 0x0840 ≤ id ∧ id ≤ 0x084B then inst / 2 == 3
  else true

/-- The parameters of a record for an instance. -/
def PRecord.members (r : PRecord) (inst : Nat) : List PDef :=
  (paramTableOf (r.first / 256)).filter (fun d => decide (r.first ≤ d.id) && decide (d.id ≤ r.last) && idFits d.id inst)

/-- The values of a record being written: what it writes, else what is stored. -/
abbrev Written := List ((Nat × Nat) × Int)

/-- An element after the write. -/
def State.after (s : State) (inst : Nat) (w : Written) (id idx : Nat) : Int :=
  match w.find? (fun e => e.1 == (id, idx)) with
  | some e => e.2
  | none => s.parStored id inst idx

/-! ### Consistency (R47) -/

/-- Whether a list of numbers rises strictly. -/
def rises : List Int → Bool
  | [] => true
  | [_] => true
  | a :: b :: t => decide (a < b) && rises (b :: t)

/-- The bridges of a slot under a WINDING. -/
def bridgesUnder (n : Nat) (winding : Int) : List Nat := if winding == 1 then [0, 1] else [n]

/-- Whether the coarse grid of a slot covers a current limit (R124). -/
def State.covers (s : State) (n : Nat) (iMax : Int) (machType : Int) : Bool :=
  let g := s.geo n
  let base := s.par P.I_BASE n
  let lim := iMax * 32768
  let dHi := (g.dMin + ((4 * (g.nd / 4 - 1) * g.dStep : Nat) : Int)) * base
  let qHi := (g.qMin + ((4 * (g.nq / 4 - 1) * g.qStep : Nat) : Int)) * base
  decide (g.qMin * base ≤ -lim) && decide (lim ≤ qHi) &&
  (if machType == 2 then decide (g.dMin * base ≤ 0) && decide (lim ≤ dHi) else decide (g.dMin * base ≤ -lim) && decide (0 ≤ dHi))

/-- A machine record (R58, R59, R63, R101). -/
def State.machineOk (s : State) (n : Nat) (g : Nat → Nat → Int) : Bool :=
  let w := g P.WINDING 0
  !(w == 1 && n == 1) && !(g P.MACH_TYPE 0 == 2 && g P.POS_MODE 0 == 1) &&
  !(g P.LOOP_RATE 0 == 2 && (bridgesUnder n w).any (fun b => s.parStored P.UPD_MODE b 0 == 0)) &&
  !(w == 1 && s.parStored P.SYNC_MODE 1 0 != 1)

/-- A limits record: R76, and R124 while the slot is not OFF. -/
def State.limitsOk (s : State) (n : Nat) (g : Nat → Nat → Int) : Bool :=
  rises ((List.range 8).map (fun k => g P.DERATE_TEMP (2 * k))) && rises ((List.range 8).map (fun k => g P.DERATE_VDC (2 * k))) &&
  (s.isOff .slot n || s.covers n (g P.I_MAX 0) (s.par P.MACH_TYPE n))

/-- The number of nodes of an atlas. -/
def nodesOf (g : Nat → Int) : Nat := (g P.N_D * g P.N_Q * g P.N_TH * g P.N_S).toNat

/-- A geometry record (R119, R120, R122). -/
def State.geometryOk (s : State) (n : Nat) (g : Nat → Nat → Int) : Bool :=
  rises (((List.range 4).map (g P.T_STRATA)).take (g P.N_S 0).toNat) &&
  decide (nodesOf (fun id => g id 0) + (if s.hasGeo (1 - n) then nodesOf (fun id => s.parStored id (1 - n) 0) else 0) ≤ 8388608)

/-- A bridge record (R209, R218, R232, R235, R242). -/
def bridgeOk (b : Nat) (g : Nat → Nat → Int) : Bool :=
  (List.range 3).all (fun k => decide (g P.DT_HL k + g P.DT_LH k + 2 * g P.MIN_PULSE 0 ≤ 4 * g P.PERIOD_MIN 0)) &&
  decide (g P.PERIOD_MIN 0 ≤ g P.PWM_PERIOD 0) && decide (g P.PWM_PERIOD 0 ≤ g P.PERIOD_MAX 0) &&
  decide (g P.SYNC_PHASE 0 < g P.PWM_PERIOD 0) && !(b == 0 && g P.SYNC_MODE 0 == 1) && !(b == 1 && g P.SYNC_OUT_EN 0 == 1) &&
  !(g P.BOOT_EN 0 == 1 && g P.LEG_MODE 0 == 1) && decide (g P.MIN_PULSE 0 ≤ g P.BOOT_T 0 * 32 / 5)

/-- One slot of a timeline record (R236 to R238). -/
def tlSlotOk (b t a : Nat) : Bool :=
  let type := bits a 31 28
  let arg := bits a 15 0
  bits t 23 21 == 0 && bits a 19 16 == 0 && bits t 30 27 ≤ 8 && !(bits t 30 27 == 0 && bits t 20 20 == 1) && bits a 23 20 ≤ bits a 27 24 &&
  (match type with
  | 0 => arg == 0
  | 1 => bits arg 15 10 == 0 && bits arg 7 6 == 0 && bits arg 5 0 &&& (63 - 7 * 2 ^ (3 * b)) == 0 &&
      (bits arg 8 8 == 0 || bits arg 5 0 == 7 * 2 ^ (3 * b))
  | 2 => bits arg 15 6 == 0 && bits arg 3 0 ≤ 11
  | 3 => bits arg 15 9 == 0 && bits arg 7 3 == 0
  | 4 => bits arg 15 8 == 0
  | 5 => bits arg 15 6 == 0 && bits arg 3 3 == 0 && bits arg 5 4 ≤ 2
  | _ => false)

/-- A timeline record. -/
def timelineOk (b : Nat) (g : Nat → Nat → Int) : Bool :=
  (List.range 32).all (fun k => tlSlotOk b (g P.TIMELINE (2 * k)).toNat (g P.TIMELINE (2 * k + 1)).toNat)

/-- A satellite record (R274, R289, R366). -/
def State.satelliteOk (s : State) (n : Nat) (g : Nat → Nat → Int) : Bool :=
  let window (id : Nat) : Bool := decide (g id 0 ≤ g id 1) && decide (g id 0 ≤ g P.STR_INIT 0) && decide (g P.STR_INIT 0 ≤ g id 1)
  window P.STR_ON && window P.STR_OFF &&
  !(g P.SUPPLY_MODE 0 == 2 && (n % 2 == 1 || s.parStored P.SUPPLY_MODE (n + 1) 0 == 2)) &&
  decide (g P.SAT_DT_MIN 0 + s.parStored P.SAFE_DT (s.slotOfBridge (bridgeOfSat n)) 0 ≤ 1500)

/-- A safety record (R366). -/
def State.safetyOk (s : State) (n : Nat) (g : Nat → Nat → Int) : Bool :=
  (s.bridgesOfSlot n).all (fun b => (satsOfBridge b).all (fun k => decide (g P.SAFE_DT 0 + s.parStored P.SAT_DT_MIN k 0 ≤ 1500)))

/-- A position-interface record (R350): INDEX_POS below the counts per revolution, the serial position within the bytes before the CRC. -/
def interfaceOk (i : Nat) (g : Nat → Nat → Int) : Bool :=
  if i / 2 = 1 then decide (g P.INDEX_POS 0 < (if g P.ENC_MODE 0 == 1 then 1 else 4) * g P.ENC_LINES 0)
  else if i / 2 = 3 then decide (g P.SER_POS_LSB 0 + g P.SER_POS_BITS 0 ≤ 8 * (g P.SER_RESP_BYTES 0 - 1))
  else true

/-- A sentinel rule (R548). -/
def ruleOk (g : Nat → Int) : Bool :=
  let src := g 0
  let op := g 1
  let wake := decide (3 ≤ src) && decide (src ≤ 6)
  let event := decide (7 ≤ src) && decide (src ≤ 9)
  (wake || decide (op ≤ 2)) && (src != 7 || op == 2) &&
  !(bits (g 3).toNat 2 2 == 1 && bits (g 2).toNat 0 0 == 1) && !(event && g 5 != 0) && bits (g 6).toNat 0 0 == 0 &&
  !(src == 8 && !(decide (-1 ≤ g 4) && decide (g 4 ≤ 7)))

/-- The reaction classes that the matrix of R372 allows for a fault. -/
def classAllowed (f : FaultName) (cls : Int) : Bool :=
  let high := decide (0x0A00 ≤ f.code)
  let lo : Int := match f.defaultClass with
    | 0 => 0
    | 1 => 0
    | 2 => 1
    | 3 => if high then 2 else 3
    | _ => if high then 3 else 4
  decide (lo ≤ cls) && decide (cls ≤ 4)

/-- Whether a 48-bit address is a group address. -/
def groupMac (m : Nat) : Bool := bits m 40 40 == 1

/-- What the target's state forbids (R58, R60, R122, R147, R152, R303, R548). -/
def State.recordState (s : State) (r : PRecord) (n : Nat) (w : Written) : Bool :=
  let g (id : Nat) : Int := s.after n w id 0
  match r.first with
  | 0x0200 => s.isOff .slot n && !(n == 1 && s.dual3) && !(g P.WINDING == 1 && n == 0 && !s.isOff .slot 1)
  | 0x0400 => s.isOff .slot n && s.isOff .dressing n
  | 0x0420 => (g P.TRUST == s.parStored P.TRUST n 0 && g P.TRUST_TAU == s.parStored P.TRUST_TAU n 0) || (s.isOff .slot n && s.isOff .dressing n)
  | 0x0700 => g P.ADC_MODE == 0 || s.isOff .bridge (if n < 3 then 0 else 1)
  | 0x0E10 => s.isOff .rule n
  | _ => true

/-- Whether a record is consistent (R47). -/
def State.recordOk (s : State) (r : PRecord) (n : Nat) (w : Written) : Bool :=
  let g (id idx : Nat) : Int := s.after n w id idx
  match r.first with
  | 0x0200 => s.machineOk n g
  | 0x0220 => s.limitsOk n g
  | 0x0260 => decide (g P.OBS_RES_LO 0 ≤ g P.OBS_RES_HI 0)
  | 0x0280 =>
    let cap := g P.FLEET_SPEED_MAX 0
    cap == 0 || (decide (cap ≤ s.parStored P.SPEED_MAX_FWD n 0) && decide (cap ≤ s.parStored P.SPEED_MAX_REV n 0))
  | 0x0400 => s.geometryOk n g
  | 0x0500 => bridgeOk n g
  | 0x0520 => timelineOk n g
  | 0x0600 => s.satelliteOk n g
  | 0x0700 => g P.SENSE_GAIN 0 != 0
  | 0x0730 => let k := (g P.CHK_AVG 0).toNat; k &&& (k - 1) == 0
  | 0x0750 => decide (g P.CT_SRC 0 / 8 ≤ 5) && g P.CT_SRC 0 % 8 != 7
  | 0x0800 => interfaceOk n g
  | 0x0900 => s.safetyOk n g
  | 0x0B00 => Config.validPoint (beBytes 64 (g P.INSTALLER_KEY 0).toNat)
  | 0x0B01 => Config.validPoint (beBytes 64 (g P.OPERATOR_KEY 0).toNat)
  | 0x0B21 => decide ((s.lifecycle : Int) < g P.LIFECYCLE_ADVANCE 0)
  | 0x0C00 => canRecordOk (fun id idx => (g id idx).toNat) (g P.CAN_RXOBJ P.lenIdx).toNat (g P.CAN_TXBUF P.lenIdx).toNat
  | 0x0C40 => aqRecordOk n (fun id => (g id 0).toNat) (fun k id => (s.parStored id k 0).toNat)
  | 0x0D00 => !groupMac (g P.ETH_MAC_ADDR 0).toNat &&
      (List.range 16).all (fun k => g P.ETH_MCAST k == 0 || groupMac (g P.ETH_MCAST k).toNat)
  | 0x0E10 => ruleOk (g P.SN_RULE)
  | _ => true

/-- Whether the stored machine and limits records of a slot are consistent (R83). -/
def State.slotRecordsOk (s : State) (n : Nat) : Bool := s.machineOk n (fun id idx => s.parStored id n idx) && s.limitsOk n (fun id idx => s.parStored id n idx)

/-! ### Maker bounds (R51, R452) -/

/-- The entries of a bounds record: ID, INDEX, MIN, MAX. -/
def State.boundsOf (s : State) (w : Written) : List (Nat × Nat × Int × Int) :=
  (List.range (s.after 0 w P.MAKER_BOUNDS P.lenIdx).toNat).map (fun k =>
    let g (j : Nat) : Int := s.after 0 w P.MAKER_BOUNDS (4 * k + j)
    ((g 0).toNat, (g 1).toNat, g 2, g 3))

/-- Whether a value lies inside every bound of its element. -/
def withinBounds (bs : List (Nat × Nat × Int × Int)) (id idx : Nat) (v : Int) : Bool :=
  bs.all (fun e => e.1 != id || e.2.1 != idx || (decide (e.2.2.1 ≤ v) && decide (v ≤ e.2.2.2)))

/-- The reaction class in force of a fault code, as FAULT_RC and the defaults give it. -/
def State.classInForce (s : State) (code : Nat) : Option Int :=
  ((faultNames.find? (fun f => f.code == code)).map (fun f => (((s.faultRcEntry code).getD f.defaultClass : Nat) : Int)))

/-- Whether a bounds record is well formed (R452). -/
def boundsForm (bs : List (Nat × Nat × Int × Int)) : Bool :=
  bs.all (fun e => decide (e.2.2.1 ≤ e.2.2.2) &&
    (if e.1 = P.FAULT_RC then faultNames.any (fun f => f.code == e.2.1)
     else match paramDef e.1 with
      | some d => decide (e.2.1 < d.elems.length)
      | none => false))

/-- Whether every value in force lies inside new bounds (R452). -/
def State.boundsHold (s : State) (bs : List (Nat × Nat × Int × Int)) : Bool :=
  bs.all (fun e =>
    if e.1 = P.FAULT_RC then (match s.classInForce e.2.1 with
      | some c => decide (e.2.2.1 ≤ c) && decide (c ≤ e.2.2.2)
      | none => true)
    else match paramRecordOf e.1, paramDef e.1 with
      | some r, some d => (List.range r.insts).all (fun i => !idFits e.1 i ||
          (d.listOf != 0 && decide ((s.parStored e.1 i P.lenIdx).toNat * d.listOf ≤ e.2.1)) ||
          (let v := s.parStored e.1 i e.2.1; decide (e.2.2.1 ≤ v) && decide (v ≤ e.2.2.2)))
      | _, _ => true)

/-- Whether what a record writes respects the bounds. FAULT_RC is judged by code (R373). -/
def State.writtenBounds (s : State) (w : Written) : Bool :=
  let bs := s.boundsOf []
  w.all (fun e => e.1.1 == P.FAULT_RC || e.1.2 == P.lenIdx || withinBounds bs e.1.1 e.1.2 e.2)

/-! ### Reaction classes (R373) -/

/-- The pairs of a FAULT_RC record after the write. -/
def State.faultRcAfter (s : State) (w : Written) : List (Nat × Int) :=
  (List.range (s.after 0 w P.FAULT_RC P.lenIdx).toNat).map (fun k => ((s.after 0 w P.FAULT_RC (2 * k)).toNat, s.after 0 w P.FAULT_RC (2 * k + 1)))

/-- The status of a FAULT_RC record (R373): each change within the matrix, the writer's rights and the bounds. `role` is 1 operator,
2 installer, 3 maker. -/
def State.faultRcStatus (s : State) (role : Nat) (w : Written) : Nat :=
  let new := s.faultRcAfter w
  let codes := new.map (·.1) ++ (s.faultRcAfter []).map (·.1)
  let judge (c : Nat) : Nat :=
    match faultNames.find? (fun f => f.code == c) with
    | none => St.validationRefused
    | some f =>
      let cls := ((new.find? (fun e => e.1 == c)).map (·.2)).getD (f.defaultClass : Int)
      if s.classInForce c == some cls then 0
      else match f.changer with
        | none => St.validationRefused
        | some r =>
          if role ≠ 3 ∧ role ≠ (match r with
              | .operator => 1
              | .installer => 2
              | .maker => 3) then St.roleRefused
          else if !classAllowed f cls then St.validationRefused
          else if !withinBounds (s.boundsOf []) P.FAULT_RC c cls then St.boundRefused
          else 0
  (codes.map judge).foldl (fun a b => if a = 0 then b else a) 0

/-! ### The engines' parameter images (R189) -/

/-- The parameters of an image: IDs 0x0200 to 0x02FF and 0x0420 to 0x042F. -/
def imageDefs : List PDef := paramTable02 ++ paramTable04.filter (fun d => decide (0x0420 ≤ d.id) && decide (d.id ≤ 0x042F))

/-- The index and the values of an image, values from an offset on. -/
def imageParts (g : Nat → Nat → Int) : Nat → List PDef → List Byte × List Byte
  | _, [] => ([], [])
  | off, d :: t =>
    let v := d.valueBytes (g d.id)
    let v := v ++ padBytes v
    let (i, r) := imageParts g (off + v.length) t
    (leBytes 2 d.id ++ leBytes 2 off ++ i, v ++ r)

/-- A new image of a slot's records for an engine, announced by PARAM. -/
def State.giveImage (s : State) (c n : Nat) : State :=
  let e := s.engine c
  let seq := (e.imageSeq + 1) % 2 ^ 32
  let k := imageDefs.length
  let (i, v) := imageParts (fun id idx => s.parStored id n idx) (8 + 4 * k) imageDefs
  (s.setEngine c { e with imageSeq := seq }).deliverTo c Ev.param (leBytes 4 seq ++ leBytes 2 k ++ leBytes 2 0 ++ i ++ v)

/-- The engines whose task names a slot hear of a new record of it. -/
def State.giveImages (s : State) (n : Nat) : State :=
  (List.range 8).foldl (fun s c =>
    if (s.engine c).task ≠ 0 ∧ (s.engine c).slot = n ∧ (s.isOn .engine c || s.isStopping .engine c) = true then s.giveImage c n else s) s

end Sys2Proof.Machine
end

