-- ==== Sys2Proof/Machine/Load.lean ====
section
/-! DEFINITION. Loading an engine's program (R195 to R197): the header's ranges, the refusals of PROG_LOAD, and the verified image's
installation. -/

namespace Sys2Proof.Machine

/-- The fields of an image header. -/
structure ImageHead where
  signer : Nat
  task : Nat
  version : Nat
  words : Nat
  entry : Nat
  dataBytes : Nat
  deriving DecidableEq, Repr

/-- Read a 128-byte header; `none` where a field is outside its range (R195). -/
def imageHead (h : List Byte) : Option ImageHead :=
  let f (off size : Nat) : Nat := leNat ((h.drop off).take size)
  let x : ImageHead := ⟨f 6 1, f 7 1, f 8 4, f 12 2, f 14 2, f 16 4⟩
  if f 0 4 = 0x43455049 ∧ f 4 2 = 1 ∧ x.signer ≤ 1 ∧ x.task ≤ 2 ∧ 1 ≤ x.words ∧ x.words ≤ 8192 ∧ x.entry < x.words ∧ x.dataBytes ≤ 57344 ∧ f 20 12 = 0
  then some x else none

/-- The bytes of the body. -/
def ImageHead.bodyLen (h : ImageHead) : Nat := 4 * h.words + h.dataBytes

/-- The key that a signer's images are verified against (R195). -/
def State.imageKey (s : State) (signer : Nat) : List Byte :=
  if signer = 0 then Config.makerKey else beBytes 64 (s.parStored P.INSTALLER_KEY).toNat

/-- Whether another engine that is not OFF has a task for a slot. -/
def State.taskTaken (s : State) (c task slot : Nat) : Bool :=
  (List.range 8).any (fun k => k != c && !s.isOff .engine k && (s.engine k).task == task && (s.engine k).slot == slot)

/-- The load of an engine refused: CE_LOAD_REFUSED. -/
def State.loadRefused (s : State) (c : Nat) : State := s.raise .CE_LOAD_REFUSED c scopeModule

/-- An engine enters STARTING with a load: its task, slot and TELEMETRY pair are the descriptor's. -/
def State.engineStarting (s : State) (c : Nat) (l : CeLoad) : State :=
  let e := s.engine c
  s.setEngine c { e with load := some l, held := none, task := l.task, slot := l.slot, pair := l.pair, faulted := false, halted := false, haltAsked := false }

/-- The words of a program, from its bytes. -/
def progWords (l : List Byte) : Nat → Nat → Table Nat Word → Table Nat Word
  | 0, _, t => t
  | k + 1, a, t => progWords l k (a + 1) (t.setAt 0xFC000000#32 a (BitVec.ofNat 32 (leNat ((l.drop (4 * a)).take 4))))

/-- Steps 2 to 4 of the start sequence (R197): the program, with 0xFC00_0000 in every unused word; the data; events, registers and GEN cleared; the
program starts at ENTRY. A slot that is not OFF keeps its grants (R199). -/
def State.engineInstall (s : State) (c : Nat) (h : ImageHead) (body : List Byte) : State :=
  let e := s.engine c
  let s := s.takeEffect 0x0300 0x0301 c
  let keep := e.task != 0 && !s.isOff .slot e.slot
  let e' : Engine := {
    prog := progWords body h.words 0 [], mem := Memory.write [] 0 (body.drop (4 * h.words)), pc := h.entry, cyclesFrom := s.now, lastReturn := s.now,
    task := e.task, slot := e.slot, pair := e.pair, signer := h.signer, imageSeq := e.imageSeq
    frames := if keep then e.frames else [], writes := if keep then e.writes else [] }
  let s := (s.setEngine c e').setFld F.CE_IMAGE_VERSION_VERSION h.version c
  let s := (s.setReg ⟨.CE_WDG, c, 0⟩ 0).setFlag F.CE_INT_STATUS_LOADED true c
  if e.task = 0 then s else (s.grantsOf e.task e.slot).2.foldl State.genReset s

/-- The end of the start sequence (R197): BODY_HASH and SIGNATURE are checked; a failure ends STARTING through the fault path with
CE_LOAD_REFUSED, a success starts the program. The load descriptor completes. -/
def State.engineLoaded (s : State) (c : Nat) : State :=
  let e := s.engine c
  match e.load with
  | none => s
  | some l =>
    let raw := s.sysBytes l.image 128
    let fail (s : State) (st : Nat) : State :=
      (((s.setEngine c { s.engine c with load := none }).updLc .engine c Lc.faultStop).loadRefused c).finish l.fromPair l.wid st 0
    match imageHead raw with
    | none => fail s St.signatureRefused
    | some h =>
      if !s.memOk 15 l.image (128 + h.bodyLen) false then fail s St.dataError
      else
        let body := s.sysBytes (l.image + 128) h.bodyLen
        if Config.sha256 body != (raw.drop 32).take 32 ||
            !Config.ecdsaOk (s.imageKey h.signer) (Config.sha256 (raw.take 64)) ((raw.drop 64).take 64) then fail s St.signatureRefused
        else
          let s := (s.setEngine c { e with load := none }).engineInstall c h body
          let s := s.updLc .engine c Lc.startDone
          let s := if e.task = 0 then s else s.giveImage c e.slot
          s.finish l.fromPair l.wid St.ok h.version

/-- PROG_LOAD's checks beyond form and rights (R196), in the order: the engine's state and task, the header, the signer's role. -/
def State.loadStatus (s : State) (c : Nat) (d : List Byte) (role : Nat) (drive : Bool) : Nat :=
  let task := rawField d 24 1
  let slot := rawField d 25 1
  let a := rawAddr d
  if a % 8 ≠ 0 then St.badField
  else if s.isStarting .engine c || s.isOn .engine c || (task != 0 && s.taskTaken c task slot) || (task == 2 && !(slot == 0 && s.dual3)) then St.stateRefused
  else if !s.memOk 15 a 128 false then St.dataError
  else match imageHead (s.sysBytes a 128) with
    | none => St.validationRefused
    | some h =>
      if h.task ≠ task then St.validationRefused
      else if (h.signer = 1 ∧ role ≠ 2) ∨ (h.signer = 0 ∧ drive = false) then St.roleRefused
      else 0

end Sys2Proof.Machine
end

