-- ==== Sys2Proof/Machine/Pos.lean ====
section
/-! DEFINITION. Position and speed feedback (R322 to R349): qualifying edges, resolvers, encoders, Hall sets, serial encoders and
position-compare outputs. -/

namespace Sys2Proof.Machine

/-! ### Faults of an interface (R327, R351) -/

/-- The lowered class of R351: RC1 for an interface that no slot past OFF uses, and for the source of a FUSION slot whose observer is not
in loss. -/
def State.posCond (s : State) (i : Nat) (f : FaultName) : Option Nat :=
  let users := [0, 1].filter (fun n => s.slotUsesIf n i && !s.isOff .slot n)
  let fusion := users.all (fun n => s.par P.POS_MODE n == 2 && !(s.slot n).obsLost && s.parN P.POS_SOURCE n == i)
  if f.defaultClass = 3 ∧ (users = [] ∨ fusion = true) then some 1 else none

/-- The four faults without a lasting effect on POS_VALID (R327). -/
def lightPosFault (f : FaultName) : Bool :=
  f == .INDEX_DEVIATION || f == .SER_CRC || f == .HALL_SEQUENCE || f == .ENC_QUAD_ERR

/-- Raise a fault of an interface. -/
def State.posFault (s : State) (i : Nat) (f : FaultName) : State :=
  let s := if lightPosFault f then s else s.setPosIf i { s.posIf i with bad := true }
  let s := (s.setFlag F.POS_IF_STATUS_FAULTED true i).setFld F.POS_INT_STATUS_IF_FAULT (s.fld F.POS_INT_STATUS_IF_FAULT ||| 2 ^ i)
  s.raise f i (s.scopePosIf i) 0 (s.posCond i f)

/-! ### Position-compare outputs (R346, R347) -/

/-- Where a move from `p` to `q` first crosses entry `e`, as an unwrapped position (R346). -/
def crossAt (p q : Int) (e : Nat) : Option Int :=
  let m : Int := 4294967296
  let one (d : Int) : Int := if d = 0 then m else d
  if p < q then
    let d := one (((e : Int) - p) % m)
    if d ≤ q - p then some (p + d) else none
  else if q < p then
    let d := one ((p - (e : Int)) % m)
    if d ≤ p - q then some (p - d) else none
  else none

/-- The list of an output: its entries (R346). -/
def State.cmpEntry (s : State) (k j : Nat) : Nat := s.parN P.PCMP_LIST k (1 + j)

/-- An output evaluates a move of its source from `p` to `q` (R346, R347). -/
def State.evalCompare (s : State) (k : Nat) (p q : Int) : State :=
  let x := s.posCmp k
  let src := s.parN P.PCMP_SRC k
  if !s.isOn .posCmp k then s
  else
    let back := x.fired.filter (fun e => decide (2147483648 ≤ (q - e.2).natAbs))
    let cyclic := s.par P.PCMP_MODE k == 2
    let armed := if cyclic then x.armed ++ back.map (·.1) else x.armed
    let x := { x with armed := armed, fired := if cyclic then x.fired.filter (fun e => decide ((q - e.2).natAbs < 2147483648)) else x.fired, prev := q }
    let allowed := match s.parN P.PCMP_DIR k with
      | 1 => decide (p < q)
      | 2 => decide (q < p)
      | _ => true
    let hits := if allowed && s.posValid src then armed.filterMap (fun j => (crossAt p q (s.cmpEntry k j)).map (fun e => (j, e))) else []
    match hits with
    | [] => s.setPosCmp k x
    | h :: rest =>
      let last := (rest.foldl (fun (m e : Nat × Int) => if (m.2 - p).natAbs ≤ (e.2 - p).natAbs then e else m) h).1
      let merged := (hits.length - 1) + b2n x.pulseAt.isSome
      let x := { x with armed := armed.filter (fun j => !(hits.map (·.1)).contains j), fired := x.fired ++ hits, pulseAt := some s.now }
      let s := s.setPosCmp k x
      let s := (s.bump F.POS_PCMP_STATUS_FIRED k 0 hits.length).bump F.POS_PCMP_STATUS_MERGED k 0 merged
      let s := (s.setFlag F.POS_PCMP_STATUS_ACTIVE true k).setFld F.POS_PCMP_STATUS_LAST last k
      if !cyclic && x.armed.isEmpty then
        let s := s.setFlag F.POS_PCMP_STATUS_DONE true k
        let s := s.setFld F.POS_INT_STATUS_PCMP_DONE (s.fld F.POS_INT_STATUS_PCMP_DONE ||| 2 ^ k)
        s.setLc .posCmp k { s.lc .posCmp k with state := .off, pending := .none, since := s.now }
      else s

/-- Every output whose source is the interface evaluates a move: from `p`, or for a resolver from where it last looked. -/
def State.evalCompares (s : State) (i : Nat) (p q : Int) : State :=
  [0, 1, 2, 3].foldl (fun s k => if s.parN P.PCMP_SRC k = i then s.evalCompare k (if i < 2 then (s.posCmp k).prev else p) q else s) s

/-- A resolver-sourced output evaluates crossings, every 100 ns (R346). -/
def execPcmpResolverEval (k : Fin 4) (s : State) : Out :=
  let i := s.parN P.PCMP_SRC k.val
  if i < 2 then .next (s.evalCompare k.val (s.posCmp k.val).prev (s.posNow i)) else .next s

/-- A pulse's width ends (R346). -/
def execPcmpPulseEnd (k : Fin 4) (s : State) : Out :=
  match (s.posCmp k.val).pulseAt with
  | some t =>
    if s.elapsedNs t (s.parN P.PCMP_WIDTH k.val) then
      .next ((s.setPosCmp k.val { s.posCmp k.val with pulseAt := none }).setFlag F.POS_PCMP_STATUS_ACTIVE false k.val)
    else .next s
  | none => .next s

/-! ### Edges (R322, R328 to R330) -/

/-- The sign of a raw angle (R323). -/
def State.posSign (s : State) (i : Nat) : Int := if s.par P.POS_DIR i == 1 then -1 else 1

/-- The unwrapped position of a raw angle given as `num / den` revolutions (R323, R336: rounded down). -/
def State.rawPos (s : State) (i : Nat) (num : Int) (den : Nat) : Int := s.posSign i * (num * 4294967296 / den) + s.par P.POS_OFFSET i

/-- A qualifying edge of an interface at a time, to a new position (R328 to R330, R346). -/
def State.posEdge (s : State) (i t : Nat) (pos : Int) (reverse : Bool) : State :=
  let x := s.posIf i
  let hist := if !x.hist.isEmpty && reverse == x.reverse then ((t, pos) :: x.hist).take 64 else [(t, pos)]
  let old := x.pos
  let s := s.setPosIf i { x with hist := hist, pos := pos, reverse := reverse, standstill := false, lastEdge := t }
  s.evalCompares i old pos

/-- The standstill state (R329). -/
def PosIf.still (x : PosIf) : PosIf := { x with hist := [], standstill := true, teeth := [] }

/-- SPD_STANDSTILL has passed since the last edge (R329). -/
def execSpdStandstillExpiry (i : Fin 8) (s : State) : Out :=
  let x := s.posIf i.val
  if s.isOn .posIf i.val && !x.standstill && s.elapsed x.lastEdge (s.parN P.SPD_STANDSTILL i.val * msT) then .next (s.setPosIf i.val x.still)
  else .next s

/-! ### Encoders and tooth wheels (R336 to R340) -/

/-- Counts per revolution of interface 2 or 3. -/
def State.cpr (s : State) (i : Nat) : Nat := (if s.par P.ENC_MODE i == 1 then 1 else 4) * max 1 (s.parN P.ENC_LINES i)

/-- The raw count goes to a new value without movement: the history is shifted with it (R339). -/
def State.recount (s : State) (i : Nat) (count : Int) : State :=
  let x := s.posIf i
  let new := s.rawPos i count (s.cpr i)
  let d := new - x.pos
  let s := s.setPosIf i { x with count := count, pos := new, hist := x.hist.map (fun e => (e.1, e.2 + d)) }
  s.setFld F.POS_ENC_COUNT_COUNT (count % s.cpr i).toNat (i - 2)

/-- A missing or deviating index counts as a mismatch (R338). -/
def State.indexMismatch (s : State) (i : Nat) (missing : Bool) : State :=
  let run := (s.posIf i).run + 1
  let s := s.setPosIf i { s.posIf i with run := run }
  let s := (s.setFld F.POS_ENC_DIAG_CONSEC (min 255 run) (i - 2)).setFlag F.POS_ENC_DIAG_MISSING missing (i - 2)
  if run = s.parN P.INDEX_FAULT_N i then s.posFault i .ENC_INDEX_FAULT else s

/-- INDEX_DEVIATION, at most once per second (R338). -/
def State.indexDeviation (s : State) (i : Nat) : State :=
  let x := s.posIf i
  if (match x.lastDevAt with | some t => s.elapsed t secT | none => true) then
    ((s.setPosIf i { x with lastDevAt := some s.now }).setFlag F.POS_INT_STATUS_INDEX_DEV true).posFault i .INDEX_DEVIATION
  else s

/-- An index or a reference is seen at the present count (R338). -/
def State.referenceSeen (s : State) (i : Nat) (expected : Int) : State :=
  let x := s.posIf i
  let cpr : Int := s.cpr i
  let d := (x.count - expected) % cpr
  let h : Int := cpr / 2
  let dev := if d ≥ cpr - h then d - cpr else d
  let s := s.setPosIf i { x with travel := 0 }
  let noRun (s : State) : State := (s.setPosIf i { s.posIf i with run := 0 }).setFld F.POS_ENC_DIAG_CONSEC 0 (i - 2)
  let s := s.setFldS F.POS_ENC_DIAG_DEV dev (i - 2)
  if !s.flag F.POS_IF_STATUS_ALIGNED i then noRun ((s.recount i (x.count - dev)).setFlag F.POS_IF_STATUS_ALIGNED true i)
  else if dev = 0 then noRun s
  else
    if dev.natAbs ≤ s.parN P.INDEX_TOL i then
      let s := if s.par P.INDEX_REALIGN i == 1 then s.recount i (x.count - dev) else s
      (noRun s).indexDeviation i
    else (s.indexDeviation i).indexMismatch i false

/-- An index pulse on ENCn_Z is first seen at the present count (R338). -/
def execEncIndex (n : Fin 2) (s : State) : Out :=
  let i := n.val + 2
  if !s.isOn .posIf i || s.par P.INDEX_EN i != 1 || s.par P.ENC_MODE i != 0 then .next s
  else
    let rawRev := (s.posIf i).reverse != (s.posSign i == -1)
    let e := s.par P.INDEX_POS i + (if rawRev then s.par P.INDEX_SPAN i - 1 else 0)
    .next (s.referenceSeen i e)

/-- The centre of a Hall set's present sector as a position (R341). -/
def State.hallCentre (s : State) (i : Nat) : Int := s.rawPos i (2 * (s.posIf i).count + 1) (12 * max 1 (s.parN P.HALL_POLES i))

/-- An encoder that is not aligned takes the sector centre of its Hall set (R340). -/
def State.hallCover (s : State) (i : Nat) : State :=
  let h := s.parN P.ENC_ALIGN i + 3
  let x := s.posIf i
  if (h = 4 ∨ h = 5) && s.isOn .posIf i && s.posPlain h && !s.flag F.POS_IF_STATUS_ALIGNED i && !x.hallAligned then
    let raw := s.posSign i * (s.hallCentre h - s.par P.POS_OFFSET i)
    let s := s.setPosIf i { x with hallAligned := true }
    s.recount i (raw * s.cpr i / 4294967296)
  else s

/-- A transition changes A and B together (R336). -/
def execEncIllegalTransition (n : Fin 2) (s : State) : Out :=
  let i := n.val + 2
  if !s.isOn .posIf i then .next s
  else
    let s := s.setPosIf i { (s.posIf i).still with hallAligned := false, travel := 0 }
    let s := (s.setFlag F.POS_IF_STATUS_ALIGNED false i).bump F.POS_ENC_DIAG_QUAD_ERR n.val
    .next ((s.posFault i .ENC_QUAD_ERR).hallCover i)

/-- How a tooth-wheel edge counts, from the intervals that end with it, newest first (R337): the advance, and whether it is the
reference. -/
def toothStep (gap : Nat) (forward : Bool) (iv : List Nat) : Nat × Bool :=
  if !forward then (1, false)
  else if gap = 0 then
    match iv with
    | a :: b :: c :: _ => if 4 * a < 3 * c ∧ 4 * b < 3 * c then (0, true) else (1, false)
    | _ => (1, false)
  else match iv with
    | a :: b :: _ => if (2 * gap + 1) * b < 2 * a then (gap + 1, true) else (1, false)
    | _ => (1, false)

/-- An edge of an encoder: one count, or a tooth (R336 to R338). `back` is the raw direction. -/
def State.encEdge (s : State) (i : Nat) (back : Bool) : State :=
  let x := s.posIf i
  let rev := back != (s.posSign i == -1)
  let wheel := s.par P.ENC_MODE i == 1
  let turned := rev != x.reverse
  let iv := if wheel && !turned && !x.standstill then ((s.now - x.lastEdge) :: x.teeth).take 3 else []
  let (step, ref) := if wheel then toothStep (s.parN P.TW_GAP i) (!back) iv else (1, false)
  let count := if back then x.count - step else x.count + step
  let travel := if wheel && back then x.travel else x.travel + step
  let hist := if step = 0 then x.hist.drop 1 else x.hist
  let s := s.setPosIf i { x with count := count, travel := travel, teeth := if ref then [] else iv, hist := hist }
  let s := s.setFld F.POS_ENC_COUNT_COUNT (count % s.cpr i).toNat (i - 2)
  let s := s.posEdge i s.now (s.rawPos i count (s.cpr i)) rev
  let s := if ref then s.referenceSeen i (s.par P.INDEX_POS i) else s
  let watched := wheel || s.par P.INDEX_EN i == 1
  if watched && s.flag F.POS_IF_STATUS_ALIGNED i && decide (3 * s.cpr i < 2 * (s.posIf i).travel) then
    (s.setPosIf i { s.posIf i with travel := 0 }).indexMismatch i true
  else s

/-- Where a resolver's tracked angle next crosses a multiple of 1/64 of its cycle in the raw direction, as the number of the multiple (R322, R335);
one that it stands on is crossed again when the direction changes. -/
def State.rsvEdge (s : State) (i : Nat) (back : Bool) : Int :=
  let x := s.posIf i
  let den := 64 * max 1 (s.parN P.RSV_POLES i)
  let raw := s.posSign i * (x.pos - s.par P.POS_OFFSET i)
  let at_ (k : Int) : Int := k * 4294967296 / den
  let k := raw * den / 4294967296
  let k := if at_ (k + 1) = raw then k + 1 else k
  let on := at_ k == raw
  let turned := back != (x.reverse != (s.posSign i == -1))
  if on && turned then k else if back then (if on then k - 1 else k) else k + 1

/-- A resolver's virtual edge, or a count or tooth of an encoder (R322). `back` is the raw direction. A resolver's edges lie at multiples of
1/64 of its cycle. -/
def execPosQualifyingEdge (i : Fin 4) (back : Bool) (s : State) : Out :=
  let i := i.val
  if i < 2 then
    if !s.isOn .posIf i then .next s
    else
      let count := s.rsvEdge i back
      let s := s.setPosIf i { s.posIf i with count := count }
      .next (s.posEdge i s.now (s.rawPos i count (64 * max 1 (s.parN P.RSV_POLES i))) (back != (s.posSign i == -1)))
  else if s.isOn .posIf i || s.isStarting .posIf i then .next (s.encEdge i back)
  else .next s

/-! ### Resolvers (R332 to R335) -/

/-- One carrier period of a resolver (R332 to R335): the envelopes in mV, the measured lag in 0.1° of carrier, the tracking error in 0.01° and the
tracked raw angle, in units of 2⁻³² revolution, that the tracking loop of bandwidth RSV_BW gives, compensated for the demodulation delay. -/
def execRsvCarrierPeriod (n : Fin 2) (sin cos lag err : Int) (angle : Nat) (s : State) : Out :=
  let i := n.val
  if !(s.isOn .posIf i || s.isStarting .posIf i) then .next s
  else
    let x := s.posIf i
    let nom := s.parN P.RSV_AMP_NOM i
    let sq := (sin * sin + cos * cos).natAbs
    let below := decide (1000000 * sq < s.parN P.RSV_AMP_LO i ^ 2 * nom ^ 2)
    let above := decide (s.parN P.RSV_AMP_HI i ^ 2 * nom ^ 2 < 1000000 * sq)
    let inWin := !below && !above
    let s := s.setFld F.POS_RSV_DIAG_AMP (min 65535 (Nat.sqrt (1000000 * sq / max 1 (nom ^ 2)))) i
    let s := if inWin then s.setFld F.POS_RSV_DIAG_LAG (Config.rsvLag (s.fld F.POS_RSV_DIAG_LAG i) lag) i else s
    let s := (s.setFld F.POS_RSV_TRACK_LAST (min 65535 err.natAbs) i).setFld F.POS_RSV_TRACK_MAX
      (max (min 65535 err.natAbs) (s.fld F.POS_RSV_TRACK_MAX i)) i
    let lagBad := decide (lag < 0) || decide (s.par P.RSV_LAG_MAX i < lag)
    let ampRun := if inWin then 0 else x.ampRun + 1
    let lagRun := if !inWin then x.lagRun else if lagBad then x.lagRun + 1 else 0
    let trackRun := if s.parN P.RSV_TRACK_ERR i < err.natAbs then x.trackRun + 1 else 0
    let carriers := x.carriers + 1
    let lockRun := if 4 * err.natAbs < s.parN P.RSV_TRACK_ERR i ∧ 8 ≤ x.carriers then x.lockRun + 1 else 0
    let raw := s.rawPos i angle 4294967296
    let pos := x.pos + toSigned 32 (ofSigned 32 (raw - x.pos))
    let s := s.setPosIf i { x with ok := inWin, ampRun := ampRun, lagRun := lagRun, trackRun := trackRun, carriers := carriers,
                                   lockRun := lockRun, ready := x.ready || decide (16 ≤ lockRun), pos := pos }
    let s := if ampRun = s.parN P.RSV_AMP_N i then s.posFault i .RSV_AMPLITUDE else s
    let s := if lagRun = 16 ∧ inWin = true then s.posFault i .RSV_PHASE_LAG else s
    .next (if trackRun = 4 then s.posFault i .RSV_TRACKING else s)

/-- The excitation output has been at its current limit for 1 ms (R332). -/
def execRsvExcLimitTimer (n : Fin 2) (s : State) : Out :=
  if s.isOn .posIf n.val || s.isStarting .posIf n.val then .next (s.posFault n.val .RSV_EXC_FAULT) else .next s

/-! ### Hall sensors (R341) -/

/-- The sector of a Hall state; `none` for 0 and 7. -/
def hallSector (state : Nat) : Option Nat :=
  match state with
  | 1 => some 0 | 3 => some 1 | 2 => some 2 | 6 => some 3 | 4 => some 4 | 5 => some 5 | _ => none

/-- The encoders that this Hall set may align look at it (R340). -/
def State.hallCovers (s : State) : State := (s.hallCover 2).hallCover 3

/-- A filtered Hall state change to a valid state (R341): the first state places the position at its sector's centre, a step to a neighbour
places it at the boundary, any other one raises HALL_SEQUENCE. The sector counter is the count, six to an electrical turn. -/
def execHallTransition (n : Fin 2) (state : Fin 8) (s : State) : Out :=
  let i := n.val + 4
  match hallSector state.val with
  | none => .next s
  | some sec =>
    if !(s.isOn .posIf i || s.isStarting .posIf i) || state.val == s.fld F.POS_HALL_DIAG_STATE n.val then .next s
    else
      let x := s.posIf i
      let s := s.setFld F.POS_HALL_DIAG_STATE state.val n.val
      let den := 6 * max 1 (s.parN P.HALL_POLES i)
      if !x.ready then
        let s := s.setPosIf i { x with ready := true, ok := true, count := sec, seqRun := 2 }
        .next ((s.setPosIf i { s.posIf i with pos := s.hallCentre i }).hallCovers)
      else
        let old := (x.count % 6).toNat
        let fwd := (old + 1) % 6 == sec
        let bwd := (old + 5) % 6 == sec
        if fwd || bwd then
          let count := if fwd then x.count + 1 else x.count - 1
          let boundary := if fwd then x.count + 1 else x.count
          let run := if bwd == x.seqDir then x.seqRun + 1 else 1
          let run := if x.ok then 2 else run
          let s := s.setPosIf i { x with count := count, seqRun := run, seqDir := bwd, ok := x.ok || decide (2 ≤ run) }
          .next ((s.posEdge i s.now (s.rawPos i boundary den) (bwd != (s.posSign i == -1))).hallCovers)
        else if sec = old then .next ((s.setPosIf i { x with ok := decide (2 ≤ x.seqRun) }).hallCovers)
        else
          let s := s.setPosIf i { x with count := x.count - old + sec, ok := false, seqRun := 0 }
          .next ((s.bump F.POS_HALL_DIAG_SEQ_ERR n.val).posFault i .HALL_SEQUENCE)

/-- A Hall state of 0 or 7 has lasted longer than HALL_FILT (R341). -/
def execHallInvalidState (n : Fin 2) (seven : Bool) (s : State) : Out :=
  let i := n.val + 4
  if !(s.isOn .posIf i || s.isStarting .posIf i) then .next s
  else
    let s := s.setPosIf i { s.posIf i with ok := false }
    let s := (s.setFld F.POS_HALL_DIAG_STATE (if seven then 7 else 0) n.val).bump F.POS_HALL_DIAG_INVALID n.val
    .next (s.posFault i .HALL_INVALID)

/-! ### Serial encoders (R342, R343) -/

/-- A bad response (R343). -/
def State.serBad (s : State) (n : Nat) : State :=
  let i := n + 6
  let run := (s.posIf i).badRun + 1
  let s := s.setPosIf i { s.posIf i with badRun := run, ok := false, asked := false }
  let s := (s.bump F.POS_SER_DIAG_BAD n).setFld F.POS_SER_DIAG_CONSEC (min 255 run) n
  let s := s.posFault i .SER_CRC
  if run = s.parN P.SER_FAULT_N i then s.posFault i .SER_LOST else s

/-- The CRC-8 of R342. -/
def crc8 (poly : Nat) (l : List Byte) : Nat :=
  l.foldl (fun c b =>
    (List.range 8).foldl (fun c _ => if 128 ≤ c then Nat.xor (c * 2 % 256) poly else c * 2 % 256) (Nat.xor c b.toNat)) 0

/-- A master serial port sends SER_CMD, every SER_PERIOD (R342). -/
def execSerRequestSend (n : Fin 2) (s : State) : Out :=
  let i := n.val + 6
  let x := s.posIf i
  if (s.isOn .posIf i || s.isStarting .posIf i) && s.par P.SER_ROLE i == 0 && s.elapsed x.sentAt (s.parN P.SER_PERIOD i * usT) then
    .next (s.setPosIf i { x with sentAt := s.now, asked := true })
  else .next s

/-- A response of a serial encoder (R342, R343): its bytes, whether a character had a framing error, and the ticks since the end of the
request's stop bit. -/
def execSerResponse (n : Fin 2) (bytes : List Byte) (framing : Bool) (age : Nat) (s : State) : Out :=
  let i := n.val + 6
  let x := s.posIf i
  let len := s.parN P.SER_RESP_BYTES i
  if !(s.isOn .posIf i || s.isStarting .posIf i) || !(x.asked || s.par P.SER_ROLE i == 1) then .next s
  else if framing || bytes.length ≠ len || crc8 (s.parN P.SER_CRC_POLY i) (bytes.take (len - 1)) ≠ leNat (bytes.drop (len - 1)) then .next (s.serBad n.val)
  else
    let w := leNat bytes
    let lsb := s.parN P.SER_POS_LSB i
    let nb := s.parN P.SER_POS_BITS i
    let raw := bits w (lsb + nb - 1) lsb
    let eb := s.parN P.SER_ERR_BIT i
    let bad := eb ≠ 255 && bits w eb eb == 1
    let t := s.now - age + nsToTicks (s.parN P.SER_SAMPLE_DELAY i)
    let target := s.posSign i * ((raw * 2 ^ (32 - nb) : Nat) : Int) + s.par P.POS_OFFSET i
    let pos := if x.known then x.pos + toSigned 32 (ofSigned 32 (target - x.pos)) else target
    let s := s.setPosIf i { x with asked := false, badRun := 0, ok := !bad, known := true, ready := true, raw := raw, sentAt := if s.par P.SER_ROLE i == 1 then s.now else x.sentAt,
                                   pos := if x.known then x.pos else pos }
    let s := (s.setFld F.POS_SER_DIAG_CONSEC 0 n.val).setFlag F.POS_SER_DIAG_ENC_ERR bad n.val
    let s := s.setFld F.POS_SER_RAW_RAW raw n.val
    let s := if x.known && pos ≠ x.pos then s.posEdge i t pos (decide (pos < x.pos)) else s
    .next (if bad then s.posFault i .SER_ENC_ERROR else s)

/-- A response is incomplete 2 µs after the time its length needs, or as a listener absent for 2 × SER_PERIOD (R343). -/
def execSerResponseTimeout (n : Fin 2) (s : State) : Out :=
  let i := n.val + 6
  let x := s.posIf i
  let need := 800000 * 10 * (1 + s.parN P.SER_RESP_BYTES i) / max 1 (s.parN P.SER_BAUD i) + 2 * usT
  let due := if s.par P.SER_ROLE i == 1 then s.elapsed x.sentAt (2 * s.parN P.SER_PERIOD i * usT) else x.asked && s.elapsed x.sentAt need
  if (s.isOn .posIf i || s.isStarting .posIf i) && due then
    .next ((s.setPosIf i { x with sentAt := if s.par P.SER_ROLE i == 1 then s.now else x.sentAt }).serBad n.val)
  else .next s

/-! ### Start and stop (R324, R325, R329) -/

/-- An interface enters STARTING: its records take effect, its position is forgotten, the standstill state holds (R325, R329). -/
def State.posStart (s : State) (i : Nat) : State :=
  let s := s.takeEffect P.POS_OFFSET 0x084B i
  let s := s.setPosIf i { ready := i = 2 ∨ i = 3, sentAt := s.now, pos := s.par P.POS_OFFSET i }
  let s := (s.setFlag F.POS_IF_STATUS_ALIGNED false i).setFlag F.POS_IF_STATUS_FAULTED false i
  let n := i % 2
  if i < 2 then (s.setReg ⟨.POS_RSV_DIAG, n, 0⟩ 0).setReg ⟨.POS_RSV_TRACK, n, 0⟩ 0
  else if i < 4 then ((s.setReg ⟨.POS_ENC_DIAG, n, 0⟩ 0).setReg ⟨.POS_ENC_COUNT, n, 0⟩ 0)
  else if i < 6 then s.setReg ⟨.POS_HALL_DIAG, n, 0⟩ 0
  else s.setReg ⟨.POS_SER_DIAG, n, 0⟩ 0

/-- An encoder that enters ON looks for its Hall set (R340); so does any encoder when a Hall set enters ON. -/
def State.posOn (s : State) (_i : Nat) : State := s.hallCovers

/-- An interface enters STOPPING: latching and edges stop, the history is cleared (R325). -/
def State.posStop (s : State) (i : Nat) : State := s.setPosIf i { (s.posIf i).still with ready := false, ok := false, asked := false }

/-- A position-compare output enters ON: every entry is armed, from its source's present position (R346). -/
def State.cmpStart (s : State) (k : Nat) : State :=
  let s := s.takeEffect P.PCMP_SRC P.PCMP_LIST k
  let s := s.setPosCmp k { armed := List.range (s.parN P.PCMP_LIST k 0), prev := s.posNow (s.parN P.PCMP_SRC k) }
  s.setReg ⟨.POS_PCMP_STATUS, k, 0⟩ 0

end Sys2Proof.Machine
end

