-- ==== Sys2Proof/Machine/Lifecycle.lean ====
section
/-! DEFINITION. Start and stop sequences of every switchable function and their bounds (R40 to R46), requests and what refuses them. -/

namespace Sys2Proof.Machine

/-! ### Functions, domains and clock gates -/

/-- How many functions a kind has (R418). -/
def FuncKind.count : FuncKind → Nat
  | .slot => 2 | .bridge => 2 | .satellite => 12 | .posIf => 8 | .posCmp => 4 | .dressing => 2 | .injector => 2 | .engine => 8 | .discharge => 1
  | .can => 4 | .rule => 16 | .ring => 64 | .domain => 12

/-- The domain a function lies in (R27); a slot's is that of its bridge's counters. -/
def funcDomain : FuncKind → Nat → Nat
  | .slot, _ => 7 | .bridge, _ => 7 | .posIf, _ => 7 | .posCmp, _ => 7 | .injector, _ => 7
  | .satellite, n => satDomain n
  | .dressing, _ => 5
  | .engine, c => ceDomain c
  | .discharge, _ => 1
  | .can, _ => 9
  | .rule, _ => 0
  | .ring, _ => 6
  | .domain, d => d

/-- Whether the enable in force of a unit, by its index of R470, is set: the power mode selects the set (R480). -/
def State.gateOpen (s : State) (idx : Nat) : Bool :=
  match s.power.mode with
  | .run => bitAt (s.fld F.SYSCTL_CG_RUN_EN (idx / 32)) (idx % 32)
  | .idle => bitAt (s.fld F.SYSCTL_CG_SLEEP_EN (idx / 32)) (idx % 32)
  | .sleep => idx == 14 && s.flag F.SYSCTL_CG_DSLEEP_SN
  | .deepSleep => idx == 14 && s.flag F.SYSCTL_CG_DSLEEP_SN
  | .off => false

/-- The unit whose function clock a function needs. -/
def funcGate : FuncKind → Nat → Option Nat
  | .bridge, b => some (32 + b) | .satellite, n => some (48 + n) | .posIf, i => some (24 + i) | .posCmp, k => some (34 + k) | .dressing, _ => some 44
  | .engine, c => some c | .can, n => some (38 + n) | .rule, _ => some 14 | .ring, _ => some 15
  | _, _ => none

/-- Whether a function's clock runs. -/
def State.funcClocked (s : State) (k : FuncKind) (n : Nat) : Bool :=
  match funcGate k n with
  | some i => s.gateOpen i
  | none => true

/-! ### What enters and leaves with a state -/

/-- A function enters STARTING. -/
def State.startHook (s : State) (k : FuncKind) (n : Nat) : State :=
  match k with
  | .slot => s.slotStarting n
  | .bridge => s.bridgeStart n
  | .satellite => s.satStart n
  | .posIf => s.posStart n
  | .posCmp => s.cmpStart n
  | .engine => match (s.engine n).load with
    | some l => s.engineStarting n l
    | none => s
  | .can => s.canStart n
  | .rule =>
    let s := (s.takeEffect P.SN_RULE P.SN_RULE n).setSn { s.sn with rules := s.sn.rules.setAt {} n {} }
    (s.setFld F.SENTINEL_RULE_FIRES 0 n).setFlag F.SENTINEL_RULE_HOLDING false n
  | .ring => s.ringStart n
  | .domain => s.domainStarting n
  | .dressing => s
  | .injector => s
  | .discharge => s

/-- A function enters ON. -/
def State.onHook (s : State) (k : FuncKind) (n : Nat) : State :=
  match k with
  | .slot => s.slotOn n
  | .posIf => s.posOn n
  | .dressing => s.dressOn n
  | .can => s.canOn n
  | .ring => s.ringOn n
  | .domain => s.domainOn n
  | .bridge => s
  | .satellite => s
  | .posCmp => s
  | .injector => s
  | .engine => s
  | .discharge => s
  | .rule => s

/-- A function enters STOPPING by a request; `abort` where it was STARTING. -/
def State.stopHook (s : State) (k : FuncKind) (n : Nat) (abort : Bool) : State :=
  match k with
  | .slot => s.slotStopping n
  | .bridge => s.bridgeStop n abort
  | .satellite => s.satStop n
  | .posIf => s.posStop n
  | .engine => s.raiseEvent n Ev.stop 0
  | .discharge => s.dchgStopping
  | .can => s.canStopping n
  | .ring => s.ringStopping n
  | .posCmp => s
  | .dressing => s
  | .injector => s
  | .rule => s
  | .domain => s

/-- An engine's load ends without a program. -/
def State.loadEnds (s : State) (c st : Nat) : State :=
  let e := s.engine c
  let ls := e.load.toList ++ e.held.toList
  ls.foldl (fun s l => s.finish l.fromPair l.wid st 0) (s.setEngine c { e with load := none, held := none })

/-- A function reaches OFF. -/
def State.offHook (s : State) (k : FuncKind) (n : Nat) : State :=
  match k with
  | .slot => s.slotOff n
  | .bridge => s.pwmHalt n
  | .satellite => s.satIsOff n
  | .posIf => s.posStop n
  | .injector => s.injOff n
  | .engine => s.setEngine n { s.engine n with wait := .none, stopReturned := false }
  | .discharge => s.dchgOff
  | .can => s.canOff n
  | .rule => s.setSn { s.sn with rules := s.sn.rules.setAt {} n {} }
  | .ring => s.ringOff n
  | .domain => (s.domainDark n).countReset n 1
  | .posCmp => s
  | .dressing => s

/-- A held load or start descriptor whose pending enable is gone completes (R45). -/
def State.dropWaiting (s : State) (k : FuncKind) (n : Nat) : State :=
  match k with
  | .engine => s.dropHeld n
  | .injector => s.dropInj n
  | _ => s

/-- A function goes OFF at once, without a stop sequence (R45): a reset, or the end of an exceeded STOPPING. -/
def State.offAtOnce (s : State) (k : FuncKind) (n : Nat) : State :=
  if s.isOff k n then (s.updLc k n Lc.forceOff).dropWaiting k n
  else
    let s := match k with
      | .engine => s.loadEnds n St.stateRefused
      | .discharge => s.dchgStopping
      | .satellite => (s.satStop n)
      | _ => s
    ((s.updLc k n Lc.forceOff).offHook k n).dropWaiting k n

/-! ### Refusals -/

/-- The slots that have a source as their position source or its check. -/
def State.slotsOfIf (s : State) (i : Nat) : List Nat := [0, 1].filter (fun n => s.slotUsesIf n i)

/-- Whether the position source of a slot allows an enable (R324): ON unless SENSORLESS, with pole pairs a multiple of the sensor's. -/
def State.posSourceOk (s : State) (n : Nat) : Bool :=
  let i := s.parN P.POS_SOURCE n
  let p := s.parN P.POLE_PAIRS n
  s.par P.POS_MODE n == 1 ||
  (s.isOn .posIf i && (if i < 2 then p % max 1 (s.parN P.RSV_POLES i) == 0 else if i = 4 ∨ i = 5 then p % max 1 (s.parN P.HALL_POLES i) == 0 else true))

/-- Whether the engines of a slot are loaded and of one signer (R62, R83, R199). -/
def State.slotEnginesOk (s : State) (n : Nat) : Bool :=
  match s.ownerOf n with
  | none => false
  | some c => s.isOn .engine c &&
    (if n = 0 ∧ s.dual3 = true then (match s.helperOf n with
      | some h => s.isOn .engine h && (s.engine h).signer == (s.engine c).signer
      | none => false) else true)

/-- What an enable of a slot answers: 0 where it reaches the lifecycle (R58, R62, R83, R123, R124, R199, R324, R376, R517). -/
def State.slotEnableStatus (s : State) (n : Nat) : Nat :=
  if n = 1 && s.dual3 then St.stateRefused
  else if !(s.slotRecordsOk n && s.slotEnginesOk n && (s.bridgesOfSlot n).all (fun b => s.isOn .bridge b) && s.torqueEnable n) then St.stateRefused
  else if !s.atlasReady n then St.notReady
  else if !(s.covers n (s.parStored P.I_MAX n) (s.parStored P.MACH_TYPE n) && s.posSourceOk n) then St.stateRefused
  else if s.par P.CMD_SOURCE n == 1 && !s.canCmdOk n then St.stateRefused
  else 0

/-- Whether a bridge enable reaches the lifecycle (R240, R259, R274, R303). -/
def State.bridgeEnableOk (s : State) (b : Nat) : Bool :=
  let g (id idx : Nat) : Int := s.parStored id b idx
  bridgeOk b g && timelineOk b g && (satsOfBridge b).all (fun n => s.isOn .satellite n) &&
  (b == 0 || s.parStored P.SYNC_MODE 1 != 1 || s.isOn .bridge 0) &&
  (s.parStored P.BOOT_EN b == 1 || (satsOfBridge b).all (fun n => s.par P.SUPPLY_MODE n != 2)) &&
  (adcsOfBridge b).all (fun n => s.par P.ADC_MODE n == 0)

/-- What an enable answers: 0 where it reaches the lifecycle. -/
def State.enableStatus (s : State) (k : FuncKind) (n : Nat) : Nat :=
  if !s.pdOn (funcDomain k n) || s.stillFaulted k n then St.stateRefused
  else match k with
    | .slot => s.slotEnableStatus n
    | .bridge => if s.bridgeEnableOk n then 0 else St.stateRefused
    | .satellite => if s.flag F.GDS_STATUS_FENCED n then St.stateRefused else 0
    | .dressing => if s.atlasReady n then 0 else St.notReady
    | _ => 0

/-- Whether a disable is refused (R198, R240, R258, R325, R508). -/
def State.disableRefused (s : State) (k : FuncKind) (n : Nat) : Bool :=
  match k with
  | .bridge => !s.isOff .slot (s.slotOfBridge n) || (n == 0 && s.par P.SYNC_MODE 1 == 1 && !s.isOff .bridge 1)
  | .satellite => !s.isOff .bridge (bridgeOfSat n)
  | .posIf => (s.slotsOfIf n).any (fun m => !s.isOff .slot m) || (List.range 4).any (fun c => s.parN P.PCMP_SRC c == n && !s.isOff .posCmp c)
  | .engine => (s.engine n).task != 0 && !s.isOff .slot (s.engine n).slot
  | .can => s.canDisableRefused n
  | _ => false

/-! ### Requests (R45) -/

/-- An enable that reaches the lifecycle. -/
def State.enableFunc (s : State) (k : FuncKind) (n : Nat) : State :=
  let was := (s.lc k n).state
  let s := s.updLc k n Lc.enable
  if was == .off then s.startHook k n else s

/-- The stop sequence of a function ends: OFF. -/
def State.stopEnds (s : State) (k : FuncKind) (n : Nat) : State :=
  match k with
  | .engine => s.engineOff n
  | _ => (s.updLc k n Lc.stopDone).offHook k n

/-- Kinds whose aborted start reaches OFF at once (R257, R325, R346). -/
def FuncKind.abortsAtOnce : FuncKind → Bool
  | .satellite => true | .posIf => true | .posCmp => true | _ => false

/-- A disable that reaches the lifecycle. -/
def State.disableFunc (s : State) (k : FuncKind) (n : Nat) : State :=
  let was := (s.lc k n).state
  let s := s.updLc k n (Lc.disable k.hasAbort)
  match was with
  | .on => s.stopHook k n false
  | .starting => if !k.hasAbort then s else if k.abortsAtOnce then (s.stopHook k n true).stopEnds k n else s.stopHook k n true
  | .off => s.dropWaiting k n
  | .stopping => s.dropWaiting k n

/-! ### Functions of a domain (R29) -/

/-- The functions of a domain, those that depend on others first. -/
def State.domainFuncs (s : State) (d : Nat) : List Func :=
  let all (k : FuncKind) : List Func := (List.range k.count).map (fun n => ⟨k, n⟩)
  let engines := (all .engine).filter (fun f => ceDomain f.idx == d)
  let ofSlots := engines.flatMap (fun f => let e := s.engine f.idx
    if e.task ≠ 0 ∧ s.isOff .engine f.idx = false then [⟨.slot, e.slot⟩] else [])
  match d with
  | 1 => all .discharge
  | 3 => ofSlots ++ engines
  | 4 => ofSlots ++ engines
  | 5 => all .dressing
  | 6 => all .ring
  | 7 => all .injector ++ all .slot ++ (all .bridge).reverse ++ all .posCmp ++ all .posIf
  | 9 => all .can
  | 10 => (all .satellite).take 6
  | 11 => (all .satellite).drop 6
  | _ => []

/-- A domain being switched off disables its functions; one whose disable is refused for now is asked again later. -/
def State.disableFuncs (s : State) (d : Nat) : State :=
  (s.domainFuncs d).foldl (fun s f => if s.disableRefused f.kind f.idx then s else s.disableFunc f.kind f.idx) s

/-- Whether every domain that requires a domain is OFF and stays so. -/
def State.dependentsOff (s : State) (d : Nat) : Bool := (domainDependents d).all (fun e => s.isOff .domain e && (s.lc .domain e).pending != .enable)

/-- The bound of a function's stop sequence, in ticks (R45 and the rules of each kind). -/
def State.stopBound (s : State) (k : FuncKind) (n : Nat) : Nat :=
  match k with
  | .slot =>
    let x := s.slot n
    if s.isStopping .slot n && !(s.lc .slot n).fault then x.stopBound else x.tRef.natAbs * 800 / max 1 (s.parN P.STOP_SLEW n) + 2 * msT
  | .bridge => 2 * s.period n
  | .satellite => 10 * usT
  | .posIf => 10 * usT
  | .dressing => 50 * msT
  | .injector => msT
  | .engine => 100 * usT
  | .discharge => msT
  | .can => 2 * msT
  | .rule => msT
  | .ring => msT
  | .domain => (s.domainOf n).bound
  | .posCmp => 0

/-- A switch-off request that is carried out (R29, R476, R477): its bound is formed now, and every function of the domain is disabled. -/
def State.domainDisable (s : State) (d : Nat) : State :=
  let bound := ((s.domainFuncs d).map (fun f => if s.isOff f.kind f.idx then 0 else s.stopBound f.kind f.idx)).foldl max 0 + 100 * usT
  let s := s.setDomain d { s.domainOf d with heldOff := false, bound := bound }
  let s := s.disableFunc .domain d
  if s.isStopping .domain d then s.disableFuncs d else s

/-- A function has reached OFF: disables that waited for it are taken (R29, R476), and a mode that waited for every domain is entered. -/
def State.settleDomains (s : State) : State :=
  let s := [11, 10, 9, 8, 7, 5, 4, 3, 2, 1, 6].foldl (fun s d =>
    if (s.domainOf d).heldOff && s.dependentsOff d then s.domainDisable d else s) s
  let s := [11, 10, 9, 8, 7, 5, 4, 3, 2, 1, 6].foldl (fun s d => if s.isStopping .domain d then s.disableFuncs d else s) s
  s.parkEntry

/-- Domains whose request on waited for the domains they require enter STARTING (R28, R476). -/
def State.releaseOn (s : State) : State :=
  [1, 7, 2, 3, 4, 5, 8, 9, 10, 11].foldl (fun s d =>
    if (s.domainOf d).heldOn && (domainRequires d).all s.pdOn then (s.setDomain d { s.domainOf d with heldOn := false }).enableFunc .domain d else s) s

/-! ### The end of a start sequence -/

/-- Whether a start sequence may end: what each kind waits for. A satellite ends its own by RESUME, an injector by its conditions. -/
def State.startReady (s : State) (k : FuncKind) (n : Nat) : Bool :=
  s.funcClocked k n &&
  match k with
  | .slot => match (s.slot n).fly with
    | .synced t => s.elapsed t msT
    | _ => false
  | .bridge => s.bridgeStarted n
  | .satellite => false
  | .posIf => (s.posIf n).ready
  | .dressing => s.atlasReady n
  | .injector => false
  | .can => s.flag F.CAN_STATUS_INTEGRATING n && !s.flag F.CAN_STATUS_SUSPENDED n && s.elapsed (s.can n).integSince (11 * s.canBit n)
  | .domain => (domainRequires n).all s.pdOn
  | .posCmp => true
  | .engine => true
  | .discharge => true
  | .rule => true
  | .ring => true

/-- The start sequence ends: ON. Domains that waited for this one start, unless it is to be switched off again. -/
def State.startEnds (s : State) (k : FuncKind) (n : Nat) : State :=
  match k with
  | .engine => s.engineLoaded n
  | _ =>
    let s := (s.updLc k n Lc.startDone).onHook k n
    if k == .domain && (s.lc k n).pending != .disable then s.releaseOn else s

/-- The request that a function has held through its sequence is taken: an enable of one that has reached OFF, a disable of one that has reached ON
(R45). An engine's is its held load, an injector's its held descriptor. -/
def State.takePending (s : State) (k : FuncKind) (n : Nat) : State :=
  let l := s.lc k n
  if l.state == .off && l.pending == .enable then
    let e := s.engine n
    (match k with
      | .engine => s.setEngine n { e with load := e.held, held := none }
      | .injector => s.injTake n
      | _ => s).enableFunc k n
  else if l.state == .on && l.pending == .disable then (if k == .domain then s.domainDisable n else s.disableFunc k n)
  else s

/-- A cycle of CLK_PER begins (R44): held requests of functions that reached ON or OFF in the cycle before are taken. -/
def State.nextCycle (s : State) : State := s.lcs.foldl (fun s e => s.takePending e.1.kind e.1.idx) s

/-- A tick of CLK_PWM, and at every eighth a cycle of CLK_PER (R44, R468). -/
def State.tick (s : State) : State :=
  let s := s.clockTick
  if s.now % 8 = 0 then s.nextCycle else s

/-- A function completes its start sequence. -/
def execStartSequenceDone (k : FuncKind) (n : Fin 64) (s : State) : Out :=
  .next (if decide (n.val < k.count) && s.isStarting k n.val && s.startReady k n.val then s.startEnds k n.val else s)

/-! ### The end of a stop sequence -/

/-- Whether a stop sequence may end. -/
def State.stopReady (s : State) (k : FuncKind) (n : Nat) : Bool :=
  let f := (s.lc k n).fault
  match k with
  | .slot => f || (s.slot n).fly != .idle
  | .bridge => f || !(s.pwm n).running
  | .satellite => f || s.satStopped n
  | .injector => (s.slot n).inj.closed || !s.isOn .slot n || !(s.slot n).inj.replies.isEmpty
  | .engine => f || (s.engine n).faulted || (match (s.engine n).wait with | .event _ _ => bitAt (s.engine n).evPend Ev.stop | _ => false)
  | .can => s.canStopped n
  | .ring => (s.ring n).work.all (fun w => !w.started || w.done.isSome) && (f || (s.ring n).bufs.isEmpty)
  | .domain => (s.domainFuncs n).all (fun g => s.isOff g.kind g.idx) && s.dependentsOff n
  | .posIf => true
  | .posCmp => true
  | .dressing => true
  | .discharge => true
  | .rule => true

/-- A domain's clamps do not read back as R478 has them: it stays clamped and in reset (R477). -/
def State.clampsBad (s : State) (d : Nat) : State :=
  (s.setFlag F.SYSCTL_INT_STATUS_DOMAIN_FAULT true).raise .ISOLATION_FAULT d scopeModule

/-- A function completes its stop sequence; `clampsOk` is the read-back of the clamps at the end of a domain's (R477). -/
def execStopSequenceDone (k : FuncKind) (n : Fin 64) (clampsOk : Bool) (s : State) : Out :=
  let n := n.val
  if !(decide (n < k.count) && s.isStopping k n && s.stopReady k n) then .next s
  else match k with
    | .domain =>
      let s := ((s.updLc .domain n Lc.stopDone).offHook .domain n).setFlag F.SYSCTL_INT_STATUS_DOMAIN_DONE true
      .next (if clampsOk then s else s.clampsBad n).settleDomains
    | .dressing => .next ((s.dressStop n).stopEnds .dressing n).settleDomains
    | .ring => .next ((s.ringDrain n).stopEnds .ring n).settleDomains
    | _ => .next (s.stopEnds k n).settleDomains

/-! ### Bounds (R45) -/

/-- The bound of a start sequence, in ticks; none for a position-compare output. -/
def State.startBound (s : State) (k : FuncKind) (n : Nat) : Option Nat :=
  match k with
  | .slot => some (10 * msT)
  | .bridge => some (5 * msT)
  | .satellite => some (2 * msT)
  | .posIf => some (if n < 2 then 20 * msT else if n < 6 then msT else 10 * msT)
  | .posCmp => none
  | .dressing => some (10 * msT)
  | .injector => some ((s.slot n).inj.waitLimit * msT)
  | .engine => some (5 * msT)
  | .discharge => some (10 * msT)
  | .can => some (100 * msT)
  | .rule => some msT
  | .ring => some (20 * usT)
  | .domain => some (if n = 5 then msT else 200 * usT)

/-- The scope of a function's timeout fault (R370). -/
def State.funcScope (s : State) (k : FuncKind) (n : Nat) : Scope :=
  match k with
  | .slot => s.scopeSlot n
  | .bridge => s.scopeBridge n
  | .satellite => s.scopeBridge (bridgeOfSat n)
  | .posIf => s.scopePosIf n
  | .dressing => s.scopeSlot n
  | .injector => s.scopeSlot n
  | .engine => s.scopeEngine n
  | .discharge => scopeModule
  | .can => scopeModule
  | .rule => scopeModule
  | .ring => scopeModule
  | .domain => scopeModule
  | .posCmp => scopeModule

/-- Raise a function's timeout fault: CE_STOP_TIMEOUT for an engine's stop, LOCK_FAIL for a bridge that waits for SYNC_IN. -/
def State.raiseTimeout (s : State) (k : FuncKind) (n : Nat) (stop : Bool) : State :=
  let f : Option FaultName := match k with
    | .engine => some (if stop then .CE_STOP_TIMEOUT else .CE_START_TIMEOUT)
    | .bridge => some (if !stop && s.par P.SYNC_MODE n == 2 then .LOCK_FAIL else .BRIDGE_TIMEOUT)
    | k => k.timeout
  let s := match k with
    | .domain => s.setFlag F.SYSCTL_INT_STATUS_DOMAIN_FAULT true
    | _ => s
  match f with
  | some f => s.raise f n (s.funcScope k n)
  | none => s

/-- STARTING exceeds its bound (R45): the timeout fault, and STOPPING through the fault path. -/
def execStartingBoundExpiry (k : FuncKind) (n : Fin 64) (s : State) : Out :=
  let n := n.val
  match s.startBound k n with
  | none => .next s
  | some b =>
    if !(decide (n < k.count) && s.isStarting k n && s.elapsed (s.lc k n).since b) then .next s
    else
      let s := s.raiseTimeout k n false
      match k with
      | .ring => .next ((s.setFlag F.DERRICK_INT_STATUS_RING_FAULT true).updLc .ring n Lc.faultStop)
      | .engine => .next ((s.loadEnds n St.stateRefused).updLc .engine n Lc.faultStop)
      | .satellite => .next ((s.updLc .satellite n Lc.faultStop).satStop n)
      | .can => .next ((s.updLc .can n Lc.faultStop).canStopping n)
      | k => .next (s.updLc k n Lc.faultStop)

/-- R22 before a function goes OFF at once: the bridges that an engine writes, or a satellite belongs to. -/
def State.guardFunc (s : State) (k : FuncKind) (n : Nat) : State :=
  match k with
  | .engine => (s.engine n).writes.foldl (fun s b => s.guardBridge b none) s
  | .satellite => s.guardBridge (bridgeOfSat n) none
  | _ => s

/-- STOPPING exceeds its bound (R45): the timeout fault, the safe state of R22, and OFF at once. -/
def execStoppingBoundExpiry (k : FuncKind) (n : Fin 64) (s : State) : Out :=
  let n := n.val
  if !(decide (n < k.count) && s.isStopping k n && k != .posCmp && s.elapsed (s.lc k n).since (s.stopBound k n)) then .next s
  else
    let s := (s.raiseTimeout k n true).guardFunc k n
    match k with
    | .ring => .next (((s.setFld F.DERRICK_RP_ERR_CAUSE 8 n).setFlag F.DERRICK_INT_STATUS_RING_FAULT true).ringDrain n |>.offAtOnce .ring n).settleDomains
    | k => .next (s.offAtOnce k n).settleDomains

end Sys2Proof.Machine
end

