-- ==== Sys2Proof/Machine/Resets.lean ====
section
/-! DEFINITION. Unit, cluster and domain resets (R20 to R26, R30, R35), domains switched on and off by request and lost unasked (R28, R476 to
R479). -/

namespace Sys2Proof.Machine

/-! ### Registers and bookkeeping of a unit -/

/-- The registers of a unit (R20). -/
def ResetUnit.owns (u : ResetUnit) (k : RKey) : Bool :=
  let blk := k.reg.geom.blk
  match u with
  | .engine c => blk == .CE && k.i == c.val
  | .satellite n => blk == .GDS && k.i == n.val
  | .adc n => (k.reg == .ADC_SW_START || k.reg == .ADC_RESULT || k.reg == .ADC_OFFSET || k.reg == .ADC_STATS) && k.i == n.val
  | .can n => blk == .CAN && k.i == n.val && k.reg != .CAN_AQ_STATUS && k.reg != .CAN_AQ_STATS && k.reg != .CAN_AQ_STATS2
  | .eth => blk == .ETH
  | .pcie => blk == .PCIE
  | .hk n => (k.reg == .HKEEP_CH && k.i / 12 == n.val)
  | .posIf i =>
    ((k.reg == .POS_IF_STATUS || k.reg == .POS_IF_POS || k.reg == .POS_IF_SPEED || k.reg == .POS_IF_INTERVAL) && k.i == i.val) ||
    (k.i == i.val % 2 && (match i.val / 2 with
      | 0 => k.reg == .POS_RSV_DIAG || k.reg == .POS_RSV_TRACK
      | 1 => k.reg == .POS_ENC_DIAG || k.reg == .POS_ENC_COUNT
      | 2 => k.reg == .POS_HALL_DIAG
      | _ => k.reg == .POS_SER_DIAG || k.reg == .POS_SER_RAW))
  | .bridge b => blk == .PWM && k.i == b.val
  | .tpo t => (k.reg == .TIME_TPO_START_LO || k.reg == .TIME_TPO_START_HI || k.reg == .TIME_TPO_PERIOD || k.reg == .TIME_TPO_CTRL) && k.i == t.val
  | .ring n => k.i == n.val && (match k.reg with
    | .DERRICK_RP_BIND | .DERRICK_RP_BASE_LO | .DERRICK_RP_BASE_HI | .DERRICK_RP_CFG | .DERRICK_RP_CTRL | .DERRICK_RP_STATUS | .DERRICK_RP_STATS
    | .DERRICK_RP_ERR | .DERRICK_DB_SQ | .DERRICK_DB_CQ => true
    | _ => false)
  | .sentinel => blk == .SENTINEL
  | .app _ _ => false
  | .pair _ => false

/-- The fault class and unit number by which a unit's faults are known (R25). -/
def ResetUnit.faultUnit : ResetUnit → Nat × Nat
  | .engine c => (3, c.val) | .app k _ => (0xA, k.val) | .pair p => (9, p.val) | .satellite n => (6, n.val) | .adc n => (7, n.val) | .can n => (0xC, n.val)
  | .eth => (0xD, 255) | .pcie => (0xA, 1) | .hk n => (0xF, n.val) | .posIf i => (8, i.val) | .bridge b => (5, b.val) | .tpo k => (0xD, k.val)
  | .ring n => (0xA, n.val) | .sentinel => (0xE, 255)

/-- The time of a unit reset, for the escalation of R25. -/
def State.noteUnitReset (s : State) (u : ResetUnit) : State :=
  let p := u.faultUnit
  { s with faults := { s.faults with unitResets := (s.faults.unitResets.filter (fun r => !s.elapsed r.2.2 (10 * msT))) ++ [(p.1, p.2, s.now)] } }

/-! ### What a unit forgets -/

/-- The bank stops a satellite's lanes: the satellite, if it was STARTING or ON, will declare link loss and apply its last hint (R283, R287). -/
def State.laneStops (s : State) (n : Nat) : State :=
  let x := s.sat n
  let live := !s.isOff .satellite n
  let s := (s.setSat n { x with carriers := false, startStep := 0, report := false, listening := live && x.listening }).updLc .satellite n Lc.forceOff
  (s.dsInvalidate (2 * n)).dsInvalidate (2 * n + 1)

/-- A unit's registers and state after its reset; its local memories stay (R20). Its functions are OFF. A satellite that is fenced stays so (R35). -/
def State.unitClear (s : State) (u : ResetUnit) : State :=
  let fenced := match u with
    | .satellite n => s.flag F.GDS_STATUS_FENCED n.val
    | _ => false
  let s := match u with
    | .engine c => s.offAtOnce .engine c.val
    | .satellite n => s.laneStops n.val
    | .can n => s.offAtOnce .can n.val
    | .posIf i => s.offAtOnce .posIf i.val
    | .bridge b => s.offAtOnce .bridge b.val
    | .ring n => (s.ringDrain n.val).offAtOnce .ring n.val
    | .sentinel => (List.range 16).foldl (fun s r => s.offAtOnce .rule r) s
    | .eth => s.ethStop
    | .pcie => s.linkDown
    | .app _ l => if l then s.loseHost 0 else s
    | .tpo k => s.tpoOff k.val
    | _ => s
  let s := s.resetRegs u.owns
  match u with
  | .engine c =>
    let e := s.engine c.val
    e.writes.foldl State.genReset (s.setEngine c.val { prog := e.prog, mem := e.mem })
  | .satellite n => s.setFlag F.GDS_STATUS_FENCED fenced n.val
  | .adc n => s.setAdc n.val {}
  | .can n => s.setCan n.val {}
  | .posIf i => s.setPosIf i.val {}
  | .bridge b => s.setPwm b.val {}
  | .ring n => s.setRing n.val {}
  | .tpo k => s.setTpo k.val {}
  | .eth => if s.pdOn 9 then s.ethStart else s
  | .sentinel => s.setSn { s.sn with rules := [] }
  | .app k _ => { s with island := { s.island with halted := s.island.halted.filter (fun m => m != 8 + k.val) } }
  | .pair p => s.pairReset p.val 0
  | _ => s

/-- The bridges that R22 puts into their safe state before a unit is reset: those an engine writes, or a satellite's, while they have satellites
enabled; every ON bridge for a safety pair (R360). -/
def State.unitGuards (s : State) (u : ResetUnit) : List Nat :=
  let armed (b : Nat) : Bool := (satsOfBridge b).any (fun n => !s.isOff .satellite n)
  match u with
  | .engine c => (s.engine c.val).writes.filter armed
  | .satellite n => [bridgeOfSat n.val]
  | .bridge b => [b.val].filter armed
  | .pair _ => [0, 1]
  | _ => []

/-- A unit reset: the safe state of R22, then the reset. -/
def State.unitReset (s : State) (u : ResetUnit) : State :=
  ((s.unitGuards u).foldl (fun s b => s.guardBridge b none) s).unitClear u

/-- The domain of a unit. -/
def ResetUnit.domain : ResetUnit → Nat
  | .engine c => ceDomain c.val | .app _ _ => 2 | .pair _ => 1 | .satellite n => satDomain n.val | .adc _ => 8 | .can _ => 9 | .eth => 9 | .pcie => 9 | .hk _ => 8
  | .posIf _ => 7 | .bridge _ => 7 | .tpo _ => 9 | .ring _ => 6 | .sentinel => 0

/-- A unit reset (R20 to R23). -/
def execUnitReset (u : ResetUnit) (s : State) : Out :=
  if !s.pdOn u.domain then .next s else .next ((s.unitReset u).noteUnitReset u).settleDomains

/-! ### Clusters (R24 to R26) -/

/-- The units of a cluster. -/
def Cluster.units : Cluster → List ResetUnit
  | .ceA => [.engine 0, .engine 1, .engine 2, .engine 3]
  | .ceB => [.engine 4, .engine 5, .engine 6, .engine 7]
  | .app => [.app 0 true, .app 1 false, .app 2 false, .app 3 false]
  | .safety => [.pair 0, .pair 1]
  | .bankA => [.satellite 0, .satellite 1, .satellite 2, .satellite 3, .satellite 4, .satellite 5]
  | .bankB => [.satellite 6, .satellite 7, .satellite 8, .satellite 9, .satellite 10, .satellite 11]
  | .adc => [.adc 0, .adc 1, .adc 2, .adc 3, .adc 4, .adc 5]
  | .comms => [.can 0, .can 1, .can 2, .can 3, .eth, .pcie]

/-- The region of a cluster, and whether its units are bus masters. -/
def Cluster.domain : Cluster → Nat
  | .ceA => 3 | .ceB => 4 | .app => 2 | .safety => 1 | .bankA => 10 | .bankB => 11 | .adc => 8 | .comms => 9
def Cluster.onBus : Cluster → Bool
  | .ceA => true | .ceB => true | .app => true | .safety => true | .comms => true | .bankA => false | .bankB => false | .adc => false

/-- The arbiters of a cluster's requesters enter FIXED mode for 1 ms (R569): its own, and those of the memories where its units are masters. -/
def State.arbitersRecover (s : State) (l : List Nat) : State :=
  { s with memc := { s.memc with recover := l.foldl (fun t a => t.setAt none a (some s.now)) s.memc.recover } }

def Cluster.arbiters (c : Cluster) : List Nat := (if c.onBus then [0, 1, 2, 3, 4] else []) ++ [5 + c.ctorIdx]

/-- A cluster reset resets every unit of the cluster and its shared resource, whose conflict counters restart (R25, R26). -/
def State.clusterReset (s : State) (c : Cluster) : State :=
  let s := (c.units.flatMap s.unitGuards).foldl (fun s b => s.guardBridge b none) s
  let s := c.units.foldl State.unitClear s
  let a := 5 + c.ctorIdx
  let s : State := { s with memc := { s.memc with conf := s.memc.conf.filter (fun e => e.1 / 32 != a) } }
  let gone := c.units.map ResetUnit.faultUnit
  let s : State := { s with faults := { s.faults with escalate := s.faults.escalate.filter (fun p => !gone.contains p) } }
  s.arbitersRecover c.arbiters

/-- An internal error of a cluster's fabric or atlas-window port is reported for each of its engines; an escalation is not one (R203). -/
def State.portFault (s : State) (c : Cluster) : State :=
  let engines := if c = .ceA then [0, 1, 2, 3] else if c = .ceB then [4, 5, 6, 7] else []
  let gone := c.units.map ResetUnit.faultUnit
  if s.faults.escalate.any (fun p => gone.contains p) then s else engines.foldl (fun s k => s.engineNote k .CE_PORT_FAULT) s

/-- A cluster reset (R25): for a fault in the shared resource, or the escalation of a unit's. -/
def execClusterReset (c : Cluster) (s : State) : Out :=
  if !s.pdOn c.domain then .next s else .next ((s.portFault c).clusterReset c).settleDomains

/-! ### Domains -/

/-- The clusters of a domain. -/
def clustersOf (d : Nat) : List Cluster := [Cluster.ceA, .ceB, .app, .safety, .bankA, .bankB, .adc, .comms].filter (fun c => c.domain == d)

/-- The functions that lie in a domain itself go OFF at once; satellites lose their lanes. -/
def State.domainFuncsOff (s : State) (d : Nat) : State :=
  ((s.domainFuncs d).filter (fun f => f.kind != .slot || d == 7)).foldl (fun s f =>
    match f.kind with
    | .satellite => s.laneStops f.idx
    | k => s.offAtOnce k f.idx) s

/-- The arbiters that a domain's masters and clusters request at. -/
def domainArbiters (d : Nat) : List Nat :=
  (if [1, 2, 3, 4, 5, 6, 9].contains d then [0, 1, 2, 3, 4] else []) ++ (clustersOf d).map (fun c => 5 + c.ctorIdx)

/-- The bridges made safe before a domain reset: all for PD1 (R360) and PD7, those its engines write, its bank's (R22, R287). -/
def State.domainGuards (s : State) (d : Nat) : State :=
  match d with
  | 1 => s.guardAll none
  | 7 => s.guardAll none
  | 3 => ([0, 1, 2, 3].flatMap (fun c => s.unitGuards (.engine (Fin.ofNat 8 c)))).foldl (fun s b => s.guardBridge b none) s
  | 4 => ([4, 5, 6, 7].flatMap (fun c => s.unitGuards (.engine (Fin.ofNat 8 c)))).foldl (fun s b => s.guardBridge b none) s
  | 10 => s.guardBridge 0 none
  | 11 => s.guardBridge 1 none
  | _ => s

/-- A domain reset (R30): one of PD0 or PD6 is carried out as a package reset of kind ESCALATION, with the fault and the domain in
SYSCTL.RESET_INFO (R485). The domain stays ON; `cause` is 0 escalation, 1 supply, 2 clock. -/
def execDomainReset (d : Fin 12) (cause : Fin 3) (fault : Fin 65536) (s : State) : Out :=
  let d := d.val
  if !s.pdOn d then .next s
  else if d = 0 ∨ d = 6 then .next (s.triggerReset 8 (fault.val * 65536 + d))
  else
    let s := ((s.domainGuards d).domainFuncsOff d).domainDark d
    let s := (s.countReset d (2 + cause.val)).arbitersRecover (domainArbiters d)
    .next (s.domainOn d).settleDomains

/-! ### Requests (R28, R476) -/

/-- One request on: the domains it requires first; it waits for them. -/
def State.domainEnable (s : State) (d : Nat) : State :=
  let x := s.domainOf d
  let s := s.setDomain d { x with heldOff := false }
  if s.stillFaulted .domain d then s
  else if s.isOff .domain d then
    if (domainRequires d).all s.pdOn then s.enableFunc .domain d else s.setDomain d { s.domainOf d with heldOn := true }
  else s.enableFunc .domain d

/-- A request on with what R28 adds to it, in the order PD6, PD1, PD7. -/
def State.domainRequest (s : State) (d : Nat) : State :=
  (([6, 1, 7].filter (fun r => (domainRequires d).contains r && !s.pdOn r)) ++ [d]).foldl State.domainEnable s

/-- The domains that a mask names, ascending. -/
def domainsIn (mask : Nat) : List Nat := ((List.range 12).drop 1).filter (bitAt mask)

/-- SYSCTL.PD_ON (R476), from masters 8 to 13. -/
def execPdOn (m : Fin 21) (mask : Nat) (s : State) : Out :=
  if !(decide (8 ≤ m.val) && decide (m.val ≤ 13)) then .next s
  else .next (s.onWrite m.val .SYSCTL_PD_ON 0 fun s => (domainsIn mask).foldl State.domainRequest s)

/-- Whether a domain is switched off or about to be. -/
def State.goingOff (s : State) (d : Nat) : Bool :=
  ((s.isOff .domain d || s.isStopping .domain d) && (s.lc .domain d).pending != .enable) || (s.domainOf d).heldOff || (s.lc .domain d).pending == .disable

/-- Whether a request off is refused: a domain that requires it stays on (R28), a slot not OFF for PD5 (R132), a bridge not OFF for PD8 (R318) and for a
bank (R258). -/
def State.offRefused (s : State) (d : Nat) : Bool :=
  !(domainDependents d).all s.goingOff ||
  (match d with
   | 5 => [0, 1].any (fun n => !s.isOff .slot n)
   | 8 => [0, 1].any (fun b => !s.isOff .bridge b)
   | 10 => !s.isOff .bridge 0
   | 11 => !s.isOff .bridge 1
   | _ => false)

/-- One request off: carried out at once, or held until the domains that require it are OFF. -/
def State.domainOffRequest (s : State) (d : Nat) : State :=
  if s.offRefused d then s
  else
    let s := s.marchOff d
    let s := s.setDomain d { s.domainOf d with heldOn := false }
    if s.dependentsOff d then s.domainDisable d
    else if s.isOff .domain d then s.updLc .domain d (Lc.disable false)
    else s.setDomain d { s.domainOf d with heldOff := true }

/-- SYSCTL.PD_OFF (R476), from masters 8 to 13: in descending order. -/
def execPdOff (m : Fin 21) (mask : Nat) (s : State) : Out :=
  if !(decide (8 ≤ m.val) && decide (m.val ≤ 13)) then .next s
  else .next (s.onWrite m.val .SYSCTL_PD_OFF 0 fun s => ((domainsIn mask).reverse.foldl State.domainOffRequest s).settleDomains)

/-! ### A domain is lost (R479) -/

/-- A domain and its functions go OFF at once. -/
def State.domainGone (s : State) (d cause : Nat) : State :=
  if s.isOff .domain d then s
  else
    let s := (s.domainFuncsOff d).updLc .domain d Lc.forceOff
    ((s.domainDark d).countReset d cause).arbitersRecover (domainArbiters d)

/-- The domains that require a lost one, in the order of R479. -/
def lostOrder (d : Nat) : List Nat := [11, 10, 7, 9, 8, 5, 4, 3, 2, 1].filter (fun e => (domainRequires e).contains d)

/-- A domain's rail falls below 0.72 V (or its clock stops: `clock`) while it is ON. PD6 goes with a package reset (R30). -/
def execDomainLost (d : Fin 12) (clock : Bool) (s : State) : Out :=
  let d := d.val
  if d = 0 || !s.isOn .domain d then .next s
  else
    let s := if d ≠ 2 ∧ d ≠ 9 then s.guardAll (some d) else s
    let s := (s.setFlag F.SYSCTL_INT_STATUS_DOMAIN_FAULT true).raise .DOMAIN_LOST d scopeModule 0 (if d = 2 ∨ d = 9 then some 1 else none)
    if d = 6 then .next (s.triggerReset 8 (FaultName.DOMAIN_LOST.code * 65536 + 6))
    else
      let s := (lostOrder d).foldl (fun s e => s.domainGone e (if clock then 4 else 3)) s
      let s := s.domainGone d (if clock then 4 else 3)
      .next (s.setDomain d { s.domainOf d with lost := true }).settleDomains

end Sys2Proof.Machine
end

