-- ==== Sys2Proof/Machine/Clock.lean ====
section
/-! DEFINITION. Rails, package resets, clock gates, the PLL and its reference, power modes and the watchdog (R465 to R490). -/

namespace Sys2Proof.Machine

/-! ### Package resets (R37, R484, R485) -/

/-- Registers that a package reset keeps (R37): the sentinel's, the recorded causes, and what the supply monitors show. -/
def keptReg (k : RKey) : Bool :=
  k.reg.geom.blk == .SENTINEL || k.reg == .SYSCTL_RESET_CAUSE || k.reg == .SYSCTL_RESET_INFO || k.reg == .SYSCTL_PD_STATUS || k.reg == .SYSCTL_SUPPLY_STATUS

/-- What MRAM and the fuses hold, which every reset keeps (R151, R153): parameter records but for DEBUG_UNLOCK (R462), logs, latch record, boot state, token, atlas data. -/
def State.nonvolatile (s fresh : State) : State :=
  let p := s.prot
  { fresh with
    pending := s.pending, now := s.now, lpo := s.lpo, fresh := s.fresh, stored := s.stored.filter (fun e => e.1.id != P.DEBUG_UNLOCK), mram := s.mram, hostMem := s.hostMem, atlasNv := s.atlasNv
    faults := { scree := s.faults.scree, seq := s.faults.seq, latchRecord := s.faults.latchRecord }
    prot := { lifecycle := p.lifecycle, rollback := p.rollback, active := p.active, pendingSlot := p.pendingSlot, tries := p.tries,
              audit := { p.audit with exported := none }, token := p.token, tokenSeq := p.tokenSeq } }

/-- An image being written when the reset comes leaves its slot empty (R460). -/
def State.bulkCut (s : State) : State :=
  match s.bulk with
  | some b => if b.kind == .fwUpdate then s.fwErase b.target else s
  | none => s

/-- The satellites at a package reset: their lanes stop, and those that were STARTING or ON will apply their last hint (R484). -/
def State.allLanesStop (s : State) : State := (List.range 12).foldl State.laneStops s

/-- Banks of system SRAM that a WAKE reset finds retained keep their bytes; every other SRAM of PD1 to PD6 is filled with zeros by the warm start
(R575). The sentinel retention SRAM is kept. -/
def keptByte (retained : Nat) (a : Nat) : Bool :=
  memArea a == some .retention || (memArea a == some .sram && bitAt retained ((a - 0x10000000) / 0x80000))

/-- Reset asserted in PD1 to PD11 and PD0 logic reset (R484 steps 4 and 5): everything but what R37 keeps returns to its reset state. The cause is
recorded (R485). -/
def State.packageReset (s : State) (cause : Nat) : State :=
  let multi := s.rst.multi
  let info := s.rst.info
  let resume := s.tokenValid 0 || s.tokenValid 1
  let s := s.bulkCut.allLanesStop
  let retained := if cause = 9 then s.memc.retained else 0
  let count := min 255 (s.fld F.SYSCTL_RESET_CAUSE_PKG_COUNT + 1)
  let prev := s.fld F.SYSCTL_RESET_CAUSE_CAUSE
  let i := s.island
  let n := s.nonvolatile State.reset
  let n : State := { n with
    dev := s.dev
    regs := s.regs.filter (fun e => keptReg e.1)
    params := s.params.filter (fun e => decide (0x0E00 ≤ e.1.id) && decide (e.1.id < 0x0F00))
    lcs := s.lcs.filter (fun e => e.1.kind == .rule)
    mem := s.mem.filter (fun e => keptByte retained e.1)
    sn := s.sn, sats := s.sats, power := { wakeOut := true }
    memc := { poison := s.memc.poison.filter (keptByte retained), retained := retained }
    island := { sto := i.sto, dchg := { out := i.dchg.out } }
    prot := { n.prot with resume := resume }
    rst := { started := false, coldStart := false, testHeld := s.rst.testHeld } }
  let n := (List.range 12).foldl (fun n d => ((n.setFlag F.SYSCTL_PD_STATUS_CLAMPED false d).setFlag F.SYSCTL_PD_STATUS_IN_RESET false d).countReset d 5) n
  let n := ((n.setFld F.SYSCTL_RESET_CAUSE_CAUSE cause).setFld F.SYSCTL_RESET_CAUSE_PREV_CAUSE prev).setFlag F.SYSCTL_RESET_CAUSE_MULTI multi
  let n := n.setFld F.SYSCTL_RESET_CAUSE_PKG_COUNT count
  if cause = 5 ∨ cause = 8 then (n.setFld F.SYSCTL_RESET_INFO_FAULT (info / 65536)).setFld F.SYSCTL_RESET_INFO_DOMAIN (if cause = 8 then info % 16 else 0) else n

/-- 2 µs after the trigger, at once for a wake, and not before a latch-record write in progress has ended (R484, R486), the reset is asserted. -/
def execResetAssert (s : State) : Out :=
  match s.rst.guard with
  | none => .next s
  | some c => .next (if (c = 9 || s.elapsedLpo s.rst.guardSince (2 * usT)) && !s.faults.latchWriting then s.packageReset c else s)

/-- A latch-record write ends (R486). -/
def execLatchRecordWriteDone (s : State) : Out :=
  if s.faults.latchWriting then .next { s with faults := { s.faults with latchRecord := s.faults.latchPending, latchWriting := false } } else .next s

/-- A power-on reset keeps the contents of MRAM alone (R37). The satellites, on supplies of their own, see their lanes stop; the STO inputs keep their
levels, and their start-up test begins (R388). -/
def State.powerOnReset (s : State) : State :=
  let s := s.bulkCut.allLanesStop
  let t := s.island.sto
  let n := s.nonvolatile State.reset
  { n with sats := s.sats, island := { sto := { a := t.a, b := t.b, aSince := s.now, bSince := s.now, bothSince := if t.a && t.b then some s.now else none } } }

/-- VDD_AON below its reset level, or first power (R483). -/
def execPowerOnReset (s : State) : Out := .next s.powerOnReset

/-- PORST_N low for at least 1 µs (R483). Its next release samples TEST again (R613). -/
def execPorstPin (s : State) : Out :=
  .next (if s.rst.started || s.rst.testHeld then ({ s with rst := { s.rst with testHeld := false } } : State).triggerReset 3 0 else s)

/-- SYSCTL.RESET_REQ (R488): from masters 8 to 13, or from master 20 in DEV or RMA, with KEY and GO. -/
def execResetReq (m : Fin 21) (value : Word) (s : State) : Out :=
  let v := value.toNat
  let allowed := (decide (8 ≤ m.val) && decide (m.val ≤ 13)) || (m.val == 20 && s.lifecycle != 1)
  if allowed && bits v 31 16 == 0x6B1D && bits v 0 0 == 1 then .next (s.onWrite m.val .SYSCTL_RESET_REQ 0 fun s => s.triggerReset 6 0) else .next s

/-! ### Rails (R467) -/

/-- The rails in the order of R467's table: CORE, V18, IO, AON. -/
def railFld : Nat → Fld
  | 0 => F.SYSCTL_SUPPLY_STATUS_CORE | 1 => F.SYSCTL_SUPPLY_STATUS_V18 | 2 => F.SYSCTL_SUPPLY_STATUS_IO | _ => F.SYSCTL_SUPPLY_STATUS_AON

/-- A lasting fault follows its condition (R371). -/
def State.follow (s : State) (f : FaultName) (unit : Nat) (flag : Fld) (v : Bool) : State :=
  if v && !s.faultActive f unit then (s.setFlag flag true).raise f unit scopeModule 0 none true
  else if v then s else s.cease f unit

/-- A rail is in another band than before: 0 in band, 1 beyond the warning level, 2 beyond the fault level, 3 below its reset level. A rail
removed in DEEP_SLEEP or OFF, where WAKE_OUT is low or needs no rail, is not monitored; VDD_AON has no fault level. -/
def State.railLevel (s : State) (rail band : Nat) : State :=
  if rail ≠ 3 && (s.power.mode == .deepSleep || s.power.mode == .off) then s.setFld (railFld rail) (if band = 0 then 0 else 3)
  else if rail = 3 ∧ band = 3 then s.powerOnReset
  else
    let s := s.setFld (railFld rail) (if rail = 3 then min 1 band else min 2 band)
    let s := s.follow .SUPPLY_WARN rail F.SYSCTL_INT_STATUS_SUPPLY_WARN (decide (1 ≤ band))
    let s := s.follow .SUPPLY_FAULT rail F.SYSCTL_INT_STATUS_SUPPLY_FAULT (decide (2 ≤ band) && rail != 3)
    if band = 3 then s.triggerReset 2 0 else s

def execSupplyLevelChange (rail : Fin 4) (band : Fin 4) (s : State) : Out := .next (s.railLevel rail.val band.val)

/-! ### Clock gates (R470, R471) -/

/-- Whether a unit has a function that is not OFF, or serves one: satellites, ADCs and counters a bridge, safety pairs the slots and the discharge,
Derrick and PCIe the ring pairs, the dressing unit and the MRAM controller slots and dressing, the sentinel its rules. -/
def State.unitBusy (s : State) (idx : Nat) : Bool :=
  let any (k : FuncKind) (l : List Nat) : Bool := l.any (fun n => !s.isOff k n)
  if idx < 8 then any .engine [idx]
  else if idx = 12 ∨ idx = 13 then any .slot [0, 1] || any .discharge [0]
  else if idx = 14 then any .rule (List.range 16)
  else if idx = 15 then any .ring (List.range 64)
  else if 16 ≤ idx ∧ idx ≤ 21 then any .bridge [bridgeOfAdc (idx - 16)]
  else if 24 ≤ idx ∧ idx ≤ 31 then any .posIf [idx - 24]
  else if idx = 32 ∨ idx = 33 then any .bridge [idx - 32]
  else if 34 ≤ idx ∧ idx ≤ 37 then any .posCmp [idx - 34]
  else if 38 ≤ idx ∧ idx ≤ 41 then any .can [idx - 38]
  else if idx = 43 then (List.range 64).any (fun n => s.rpPcie n && !s.isOff .ring n)
  else if idx = 44 ∨ idx = 45 then any .dressing [0, 1] || any .slot [0, 1]
  else if 48 ≤ idx ∧ idx ≤ 59 then any .satellite [idx - 48] || any .bridge [bridgeOfSat (idx - 48)]
  else false

/-- The units whose enables a register of a set holds: 64 to 67 only in the third. -/
def gateUnits (k : Nat) : List Nat := (List.range (if k = 2 then 4 else 32)).map (fun b => 32 * k + b)

/-- Write a set's register: enables of busy units stay set while the set is in force. -/
def State.gateWrite (s : State) (f : Fld) (inForce : Bool) (k value : Nat) : State :=
  let old := s.fld f k
  let held := (gateUnits k).filter (fun u => inForce && bitAt old (u % 32) && !bitAt value (u % 32) && s.unitBusy u)
  let v := (gateUnits k).foldl (fun a u => a + 2 ^ (u % 32) * b2n (bitAt value (u % 32) || held.contains u)) 0
  let s := s.setFld f v k
  match held with
  | [] => s
  | u :: _ => (s.setFlag F.SYSCTL_INT_STATUS_GATE_REFUSED true).raise .GATE_REFUSED u scopeModule

/-- A write to a clock-gate register: set 0 run, 1 sleep, 2 deep sleep, of which only the bit of SN is writable. -/
def execClockGateWrite (m : Fin 21) (set : Fin 3) (k : Fin 3) (value : Word) (s : State) : Out :=
  let v := value.toNat
  match set.val with
  | 0 => .next (s.onWrite m.val .SYSCTL_CG_RUN k.val fun s => s.gateWrite F.SYSCTL_CG_RUN_EN (s.power.mode == .run) k.val v)
  | 1 => .next (s.onWrite m.val .SYSCTL_CG_SLEEP k.val fun s => s.gateWrite F.SYSCTL_CG_SLEEP_EN (s.power.mode == .idle) k.val v)
  | _ => .next (s.onWrite m.val .SYSCTL_CG_DSLEEP 0 fun s => s.setFlag F.SYSCTL_CG_DSLEEP_SN (bits v 14 14 == 1))

/-! ### The PLL, its ramps and its reference (R469, R472 to R475) -/

/-- A ramp begins at a step (R472): the clocks run from the PLL, divided. -/
def State.startRamp (s : State) (step : Nat) : State :=
  let s := ((s.setFld F.SYSCTL_CLK_STATUS_ON_PLL 0x3F).setFlag F.SYSCTL_CLK_STATUS_RAMP_BUSY true).setFld F.SYSCTL_CLK_STATUS_RAMP_STEP step
  { s with clocks := { s.clocks with stepSince := s.now } }

/-- RAMP_STEP_T has passed: the next step, or the end of the ramp. -/
def execRampStep (s : State) : Out :=
  let k := s.fld F.SYSCTL_CLK_STATUS_RAMP_STEP
  if !s.flag F.SYSCTL_CLK_STATUS_RAMP_BUSY || !s.elapsed s.clocks.stepSince (s.parN P.RAMP_STEP_T * usT) then .next s
  else if (k = 0 ∧ s.parN P.RAMP_STEPS = 16) ∨ s.parN P.RAMP_STEPS ≤ k then
    .next ((s.setFlag F.SYSCTL_CLK_STATUS_RAMP_BUSY false).setFld F.SYSCTL_CLK_STATUS_RAMP_STEP 0)
  else .next (s.startRamp (k + 1))

/-- The reference is lost (R473): the coast. -/
def State.coast (s : State) : State :=
  let s := ((s.setFlag F.SYSCTL_CLK_STATUS_COAST true).setFlag F.SYSCTL_CLK_STATUS_CLK_LOSS true).setFlag F.SYSCTL_CLK_STATUS_PLL_LOCK false
  let s := (s.setFlag F.SYSCTL_CLK_STATUS_RAMP_BUSY false).setFlag F.SYSCTL_INT_STATUS_CLK_LOSS true
  let s : State := { s with clocks := { s.clocks with goodSince := none, tryingSince := none } }
  ((s.guardAll none).raise .CLK_LOSS 255 scopeModule 0 none true).canSuspend.timeCoast

/-- Whether the reference monitor judges windows: in RUN and IDLE, once the module has started. -/
def State.refRuns (s : State) : Bool := s.rst.started && (s.power.mode == .run || s.power.mode == .idle)

/-- A window of 16 LPO cycles ends with its count of REFCLK edges (R473). -/
def execRefMonitorWindow (count : Fin 256) (s : State) : Out :=
  if !s.refRuns then .next s
  else
    let s := s.setFld F.SYSCTL_CLK_STATUS_REF_COUNT count.val
    let c := s.clocks
    if 90 ≤ count.val ∧ count.val ≤ 110 then .next { s with clocks := { c with badRun := 0, goodSince := some (c.goodSince.getD s.lpo) } }
    else
      let s : State := { s with clocks := { c with badRun := c.badRun + 1, goodSince := none, tryingSince := none } }
      .next (if 2 ≤ c.badRun + 1 && s.flag F.SYSCTL_CLK_STATUS_PLL_LOCK then s.coast else s)

/-- When the present lock attempt began: the reference has been good for CLK_RELOCK_T (R475). -/
def State.lockAttempt (s : State) : Option Nat :=
  s.clocks.tryingSince.or (s.clocks.goodSince.map (fun t => t + s.parN P.CLK_RELOCK_T * msT))

/-- The PLL relocks: the clocks ramp back, from a quarter of their frequency after a coast, and CLK_LOSS ends (R475). -/
def execPllRelock (s : State) : Out :=
  match s.lockAttempt with
  | none => .next s
  | some t =>
    if s.flag F.SYSCTL_CLK_STATUS_PLL_LOCK || !s.refRuns || s.lpo < t then .next s
    else
      let was := s.coasting
      let n := s.parN P.RAMP_STEPS
      let s := (s.setFlag F.SYSCTL_CLK_STATUS_PLL_LOCK true).startRamp (if was then max 1 (n - 2) else 1)
      let s : State := { s with clocks := { s.clocks with tryingSince := none } }
      let s := s.cease .PLL_LOCK_FAIL 255
      if !was then .next s
      else
        let s := ((s.setFlag F.SYSCTL_CLK_STATUS_COAST false).setFlag F.SYSCTL_CLK_STATUS_CLK_LOSS false).setFlag F.SYSCTL_INT_STATUS_CLK_RESTORED true
        .next (s.cease .CLK_LOSS 255).canResume.timeFree

/-- The PLL has not locked within 5 ms of an attempt (R475): it tries again. -/
def execPllLockTimeout (s : State) : Out :=
  match s.lockAttempt with
  | none => .next s
  | some t =>
    if s.flag F.SYSCTL_CLK_STATUS_PLL_LOCK || !s.refRuns || !s.elapsedLpo t (5 * msT) then .next s
    else
      let s : State := { s with clocks := { s.clocks with tryingSince := some s.lpo } }
      .next (if s.faultActive .PLL_LOCK_FAIL 255 then s else s.raise .PLL_LOCK_FAIL 255 scopeModule 0 none true)

/-- The LPO has been measured against REFCLK (R469): its deviation in ppm. -/
def execLpoCheck (ppm : Int) (s : State) : Out :=
  if s.flag F.SYSCTL_CLK_STATUS_PLL_LOCK && decide (30000 < ppm.natAbs) then
    .next ((s.setFlag F.SYSCTL_INT_STATUS_LPO_TRIM true).raise .LPO_TRIM 255 scopeModule)
  else .next s

/-! ### Power modes (R480 to R482) -/

/-- A refused request: its reason, and MODE_REFUSED. -/
def State.modeRefused (s : State) (reason : Nat) : State :=
  ((s.setFld F.SYSCTL_PWR_MODE_REFUSE reason).setFlag F.SYSCTL_INT_STATUS_MODE_REFUSED true).raise .MODE_REFUSED 255 scopeModule

/-- Whether a domain is being switched, or waits to be. -/
def State.domainSwitching (s : State) : Bool :=
  (List.range 12).any (fun d => s.isStarting .domain d || s.isStopping .domain d || (s.domainOf d).heldOn || (s.domainOf d).heldOff)

/-- A request for a mode, from masters 8 to 13 (R481): refused while a domain switches or the reference is lost, and while a function that the mode names
is not OFF. -/
def State.modeRequest (s : State) (m : Nat) (code : Nat) (busy : State → Bool) (act : State → State) : State :=
  if !(decide (8 ≤ m) && decide (m ≤ 13)) then s
  else s.onWrite m .SYSCTL_PWR_MODE 0 fun s =>
    let s := s.setFld F.SYSCTL_PWR_MODE_REQUEST code
    if s.domainSwitching || s.power.entering.isSome then s.modeRefused 2
    else if s.flag F.SYSCTL_CLK_STATUS_CLK_LOSS then s.modeRefused 3
    else if busy s then s.modeRefused 1
    else act (if code = 0 then s else s.marchAbort)

/-- Whether some function of a kind is not OFF. -/
def State.anyBusy (s : State) (l : List FuncKind) : Bool := l.any (fun k => (List.range k.count).any (fun n => !s.isOff k n))

/-- RUN: back from IDLE. -/
def execRequestRun (m : Fin 21) (s : State) : Out :=
  .next (s.modeRequest m.val 0 (fun _ => false) fun s => if s.power.mode == .idle then s.setMode .run else s)

/-- IDLE: the sleep set of enables, refused while a bridge is not OFF. -/
def execRequestIdle (m : Fin 21) (s : State) : Out :=
  .next (s.modeRequest m.val 1 (fun s => s.anyBusy [.bridge]) fun s => if s.power.mode == .run then s.setMode .idle else s)

/-- SLEEP: clocks stopped and SRAM retained, refused while a function in PD3, PD4 or PD7 to PD11 is not OFF. -/
def execRequestSleep (m : Fin 21) (s : State) : Out :=
  .next (s.modeRequest m.val 2 (fun s => s.anyBusy [.engine, .slot, .bridge, .satellite, .posIf, .posCmp, .injector, .can]) fun s =>
    (((s.setMode .sleep).setFlag F.SYSCTL_CLK_STATUS_PLL_LOCK false).setFld F.SYSCTL_CLK_STATUS_ON_PLL 0).snParked)

/-- DEEP_SLEEP and OFF: every function of PD11 to PD1 is disabled and PD11 down to PD1 switched off; the mode is entered when all are OFF. -/
def State.parkRequest (s : State) (mode : PowerMode) : State :=
  let s : State := { s with power := { s.power with entering := some mode, wakeWaiting := false } }
  ((domainsIn 0xFFE).reverse.foldl State.domainOffRequest s).settleDomains

/-- DEEP_SLEEP, refused while a slot, bridge, satellite or discharge is not OFF. -/
def execRequestDeepSleep (m : Fin 21) (s : State) : Out :=
  .next (s.modeRequest m.val 3 (fun s => s.anyBusy [.slot, .bridge, .satellite, .discharge]) fun s => s.parkRequest .deepSleep)

/-- OFF, refused as DEEP_SLEEP; SN stops. -/
def execRequestOff (m : Fin 21) (s : State) : Out :=
  .next (s.modeRequest m.val 4 (fun s => s.anyBusy [.slot, .bridge, .satellite, .discharge]) fun s => s.parkRequest .off)

/-- An interrupt to the application cores ends IDLE (R482). -/
def execIdleWake (s : State) : Out := .next (if s.power.mode == .idle then s.setMode .run else s)

/-- A wake that the sentinel or a WAKE pin has asked for ends SLEEP (R482): the PLL relocks and the clocks are released. -/
def execSleepWake (s : State) : Out :=
  if s.power.mode == .sleep && s.power.wakeWaiting then
    let s : State := { s.setMode .run with power := { (s.setMode .run).power with wakeWaiting := false } }
    .next ((s.setFlag F.SYSCTL_CLK_STATUS_PLL_LOCK true).setFld F.SYSCTL_CLK_STATUS_ON_PLL 0x3F)
  else .next s

/-! ### The system watchdog (R487) -/

/-- A kick, from masters 8 to 11. -/
def execWdtKick (m : Fin 21) (value : Word) (s : State) : Out :=
  if !(decide (8 ≤ m.val) && decide (m.val ≤ 11)) then .next s
  else .next (s.onWrite m.val .SYSCTL_WDT_KICK 0 fun s =>
    if bits value.toNat 15 0 = 0x5AC3 then { s with power := { s.power with wdtKick := s.lpo } } else s)

/-- TIMEOUT ms have passed without a valid kick, no application core being halted by debug. -/
def execWatchdogExpiry (s : State) : Out :=
  if s.flag F.SYSCTL_WDT_CTRL_EN && s.elapsedLpo s.power.wdtKick (s.fld F.SYSCTL_WDT_CTRL_TIMEOUT * msT) &&
      !s.island.halted.any (fun h => decide (8 ≤ h) && decide (h ≤ 11)) then .next (s.triggerReset 4 0)
  else .next s

end Sys2Proof.Machine
end

