-- ==== Sys2Proof/Machine/Mem.lean ====
section
/-! DEFINITION. Memories, their check bits, the scrubber, the march on request and the arbiters' recovery (R564 to R579, R591), and the save of
PTIME with the life record (R157, R627). -/

namespace Sys2Proof.Machine

/-! ### Errors found on a read (R566, R568) -/

/-- The block of the coarse atlas that holds an address is read again from MRAM; without MRAM the coarse atlas is not there. -/
def State.coarseReload (s : State) (n : Nat) (a : Nat) : State :=
  let g := s.geo n
  let c := g.coarse
  let k := (a - coarseBase n) / 8
  if !s.hasGeo n || c.count ≤ k then s
  else if !s.mramReady then s.setAtl n { s.atl n with coarse := false }
  else
    let (d, q, st) := c.ofBlock (k / c.nth)
    s.sysWrite (coarseBase n + 8 * c.index d q 0 st) ((List.range c.nth).flatMap (fun t => (s.fullNode n g (4 * d) (4 * q) (8 * t) st).bytes))

/-- A window tile with an uncorrectable word is marked absent and queued for filling; its changes are lost (DRESS_LOSS). -/
def State.tileLost (s : State) (n pos : Nat) : State :=
  let g := s.geo n
  let lose (s : State) (half : Nat) : State :=
    let a := s.atl n
    match a.tiles.at none (2 * pos + half) with
    | none => s
    | some (td, tq, st) =>
      let s := s.setAtl n { a with tiles := a.tiles.setAt none (2 * pos + half) none
                                   fillQ := if a.fillQ.contains (td, tq) then a.fillQ else a.fillQ ++ [(td, tq)] }
      (tilePoints td tq).foldl (fun s p =>
        let b := g.block p.1 p.2 st
        if 0 < (s.atl n).drift.at 0 b && (s.spillPlace n b).isNone then s.forgetBlock n b else s) s
  let had := ((s.atl n).tiles.at none (2 * pos)).isSome || ((s.atl n).tiles.at none (2 * pos + 1)).isSome
  let s := lose (lose s 0) 1
  if had then s.raise .DRESS_LOSS n (s.scopeSlot n) else s

/-- What an uncorrectable word of the atlas window means: a tile, a block of the coarse atlas, or the spill buffer. -/
def State.windowUncorr (s : State) (a : Nat) : State :=
  let x := a - 0x20000000
  if x < 0x200000 then s.tileLost (x / 0x100000) (x % 0x100000 / 0x10000)
  else if x < 0x300000 then s.coarseReload ((x - 0x200000) / 0x80000) a
  else s

/-- An error is recorded: the address, the memory, the master, and the syndrome, whose coding is not stated. -/
def State.eccRecord (s : State) (master k a : Nat) (unc : Bool) : State :=
  let (syn, s) := s.free 160
  let s := s.setFld F.MEMCTL_ERR_ADDR_ADDR a
  let s := ((s.setFlag F.MEMCTL_ERR_INFO_UNCORR unc).setFld F.MEMCTL_ERR_INFO_MEM k).setFld F.MEMCTL_ERR_INFO_SYNDROME (syn % 256).toNat
  s.setFld F.MEMCTL_ERR_INFO_MASTER master

/-- A single-bit error: counted and raised (SRAM_CORR). -/
def State.eccCorr (s : State) (master k a : Nat) : State :=
  let s := ((s.bump F.MEMCTL_ECC_COUNT_CORR k).eccRecord master k a false).setFlag F.MEMCTL_INT_STATUS_CORR true
  s.raise .SRAM_CORR k scopeModule a

/-- An uncorrectable error: counted each time; the word stays poisoned, and is raised once until it is rewritten. -/
def State.eccUncorr (s : State) (master k a : Nat) : State :=
  let w := a / 8 * 8
  let told := s.memc.poison.contains w
  let s := ((s.bump F.MEMCTL_ECC_COUNT_UNCORR k).eccRecord master k a true).setFlag F.MEMCTL_INT_STATUS_UNCORR true
  if told then s
  else
    let s := if k = 3 then s else { s with memc := { s.memc with poison := s.memc.poison ++ [w] } }
    if k = 1 then (s.raise .WINDOW_UNCORR k scopeModule a).windowUncorr a else s.raise .SRAM_UNCORR k scopeModule a

/-- The memory that an address lies in. -/
def memOf (a : Nat) : Option Nat :=
  match memArea a with
  | some .sram => some 0
  | some .window => some 1
  | some .tcm => some 2
  | some .retention => some 4
  | _ => none

/-- The correction of a word is written back in the bank's next free cycle. The data read were correct already. -/
def execEccWriteback (k : Fin 5) (a : Nat) (s : State) : Out :=
  .next { s with memc := { s.memc with writeback := s.memc.writeback.filter (fun e => e != (k.val, a)) } }

/-! ### The scrubber (R579) -/

/-- A bank is skipped while its domain is off or it is retained. -/
def State.bankSkipped (s : State) (k bank : Nat) : Bool :=
  !s.pdOn (memGeom k).domain || s.power.mode == .sleep || (k == 0 && bitAt s.memc.retained bank)

/-- Whether the scrubber has read every word of a memory's banks. -/
def State.scrubbed (s : State) (k : Nat) : Bool :=
  let g := memGeom k
  (List.range g.banks).all (fun b => s.bankSkipped k b || decide (g.bank / 8 ≤ s.memc.scrubNext.at 0 (32 * k + b)))

/-- The pass is complete. -/
def State.scrubPass (s : State) : State :=
  if (List.range 5).all s.scrubbed then
    ({ s with memc := { s.memc with scrubNext := [], passStart := s.now, lateTold := false } } : State).bump F.MEMCTL_SCRUB_STATUS_PASSES
  else s

/-- A pass longer than 2 × SCRUB_SRAM_T is late. -/
def State.scrubLate (s : State) : State :=
  if s.elapsed s.memc.passStart (2 * s.parN P.SCRUB_SRAM_T * msT + 1) && !s.memc.lateTold then
    (({ s with memc := { s.memc with lateTold := true } } : State).setFlag F.MEMCTL_INT_STATUS_SCRUB_LATE true).raise .SCRUB_LATE 255 scopeModule
  else s

/-- The scrubber reads the next word of a bank: 0 no error, 1 corrected and written back in the same step, 2 uncorrectable and left as it is. -/
def execSramScrubStep (k : Fin 5) (bank : Fin 32) (result : Fin 3) (s : State) : Out :=
  let g := memGeom k.val
  let key := 32 * k.val + bank.val
  let next := s.memc.scrubNext.at 0 key
  if !s.pdOn 6 || g.banks ≤ bank.val || s.bankSkipped k.val bank.val || g.bank / 8 ≤ next then .next s
  else
    let a := g.base + bank.val * g.bank + 8 * next
    let s : State := { s with memc := { s.memc with scrubNext := s.memc.scrubNext.setAt 0 key (next + 1) } }
    let s := match result.val with
      | 0 => s
      | 1 => s.eccCorr 0x1F k.val a
      | _ => s.eccUncorr 0x1F k.val a
    .next s.scrubLate.scrubPass

/-! ### The march on request (R577, R578, R591, R594) -/

/-- Whether a request is refused. Memories above 4 do not exist. -/
def State.marchRefused (s : State) (k banks : Nat) : Bool :=
  s.memc.march.isSome || (k == 1 && (!s.isOff .slot 0 || !s.isOff .slot 1)) || decide (4 ≤ k) ||
  (banks != 0 && !s.pdOn (memGeom k).domain) || (k == 0 && banks &&& s.memc.retained != 0)

/-- The place under test is shown. -/
def State.marchShow (s : State) (m : March) : State :=
  let s : State := { s with memc := { s.memc with march := some m } }
  (s.setFld F.MEMCTL_MARCH_STATUS_BANK (m.banks.headD 0)).setFld F.MEMCTL_MARCH_STATUS_SEG m.seg

/-- MARCH_CTRL.GO with MEM, from masters 8 to 13. Bits of MARCH_BANKS without a bank name nothing; with nothing to test the march passes at once. -/
def execMarchGo (m : Fin 21) (mem : Fin 8) (s : State) : Out :=
  if !(decide (8 ≤ m.val) && decide (m.val ≤ 13)) then .next s
  else .next (s.onWrite m.val .MEMCTL_MARCH_CTRL 0 fun s =>
    let s := if s.memc.march.isSome then s else s.setFld F.MEMCTL_MARCH_CTRL_MEM mem.val
    let banks := s.fld F.MEMCTL_MARCH_BANKS_BANKS
    if s.marchRefused mem.val banks then s.setFlag F.MEMCTL_MARCH_STATUS_REFUSED true
    else
      let s := (s.setReg ⟨.MEMCTL_MARCH_STATUS, 0, 0⟩ 0).setFlag F.MEMCTL_MARCH_CTRL_GO true
      let s := s.setFlag F.MEMCTL_STATUS_MARCH_BUSY true
      match (List.range (memGeom mem.val).banks).filter (bitAt banks) with
      | [] => s.marchEnd F.MEMCTL_MARCH_STATUS_PASS
      | l => s.marchShow ⟨mem.val, l, 0, s.now⟩)

/-- MARCH_CTRL.ABORT, from masters 8 to 13. -/
def execMarchAbort (m : Fin 21) (s : State) : Out :=
  if !(decide (8 ≤ m.val) && decide (m.val ≤ 13)) then .next s
  else .next (s.onWrite m.val .MEMCTL_MARCH_CTRL 0 State.marchAbort)

/-- The test of a segment of 1 KiB ends: after 1,664 bank cycles of 2.5 ns it passes, and the next segment or bank follows; or a read fails; or SP0 or SP1
has accessed it, it is restored, and it is tested again. -/
def execMarchSegmentDone (outcome : MarchOutcome) (s : State) : Out :=
  match s.memc.march with
  | none => .next s
  | some m =>
    if !s.gateOpen 46 then .next s
    else match outcome with
      | .fail a =>
        let s := (s.marchEnd F.MEMCTL_MARCH_STATUS_FAIL).setFld F.MEMCTL_MARCH_FAIL_ADDR_ADDR a
        .next ((s.setFlag F.MEMCTL_INT_STATUS_MARCH_FAIL true).raise .MARCH_FAIL m.mem scopeModule a (some 3))
      | .preempt => .next ((s.bump F.MEMCTL_MARCH_STATUS_PREEMPT).marchShow { m with since := s.now })
      | .pass =>
        if !s.elapsed m.since 3328 then .next s
        else if m.seg + 1 < (memGeom m.mem).bank / 1024 then .next (s.marchShow { m with seg := m.seg + 1, since := s.now })
        else match m.banks.drop 1 with
          | [] => .next (s.marchEnd F.MEMCTL_MARCH_STATUS_PASS)
          | l => .next (s.marchShow { m with banks := l, seg := 0, since := s.now })

/-! ### Arbiters (R569) -/

/-- An arbiter returns to SERVICE mode 1 ms after the reset of its requester. -/
def execArbiterRecoveryExpiry (a : Fin 13) (s : State) : Out :=
  match s.memc.recover.at none a.val with
  | some t => .next (if s.elapsed t msT then { s with memc := { s.memc with recover := s.memc.recover.setAt none a.val none } } else s)
  | none => .next s

/-- Whether an arbiter is in FIXED mode: until BOOTLOCK, while a bank of its memory is under test, and after a reset of a requester. -/
def State.fixedMode (s : State) (a : Nat) : Bool :=
  !s.bootlock || (match s.memc.march with
    | some m => m.mem == a
    | none => false) || (s.memc.recover.at none a).isSome

/-! ### PTIME and the life record (R157, R627) -/

/-- The bin of TBIN for a temperature in 0.01 °C. -/
def lifeBin (t : Int) : Nat := ([2500, 5000, 7500, 10000, 11500, 12500, 13500, 14000, 14500, 15000].filter (fun b => decide ((b : Int) ≤ t))).length

/-- The hottest control-die sensor of the last round. -/
def State.hottest (s : State) : Option Int :=
  match ((List.range 16).filter (fun i => s.flag F.HKEEP_TEMP_VALID i)).map (fun i => s.fldS F.HKEEP_TEMP_TEMP i) with
  | [] => none
  | t :: l => some (l.foldl max t)

/-- Whether a bridge counts as live: V_DC at 60 V or more, or not valid. -/
def State.hvLive (s : State) (b : Nat) : Bool := !s.flag F.HKEEP_VDC_VALID b || decide (60000 ≤ s.fld F.HKEEP_VDC_MV b)

/-- Every 60 s of PTIME it is saved, the age of the scrub pass checked, and SP1 writes the life record, with one minute more in its bins. -/
def execPtimeSave (s : State) : Out :=
  if !s.mramReady || !decide (s.atlasC.savedAt + 60 ≤ s.ptime) then .next s
  else
    let s := s.savePtime
    if !s.pdOn 1 then .next s
    else
      let x := s.life
      let x := { x with
        tbin := match s.hottest with
          | some t => x.tbin.setAt 0 (lifeBin t) (min 0xFFFFFFFF (x.tbin.at 0 (lifeBin t) + 1))
          | none => x.tbin
        hvA := if s.hvLive 0 then min 0xFFFFFFFF (x.hvA + 1) else x.hvA
        hvB := if s.hvLive 1 then min 0xFFFFFFFF (x.hvB + 1) else x.hvB }
      .next ({ s with life := x } : State).lifeWrite

end Sys2Proof.Machine
end

