-- ==== Sys2Proof/Machine/Sentinel.lean ====
section
/-! DEFINITION. The sentinel (chapter 15): rounds, bursts, WAKE pins, the wake-frame decoder, rules and the park short. -/

namespace Sys2Proof.Machine

/-! ### Whether it runs, and what it holds (R480, R509, R544, R558) -/

/-- SN runs: its program loaded, its clock enabled, and not in OFF. -/
def State.snRuns (s : State) : Bool := s.sn.running && s.gateOpen 14

/-- Sieve holds the position pins while PD7 is off, and CAN0_RX while CAN0 is OFF or PD9 is off. -/
def State.holdsPosPins (s : State) : Bool := s.snRuns && !s.pdOn 7
def State.holdsCanPin (s : State) : Bool := s.snRuns && (s.isOff .can 0 || !s.pdOn 9)

/-! ### Rules (R548 to R551) -/

/-- The bit of MODES for the mode in force. -/
def PowerMode.ruleBit : PowerMode → Nat
  | .run => 0 | .idle => 0 | .sleep => 1 | .deepSleep => 2 | .off => 3

/-- An element of a rule's record. -/
def State.rule (s : State) (r i : Nat) : Int := s.par P.SN_RULE r i
def State.ruleN (s : State) (r i : Nat) : Nat := (s.rule r i).toNat

/-- Whether a rule is evaluated: ON, and naming the mode. -/
def State.ruleLive (s : State) (r : Nat) : Bool := s.isOn .rule r && bitAt (s.ruleN r 2) s.power.mode.ruleBit

/-- The filtered value of a source, as an event entry holds it: of the parked time its whole seconds, of a WAKE pin its level. A CAN wake frame has no value
that the spec states: its entries hold a free one. -/
def State.sourceValue (s : State) (src : Nat) : Int :=
  match src with
  | 0 => s.fld F.SENTINEL_ANALOG_VBAT
  | 1 => s.fldS F.SENTINEL_NTC_NTC0
  | 2 => s.fldS F.SENTINEL_NTC_NTC1
  | 7 => s.fld F.SENTINEL_ROT_COUNT
  | 9 => s.fld F.SENTINEL_CANWAKE_ERR
  | 10 => match s.sn.parkedAt with
    | some t => ((s.lpo - t) / secT : Nat)
    | none => 0
  | n => if 3 ≤ n ∧ n ≤ 6 then b2n (bitAt s.sn.wakes (n - 3)) else 0

/-- Whether a rule's level condition is true now. The parked time is compared exactly, and is not running before a first entry. -/
def State.levelTrue (s : State) (r : Nat) : Bool :=
  let src := s.ruleN r 0
  let op := s.ruleN r 1
  let th := s.rule r 4
  if 3 ≤ src ∧ src ≤ 6 then (op == 5 && bitAt s.sn.wakes (src - 3)) || (op == 6 && !bitAt s.sn.wakes (src - 3))
  else if src = 10 then (match s.sn.parkedAt with
    | some t => let x : Int := ((s.lpo - t : Nat) : Int); (op == 0 && decide (th * secT < x)) || (op == 1 && decide (x < th * secT))
    | none => false)
  else if src ≤ 2 then
    let known := if src = 0 then s.sn.sampled else s.sn.ntcSampled
    known && ((op == 0 && decide (th < s.sourceValue src)) || (op == 1 && decide (s.sourceValue src < th)))
  else false

/-- Whether a rule has a level condition. -/
def State.isLevel (s : State) (r : Nat) : Bool :=
  let op := s.ruleN r 1
  if 3 ≤ s.ruleN r 0 ∧ s.ruleN r 0 ≤ 6 then op == 5 || op == 6 else op != 2

def State.ruleState (s : State) (r : Nat) : SnRule := s.sn.rules.at {} r
def State.setRule (s : State) (r : Nat) (x : SnRule) : State := s.setSn { s.sn with rules := s.sn.rules.setAt {} r x }

/-- One evaluation of a condition that can hold (R549): it fires at the first evaluation at or after t0 + HOLD, once until it has been false. -/
def State.evalRule (s : State) (r : Nat) (true_ : Bool) : State × Bool :=
  let x := s.ruleState r
  if !true_ then ((s.setRule r {}).setFlag F.SENTINEL_RULE_HOLDING false r, false)
  else
    let t0 := x.since.getD s.lpo
    let fires := !x.fired && s.elapsedLpo t0 (s.ruleN r 5 * msT)
    ((s.setRule r { since := some t0, fired := x.fired || fires }).setFlag F.SENTINEL_RULE_HOLDING true r, fires)

/-- The rules that fired in one evaluation act in ascending order, merged (R550); each with LOG writes its entry (R551). FIRED shows the
rules since the last wake. -/
def State.rulesFired (s : State) (fired : List Nat) : State :=
  match fired with
  | [] => s
  | first :: _ =>
    let acts := fired.foldl (fun a r => a ||| s.ruleN r 3) 0
    let doms := fired.foldl (fun a r => a ||| s.ruleN r 6) 0
    let s := fired.foldl (fun s r =>
      let s := s.bump F.SENTINEL_RULE_FIRES r
      if bits (s.ruleN r 3) 0 0 = 1 then
        let (v, s) := if s.ruleN r 0 = 8 then s.free 164 else (s.sourceValue (s.ruleN r 0), s)
        s.snLog r (s.ruleN r 0) (s.ruleN r 3) v
      else s) s
    let mask := fired.foldl (fun a r => a ||| 2 ^ r) 0
    let woke := bits acts 1 1 == 1 || bits acts 2 2 == 1
    let s := s.setFld F.SENTINEL_STATUS_FIRED (if woke then mask else s.fld F.SENTINEL_STATUS_FIRED ||| mask)
    s.snAct ⟨first, s.ruleN first 0, acts, doms⟩

/-- Evaluate every level rule of the sources that satisfy a test. -/
def State.evalLevels (s : State) (p : Nat → Bool) : State :=
  let (s, fired) := (List.range 16).foldl (fun (a : State × List Nat) r =>
    if a.1.ruleLive r && a.1.isLevel r && p (a.1.ruleN r 0) then
      let (s, f) := a.1.evalRule r (a.1.levelTrue r)
      (s, if f then a.2 ++ [r] else a.2)
    else a) (s, [])
  s.rulesFired fired

/-- An event of a source: the rules with an EVENT condition on it, of an operation and a threshold that match, fire. -/
def State.ruleEvent (s : State) (src op : Nat) (match_ : Int → Bool) : State :=
  s.rulesFired ((List.range 16).filter (fun r => s.ruleLive r && s.ruleN r 0 == src && s.ruleN r 1 == op && match_ (s.rule r 4)))

/-! ### Rounds (R545, R546) -/

/-- The median of conversions made back to back: the middle of the ordered list. -/
def insertInt (x : Int) : List Int → List Int
  | [] => [x]
  | y :: t => if x ≤ y then x :: y :: t else y :: insertInt x t
def medianOf (l : List Int) : Int := let o := l.foldr insertInt []; o.getD (o.length / 2) 0

/-- The filter of R546: the first sample initialises it. -/
def State.snFilter (s : State) (first : Bool) (y x : Int) : Int :=
  if first then x else y + (x - y) / 2 ^ s.parN P.SN_IIR_SHIFT

/-- The shortest time between two starts: SN_ROUND_T, less what dithering may take from it (R545). -/
def State.roundMin (s : State) : Nat :=
  let t := s.parN P.SN_ROUND_T * msT
  if s.par P.SN_DITHER == 1 then t - t / 16 else t

/-- A round: the five conversions of VBAT (mV), in an NTC round those of NTC0 and NTC1 (0.01 °C by the curve of R584), the level rules, and the burst while
Sieve holds the position pins. -/
def execSnRound (vbat ntc0 ntc1 : List Int) (s : State) : Out :=
  let due := match s.sn.roundAt with
    | some t => s.elapsedLpo t s.roundMin
    | none => true
  if !s.snRuns || !due || s.sn.burstSince.isSome then .next s
  else
    let x := s.sn
    let s := s.setFld F.SENTINEL_ANALOG_VBAT (clampI 0 65535 (s.snFilter (!x.sampled) (s.fld F.SENTINEL_ANALOG_VBAT) (medianOf vbat))).toNat
    let ntc := x.ntcWait == 0
    let s := if ntc then
        let s := s.setFldS F.SENTINEL_NTC_NTC0 (sat16 (s.snFilter (!x.ntcSampled) (s.fldS F.SENTINEL_NTC_NTC0) (medianOf ntc0)))
        s.setFldS F.SENTINEL_NTC_NTC1 (sat16 (s.snFilter (!x.ntcSampled) (s.fldS F.SENTINEL_NTC_NTC1) (medianOf ntc1)))
      else s
    let burst := s.holdsPosPins
    let s := s.setSn { s.sn with
      sampled := true, ntcSampled := x.ntcSampled || ntc, ntcWait := if ntc then s.parN P.SN_NTC_DIV - 1 else x.ntcWait - 1
      roundAt := some s.lpo, doneAt := if burst then x.doneAt else s.lpo, burstSince := if burst then some s.lpo else none }
    .next (s.evalLevels (fun _ => true))

/-- Whether the sensor of SN_SENSOR is a Hall set. -/
def State.snHall (s : State) : Bool := s.parN P.SN_SENSOR < 2

/-- Whether a burst shows movement (R547): a Hall state that differs from the previous burst's or changed, a count that differs or moved by
SN_ROT_COUNTS. -/
def State.moved (s : State) (value : Int) (within : Nat) : Bool :=
  if s.snHall then value != s.sn.prev || decide (0 < within)
  else decide (s.parN P.SN_ROT_COUNTS ≤ (value - s.sn.prev).natAbs) || decide (s.parN P.SN_ROT_COUNTS ≤ within)

/-- A burst ends: the Hall state or quadrature count at its end, the transitions or counts within it, and whether a Hall state of 0 or 7 was seen. The
first burst after taking the pins only records a state, and a burst during which the pins are returned shows nothing (R558). -/
def execSnBurstEnd (value : Int) (within : Nat) (invalid : Bool) (s : State) : Out :=
  match s.sn.burstSince with
  | none => .next s
  | some t =>
    if !s.snRuns || !s.elapsedLpo t (s.parN P.SN_BURST_T * usT) then .next s
    else if !s.holdsPosPins then .next (s.setSn { s.sn with burstSince := none, doneAt := s.lpo })
    else
      let bad := s.snHall && invalid
      let move := !s.sn.burstFresh && !bad && s.moved value within
      let run := if move then min 255 (s.fld F.SENTINEL_ROT_RUN + 1) else 0
      let s := ((s.setFld F.SENTINEL_ROT_RUN run).setFld F.SENTINEL_ROT_COUNT (min 65535 within)).setFld F.SENTINEL_ROT_HALL (if s.snHall then value.toNat % 8 else 0)
      let s := s.setSn { s.sn with burstSince := none, burstFresh := false, prev := value, doneAt := s.lpo }
      let s := if bad then (s.setFlag F.SENTINEL_INT_STATUS_SENSOR true).raise .SN_SENSOR_FAULT 255 scopeModule else s
      let rot := decide (s.parN P.SN_ROT_N ≤ run)
      let s := s.setFlag F.SENTINEL_STATUS_ROTATION rot
      let (s, fired) := (List.range 16).foldl (fun (a : State × List Nat) r =>
        if a.1.ruleLive r && a.1.ruleN r 0 == 7 then
          let (s, f) := a.1.evalRule r rot
          (s, if f then a.2 ++ [r] else a.2)
        else a) (s, [])
      .next (s.rulesFired fired)

/-! ### WAKE pins and the wake-frame decoder (R544, R552, R558) -/

/-- The filtered level of a WAKE pin changes. In OFF a pin of SN_OFF_WAKE that rises wakes the module; while OFF is being entered the wake waits. -/
def execWakePinEdge (k : Fin 4) (level : Bool) (s : State) : Out :=
  let old := bitAt s.sn.wakes k.val
  if old == level then .next s
  else
    let s := s.setSn { s.sn with wakes := putBits s.sn.wakes k.val k.val (b2n level) }
    let offWake := level && bitAt (s.parN P.SN_OFF_WAKE) k.val
    if s.power.mode == .off then
      .next (if offWake then ({ s with power := { s.power with wakeOut := true } } : State).triggerReset 9 0 else s)
    else if s.power.entering == some .off then .next (if offWake then { s with power := { s.power with wakeWaiting := true } } else s)
    else if !s.snRuns then .next s
    else .next ((s.ruleEvent (3 + k.val) (if level then 3 else 4) (fun _ => true)).evalLevels (fun src => src == 3 + k.val))

/-- Filter f of SN_CAN_FILTER; one that is all zero is unused. -/
def State.canFilter (s : State) (f i : Nat) : Nat := s.parN P.SN_CAN_FILTER 0 (6 * f + i)

/-- Whether a frame matches a filter. Data bytes are numbers of eight bytes, the first byte the most significant, absent bytes 0. -/
def State.wakeMatch (s : State) (f id : Nat) (xtd : Bool) (dlc : Nat) (data : List Byte) : Bool :=
  let g := s.canFilter f
  let d := beNat ((data ++ List.replicate 8 0#8).take 8)
  (List.range 6).any (fun i => g i != 0) && (id &&& g 1) == g 0 && b2n xtd == g 2 && dlc == g 3 && (d &&& g 5) == g 4

/-- The decoder ends a frame, or meets a frame error; a frame with FDF set is ignored. -/
def execSnCanFrame (error : Bool) (id : Fin 536870912) (xtd fdf : Bool) (dlc : Fin 16) (data : List Byte) (s : State) : Out :=
  if !s.holdsCanPin || (fdf && !error) then .next s
  else if error then
    let n := s.fld F.SENTINEL_CANWAKE_ERR + 1
    if s.parN P.SN_CAN_ERR_LIM ≤ n then .next ((s.setFld F.SENTINEL_CANWAKE_ERR 0).ruleEvent 9 2 (fun _ => true))
    else .next (s.setFld F.SENTINEL_CANWAKE_ERR n)
  else
    let s := (s.setFld F.SENTINEL_CANWAKE_ERR (s.fld F.SENTINEL_CANWAKE_ERR - 1)).bump F.SENTINEL_CANWAKE_FRAMES
    let hits := (List.range 8).filter (fun f => s.wakeMatch f id.val xtd dlc.val data)
    let mask := hits.foldl (fun a f => a + 2 ^ f) 0
    let s := s.setFld F.SENTINEL_CANWAKE_MATCHED (s.fld F.SENTINEL_CANWAKE_MATCHED ||| mask)
    if hits.isEmpty then .next s
    else .next (s.ruleEvent 8 2 (fun th => th == -1 || (decide (0 ≤ th) && hits.contains th.toNat)))

/-! ### WAKE_OUT, the park short and the watchdog (R550, R553 to R556, R560) -/

/-- SN_WAKE_OUT_T after a WAKE_OUT action: the output returns to the level of the mode, low in DEEP_SLEEP and OFF. -/
def execWakeOutExpiry (s : State) : Out :=
  match s.sn.wakeOutSince with
  | none => .next s
  | some t =>
    if !s.elapsedLpo t (s.parN P.SN_WAKE_OUT_T * msT) then .next s
    else
      let low := (s.power.mode == .deepSleep || s.power.mode == .off) && s.rst.guard.isNone
      .next (({ s with power := { s.power with wakeOut := !low } } : State).setSn { s.sn with wakeOutSince := none })

/-- The state a park short gives a bridge (R554, R556): its side, or through R277 the other where a satellite of that side is not ON or in
lockout, or safe pulse off. -/
def State.parkState (s : State) (b : Nat) (high : Bool) : SafeState :=
  let bad (odd : Nat) : Bool := s.sideUvlo b odd || (satsOfBridge b).any (fun n => n % 2 == odd && !s.isOn .satellite n)
  if high then (if !bad 0 then .ascHigh else if !bad 1 then .ascLow else .spo)
  else (if !bad 1 then .ascLow else if !bad 0 then .ascHigh else .spo)

/-- A named bridge's V_DC is compared with PARK_VDC_LIM; a channel that is not valid counts as above it. Above it the reset-guard request holds the bridge
in its park state; else SN_TOW_WAKE will be raised. -/
def execParkVdcCompare (b : Fin 2) (s : State) : Out :=
  let b := b.val
  match s.sn.park with
  | none => .next s
  | some p =>
    if !s.rst.started || !p.bridges.contains b || p.compared.contains b || !s.pdOn (10 + b) then .next s
    else
      let above := !s.flag F.ADC_DS_VAL_VALID (vdcCh b) || decide (mvQ p.limit < s.vdcQ b)
      let p := { p with compared := p.compared ++ [b], shorted := if above then p.shorted ++ [b] else p.shorted, towed := p.towed || !above }
      let s := s.setSn { s.sn with park := some p }
      if !above then .next s.parkHandover
      else
        let st := s.parkState b p.high
        let want := if p.high then SafeState.ascHigh else .ascLow
        let s := (s.setSafe b { s.safeOf b with guard := true, choice := st }).enterSafe b
        let s := if st == want then s else s.raise .ASC_SIDE_SWAP b (s.scopeBridge b)
        .next s.parkHandover

/-- No round has been completed for 4 × SN_ROUND_T: PD0 restarts SN, its rules keep their state. -/
def execSnHangTimer (s : State) : Out :=
  if s.snRuns && s.elapsedLpo s.sn.doneAt (4 * s.parN P.SN_ROUND_T * msT) then
    .next (((s.setSn { s.sn with burstSince := none, roundAt := none, doneAt := s.lpo }).setFlag F.SENTINEL_INT_STATUS_HANG true).raise .SN_HANG 255 scopeModule)
  else .next s

end Sys2Proof.Machine
end

