-- ==== Sys2Proof/Machine/Boot.lean ====
section
/-! DEFINITION. The start of the module after a package reset (R485, R489, R574, R575, R578, R613), the boot ROM and what the first stage does that no
register write shows (R439 to R442, R446), and the park short's own start (R553). -/

namespace Sys2Proof.Machine

/-! ### Memories and domains -/

/-- A march failure of a cold start: MARCH_FAIL is RC4, and the start goes no further than the recovery (R578). -/
def State.startMarchFail (s : State) (a : Nat) : State :=
  ((s.setFld F.MEMCTL_MARCH_FAIL_ADDR_ADDR a).setFlag F.MEMCTL_INT_STATUS_MARCH_FAIL true).raise .MARCH_FAIL ((memOf a).getD 3) scopeModule a (some 4)

/-- Retained banks found with an uncorrectable word are filled with zeros and raise RET_LOSS; the others keep their contents (R575). -/
def State.retention (s : State) (lost : Nat) : State :=
  let kept := s.memc.retained
  let gone := (List.range 16).filter (fun k => bitAt kept k && bitAt lost k)
  let out (a : Nat) : Bool := !gone.contains ((a - 0x10000000) / 0x80000) || memArea a != some .sram
  let s : State := { s with mem := s.mem.filter (fun e => out e.1),
                            memc := { s.memc with poison := s.memc.poison.filter out, retained := 0, passStart := s.now } }
  let mask := gone.foldl (fun a k => a + 2 ^ k) 0
  let s := (s.setFld F.MEMCTL_RET_STATUS_LOST mask).setFld F.MEMCTL_RET_STATUS_KEPT (kept - mask)
  if gone.isEmpty then s else (s.setFlag F.MEMCTL_INT_STATUS_RET_LOSS true).raise .RET_LOSS 0 scopeModule mask

/-- A domain that the start itself brings to ON. -/
def State.bringOn (s : State) (d : Nat) : State :=
  if s.isOn .domain d then s
  else ((s.domainStarting d).setLc .domain d { state := .on, since := s.now }).domainOn d

/-- The PLL locks and the clocks run from it; without a lock PLL_LOCK_FAIL is raised and they stay on the LPO (R475). -/
def State.startClocks (s : State) (locks : Bool) : State :=
  if locks then (s.setFlag F.SYSCTL_CLK_STATUS_PLL_LOCK true).setFld F.SYSCTL_CLK_STATUS_ON_PLL 0x3F
  else ({ s with clocks := { s.clocks with tryingSince := some s.lpo } } : State).raise .PLL_LOCK_FAIL 255 scopeModule 0 none true

/-- Stored records come into force; the sentinel's own only after a power-on reset, which alone they do not outlive (R37). -/
def State.startParams (s : State) (cold : Bool) : State :=
  let sn (id : Nat) : Bool := decide (0x0E00 ≤ id) && decide (id < 0x0F00)
  { s with params := (s.stored.filter (fun e => cold || !sn e.1.id)).foldl (fun t e => Table.set PKey.lt paramDefault t e.1 e.2) s.params }

/-- The RESET_RECORDED entry (R485). -/
def State.recordReset (s : State) : State :=
  let c := s.fld F.SYSCTL_RESET_CAUSE_CAUSE
  if [2, 4, 5, 7, 8].contains c then s.raise .RESET_RECORDED 255 scopeModule c
  else (s.screeWrite FaultName.RESET_RECORDED.code 0 scopeModule.code 255 0 c).1

/-- Rails that stand in a warning or fault band are reported again (R467). -/
def State.startRails (s : State) : State := (List.range 4).foldl (fun s r => s.railLevel r (let b := s.fld (railFld r); if b = 3 then 0 else b)) s

/-! ### The boot ROM (R439 to R441, R446) -/

/-- The length of the certificate at MRAM offset 0x540_1000, from its DER header. -/
def State.certLen (s : State) : Nat :=
  let b (k : Nat) : Nat := (Memory.byte s.mram (0x5401000 + k)).toNat
  let n := if b 0 ≠ 0x30 then 0
    else if b 1 < 0x80 then 2 + b 1
    else if b 1 = 0x81 then 3 + b 2
    else if b 1 = 0x82 then 4 + 256 * b 2 + b 3
    else 0
  if n ≤ 1024 then n else 0

/-- What PROT shows once the fuses and the calibration record have been read (R437, R438, R440, R455). -/
def State.showIdentity (s : State) : State :=
  let p := s.prot
  let s := ((s.setFld F.PROT_STATUS_LIFECYCLE p.lifecycle).setFld F.PROT_ROLLBACK_COUNT p.rollback).setFld F.PROT_CERT_LEN_LEN s.certLen
  let s := (List.range 4).foldl (fun s k => s.setFld F.PROT_UID_UID (leNat ((Config.moduleUid.drop (4 * k)).take 4)) k) s
  s.setFlag F.PROT_STATUS_TOKEN_HELD (p.token.any (fun t => !t.revoke))

/-- The sections of a header by TYPE. -/
def fwOfType (h : List Byte) (type : Nat) : List Nat := (List.range (rawField h 6 2)).filter (fun k => rawField (fwSection h k) 0 1 == type)

/-- Whether the boot ROM accepts a slot: its header, the rollback counter and the hash of its FIRST_STAGE section. -/
def State.bootable (s : State) (slot : Nat) : Bool :=
  let h := s.fwHeader slot
  s.mramReady && fwFormOk h && fwSigOk h && decide (s.prot.rollback ≤ rawField h 12 4) && (fwOfType h 1).all (fun k => s.fwHashOk slot h k)

/-- A section is copied to its LOAD address; it lies in one memory that can be written. -/
def State.loadSection (s : State) (slot k : Nat) : State :=
  let x := fwSection (s.fwHeader slot) k
  let load := rawField x 12 4
  let len := rawField x 8 4
  let fits := memArea load == memArea (load + (len - 1)) &&
    (match memArea load with
     | none => false
     | some a => a != .rom && a != .mramWindow)
  if fits then s.sysWrite load (s.mramRead (fwBase slot + rawField x 4 4) len) else s

/-- The tables of R446: master, region, first address, last address, rights (1 read, 2 write, 4 fetch). -/
def recoveryTables : List (Nat × Nat × Nat × Nat × Nat) :=
  [(8, 0, 0x00000000, 0x0001FFFF, 5), (8, 1, 0x10000000, 0x107FFFFF, 3), (8, 2, 0x30000000, 0x37FFFFFF, 1), (8, 3, 0x40000000, 0x40EFFFFF, 3),
   (15, 0, 0x10700000, 0x107FFFFF, 3), (15, 1, 0x35200000, 0x353FFFFF, 1), (16, 0, 0x40200000, 0x402FFFFF, 3), (16, 1, 0x10700000, 0x107FFFFF, 3),
   (18, 0, 0x30000000, 0x37FFFFFF, 1), (18, 1, 0x20000000, 0x203FFFFF, 3)]

/-- The boot ROM binds a pair for the maker's host (R441). -/
def State.bindRecovery (s : State) (n cls : Nat) : State :=
  ((s.setFld F.DERRICK_RP_BIND_CLASS cls n).setFld F.DERRICK_RP_BIND_ROLE 3 n).setFlag F.DERRICK_RP_BIND_HOST true n

/-- Recovery: BOOT_RECOVERY, the tables of R446, RP0 and RP1, then BOOTLOCK. There is no image to confirm, so no confirm window runs. -/
def State.recovery (s : State) : State :=
  let s := (s.setFlag F.PROT_STATUS_RECOVERY true).raise .BOOT_RECOVERY 255 scopeModule
  let s := recoveryTables.foldl (fun s t =>
    let (m, r, a, z, x) := t
    let s := (s.setFld F.PROT_MPU_RBASE_BASE (a / 4096) m r).setFld F.PROT_MPU_RLIMIT_LIMIT (z / 4096) m r
    let s := ((s.setFlag F.PROT_MPU_RBASE_EN true m r).setFlag F.PROT_MPU_RBASE_R (bitAt x 0) m r).setFlag F.PROT_MPU_RBASE_W (bitAt x 1) m r
    (s.setFlag F.PROT_MPU_RBASE_X (bitAt x 2) m r).setFlag F.PROT_MPU_CTRL_VALID true m) s
  let s := (s.bindRecovery 0 1).bindRecovery 1 6
  let s := s.lockBoot
  { s with prot := { s.prot with lockSince := none } }

/-- The first stage (R442) as far as no register write carries it: PD1 is started and SAFETY, APP and SENTINEL are loaded, SN running from then on. A section
whose hash fails is not loaded, and a package reset is requested. -/
def State.firstStage (s : State) (slot : Nat) : State :=
  let h := s.fwHeader slot
  let later := (List.range (rawField h 6 2)).filter (fun k => rawField (fwSection h k) 0 1 != 1)
  if !later.all (fun k => s.fwHashOk slot h k) then s.triggerReset 6 0
  else
    let s := s.enableFunc .domain 1
    let s := (fwOfType h 2 ++ fwOfType h 3 ++ fwOfType h 5).foldl (fun s k => s.loadSection slot k) s
    if (fwOfType h 5).isEmpty then s
    else s.setSn { s.sn with running := true, doneAt := if s.sn.running then s.sn.doneAt else s.lpo }

/-- An image is booted: FIRST_STAGE is copied to its LOAD address and run. -/
def State.bootImage (s : State) (slot : Nat) (fallback : Bool) : State :=
  let h := s.fwHeader slot
  let s := (fwOfType h 1).foldl (fun s k => s.loadSection slot k) s
  let s : State := { s with prot := { s.prot with running := some slot, runRollback := rawField h 12 4 } }
  let s := (s.setFld F.PROT_STATUS_BOOT_SLOT slot).setFld F.PROT_FW_VERSION_VERSION (rawField h 8 4)
  let s := if fallback then (s.setFlag F.PROT_STATUS_FALLBACK true).raise .BOOT_FALLBACK 255 scopeModule else s
  s.firstStage slot

/-- The boot ROM: a PENDING slot once, else ACTIVE; then the other slot; then recovery (R441). -/
def State.bootRom (s : State) : State :=
  let p := s.prot
  let try_ := match p.pendingSlot with
    | some x => if p.tries = 0 then some x else none
    | none => none
  let s : State := if try_.isSome then { s with prot := { p with tries := 1 } } else s
  let slot := try_.getD p.active
  if s.bootable slot then s.bootImage slot false
  else if s.bootable (1 - slot) then s.bootImage (1 - slot) true
  else s.recovery

/-! ### The park short's start (R553, R557) -/

/-- A satellite of a park short starts with the settings of the park image. -/
def State.parkSat (s : State) (n : Nat) : State :=
  let s := s.enableFunc .satellite n
  let value (id : Nat) : Int := toSigned 32 (s.parkWord n (id - 0x600))
  let x := s.sat n
  s.setSat n { x with settings := settingIds.foldl (fun t id => Table.setAt none t (id - 0x600) (some (value id))) x.settings,
                      ch0Mode := (value P.CH0_MODE).toNat, supplyMode := (value P.SUPPLY_MODE).toNat }

/-- Steps 3 to 5: the domains, then the satellites of the bridges named; SN_PARK_LATE is due where REFCLK is later than 1.5 ms (R556). -/
def State.parkStart (s : State) : State :=
  match s.sn.park with
  | none => s
  | some p =>
    let s := [1, 7, 8, 10, 11].foldl State.bringOn s
    let s := s.setSn { s.sn with park := some { p with late := s.elapsedLpo p.since (1500 * usT + 1) } }
    (p.bridges.flatMap satsOfBridge).foldl State.parkSat s

/-! ### START_UP -/

/-- What the first microseconds bring: the memories, PD6 and PD2, the records and the clocks, PD5 with its interface trained, and what the last reset left to report. -/
def State.startBase (s : State) (marchFail : Option Nat) (lost : Nat) (locks trained : Bool) : State :=
  let cold := s.rst.coldStart
  let s : State := { s with rst := { s.rst with started := true, coldStart := false, multi := false }, power := { s.power with mode := .run, entering := none } }
  let s := ((s.retention lost).bringOn 6).bringOn 2
  let s := (s.startParams cold).startClocks locks
  let s := if trained then s else s.mramFence
  let s := ((s.bringOn 5).showIdentity.recordReset).startRails
  match marchFail with
  | some a => if cold then s.startMarchFail a else s
  | none => s

/-- A package reset is released. `test`: the TEST pin is high, which holds the package in reset. `fusesOk`: the lifecycle and rollback fuses read consistent.
`marchFail`: the address at which the march of a cold start fails. `lost`: retained banks found with an uncorrectable word. `locks`: the PLL locks. `trained`: the MRAM
interface trains and its identity word is that of the die. -/
def execStartUp (test fusesOk : Bool) (marchFail : Option Nat) (lost : Fin 65536) (locks trained : Bool) (s : State) : Out :=
  if s.rst.started || s.rst.guard.isSome || s.rst.testHeld then .next s
  else if test then .next { s with rst := { s.rst with testHeld := true } }
  else
    let failed := s.rst.coldStart && marchFail.isSome
    let s := s.startBase marchFail lost.val locks trained
    let s := if fusesOk then s else s.raise .FUSE_FAULT 255 scopeModule
    let s := if fusesOk && !failed then s.bootRom else s.recovery
    let s : State := { s with prot := { s.prot with resumeSince := s.now } }
    .next (s.parkStart).judgeImmobs

end Sys2Proof.Machine
end

