-- ==== Sys2Proof/Machine/View.lean ====
section
/-! DEFINITION. What a read of a register answers (R8, R207, R244, R291, R321, R352, R402, R435, R464, R493, R521, R543, R594, R595): the stored word,
with the fields that show other state of the machine put in, and what the read itself changes. -/

namespace Sys2Proof.Machine

/-- A field's place with the value it shows. -/
def Fld.shows (f : Fld) (v : Nat) : Nat × Nat × Nat := (f.hi, f.lo, v)

/-- A one-bit field's place with the value it shows. -/
def Fld.showsIf (f : Fld) (b : Bool) : Nat × Nat × Nat := (f.hi, f.lo, b2n b)

/-! ### Lifecycle bits (R42) -/

/-- The function whose lifecycle bits [4:0] a register shows. -/
def lcOfReg (k : RKey) : Option Func :=
  match k.reg with
  | .ATLAS_SLOT_STATUS => some ⟨.dressing, k.i⟩
  | .CE_STATUS => some ⟨.engine, k.i⟩
  | .PWM_STATUS => some ⟨.bridge, k.i⟩
  | .GDS_STATUS => some ⟨.satellite, k.i⟩
  | .POS_IF_STATUS => some ⟨.posIf, k.i⟩
  | .POS_PCMP_LC => some ⟨.posCmp, k.i⟩
  | .SAFETY_DCHG => some ⟨.discharge, 0⟩
  | .DERRICK_RP_STATUS => some ⟨.ring, k.i⟩
  | .SYSCTL_PD_STATUS => some ⟨.domain, k.i⟩
  | .CAN_STATUS => some ⟨.can, k.i⟩
  | .SENTINEL_RULE => some ⟨.rule, k.i⟩
  | _ => none

/-- LC_STATE. -/
def LcState.code : LcState → Nat
  | .off => 0 | .starting => 1 | .on => 2 | .stopping => 3

/-- LC_PENDING. -/
def LcPending.code : LcPending → Nat
  | .none => 0 | .enable => 1 | .disable => 2

/-- The lifecycle bits of a function: a request that a domain holds back is shown as pending; PD0 is always ON. -/
def State.lcBits (s : State) (f : Func) : Nat :=
  let l := s.lc f.kind f.idx
  let x := s.domainOf f.idx
  let p := if f.kind = .domain ∧ x.heldOn = true then 1 else if f.kind = .domain ∧ x.heldOff = true then 2 else l.pending.code
  if f.kind = .domain ∧ f.idx = 0 then 2 else l.state.code + 4 * p + 16 * b2n l.discard

/-! ### Fields that show other state -/

/-- The numbers below `n` that satisfy a test, as a mask. -/
def maskOf (n : Nat) (p : Nat → Bool) : Nat := ((List.range n).map (fun k => 2 ^ k * b2n (p k))).sum

def State.viewAtlas (s : State) (k : RKey) : List (Nat × Nat × Nat) :=
  let n := k.i
  let a := s.atl n
  match k.reg with
  | .ATLAS_PTIME => [F.ATLAS_PTIME_PTIME.shows s.ptime]
  | .ATLAS_SCRUB_AGE => [F.ATLAS_SCRUB_AGE_PASS_AGE.shows (s.ptime - s.atlasNv.passStart)]
  | .ATLAS_SLOT_STATUS =>
    [F.ATLAS_SLOT_STATUS_READY.showsIf (s.atlasReady n), F.ATLAS_SLOT_STATUS_BEDROCK_VALID.showsIf (s.bedrockValid n),
     F.ATLAS_SLOT_STATUS_POLICY_PENDING.showsIf (s.atlasNv.policy.at none n).isSome, F.ATLAS_SLOT_STATUS_GEOM_VALID.showsIf (s.hasGeo n),
     F.ATLAS_SLOT_STATUS_S_LO.shows a.sLo, F.ATLAS_SLOT_STATUS_TD0.shows a.td0, F.ATLAS_SLOT_STATUS_TQ0.shows a.tq0,
     F.ATLAS_SLOT_STATUS_TILES.shows ((List.range 16).filter (fun p => (a.tiles.at none (2 * p)).isSome && (a.tiles.at none (2 * p + 1)).isSome)).length]
  | _ => []

/-- CE.DBG_DATA (R204): the register that INDEX names, while the engine is halted. -/
def State.debugData (s : State) (c : Nat) : Nat :=
  let e := s.engine c
  let i := s.fld F.CE_DBG_SEL_INDEX c
  if !e.halted then 0
  else if i < 16 then e.dReg i
  else if i < 24 then e.pReg (i - 16)
  else if i < 28 then (e.acc.at 0#40 (i - 24)).toNat % 2 ^ 32
  else if i < 32 then (e.acc.at 0#40 (i - 28)).toNat / 2 ^ 32
  else if i = 32 then e.sr
  else if i = 33 then e.lc
  else if i = 34 then e.pc
  else 0

def State.viewCe (s : State) (k : RKey) : List (Nat × Nat × Nat) :=
  let e := s.engine k.i
  match k.reg with
  | .CE_STATUS =>
    [F.CE_STATUS_PC.shows e.pc, F.CE_STATUS_FAULTED.showsIf e.faulted, F.CE_STATUS_HALTED.showsIf e.halted, F.CE_STATUS_BRIDGES.shows (maskOf 2 e.writes.contains),
     F.CE_STATUS_SLOT.shows e.slot, F.CE_STATUS_TASK.shows e.task, F.CE_STATUS_LEVEL.shows e.signer]
  | .CE_DBG_DATA => [F.CE_DBG_DATA_DATA.shows (s.debugData k.i)]
  | _ => []

def State.viewPwm (s : State) (k : RKey) : List (Nat × Nat × Nat) :=
  match k.reg with
  | .PWM_STATUS => [F.PWM_STATUS_SAFE.showsIf ((s.safeOf k.i).state != .run)]
  | .PWM_COUNTER => [F.PWM_COUNTER_COUNT.shows (s.counter k.i)]
  | .PWM_LS_CMP => if s.indep k.i then [] else [F.PWM_LS_CMP_VALUE.shows 0x7FFFFF]
  | _ => []

def State.viewAdc (s : State) (k : RKey) : List (Nat × Nat × Nat) :=
  match k.reg with
  | .ADC_STATUS =>
    [F.ADC_STATUS_CONT.shows (maskOf 6 (fun n => s.par P.ADC_MODE n == 1)), F.ADC_STATUS_BUSY.shows (maskOf 6 (fun n => (s.adc n).run.isSome))]
  | .ADC_CHK_STATUS => [F.ADC_CHK_STATUS_AVAIL.showsIf (s.chkAvail k.i)]
  | _ => []

/-- The last edge interval of an interface in ticks. -/
def State.posInterval (s : State) (i : Nat) : Nat :=
  match (s.posIf i).hist with
  | (t0, _) :: (t1, _) :: _ => t0 - t1
  | _ => 0

def State.viewPos (s : State) (k : RKey) : List (Nat × Nat × Nat) :=
  let i := k.i
  let x := s.posIf i
  match k.reg with
  | .POS_IF_STATUS =>
    [F.POS_IF_STATUS_POS_VALID.showsIf (s.posValid i), F.POS_IF_STATUS_SPEED_VALID.showsIf (s.speedValid i), F.POS_IF_STATUS_DIR.showsIf x.reverse,
     F.POS_IF_STATUS_STANDSTILL.showsIf x.standstill, F.POS_IF_STATUS_HIST.shows (min 63 x.hist.length)] ++
    (if i = 2 ∨ i = 3 then [] else [F.POS_IF_STATUS_ALIGNED.showsIf (s.posValid i)])
  | .POS_IF_POS => [F.POS_IF_POS_POS32.shows (s.pos32 i)]
  | .POS_IF_SPEED => [F.POS_IF_SPEED_SPEED.shows (ofSigned 32 (s.posSpeed i))]
  | .POS_IF_INTERVAL => [F.POS_IF_INTERVAL_INTERVAL.shows (s.posInterval i)]
  | _ => []

/-- The codes of SAFETY.BRIDGE_b and SAFETY.STATUS. -/
def SafeState.code : SafeState → Nat
  | .run => 0 | .spo => 1 | .ascLow => 2 | .ascHigh => 3 | .discharge => 4
def SpeedSrc.code : SpeedSrc → Nat
  | .position => 0 | .currents => 1 | .backEmf => 2 | .held => 3 | .unknown => 4
def StoTest.code : StoTest → Nat
  | .pending => 0 | .assertedSeen => 1 | .done => 2
/-- SAFETY.DCHG.METHOD: 3 while DCHG is asserted beside the WINDING method (R395). -/
def Discharge.code (d : Discharge) : Nat :=
  match d.method with
  | .none => 0 | .winding => if d.out then 3 else 1 | .resistor => 2

/-- The number of active faults that satisfy a test, as an 8-bit field counts them. -/
def State.activeCount (s : State) (p : Nat → Bool) : Nat := min 255 (s.faults.active.filter (fun e => e.active && p e.cls)).length

/-- The milliseconds since the discharge started, at the bridge named first. -/
def State.dchgElapsed (s : State) : Nat :=
  let x := s.island.dchg
  if s.isOff .discharge 0 then 0
  else min 65535 ((s.now - (if x.bridgeA && (!x.bridgeB || decide (x.startA ≤ x.startB)) then x.startA else x.startB)) / msT)

/-- SAFETY.STATUS. -/
def State.viewSafetyStatus (s : State) : List (Nat × Nat × Nat) :=
  let i := s.island
  [F.SAFETY_STATUS_SELFTEST_OK.showsIf (i.sp0.selftest && i.sp1.selftest), F.SAFETY_STATUS_LOCKSTEP_BROKEN.showsIf (i.sp0.broken || i.sp1.broken),
   F.SAFETY_STATUS_BENCH.showsIf i.bench, F.SAFETY_STATUS_LATCHED.showsIf (!s.faults.latched.isEmpty), F.SAFETY_STATUS_FAULT_N.showsIf s.faultN,
   F.SAFETY_STATUS_DCHG_OUT.showsIf i.dchg.out, F.SAFETY_STATUS_SP1_OK.showsIf (s.pairOk 1), F.SAFETY_STATUS_SP0_OK.showsIf (s.pairOk 0),
   F.SAFETY_STATUS_STO_TEST.shows i.sto.test.code, F.SAFETY_STATUS_TORQUE_EN.shows (maskOf 2 s.torqueEnable),
   F.SAFETY_STATUS_ACTIVE_SAFE.shows (s.activeCount (fun c => decide (3 ≤ c))), F.SAFETY_STATUS_ACTIVE_DERATE.shows (s.activeCount (· == 2))]

def State.viewSafety (s : State) (k : RKey) : List (Nat × Nat × Nat) :=
  let i := s.island
  let b := s.safeOf k.i
  match k.reg with
  | .SAFETY_STATUS => s.viewSafetyStatus
  | .SAFETY_STO =>
    [F.SAFETY_STO_A_ASSERTED.showsIf i.sto.a, F.SAFETY_STO_B_ASSERTED.showsIf i.sto.b, F.SAFETY_STO_PATH_A_OK.showsIf i.sto.pathA,
     F.SAFETY_STO_PATH_B_OK.showsIf i.sto.pathB,
     F.SAFETY_STO_DISC_MS.shows (match i.sto.discSince with
       | some t => min 65535 ((s.now - t) / msT)
       | none => 0)]
  | .SAFETY_LOCKSTEP =>
    [F.SAFETY_LOCKSTEP_SP1_GROUPS.shows i.sp1.groups, F.SAFETY_LOCKSTEP_SP0_GROUPS.shows i.sp0.groups, F.SAFETY_LOCKSTEP_LAST_GROUP.shows i.lastGroup,
     F.SAFETY_LOCKSTEP_BROKEN_SP1.showsIf i.sp1.broken, F.SAFETY_LOCKSTEP_BROKEN_SP0.showsIf i.sp0.broken,
     F.SAFETY_LOCKSTEP_MISMATCH_SP1.showsIf i.sp1.mismatch, F.SAFETY_LOCKSTEP_MISMATCH_SP0.showsIf i.sp0.mismatch]
  | .SAFETY_LATCH =>
    [F.SAFETY_LATCH_COUNT.shows s.faults.latched.length, F.SAFETY_LATCH_CODE.shows ((s.faults.latched.head?.map (fun l => l.name.code)).getD 0)]
  | .SAFETY_RESET_COUNT => [F.SAFETY_RESET_COUNT_COUNT.shows i.resetCount]
  | .SAFETY_BRIDGE =>
    [F.SAFETY_BRIDGE_STATE.shows b.state.code, F.SAFETY_BRIDGE_CHOICE.shows (b.choice.code - 1), F.SAFETY_BRIDGE_FORCED.showsIf b.forced.isSome,
     F.SAFETY_BRIDGE_LOCKED_HINT.showsIf b.locked, F.SAFETY_BRIDGE_OVERVOLT.showsIf b.overvolt, F.SAFETY_BRIDGE_SPEED_SRC.shows b.speedSrc.code,
     F.SAFETY_BRIDGE_REQ.shows (s.safeReqBits k.i)]
  | .SAFETY_DCHG =>
    [F.SAFETY_DCHG_METHOD.shows i.dchg.code, F.SAFETY_DCHG_BACKUP.showsIf i.dchg.backup,
     F.SAFETY_DCHG_BRIDGES.shows (b2n i.dchg.bridgeA + 2 * b2n i.dchg.bridgeB), F.SAFETY_DCHG_ELAPSED.shows s.dchgElapsed]
  | .SAFETY_DEBUG_GUARD =>
    [F.SAFETY_DEBUG_GUARD_COUNT.shows i.guardCount, F.SAFETY_DEBUG_GUARD_TARGET.shows i.guardTarget, F.SAFETY_DEBUG_GUARD_DELAY.shows i.guardDelay]
  | .SAFETY_SLOT =>
    [F.SAFETY_SLOT_TORQUE_EN.showsIf (s.torqueEnable k.i), F.SAFETY_SLOT_MON_ON.showsIf (s.monOn k.i), F.SAFETY_SLOT_REFUSE.shows (s.torqueRefuse k.i)]
  | _ => []

/-- DERRICK.HOST. -/
def State.viewHost (s : State) : List (Nat × Nat × Nat) :=
  [F.DERRICK_HOST_PCIE_PRESENT.showsIf (s.hostPresent 1), F.DERRICK_HOST_LOCAL_PRESENT.showsIf (s.hostPresent 0)]

def State.viewDerrick (s : State) (k : RKey) : List (Nat × Nat × Nat) :=
  match k.reg with
  | .DERRICK_HOST => s.viewHost
  | .DERRICK_HB => [F.DERRICK_HB_AGE.shows (min 0xFFFFFFFF ((s.now - (s.hostOf k.i).lastDb) / usT))]
  | .DERRICK_RP_STATUS =>
    let r := s.ring k.i
    [F.DERRICK_RP_STATUS_SQ_HEAD.shows r.head, F.DERRICK_RP_STATUS_SESSION.showsIf r.session.isSome, F.DERRICK_RP_STATUS_PHASE.showsIf r.phase]
  | _ => []

/-- The areas open now (R447). No debugger's hold of the port is modelled: DAP_CONNECTED reads 0. -/
def State.viewProt (s : State) (k : RKey) : List (Nat × Nat × Nat) :=
  match k.reg with
  | .PROT_DEBUG_STATUS =>
    [F.PROT_DEBUG_STATUS_OPEN.shows (([DebugArea.ceHalt, .appHalt, .pwmFreeze, .mem, .safetyHalt].map (fun a => 2 ^ a.bit * b2n (s.debugOpen a))).sum)]
  | _ => []

def State.viewSysctl (s : State) (k : RKey) : List (Nat × Nat × Nat) :=
  match k.reg with
  | .SYSCTL_PD_STATUS =>
    if k.i = 0 then []
    else
      let off := s.isOff .domain k.i
      let x := s.domainOf k.i
      [F.SYSCTL_PD_STATUS_POWERED.showsIf (!off), F.SYSCTL_PD_STATUS_SUPPLY_OK.showsIf (!off && !x.lost)] ++
      (if s.isOn .domain k.i then [F.SYSCTL_PD_STATUS_CLAMPED.shows 0, F.SYSCTL_PD_STATUS_IN_RESET.shows 0] else [])
  | .SYSCTL_SUPPLY_STATUS => [F.SYSCTL_SUPPLY_STATUS_WAKE_OUT.showsIf s.power.wakeOut]
  | _ => []

/-- CAN.RXO_DATA: word j of the CAN block's data window is word j % 16 of object j / 16, read from the snapshot of the master that reads (R500); free where
that master has taken no snapshot of the object. -/
def State.rxoData (s : State) (m n j : Nat) : Nat :=
  match (s.can n).snaps.at none m with
  | some (o, data) => if o = j / 16 then leNat ((data.drop (4 * (j % 16))).take 4) else (Config.free 90 s.fresh).toNat
  | none => (Config.free 90 s.fresh).toNat

def State.viewComms (s : State) (m : Nat) (k : RKey) : List (Nat × Nat × Nat) :=
  match k.reg with
  | .CAN_STATUS => [F.CAN_STATUS_DECODER.showsIf (k.i == 0 && s.holdsCanPin)]
  | .CAN_RXO_DATA => [F.CAN_RXO_DATA_DATA.shows (s.rxoData m k.i k.j)]
  | .TIME_STATUS => [F.TIME_STATUS_LPO_RUN.showsIf (!s.flag F.SYSCTL_CLK_STATUS_PLL_LOCK && !s.coasting)]
  | .TIME_PEER => [F.TIME_PEER_SENDING.showsIf s.broadcasting]
  | .TIME_NOW_NS => [F.TIME_NOW_NS_NS.shows s.readNow.1.toNat]
  | .TIME_EVCAP_TS_LO => [F.TIME_EVCAP_TS_LO_TS.shows (((s.caps k.i).head?.map (·.ts)).getD 0)]
  | .TIME_EVCAP_TS_HI => [F.TIME_EVCAP_TS_HI_TS.shows (((s.caps k.i).head?.map (·.ts / 2 ^ 32)).getD 0)]
  | .TIME_EVCAP_INFO => [(31, 0, (s.evcapInfo k.i).toNat)]
  | .PCIE_IDS => [(31, 0, Config.pcieIds.toNat)]
  | _ => []

def State.viewSentinel (s : State) (k : RKey) : List (Nat × Nat × Nat) :=
  match k.reg with
  | .SENTINEL_STATUS =>
    [F.SENTINEL_STATUS_RUNNING.showsIf s.snRuns, F.SENTINEL_STATUS_IMAGE_OK.showsIf s.parkImageOk, F.SENTINEL_STATUS_PARK.showsIf s.sn.park.isSome,
     F.SENTINEL_STATUS_POS_PINS.showsIf s.holdsPosPins, F.SENTINEL_STATUS_CAN_PIN.showsIf s.holdsCanPin]
  | _ => []

def State.viewMemctl (s : State) (k : RKey) : List (Nat × Nat × Nat) :=
  match k.reg with
  | .MEMCTL_STATUS => [F.MEMCTL_STATUS_FIXED.shows (maskOf 13 s.fixedMode)]
  | .MEMCTL_SCRUB_STATUS => [F.MEMCTL_SCRUB_STATUS_AGE.shows (min 65535 ((s.now - s.memc.passStart) / msT))]
  | .MEMCTL_CONF_CNT => [F.MEMCTL_CONF_CNT_COUNT.shows (s.memc.conf.at 0 (32 * s.fld F.MEMCTL_CONF_SEL_ARB + k.i))]
  | _ => []

/-- The fields of a register that show other state. -/
def State.views (s : State) (m : Nat) (k : RKey) : List (Nat × Nat × Nat) :=
  let own := match k.reg.geom.blk with
    | .ATLAS => s.viewAtlas k
    | .CE => s.viewCe k
    | .PWM => s.viewPwm k
    | .ADC => s.viewAdc k
    | .POS => s.viewPos k
    | .SAFETY => s.viewSafety k
    | .DERRICK => s.viewDerrick k
    | .PROT => s.viewProt k
    | .SYSCTL => s.viewSysctl k
    | .SENTINEL => s.viewSentinel k
    | .MEMCTL => s.viewMemctl k
    | .CAN => s.viewComms m k
    | .TIME => s.viewComms m k
    | .ETH => []
    | .PCIE => s.viewComms m k
    | .GDS => []
    | .HKEEP => []
  match lcOfReg k with
  | some f => own ++ [(4, 0, s.lcBits f)]
  | none => own

/-- The bits of a register's WO fields, which read 0 (R8). -/
def Reg.woMask (r : Reg) : Nat := ((r.fields.filter (fun f => f.acc == .wo)).map (fun f => (2 ^ (f.hi + 1 - f.lo) - 1) * 2 ^ f.lo)).sum

/-- What a register reads as, for a master. -/
def State.viewReg (s : State) (m : Nat) (k : RKey) : Word :=
  let w := (s.views m k).foldl (fun w p => putBits w p.1 p.2.1 p.2.2) (s.reg k).toNat
  BitVec.ofNat 32 (w - (w &&& k.reg.woMask))

/-! ### Reads that change state -/

/-- A read of a register that its master may read: the word, and the state after it. -/
def State.readReg (s : State) (m : Nat) (k : RKey) : Word × State :=
  let w := s.viewReg m k
  match k.reg with
  | .ADC_RESULT => (w, s.setFlag F.ADC_RESULT_VALID false k.i)
  | .ADC_TRIP_CAP1 => (w, s.setFlag F.ADC_TRIP_CAP1_VALID false k.i)
  | .PWM_CAP_TS_LO => (w, s.setFld F.PWM_CAP_TS_HI_TS (s.capHi.at 0 (8 * k.i + k.j)) k.i k.j)
  | .PWM_CAP_INFO => (w, (s.setFlag F.PWM_CAP_INFO_VALID false k.i k.j).setFlag F.PWM_CAP_INFO_OVR false k.i k.j)
  | .CAN_RXO_STATUS => (w, (s.readRxoStatus m k.i k.j).2)
  | .TIME_NOW_NS => s.readNow
  | .TIME_EVCAP_INFO => s.readEvcapInfo k.i
  | _ => (w, s)

end Sys2Proof.Machine
end

