-- ==== Sys2Proof/Machine/Bus.lean ====
section
/-! DEFINITION. Accesses over the fabric: register writes by field type (R8, R10, R42, R443), memory writes (R52, R53), and the fabric accesses and the
single step of the control engines (R176, R204). -/

namespace Sys2Proof.Machine

/-! ### Writes by field type (R8) -/

/-- A field's new value for the bits written to it. Reserved bits belong to no field (R10); fields of type RO and WO store nothing. -/
def Fld.written (f : Fld) (old v : Nat) : Nat :=
  let o := bits old f.hi f.lo
  let n := bits v f.hi f.lo
  match f.acc with
  | .ro => o
  | .wo => o
  | .rw => n
  | .rwl => n
  | .w1c => o - (o &&& n)
  | .w1s => o ||| n

/-- A register's new word. -/
def Reg.written (r : Reg) (old v : Nat) : Nat := r.fields.foldl (fun w f => putBits w f.hi f.lo (f.written old v)) old

/-- Whether a register has a field of type RWL. -/
def Reg.hasLock (r : Reg) : Bool := r.fields.any (fun f => f.acc == .rwl)

/-- LC_DISCARD is cleared by a 1 (R42). -/
def State.clearDiscard (s : State) (k : RKey) (v : Nat) : State :=
  match lcOfReg k with
  | some f => if bits v 4 4 = 1 then s.setLc f.kind f.idx { s.lc f.kind f.idx with discard := false } else s
  | none => s

/-- A write that acts by access type alone. RWL fields take it only from the boot code, master 8, before BOOTLOCK; after it the write is recorded (R443). -/
def State.plainWrite (s : State) (m : Nat) (k : RKey) (v : Word) : State :=
  if k.reg.hasLock then
    if s.bootlock then s.lockedWrite m (regAddr k.reg k.i k.j)
    else if m = 8 then s.setReg k (BitVec.ofNat 32 (k.reg.written (s.reg k).toNat v.toNat)) else s
  else (s.setReg k (BitVec.ofNat 32 (k.reg.written (s.reg k).toNat v.toNat))).clearDiscard k v.toNat

/-! ### Registers whose writes act -/

/-- The state that a command of its own leaves. -/
def State.outState (s : State) (o : Out) : State :=
  match o with
  | .next t => t
  | _ => s

/-- SYSCTL.WDT_CTRL (R487): EN with TIMEOUT = 0 is ignored as a whole; setting EN starts the count. -/
def State.wdtWrite (s : State) (m : Nat) (k : RKey) (v : Word) : State :=
  if !s.bootlock && bits v.toNat 31 31 == 1 && bits v.toNat 15 0 == 0 then s
  else
    let was := s.flag F.SYSCTL_WDT_CTRL_EN
    let s := s.plainWrite m k v
    if s.flag F.SYSCTL_WDT_CTRL_EN && !was then { s with power := { s.power with wdtKick := s.lpo } } else s

/-- CE.DBG_DATA (R204): a write while the engine is halted. Of SR the four flags are written; of LC the count of the innermost active loop. -/
def State.debugWrite (s : State) (c : Nat) (v : Nat) : State :=
  let e := s.engine c
  let i := s.fld F.CE_DBG_SEL_INDEX c
  if !e.halted then s
  else s.setEngine c (
    if i < 16 then e.setD i v
    else if i < 24 then e.setP (i - 16) v
    else if i < 28 then { e with acc := e.acc.setAt 0#40 (i - 24) (BitVec.ofNat 40 ((e.acc.at 0#40 (i - 24)).toNat / 2 ^ 32 * 2 ^ 32 + v)) }
    else if i < 32 then { e with acc := e.acc.setAt 0#40 (i - 28) (BitVec.ofNat 40 ((e.acc.at 0#40 (i - 28)).toNat % 2 ^ 32 + v % 256 * 2 ^ 32)) }
    else if i = 32 then { e with flags := { v := bitAt v 3, c := bitAt v 2, z := bitAt v 1, n := bitAt v 0 } }
    else if i = 33 then { e with loops := match e.loops with
      | [] => []
      | (a, b, _) :: t => (a, b, v % 65536) :: t }
    else if i = 34 then { e with pc := v % 8192 }
    else e)

/-- TIME.TPO_CTRL_k: status bits are cleared, DISARM acts before ARM, WIDTH is stored (R534). -/
def State.tpoWrite (s : State) (k : Nat) (v : Nat) : State :=
  let s := if bits v 29 29 = 1 then s.setFlag F.TIME_TPO_CTRL_ARM_ERR false k else s
  let s := if bits v 28 28 = 1 then s.setFlag F.TIME_TPO_CTRL_LATE false k else s
  let s := if bits v 30 30 = 1 then s.tpoOff k else s
  if bits v 31 31 = 1 then s.tpoArm k (bits v 23 0) else s.setFld F.TIME_TPO_CTRL_WIDTH (bits v 23 0) k

/-- A request for a power mode; codes above 4 name none. -/
def modeWrite (m : Fin 21) (v : Nat) (s : State) : Out :=
  match bits v 2 0 with
  | 0 => execRequestRun m s
  | 1 => execRequestIdle m s
  | 2 => execRequestSleep m s
  | 3 => execRequestDeepSleep m s
  | 4 => execRequestOff m s
  | _ => .next s

/-- DERRICK.RP_BASE and RP_CFG take writes only while the pair is OFF (R406), and never from master 16 for a LOCAL pair (R429). -/
def State.ringCfgWrite (s : State) (m : Nat) (k : RKey) (v : Word) : State :=
  if (m == 16 && !s.rpPcie k.i) || !s.isOff .ring k.i then s.ringAccess k.i else s.plainWrite m k v

/-! ### The single step (R204) -/

/-- Execute the instruction that an engine is about to execute, whatever it is. -/
def State.ceExecute (s : State) (c : Fin 8) (fld fst : Out) : Out :=
  match s.ceNext c with
  | none => execReservedOpcode c s
  | some op =>
    match op with
    | .nop => execNop c s
    | .ldi .. => execLdi c s
    | .ldip .. => execLdip c s
    | .move .. => execMove c s
    | .ld .. => execLd c 0 s
    | .st .. => execSt c 0 s
    | .fld .. => fld
    | .fst .. => fst
    | .mac .. => execMac c s
    | .dmac .. => execDmac c s
    | .accop .. => execAccop c s
    | .rnd .. => execRnd c s
    | .aluh .. => execAluh c s
    | .aluw .. => execAluw c s
    | .shh .. => execShh c s
    | .sincos .. => execSincos c s
    | .recip .. => execRecip c s
    | .rsqrt .. => execRsqrt c s
    | .atlas .. => execAtlas c s
    | .waitev .. => execWaitev c s
    | .wpwm .. => execWpwm c s
    | .publ .. => execPubl c s
    | .b .. => execB c s
    | .call .. => execCall c s
    | .ret => execRet c s
    | .loop .. => execLoop c s
    | .bkpt => execBkpt c s
    | .movsr .. => execMovsr c s

/-- After a stepped instruction the engine is halted again: at once, asleep in WAITEV too, or once what the instruction has begun completes. -/
def State.rehalt (s : State) (c : Nat) : State :=
  let e := s.engine c
  match e.wait with
  | .none => s.setEngine c { e with halted := true, haltedSince := s.now }
  | .event _ _ => s.setEngine c { e with halted := true, haltedSince := s.now }
  | _ => s.setEngine c { e with haltAsked := true, haltedSince := s.now }

/-- An engine leaves its halt for one instruction; the watchdogs of R200 and R201 have not run meanwhile. -/
def State.unhalt (s : State) (c : Nat) : State :=
  let e := s.engine c
  let gone := s.now - e.haltedSince
  s.setEngine c { e with halted := false, lastReturn := e.lastReturn + gone, loopFrom := e.loopFrom + gone }

/-! ### FLD (R176) -/

/-- The domain of an address within the register blocks (R54). -/
def blockDomain (a : Nat) : Nat :=
  let o := a - 0x40000000
  match o / 0x100000 with
  | 0 => 0
  | 3 => if o % 0x100000 / 0x10000 < 4 then 3 else 4
  | 4 => 5
  | 5 => 7
  | 6 => if o % 0x100000 / 0x1000 < 6 then 10 else 11
  | 7 => if o % 0x100000 < 0x80000 then 8 else 7
  | 8 => 1
  | 9 => 9
  | 10 => 9
  | 11 => 9
  | 12 => 0
  | 14 => 8
  | _ => 6

/-- The debug area that guards a register (R204, R244). -/
def debugRegArea : Reg → Option DebugArea
  | .CE_DEBUG_CTRL => some .ceHalt
  | .CE_BREAK => some .ceHalt
  | .CE_DBG_SEL => some .ceHalt
  | .CE_DBG_DATA => some .ceHalt
  | .PWM_DEBUG_CTRL => some .pwmFreeze
  | _ => none

/-- Whether a master's access of 4 bytes to a system address is carried out (R31, R52, R204, R244, R445): `right` is 0 read, 1 write. -/
def State.busAllows (s : State) (m a right : Nat) : State × Bool :=
  if a % 4 ≠ 0 then (s, false)
  else
    match regAt a with
    | some k => match debugRegArea k.reg with
      | some area => s.debugAccess m area k.reg k.i right
      | none => s.access m (k.reg.domain k.i) a 4 right
    | none => match memArea a with
      | some x => s.access m x.domain a 4 right
      | none => if 0x40000000 ≤ a ∧ a < 0x40F00000 then s.access m (blockDomain a) a 4 right else (s, false)

/-- What a permitted read of 4 bytes answers; `none` an error. An address of a block without a register reads 0. -/
def State.busValue (s : State) (m a : Nat) : Option Word × State :=
  match regAt a with
  | some k => let (w, s) := s.readReg m k; (some w, s)
  | none => match memArea a with
    | some _ => if s.poisoned a 4 then (none, s) else (some (BitVec.ofNat 32 (leNat (s.sysBytes a 4))), s)
    | none => (some 0, s)

/-- FLD Dd, [Da]: the access begins and is judged by the domain and the MPU. -/
def State.ceFld (s : State) (c d a : Nat) : State :=
  let e := s.engine c
  let addr := e.dReg a
  if addr % 4 ≠ 0 then s.engineFault c .CE_ALIGN
  else
    let (s, ok) := s.busAllows c addr 0
    s.setEngine c { s.engine c with wait := .fld d addr (!ok) }

def execFld (c : Fin 8) (s : State) : Out :=
  .next (s.ceRun c fun
    | .fld d a => some (s.ceFld c d a)
    | _ => none)

/-- The error response of an FLD or FST (R176). -/
def State.ceBusError (s : State) (c : Nat) : State := s.engineFault c .CE_BUS_ERROR

/-- What the ECC of a memory finds in a word read (R566): 1 a corrected error, 2 an uncorrectable one. -/
def State.busEcc (s : State) (m a ecc : Nat) : State :=
  match memOf a with
  | none => s
  | some k => if ecc = 1 then s.eccCorr m k (a / 8 * 8) else if ecc = 2 then s.eccUncorr m k (a / 8 * 8) else s

/-- The fabric read of an FLD returns, its domain still on. -/
def execFldDone (c : Fin 8) (ecc : Fin 3) (s : State) : Out :=
  let c := c.val
  match (s.engine c).wait with
  | .fld d a denied =>
    let on := match regAt a with
      | some k => s.pdOn (k.reg.domain k.i)
      | none => match memArea a with
        | some x => s.pdOn x.domain
        | none => true
    if denied || !on then .next (s.ceBusError c)
    else
      let s := s.busEcc c a ecc.val
      match s.busValue c a with
      | (none, s) => .next (s.ceBusError c)
      | (some w, s) => .next (((s.setEngine c { s.engine c with wait := .none }).ceDo c (·.setD d w.toNat)).ceBoundary c)
  | _ => .next s

/-! ### Writes over the fabric -/

/-- A permitted write to a register; false a bus error that changes nothing. Bits of one register act in the order halt, step, resume; disable, enable (R44);
freeze, release; abort, go. -/
def State.regWrite (s : State) (m : Fin 21) (k : RKey) (v : Word) (step : Fin 8 → State → State) : State × Bool :=
  let n := v.toNat
  let i := k.i
  let app := decide (8 ≤ m.val) && decide (m.val ≤ 13)
  let only (hi : Nat) (s : State) (o : Out) : State := if bitAt n hi then s.outState o else s
  match k.reg with
  | .PROT_BOOTLOCK => (s.outState (execBootlockWrite m n s), true)
  | .PROT_BOOT_CONFIRM => (s.outState (execBootConfirm m n s), true)
  | .SYSCTL_RESET_REQ => (s.outState (execResetReq m v s), true)
  | .SYSCTL_PWR_MODE => (s.outState (modeWrite m n s), true)
  | .SYSCTL_PD_ON => (s.outState (execPdOn m n s), true)
  | .SYSCTL_PD_OFF => (s.outState (execPdOff m n s), true)
  | .SYSCTL_CG_RUN => (s.outState (execClockGateWrite m 0 (Fin.ofNat 3 i) v s), true)
  | .SYSCTL_CG_SLEEP => (s.outState (execClockGateWrite m 1 (Fin.ofNat 3 i) v s), true)
  | .SYSCTL_CG_DSLEEP => (s.outState (execClockGateWrite m 2 0 v s), true)
  | .SYSCTL_WDT_KICK => (s.outState (execWdtKick m v s), true)
  | .SYSCTL_WDT_CTRL => (s.wdtWrite m k v, true)
  | .CE_DEBUG_CTRL =>
    let s := s.setFld F.CE_DEBUG_CTRL_BP_EN (bits n 5 4) i
    let s := only 0 s (execCeHaltReq m (Fin.ofNat 8 i) s)
    let s := if bitAt n 2 then step (Fin.ofNat 8 i) s else s
    (only 1 s (execCeResume m (Fin.ofNat 8 i) s), true)
  | .CE_DBG_DATA => (s.debugWrite i n, true)
  | .PWM_LS_CMP =>
    if m.val < 8 && (s.engine m.val).writes.contains i then (s.outState (execLsCmpWrite m (Fin.ofNat 2 i) (Fin.ofNat 6 k.j) n s), true) else (s, false)
  | .PWM_DEBUG_CTRL =>
    let s := only 0 s (execPwmFreeze m (Fin.ofNat 2 i) s)
    (only 1 s (execPwmRelease m (Fin.ofNat 2 i) s), true)
  | .ADC_SW_START => (only 8 s (execAdcSwStart m (Fin.ofNat 6 i) (Fin.ofNat 8 n) s), true)
  | .DERRICK_RP_CTRL =>
    let s := only 1 s (execRpDisable m (Fin.ofNat 64 i) s)
    (only 0 s (execRpEnable m (Fin.ofNat 64 i) s), true)
  | .DERRICK_DB_SQ => (s.outState (execDbSqWrite m (Fin.ofNat 64 i) (Fin.ofNat 4096 n) s), true)
  | .DERRICK_DB_CQ => (s.outState (execDbCqWrite m (Fin.ofNat 64 i) (Fin.ofNat 4096 n) s), true)
  | .DERRICK_RP_BASE_LO => (s.ringCfgWrite m.val k v, true)
  | .DERRICK_RP_BASE_HI => (s.ringCfgWrite m.val k v, true)
  | .DERRICK_RP_CFG => (s.ringCfgWrite m.val k v, true)
  | .TIME_TPO_START_LO => if app then (s.plainWrite m.val k v, true) else (s, false)
  | .TIME_TPO_START_HI => if app then (s.plainWrite m.val k v, true) else (s, false)
  | .TIME_TPO_PERIOD => if app then (s.plainWrite m.val k v, true) else (s, false)
  | .TIME_TPO_CTRL => if app then (s.tpoWrite i n, true) else (s, false)
  | .ETH_MDIO => if app then (if bitAt n 31 then (s.outState (execMdioGo m v s), true) else (s.mdioWrite v, true)) else (s, false)
  | .MEMCTL_MARCH_CTRL =>
    if !app then (s, true)
    else
      let s := only 30 s (execMarchAbort m s)
      let s := if s.memc.march.isNone then s.setFld F.MEMCTL_MARCH_CTRL_MEM (bits n 29 27) else s
      (only 31 s (execMarchGo m (Fin.ofNat 8 (bits n 29 27)) s), true)
  | .MEMCTL_MARCH_BANKS => (if app then s.plainWrite m.val k v else s, true)
  | .MEMCTL_CONF_CNT => ({ s with memc := { s.memc with conf := s.memc.conf.setAt 0 (32 * s.fld F.MEMCTL_CONF_SEL_ARB + i) n } }, true)
  | .PCIE_CTRL =>
    let s := s.plainWrite m.val k v
    (if s.flag F.PCIE_CTRL_LINK_EN then s else s.linkDown, true)
  | _ => (s.plainWrite m.val k v, true)

/-- A write of 4 bytes to a system address by a master; false a bus error. -/
def State.busWriteWith (s : State) (m : Fin 21) (a : Nat) (v : Word) (step : Fin 8 → State → State) : State × Bool :=
  let (s, ok) := s.busAllows m.val a 1
  if !ok then (s, false)
  else
    match regAt a with
    | some k => s.regWrite m k v step
    | none => match memArea a with
      | some .rom => (s, false)
      | some .mramWindow => (s, false)
      | some _ => if s.partPoisoned a 4 then (s, false) else (s.sysWrite a (leBytes 4 v.toNat), true)
      | none => (s, true)

/-- FST Dd, [Da] with what a step of another engine would be: no engine reaches a debug register. -/
def State.ceFst (s : State) (c : Fin 8) (d a : Nat) : State :=
  let e := s.engine c
  let addr := e.dReg a
  if addr % 4 ≠ 0 then s.engineFault c .CE_ALIGN
  else
    let (s, ok) := s.busWriteWith (Fin.ofNat 21 c.val) addr (BitVec.ofNat 32 (e.dReg d)) (fun _ s => s)
    if ok then s.ceDo c id else s.ceBusError c

def execFst (c : Fin 8) (s : State) : Out :=
  .next (s.ceRun c fun
    | .fst d a => some (s.ceFst c d a)
    | _ => none)

/-- A halted engine executes one instruction. -/
def State.ceStep (c : Fin 8) (s : State) : State :=
  if !(s.engine c.val).halted || (s.engine c.val).wait != .none then s
  else
    let s := s.unhalt c.val
    (s.outState (s.ceExecute c (execFld c s) (execFst c s))).rehalt c.val

/-- CE.DEBUG_CTRL.STEP (R204), from master 20. -/
def execCeStep (m : Fin 21) (c : Fin 8) (s : State) : Out :=
  let (s, ok) := s.debugAccess m.val .ceHalt .CE_DEBUG_CTRL c.val
  .next (if ok then s.ceStep c else s)

/-- A write of 4 bytes to a system address by a master. -/
def State.busWrite (s : State) (m : Fin 21) (a : Nat) (v : Word) : State × Bool := s.busWriteWith m a v State.ceStep

def execRegisterWrite (m : Fin 21) (addr : Nat) (value : Word) (s : State) : Out := .next (s.busWrite m addr value).1

end Sys2Proof.Machine
end

