-- ==== Sys2Proof/Machine/HkMath.lean ====
section
/-! DEFINITION. The arithmetic of the housekeeping round: the natural logarithm in fixed point, the NTC curve (R583), medians and means (R584, R585). -/

namespace Sys2Proof.Machine

/-- 2⁶⁴, the unit of the fixed-point values here, and ln 2 in it. -/
abbrev fxOne : Int := 18446744073709551616
abbrev fxLn2 : Int := 12786308645202655660

/-- z + z³/3 + z⁵/5 + … from a term on: `t` is z^(2k+1) and `z2` z², in fixed point. -/
def atanhSum (z2 : Int) : Nat → Int → Int → Int
  | 0, _, _ => 0
  | n + 1, t, d => t / d + atanhSum z2 n (t * z2 / fxOne) (d + 2)

/-- ln(num / den) for 1 ≤ num / den ≤ 2, by ln x = 2 · artanh((x − 1) / (x + 1)). -/
def lnUnit (num den : Int) : Int :=
  let z := (num - den) * fxOne / (num + den)
  2 * atanhSum (z * z / fxOne) 24 z 1

/-- ln(num / den) for num ≥ den, halving the ratio as long as it exceeds 2. -/
def lnUp : Nat → Int → Int → Int
  | 0, num, den => lnUnit num den
  | k + 1, num, den => if 2 * den < num then fxLn2 + lnUp k num (2 * den) else lnUnit num den

/-- ln(num / den) of positive numbers, in units of 2⁻⁶⁴, within 10⁻¹⁷. -/
def lnRatio (num den : Int) : Int := if den ≤ num then lnUp 64 num den else -lnUp 64 den num

/-- The temperature of R583 in 0.01 °C, halves upwards, for a ratio p / q with 0 < p < q; `none` where the curve has no value that fits int16. -/
def ntcTemp (r25 b rpu : Int) (p q : Nat) : Option Int :=
  if p = 0 ∨ q ≤ p then none
  else
    let l := lnRatio (rpu * p) (r25 * (q - p : Nat))
    let den := 100 * b * fxOne + 29815 * l
    if den ≤ 0 then none
    else
      let t := roundUpHalf (29815 * b * 100 * fxOne) den.toNat - 27315
      if t < -32768 ∨ 32767 < t then none else some t

/-- A list of values in rising order. -/
def insertUp (x : Int) : List Int → List Int
  | [] => [x]
  | y :: t => if x ≤ y then x :: y :: t else y :: insertUp x t

/-- Twice the median: of an even count the sum of the two middle values (R584). -/
def median2 (l : List Int) : Int :=
  let o := l.foldr insertUp []
  o.getD ((o.length - 1) / 2) 0 + o.getD (o.length / 2) 0

/-- The mean, rounded as in R583. -/
def meanUp (l : List Int) : Int := roundUpHalf (l.foldl (· + ·) 0) (max 1 l.length)

end Sys2Proof.Machine
end

