-- ==== Sys2Proof/Machine/Hk.lean ====
section
/-! DEFINITION. The housekeeping round (R580 to R590). -/

namespace Sys2Proof.Machine

/-- What a sensor reads in a round: its value, if it has one, and whether that breaks it at once (R584). -/
structure Reading where
  value : Option Int
  bad : Bool

/-! ### Sensors (R582 to R585) -/

/-- The neighbours of a control-die sensor in the 4 × 4 grid. -/
def gridNeighbours (i : Nat) : List Nat :=
  (if 4 ≤ i then [i - 4] else []) ++ (if 0 < i % 4 then [i - 1] else []) ++ (if i % 4 < 3 then [i + 1] else []) ++ (if i < 12 then [i + 4] else [])

/-- The neighbours of a sensor. -/
def State.neighbours (s : State) (i : Nat) : List Nat :=
  if i < 16 then gridNeighbours i
  else if i < 28 then
    let n := i - 16
    ((satsOfBridge (bridgeOfSat n)).filter (fun k => k != n && decide (k ≤ n + 2) && decide (n ≤ k + 2))).map (16 + ·)
  else if i = 28 then [0, 4, 8, 12]
  else if i < 35 then
    let g := s.parN P.NTC_GROUP (i - 29)
    if g = 0 then [] else ((List.range 6).filter (fun k => 29 + k != i && s.parN P.NTC_GROUP k == g)).map (29 + ·)
  else if i < 39 then [35, 36, 37, 38].filter (· != i)
  else if i < 43 then [39, 40, 41, 42].filter (· != i)
  else []

/-- The satellites with an island NTC, by sensor. -/
def islandSat (i : Nat) : Nat := [0, 2, 4, 5, 6, 8, 10, 11].getD (i - 35) 0

/-- The reading of a die sensor: no value, or one outside −55.00 °C to 200.00 °C, breaks it. -/
def dieReading : Option Int → Reading
  | none => ⟨none, true⟩
  | some t => ⟨some t, decide (t < -5500) || decide (20000 < t)⟩

/-- The reading of an NTC input from its ratio p / q: outside 0.02 to 0.98 it is broken. -/
def State.ntcReading (s : State) (c : Nat) (p : Int) (q : Nat) : Reading :=
  let bad := decide (100 * p < 2 * q) || decide (98 * q < 100 * p)
  ⟨ntcTemp (s.par P.NTC_CURVE c 0) (s.par P.NTC_CURVE c 1) (s.par P.NTC_CURVE c 2) p.toNat q, bad⟩

/-- The reading of a sensor in a round from the mean codes of the channels and the dies' sensors. A sensor whose satellite is not ON, whose die is
switched off or which nothing has sampled has no reading, and is not judged. -/
def State.reading (s : State) (codes : List Nat) (dies : List (Option Int)) (mram : Option Int) (i : Nat) : Reading :=
  if i < 16 then dieReading (dies.getD i none)
  else if i < 28 then
    let n := i - 16
    if !s.isOn .satellite n then ⟨none, false⟩
    else match (s.sat n).tempAt with
      | some t => if s.elapsed t msT then ⟨none, true⟩ else dieReading (some (s.fldS F.GDS_SENSE_TEMP n))
      | none => ⟨none, s.elapsed (s.lc .satellite n).since msT⟩
  else if i = 28 then (if s.pdOn 5 then dieReading mram else ⟨none, false⟩)
  else if i < 35 then s.ntcReading (i - 29) (codes.getD (i - 29) 0 % 4096 : Nat) 4096
  else if i < 43 then
    let c := 2 * islandSat i + 1
    if s.flag F.ADC_DS_VAL_VALID c then s.ntcReading (i - 29) (s.fldS F.ADC_DS_VAL_VALUE c) 32768 else ⟨none, false⟩
  else if s.sn.ntcSampled then ⟨some (if i = 43 then s.fldS F.SENTINEL_NTC_NTC0 else s.fldS F.SENTINEL_NTC_NTC1), false⟩
  else ⟨none, false⟩

/-- A curve without a value that fits is a free one (the spec states none there). -/
def fillReadings : List (Nat × Reading) → State → List (Nat × Reading) × State
  | [], s => ([], s)
  | (i, r) :: t, s =>
    let (r, s) := if 29 ≤ i ∧ i < 43 ∧ r.value.isNone ∧ (i < 35 ∨ s.flag F.ADC_DS_VAL_VALID (2 * islandSat i + 1)) then
        (let (v, s) := s.free 163; ((⟨some (clampI (-32768) 32767 v), r.bad⟩ : Reading), s))
      else (r, s)
    let (l, s) := fillReadings t s
    ((i, r) :: l, s)

/-- The values of the neighbours that were healthy at the start of the round. -/
def State.healthyValues (s : State) (read : List (Nat × Reading)) (i : Nat) : List Int :=
  (s.neighbours i).filterMap (fun k => if s.hk.broken.contains k then none else (read.find? (fun e => e.1 == k)).bind (fun e => e.2.value))

/-- One sensor: checked, replaced where it is broken, published. `old` is the state at the start of the round. -/
def State.sensorRound (s old : State) (read : List (Nat × Reading)) (i : Nat) (r : Reading) : State :=
  let near := old.healthyValues read i
  let checked := decide (2 ≤ near.length)
  let was := old.hk.broken.contains i
  let off := match r.value with
    | some v => checked && decide (1600 < (2 * v - median2 near).natAbs)
    | none => false
  let run := if off then s.hk.devRun.at 0 i + 1 else 0
  let now := !was && (r.bad || (off && decide (s.parN P.BROKEN_N ≤ run)))
  let broken := was || now
  let h := s.hk
  let s : State := { s with hk := { h with
    devRun := h.devRun.setAt 0 i run
    broken := if now then h.broken ++ [i] else h.broken
    values := if broken then h.values else match r.value with
      | some v => h.values.setAt none i (some v)
      | none => h.values } }
  let s := if now then (s.setFlag F.HKEEP_INT_STATUS_BROKEN true).raise .TEMP_BROKEN i scopeModule 0 none true else s
  let s := s.follow .TEMP_GROUP_LOST i F.HKEEP_INT_STATUS_GROUP_LOST (broken && near.isEmpty)
  let value := if broken then (if near.isEmpty then s.hk.values.at none i else some (meanUp near)) else r.value
  let s := ((s.setFlag F.HKEEP_TEMP_BROKEN broken i).setFlag F.HKEEP_TEMP_REPLACED (broken && !near.isEmpty) i).setFlag F.HKEEP_TEMP_UNCHECKED (!checked) i
  let s := (s.setFld F.HKEEP_TEMP_DEV_RUN (min 15 run) i).setFlag F.HKEEP_TEMP_VALID value.isSome i
  let s := if i < 32 then s.setFld F.HKEEP_BROKEN_LO_SENSOR (putBits (s.fld F.HKEEP_BROKEN_LO_SENSOR) i i (b2n broken))
    else s.setFld F.HKEEP_BROKEN_HI_SENSOR (putBits (s.fld F.HKEEP_BROKEN_HI_SENSOR) (i - 32) (i - 32) (b2n broken))
  match value with
  | some v => s.setFldS F.HKEEP_TEMP_TEMP v i
  | none => s

/-- Every sensor. -/
def State.sensors (s : State) (codes : List Nat) (dies : List (Option Int)) (mram : Option Int) : State :=
  let (read, s) := fillReadings ((List.range 45).map (fun i => (i, s.reading codes dies mram i))) s
  let old := s
  read.foldl (fun s e => s.sensorRound old read e.1 e.2) s

/-- A published temperature. -/
def State.temp (s : State) (i : Nat) : Int := s.fldS F.HKEEP_TEMP_TEMP i
def State.tempValid (s : State) (i : Nat) : Bool := s.flag F.HKEEP_TEMP_VALID i

/-- Whether a sensor of a list reads a threshold or more. -/
def State.anyHot (s : State) (l : List Nat) (t : Int) : Bool := l.any (fun i => s.tempValid i && decide (t ≤ s.temp i))

/-- The thresholds of R586. -/
def State.hotChecks (s : State) : State :=
  let dies := List.range 16
  let s := s.follow .DIE_HOT 255 F.HKEEP_INT_STATUS_DIE_HOT (s.anyHot dies (s.par P.DIE_WARN))
  let s := s.follow .DIE_OVERTEMP 255 F.HKEEP_INT_STATUS_DIE_OT (s.anyHot dies 15500)
  s.follow .MRAM_HOT 255 F.HKEEP_INT_STATUS_MRAM_HOT (s.anyHot [28] 15000)

/-! ### Channels (R581) -/

/-- The factor from the pin to the supply, and the supply's channel. -/
def supplyScale : Nat → Nat × Nat
  | 0 => (6, 1) | 1 => (7, 2) | 2 => (8, 4) | 3 => (9, 4) | _ => (10, 8)

/-- Whether the check reference lies in 1.000 V ± 1 % and the internal ground in ± 10 mV. -/
def channelsOk (codes : List Nat) : Bool :=
  let mv (j : Nat) : Nat := codes.getD j 0 % 4096 * 2500
  decide (990 * 4096 ≤ mv 11) && decide (mv 11 ≤ 1010 * 4096) && decide (mv 20 ≤ 10 * 4096)

/-- The channels whose values are supply or general values: 6 to 10, the general inputs, the reference buffers. -/
def supplyChannel (j : Nat) : Bool := (decide (6 ≤ j) && decide (j ≤ 10)) || (decide (12 ≤ j) && decide (j ≤ 19))

/-- The codes of every channel and the supplies in mV. -/
def State.channels (s : State) (codes : List Nat) : State :=
  let ok := channelsOk codes
  let s := (List.range 21).foldl (fun s j =>
    (s.setFld F.HKEEP_CH_CODE (codes.getD j 0) j).setFlag F.HKEEP_CH_VALID (ok || !supplyChannel j) j) s
  (List.range 5).foldl (fun s k =>
    let (j, f) := supplyScale k
    (s.setFld F.HKEEP_SUPPLY_MV (roundFree 161 ((codes.getD j 0 % 4096 * 2500 * f : Nat) : Int) 4096).toNat k).setFlag F.HKEEP_SUPPLY_VALID ok k) s

/-- The warning and fault levels of a rail in mV (R467); VDD_AON has no fault level. -/
def railLevels : Nat → Nat × Nat × Nat × Nat
  | 0 => (770, 830, 750, 850) | 1 => (1746, 1854, 1710, 1890) | _ => (3201, 3399, 3135, 3465)

/-- Whether a rail's value contradicts its monitor (R590). -/
def State.railOdd (s : State) (k : Nat) : Bool :=
  let (wl, wh, fl, fh) := railLevels k
  let mv := s.fld F.HKEEP_SUPPLY_MV k
  let band := s.fld (railFld k)
  s.flag F.HKEEP_SUPPLY_VALID k &&
  ((band == 0 && (decide (100 * mv < 98 * fl) || decide (102 * fh < 100 * mv))) || (band == 2 && decide (wl ≤ mv) && decide (mv ≤ wh)))

/-- SP1's plausibility check: three rounds in a row. -/
def State.plausCheck (s : State) : State :=
  let run := if [0, 1, 2].any s.railOdd then s.hk.plausRun + 1 else 0
  let s : State := { s with hk := { s.hk with plausRun := run } }
  s.follow .HK_PLAUS 255 F.HKEEP_INT_STATUS_PLAUS (decide (3 ≤ run))

/-! ### Slot temperatures, V_DC, compensation (R587 to R589) -/

/-- T_MAG of a slot: of MAG_NTC, else the highest of the SLOT_NTC inputs, else 25.00 °C; plus MAG_OFFSET. -/
def State.formTmag (s : State) (n : Nat) : State :=
  let k := s.parN P.MAG_NTC n
  let from_ := if k = 255 then ((List.range 6).filter (bitAt (s.parN P.SLOT_NTC n))).map (29 + ·) else [29 + k]
  let t := match from_.map s.temp with
    | [] => 2500
    | t :: l => l.foldl max t
  (s.setFldS F.HKEEP_TMAG_TEMP (sat16 (t + s.par P.MAG_OFFSET n)) n).setFlag F.HKEEP_TMAG_VALID (from_.all s.tempValid) n

/-- V_DC of a bridge: the newest valid output of its DC-link channel. -/
def State.formVdc (s : State) (b : Nat) : State :=
  (s.setFld F.HKEEP_VDC_MV (max 0 (s.vdcMv b)).toNat b).setFlag F.HKEEP_VDC_VALID (s.flag F.ADC_DS_VAL_VALID (vdcCh b)) b

/-- The LPO trim moves by at most one code towards its target. -/
def State.trimRound (s : State) : State :=
  let sum := (List.range 16).foldl (fun a i => a + s.temp i) 0
  let target := (Config.trim25 : Int) + roundUpHalf (Config.lpoTc * (sum - 16 * 2500)) 16000000
  let old := s.hk.trim.getD (Config.trim25 : Int)
  let new := clampI 0 255 (clampI (old - 1) (old + 1) target)
  ({ s with hk := { s.hk with trim := some new } } : State).setFld F.HKEEP_LPO_TRIM_CODE new.toNat

/-- The gain corrections are published; each takes effect at its bridge's next wrap. -/
def State.gainRound (s : State) : State :=
  (List.range 6).foldl (fun s n =>
    let g := clampI (-500) 500 (roundFree 162 (Config.adcGainTc n * (s.temp (Config.adcSensor n % 16) - 2500)) 1000000)
    { s with sense := { s.sense with gainNext := s.sense.gainNext.setAt none n (some g) } }) s

/-! ### The life record's cycles (R627) -/

/-- One value of the hottest sensor: the running minimum and maximum, and whether an excursion of at least `d` has ended. -/
def excursion (d x : Int) : Option Int → Option Int → Option Int × Option Int × Bool
  | none, _ => (some x, none, false)
  | some lo, none => if lo + d ≤ x then (some lo, some x, false) else (some (min lo x), none, false)
  | some lo, some hi => if x ≤ max hi x - d then (some x, none, true) else (some lo, some (max hi x), false)

/-- Temperature cycles of at least 20 K and 80 K. -/
def State.lifeCycles (s : State) : State :=
  match s.hottest with
  | none => s
  | some t =>
    let x := s.life
    let (l2, h2, c2) := excursion 2000 t x.low20 x.high20
    let (l8, h8, c8) := excursion 8000 t x.low80 x.high80
    { s with life := { x with low20 := l2, high20 := h2, cyc20 := x.cyc20 + b2n c2, low80 := l8, high80 := h8, cyc80 := x.cyc80 + b2n c8 } }

/-- Bench mode ends when a DC link reaches 60 V in a round: every bridge takes SPO (R398). -/
def State.benchCheck (s : State) : State :=
  if s.island.bench && [0, 1].any (fun b => s.flag F.HKEEP_VDC_VALID b && decide (60000 ≤ s.fld F.HKEEP_VDC_MV b)) then
    let s : State := { s with island := { s.island with bench := false } }
    (s.fixSafe [0, 1] (fun _ => .spo)).raise .BENCH_EXIT 255 scopeModule
  else s

/-! ### The round (R580) -/

/-- A round ends and its values are published together: the mean codes of channels 0 to 23, the control-die sensors and the MRAM die's (0.01 °C; none:
no value). A round that ends when the next is due is late, and the next starts at its end. -/
def execHkRound (codes : List Nat) (dies : List (Option Int)) (mram : Option Int) (s : State) : Out :=
  match s.hk.roundAt with
  | none => .next s
  | some t =>
    if !s.pdOn 8 || !s.gateOpen 22 || !s.gateOpen 23 || s.lpo < t then .next s
    else
      let late := s.elapsedLpo t msT
      let s := s.takeEffect 0x0F00 0x0F46 0
      let s := (List.range 15).foldl (fun s k => s.takeEffect 0x0F40 0x0F44 (k + 1)) s
      let s := (s.channels codes).sensors codes dies mram
      let s := ((s.formTmag 0).formTmag 1).hotChecks
      let s := (((s.formVdc 0).formVdc 1).trimRound).gainRound
      let s := (s.setFld F.HKEEP_STATUS_ROUND (s.fld F.HKEEP_STATUS_ROUND + 1)).setFlag F.HKEEP_STATUS_LATE late
      let s : State := { s with hk := { s.hk with roundAt := some (if late then s.lpo else t + msT) } }
      let s := if late then (s.setFlag F.HKEEP_INT_STATUS_ROUND_LATE true).raise .HK_ROUND_LATE 255 scopeModule else s
      let s := if s.pdOn 1 then s.plausCheck.lifeCycles else s
      let s := (s.strataCheck 0 (s.fldS F.HKEEP_TMAG_TEMP 0)).strataCheck 1 (s.fldS F.HKEEP_TMAG_TEMP 1)
      .next ([0, 1].foldl (fun s n => if (s.slot n).inj.bench && !s.injBench n then s.injAbort n else s) s.benchCheck)

end Sys2Proof.Machine
end

