-- ==== Sys2Proof/Machine/SetState.lean ====
section
/-! DEFINITION. The descriptors SET_STATE (R418) and PROG_LOAD (R196). -/

namespace Sys2Proof.Machine

/-! ### SET_STATE -/

/-- The kinds of R418: the function, how many targets, the right, and whether only a disable is allowed. -/
def setStateKind : Nat → Option (FuncKind × Right × Bool)
  | 0 => some (.slot, .drive, false)
  | 1 => some (.bridge, .drive, false)
  | 2 => some (.satellite, .drive, false)
  | 3 => some (.posIf, .drive, false)
  | 4 => some (.posCmp, .drive, false)
  | 5 => some (.dressing, .roles [1, 2], false)
  | 6 => some (.injector, .roles [1, 2], true)
  | 7 => some (.engine, .driveOr [2], true)
  | 8 => some (.discharge, .drive, true)
  | 9 => some (.can, .drive, false)
  | 10 => some (.rule, .roles [1, 2], false)
  | _ => none

/-- What every SET_STATE asks of its descriptor; its right and its range of targets depend on KIND. -/
def setStateSpec : OpSpec := ⟨0x11, [1], .any, false, 16, [(24, 1), (25, 1)]⟩

/-- RESULT: LC_STATE and LC_PENDING at acceptance. -/
def State.lcResult (s : State) (k : FuncKind) (n : Nat) : Nat :=
  let l := s.lc k n
  l.state.ctorIdx + 4 * l.pending.ctorIdx

/-- A request that reaches its lifecycle: the completion acknowledges a discard (R42). -/
def State.setStateDone (s : State) (p : Nat) (w : WorkItem) (k : FuncKind) (n : Nat) : State :=
  (s.setLc k n { s.lc k n with discard := false }).finish p w.wid St.ok (s.lcResult k n)

/-- The checks shared by both requests: KIND, the right, TARGET. -/
def State.setState (s : State) (p : Nat) (w : WorkItem) (enable : Bool) (act : State → FuncKind → Nat → State) : State :=
  match setStateKind (rawField w.raw 24 1) with
  | none => s.finish p w.wid St.badField 0
  | some (k, right, disableOnly) =>
    if !s.holds p right then s.finish p w.wid St.roleRefused 0
    else if (enable && disableOnly) || decide (k.count ≤ rawTarget w.raw) then s.finish p w.wid St.badField 0
    else act s k (rawTarget w.raw)

/-- SET_STATE with REQUEST = 1. A refusal never reaches the lifecycle (R44). -/
def execSetStateEnable (p : Fin 64) (s : State) : Out :=
  .next (s.runDescIf p.val setStateSpec (fun w => rawField w.raw 25 1 == 1) fun s w =>
    s.setState p.val w true fun s k n =>
      let st := s.enableStatus k n
      if st ≠ 0 then s.finish p.val w.wid st 0
      else ((s.enableFunc k n).setStateDone p.val w k n))

/-- SET_STATE with REQUEST = 2; any other REQUEST completes with BAD_FIELD. -/
def execSetStateDisable (p : Fin 64) (s : State) : Out :=
  .next (s.runDescIf p.val setStateSpec (fun w => rawField w.raw 25 1 != 1) fun s w =>
    if rawField w.raw 25 1 ≠ 2 then s.finish p.val w.wid St.badField 0
    else s.setState p.val w false fun s k n =>
      if !s.pdOn (funcDomain k n) || s.disableRefused k n then s.finish p.val w.wid St.stateRefused 0
      else
        let was := (s.lc k n).state
        let s := s.disableFunc k n
        let s := s.setStateDone p.val w k n
        if was == .starting then s.settleDomains else s)

/-! ### PROG_LOAD -/

/-- PROG_LOAD's descriptor; its right depends on the image's signer. -/
def progLoadSpec : OpSpec := ⟨0x14, [1], .any, true, 8, [(24, 1), (25, 1), (26, 1)]⟩

/-- Whether the body's fields are in their ranges (R195, R417). -/
def progLoadForm (d : List Byte) : Bool :=
  decide (rawField d 24 1 ≤ 2) && decide (rawField d 25 1 ≤ 1) && (decide (rawField d 26 1 ≤ 63) || rawField d 26 1 == 255)

/-- The load that a descriptor names. -/
def loadOf (p : Nat) (w : WorkItem) : CeLoad := ⟨rawAddr w.raw, rawField w.raw 24 1, rawField w.raw 25 1, rawField w.raw 26 1, p, w.wid⟩

/-- A load accepted while the engine is STOPPING is its pending enable; a later one replaces it (R196). -/
def State.holdLoad (s : State) (c : Nat) (l : CeLoad) : State :=
  let old := (s.engine c).held
  let s := (s.setEngine c { s.engine c with held := some l }).updLc .engine c Lc.enable
  match old with
  | some o => s.finish o.fromPair o.wid St.superseded 0
  | none => s

/-- A load accepted while the engine is OFF: STARTING, whose end reads and verifies the image. -/
def State.startLoad (s : State) (c : Nat) (l : CeLoad) : State :=
  ((s.setEngine c { s.engine c with load := some l }).updLc .engine c Lc.enable).engineStarting c l

/-- The load of an engine's program. An installer's image is recorded in the audit log first, with the digest of the whole image (R458). -/
def execProgLoad (p : Fin 64) (s : State) : Out :=
  .next (s.runDesc p.val progLoadSpec fun s w =>
    let c := rawTarget w.raw
    let l := loadOf p.val w
    let refuse (s : State) (st : Nat) : State := (s.loadRefused c).finish p.val w.wid st 0
    let role := s.sessionRole p.val
    let signer := if s.memOk 15 l.image 128 false then leNat (s.sysBytes (l.image + 6) 1) else 2
    if !progLoadForm w.raw then s.finish p.val w.wid St.badField 0
    else if !s.rpDrive p.val && (signer == 0 || (signer != 1 && role != 2)) then s.finish p.val w.wid St.roleRefused 0
    else if !s.pdOn (ceDomain c) || s.stillFaulted .engine c then s.finish p.val w.wid St.stateRefused 0
    else
      let st := s.loadStatus c w.raw role (s.rpDrive p.val)
      if st ≠ 0 then refuse s st
      else
        let go (s : State) : State := if s.isStopping .engine c then s.holdLoad c l else s.startLoad c l
        match imageHead (s.sysBytes l.image 128) with
        | none => refuse s St.validationRefused
        | some h =>
          if h.signer = 0 then go s
          else
            let (s, ok) := s.auditWrite role 3 p.val 0x14 c (digest4 (s.sysBytes l.image (128 + h.bodyLen)))
            if ok then go s else s.finish p.val w.wid St.stateRefused 0)

end Sys2Proof.Machine
end

