-- ==== Sys2Proof/Machine/Params.lean ====
section
/-! DEFINITION. PARAM_WRITE and PARAM_READ (R47 to R51, R419, R451, R452, R632, R633), and when each record comes into force. -/

namespace Sys2Proof.Machine

/-! ### The list at DATA (R419) -/

/-- Cut a list of entries into (ID, value); `none` where its form is wrong. What follows the last entry is not looked at. -/
def cutEntries : Nat → List Byte → Option (List (Nat × List Byte))
  | 0, _ => some []
  | k + 1, l =>
    let len := leNat ((l.drop 2).take 2)
    let pad := (4 - len % 4) % 4
    if l.length < 4 + len + pad || ((l.drop (4 + len)).take pad).any (· != 0#8) then none
    else (cutEntries k (l.drop (4 + len + pad))).map ((leNat (l.take 2), (l.drop 4).take len) :: ·)

/-- The number of bytes that a list of entries takes. -/
def entriesLen : List (Nat × List Byte) → Nat
  | [] => 0
  | e :: t => 4 + e.2.length + (4 - e.2.length % 4) % 4 + entriesLen t

/-- The elements that an entry writes; a list also writes its number of entries and clears the elements behind them. -/
def entryWrites (inst : Nat) (d : PDef) (n : Nat) (v : List Byte) : Written :=
  let vals := readElems (d.elemsOf n) v
  let given := (List.range vals.length).map (fun k => ((d.id, k), vals.getD k 0))
  if d.listOf = 0 then given
  else given ++ ((d.id, P.lenIdx), (n : Int)) ::
    ((List.range d.elems.length).drop vals.length).map (fun k => ((d.id, k), paramDefault ⟨d.id, inst, k⟩))

/-- What the entries write into the record `r` of an instance, the last entry first; `none` where an ID, its instance or a length is wrong. -/
def recordWrites (r : PRecord) (inst : Nat) : List (Nat × List Byte) → Option Written
  | [] => some []
  | e :: t =>
    match paramDef e.1 with
    | none => none
    | some d =>
      if paramRecordOf e.1 != some r || !idFits e.1 inst then none
      else match d.entriesIn e.2.length, recordWrites r inst t with
        | some n, some w => some (w ++ entryWrites inst d n e.2)
        | _, _ => none

/-- Whether every element that an entry gives lies in its range. -/
def entryInRange (e : Nat × List Byte) : Bool :=
  match paramDef e.1 with
  | none => false
  | some d => match d.entriesIn e.2.length with
    | none => false
    | some n =>
      let es := d.elemsOf n
      let vs := readElems es e.2
      (List.range es.length).all (fun k => match es[k]? with
        | some x => x.ok (vs.getD k 0)
        | none => false)

/-! ### Roles (R48, R373, R447, R451) -/

/-- The number of a role. -/
def Role.num : Role → Nat
  | .operator => 1 | .installer => 2 | .maker => 3

/-- Whether a session of a role may write a parameter. -/
def roleMay (role : Nat) (l : List Role) : Bool := l.any (fun r => r.num == role) || (role == 3 && l.contains .installer)

/-- Whether the writes hold an expert-level setting: LEG_MODE = INDEPENDENT, a timeline, CAN_BT_RAW or CAN_TDCO (R242, R519). -/
def isExpert (w : Written) : Bool :=
  w.any (fun e => (e.1.1 == P.LEG_MODE && e.2 == 1) || e.1.1 == P.TIMELINE || e.1.1 == P.CAN_BT_RAW || e.1.1 == P.CAN_TDCO)

/-- Whether the role of a session may write these elements. FAULT_RC is judged entry by entry (R373), SAFETY_HALT unlocked by the maker alone. -/
def writeRoleOk (role : Nat) (w : Written) : Bool :=
  role != 0 && (!isExpert w || role == 2) &&
  w.all (fun e => e.1.1 == P.FAULT_RC || (match paramDef e.1.1 with
    | some d => roleMay role d.roles && !(e.1.1 == P.DEBUG_UNLOCK && role != 3 && bits e.2.toNat 4 4 == 1)
    | none => false))

/-! ### The checks of a record, in the order of this function -/

/-- The status of a PARAM_WRITE before its audit entry: roles, ranges, bounds, the target's state, consistency. -/
def State.writeStatus (s : State) (r : PRecord) (inst role : Nat) (es : List (Nat × List Byte)) (w : Written) : Nat :=
  if !writeRoleOk role w then St.roleRefused
  else if !es.all entryInRange then St.validationRefused
  else if r.first = P.FAULT_RC ∧ s.faultRcStatus role w ≠ 0 then s.faultRcStatus role w
  else if !s.writtenBounds w then St.boundRefused
  else if !s.recordState r inst w then St.stateRefused
  else if !s.recordOk r inst w then St.validationRefused
  else if r.first = P.MAKER_BOUNDS ∧ boundsForm (s.boundsOf w) = false then St.validationRefused
  else if r.first = P.MAKER_BOUNDS ∧ s.boundsHold (s.boundsOf w) = false then St.boundRefused
  else 0

/-! ### Coming into force -/

/-- The values are stored. -/
def State.storeWrites (s : State) (inst : Nat) (w : Written) : State := w.reverse.foldl (fun s e => s.setStored e.1.1 inst e.1.2 e.2) s

/-- The role keys and the token are erased on entry to RMA (R437). -/
def State.rmaErase (s : State) : State :=
  let gone (e : PKey × Int) : Bool := e.1.id == P.INSTALLER_KEY || e.1.id == P.OPERATOR_KEY
  let s : State := { s with stored := s.stored.filter (fun e => !gone e), params := s.params.filter (fun e => !gone e),
                            prot := { s.prot with token := none } }
  (((s.setFlag F.PROT_STATUS_TOKEN_HELD false).closeRole 1).closeRole 2).judgeImmobs

/-- The sessions of a role whose key has been written close (R449, R461). -/
def State.keyWritten (s : State) (r : PRecord) : State :=
  if r.first = P.OPERATOR_KEY then s.closeRole 1 else if r.first = P.INSTALLER_KEY then s.closeRole 2 else s

/-- The lifecycle advances: the fuses are written (R437). -/
def State.advance (s : State) (v : Nat) : State :=
  let s := ({ s with prot := { s.prot with lifecycle := v } } : State).setFld F.PROT_STATUS_LIFECYCLE v
  if v = 2 then s.rmaErase else s

/-- Records of a slot that may be written while it is not OFF take effect at its next reference step (R61). -/
def State.slotRecord (s : State) (r : PRecord) (n : Nat) : State :=
  if s.isOff .slot n then s.takeEffect r.first r.last n
  else s.setSlot n { s.slot n with recDue := (s.slot n).recDue ++ [(r.first, r.last)] }

/-- A satellite record of a satellite that is not OFF applies at its next events, but for SUPPLY_MODE and CH0_MODE (R289). -/
def State.satRecord (s : State) (r : PRecord) (n : Nat) : State :=
  if s.isOff .satellite n then s
  else
    let ids := ((r.members n).map (·.id)).filter (fun id => id != P.SUPPLY_MODE && id != P.CH0_MODE)
    (ids.foldl (fun s id => s.takeEffect id id n) s).satMirrors n

/-- A record that has been stored comes into force, at once or when its chapter says. -/
def State.recordStored (s : State) (r : PRecord) (n : Nat) (w : Written) : State :=
  let now (s : State) : State := s.takeEffect r.first r.last n
  let s := match r.first with
    | 0x0200 => now s
    | 0x0220 => s.slotRecord r n
    | 0x0240 => s.slotRecord r n
    | 0x0260 => s.slotRecord r n
    | 0x0270 => s.slotRecord r n
    | 0x0280 => s.slotRecord r n
    | 0x0400 => (now s).geoWritten n
    | 0x0420 => now s
    | 0x0440 => now s
    | 0x0500 => if (s.pwm n).running then s.setPwm n { s.pwm n with tlReload := true } else s
    | 0x0520 => if (s.pwm n).running then s.setPwm n { s.pwm n with tlReload := true } else s
    | 0x0600 => s.satRecord r n
    | 0x0700 => (s.takeEffect P.ADC_MODE P.AVG_SHIFT n).nextConv n
    | 0x0750 => now s
    | 0x0940 => now s
    | 0x0950 => now s
    | 0x0A00 => now s
    | 0x0A10 => now s
    | 0x0A20 => now s
    | 0x0B02 => (now s).judgeImmobs
    | 0x0B21 => s.advance (s.after 0 w P.LIFECYCLE_ADVANCE 0).toNat
    | 0x0C60 => now s
    | 0x0D10 => now s
    | 0x0D20 => if s.flag F.TIME_TPO_CTRL_ARM n then s else now s
    | 0x0D30 => now s
    | 0x0D40 => now s
    | _ => if 0x0B00 ≤ r.first ∧ r.first ≤ 0x0B20 then now s else s
  if (0x0200 ≤ r.first ∧ r.first ≤ 0x02FF) ∨ r.first = 0x0420 then s.giveImages n else s

/-! ### The descriptors -/

def paramWriteSpec : OpSpec := ⟨0x12, [1], .any, true, 0x10000, [(24, 2)]⟩
def paramReadSpec : OpSpec := ⟨0x13, [1], .any, true, 0x10000, [(24, 2)]⟩

/-- The KIND and DIGEST of the audit entry (R457, R634). -/
def writeAudit (r : PRecord) (w : Written) (list : List Byte) : Nat × List Byte :=
  if r.first = P.DEBUG_UNLOCK then (12, digest4 list)
  else if r.first = P.LIFECYCLE_ADVANCE then (13, leBytes 4 (((w.find? (fun e => e.1.1 == P.LIFECYCLE_ADVANCE)).map (·.2.toNat)).getD 0))
  else (if isExpert w then 2 else 1, digest4 list)

/-- A record whose form has been read: checked, recorded in the audit log, stored. -/
def State.writeRecord (s : State) (n : Nat) (wi : WorkItem) (r : PRecord) (es : List (Nat × List Byte)) (w : Written) (list : List Byte) : State :=
  let inst := rawTarget wi.raw
  let role := s.sessionRole n
  let st := s.writeStatus r inst role es w
  if st ≠ 0 then s.finish n wi.wid st 0
  else
    let (kind, digest) := writeAudit r w list
    let seq := s.prot.audit.seq
    let (s, ok) := s.auditWrite role kind n r.first inst digest
    if !ok then s.finish n wi.wid St.stateRefused 0
    else
      let s := if r.first = P.LIFECYCLE_ADVANCE then s else s.storeWrites inst w
      ((s.recordStored r inst w).finish n wi.wid St.ok seq).keyWritten r

/-- PARAM_WRITE. `data` is what the PCIe host's memory answers. -/
def execParamWrite (n : Fin 64) (data : Option (List Byte)) (s : State) : Out :=
  .next (s.runDesc n.val paramWriteSpec (fun s w =>
    let count := rawField w.raw 24 2
    let refuse (st : Nat) : State := s.finish n.val w.wid st 0
    if count = 0 ∨ 64 < count then refuse St.badField
    else match s.dataIn n.val w data with
      | none => refuse St.dataError
      | some d =>
        match cutEntries count d with
        | none => refuse St.badField
        | some es =>
          match paramRecordOf (es.headD (0, [])).1 with
          | none => refuse St.badField
          | some r =>
            if r.insts ≤ rawTarget w.raw then refuse St.badField
            else match recordWrites r (rawTarget w.raw) es with
              | none => refuse St.badField
              | some ws => s.writeRecord n.val w r es ws (d.take (entriesLen es))))

/-- PARAM_READ: the whole record of an ID, as it is stored. -/
def execParamRead (n : Fin 64) (s : State) : Out :=
  .next (s.runDesc n.val paramReadSpec (fun s w =>
    let id := rawField w.raw 24 2
    let inst := rawTarget w.raw
    match paramDef id, paramRecordOf id with
    | some _, some r =>
      if r.insts ≤ inst || !idFits id inst then s.finish n.val w.wid St.badField 0
      else
        let l := (r.members inst).flatMap (fun d => d.entry (fun k => s.parStored d.id inst k))
        if rawLen w.raw < l.length then s.finish n.val w.wid St.badField 0
        else match s.dataOut n.val w l with
          | none => s.finish n.val w.wid St.dataError 0
          | some s => s.finish n.val w.wid St.ok l.length
    | _, _ => s.finish n.val w.wid St.badField 0))

end Sys2Proof.Machine
end

