-- ==== Sys2Proof/Machine/Snapshot.lean ====
section
/-! DEFINITION. The SNAPSHOT descriptor (R431). -/

namespace Sys2Proof.Machine

/-- The command source of a slot: 0 ring, 1 CAN by record, 2 CAN by handover. -/
def State.sourceCode (s : State) (n : Nat) : Nat :=
  if s.par P.CMD_SOURCE n == 1 then 1 else if (s.slotHost n).source then 2 else 0

/-- The measured speed of a slot: its position source's, else the observer's. -/
def State.slotSpeed (s : State) (n : Nat) : Int :=
  match s.posSource n with
  | some i => s.posSpeed i
  | none => (s.slot n).obsSpeed

/-- The 32 bytes of a slot. -/
def State.snapSlot (s : State) (n : Nat) : List Byte :=
  let x := s.slot n
  let i32 (v : Int) : List Byte := leBytes 4 (ofSigned 32 v)
  leBytes 1 (s.lcBits ⟨.slot, n⟩) ++ leBytes 1 x.cmd.mode ++ leBytes 1 (s.sourceCode n) ++ leBytes 1 (s.slotHost n).policy ++ leBytes 2 x.cmd.seq ++
    leBytes 2 x.limitSrc ++ i32 x.cmd.torque ++ i32 (mNm x.tRef) ++ i32 (s.slotSpeed n) ++
    i32 (if x.cmd.mode = 1 then s.speedTarget n / 10000 else 0) ++ i32 (s.slotVdc n) ++ leBytes 4 0

/-- The 4 bytes of a pair. -/
def State.snapPair (s : State) (n : Nat) : List Byte :=
  let r := s.ring n
  leBytes 2 ((s.lc .ring n).state.code + 4 * s.rpClass n + 32 * s.rpRole n + 128 * s.fld F.DERRICK_RP_BIND_DRIVE n + 256 * s.rpHost n + 512 * b2n r.session.isSome) ++
    leBytes 2 r.head

/-- The 336 bytes. -/
def State.snapshot (s : State) : List Byte :=
  leBytes 8 s.ts ++ leBytes 4 (s.viewReg 15 ⟨.SAFETY_STATUS, 0, 0⟩).toNat ++ leBytes 4 (s.viewReg 15 ⟨.DERRICK_HOST, 0, 0⟩).toNat ++
    s.snapSlot 0 ++ s.snapSlot 1 ++ (List.range 64).flatMap s.snapPair

def snapshotSpec : OpSpec := ⟨0x19, [1], .any, true, 1, []⟩

def execSnapshot (n : Fin 64) (s : State) : Out :=
  .next (s.runDesc n.val snapshotSpec (fun s w =>
    if rawLen w.raw < 336 then s.finish n.val w.wid St.badField 0
    else match s.dataOut n.val w s.snapshot with
      | none => s.finish n.val w.wid St.dataError 0
      | some t => t.finish n.val w.wid St.ok 336))

end Sys2Proof.Machine
end

