-- ==== Sys2Proof/Machine/Dispatch.lean ====
section
/-! DEFINITION. The dispatch: one arm per command, each one call of that command's meaning. -/

namespace Sys2Proof.Machine

def exec (i : Instr) (s : State) : Host.Outcome State Fault Refusal :=
  match i with
  | .registerWrite m addr value => Sys2Proof.Machine.execRegisterWrite m addr value s
  | .unitReset u => Sys2Proof.Machine.execUnitReset u s
  | .clusterReset c => Sys2Proof.Machine.execClusterReset c s
  | .domainReset d cause fault => Sys2Proof.Machine.execDomainReset d cause fault s
  | .resetGuardWithdraw b => Sys2Proof.Machine.execResetGuardWithdraw b s
  | .startSequenceDone k n => Sys2Proof.Machine.execStartSequenceDone k n s
  | .stopSequenceDone k n clampsOk => Sys2Proof.Machine.execStopSequenceDone k n clampsOk s
  | .startingBoundExpiry k n => Sys2Proof.Machine.execStartingBoundExpiry k n s
  | .stoppingBoundExpiry k n => Sys2Proof.Machine.execStoppingBoundExpiry k n s
  | .faultActiveExpiry k => Sys2Proof.Machine.execFaultActiveExpiry k s
  | .referenceStep n => Sys2Proof.Machine.execReferenceStep n s
  | .speedLoopStep n => Sys2Proof.Machine.execSpeedLoopStep n s
  | .currentCycle n => Sys2Proof.Machine.execCurrentCycle n s
  | .flyBemfRest n amp => Sys2Proof.Machine.execFlyBemfRest n amp s
  | .anglePulseEnd n peak ticks => Sys2Proof.Machine.execAnglePulseEnd n peak ticks s
  | .anglePulseDecay n => Sys2Proof.Machine.execAnglePulseDecay n s
  | .flySync n amp tracked => Sys2Proof.Machine.execFlySync n amp tracked s
  | .flyOnDelay n => Sys2Proof.Machine.execFlyOnDelay n s
  | .flySyncTimeout n => Sys2Proof.Machine.execFlySyncTimeout n s
  | .flyBemfOverDc n amp => Sys2Proof.Machine.execFlyBemfOverDc n amp s
  | .stopRampDone n => Sys2Proof.Machine.execStopRampDone n s
  | .zeroCurrentHoldExpiry n => Sys2Proof.Machine.execZeroCurrentHoldExpiry n s
  | .missingPhaseCheck n bemfA bemfB => Sys2Proof.Machine.execMissingPhaseCheck n bemfA bemfB s
  | .injConditionsMet n => Sys2Proof.Machine.execInjConditionsMet n s
  | .seamCheck => Sys2Proof.Machine.execSeamCheck s
  | .tileFillDone n errs => Sys2Proof.Machine.execTileFillDone n errs s
  | .strataReloadDone n errs => Sys2Proof.Machine.execStrataReloadDone n errs s
  | .windowStarvedTimer n => Sys2Proof.Machine.execWindowStarvedTimer n s
  | .dressCreditWindow n => Sys2Proof.Machine.execDressCreditWindow n s
  | .dressPublication n => Sys2Proof.Machine.execDressPublication n s
  | .commitBlock n => Sys2Proof.Machine.execCommitBlock n s
  | .mramAddressParityError => Sys2Proof.Machine.execMramAddressParityError s
  | .mramScrubBlock errs => Sys2Proof.Machine.execMramScrubBlock errs s
  | .ptimeSave => Sys2Proof.Machine.execPtimeSave s
  | .bedrockSigCheck n => Sys2Proof.Machine.execBedrockSigCheck n s
  | .importInstallDone => Sys2Proof.Machine.execImportInstallDone s
  | .atlasExportDone => Sys2Proof.Machine.execAtlasExportDone s
  | .nop c => Sys2Proof.Machine.execNop c s
  | .ldi c => Sys2Proof.Machine.execLdi c s
  | .ldip c => Sys2Proof.Machine.execLdip c s
  | .move c => Sys2Proof.Machine.execMove c s
  | .ld c ecc => Sys2Proof.Machine.execLd c ecc s
  | .st c ecc => Sys2Proof.Machine.execSt c ecc s
  | .fld c => Sys2Proof.Machine.execFld c s
  | .fldDone c ecc => Sys2Proof.Machine.execFldDone c ecc s
  | .fst c => Sys2Proof.Machine.execFst c s
  | .mac c => Sys2Proof.Machine.execMac c s
  | .dmac c => Sys2Proof.Machine.execDmac c s
  | .accop c => Sys2Proof.Machine.execAccop c s
  | .rnd c => Sys2Proof.Machine.execRnd c s
  | .aluh c => Sys2Proof.Machine.execAluh c s
  | .aluw c => Sys2Proof.Machine.execAluw c s
  | .shh c => Sys2Proof.Machine.execShh c s
  | .sincos c => Sys2Proof.Machine.execSincos c s
  | .recip c => Sys2Proof.Machine.execRecip c s
  | .rsqrt c => Sys2Proof.Machine.execRsqrt c s
  | .atlas c => Sys2Proof.Machine.execAtlas c s
  | .atlasLookupDone c => Sys2Proof.Machine.execAtlasLookupDone c s
  | .waitev c => Sys2Proof.Machine.execWaitev c s
  | .waitevResume c => Sys2Proof.Machine.execWaitevResume c s
  | .wpwm c => Sys2Proof.Machine.execWpwm c s
  | .publ c => Sys2Proof.Machine.execPubl c s
  | .publDrainDone c box => Sys2Proof.Machine.execPublDrainDone c box s
  | .b c => Sys2Proof.Machine.execB c s
  | .call c => Sys2Proof.Machine.execCall c s
  | .ret c => Sys2Proof.Machine.execRet c s
  | .loop c => Sys2Proof.Machine.execLoop c s
  | .bkpt c => Sys2Proof.Machine.execBkpt c s
  | .movsr c => Sys2Proof.Machine.execMovsr c s
  | .reservedOpcode c => Sys2Proof.Machine.execReservedOpcode c s
  | .ceTimerExpiry c t => Sys2Proof.Machine.execCeTimerExpiry c t s
  | .ceTimerWrite c => Sys2Proof.Machine.execCeTimerWrite c s
  | .cmdAck c => Sys2Proof.Machine.execCmdAck c s
  | .nowLoRead c => Sys2Proof.Machine.execNowLoRead c s
  | .ceHangExpiry c => Sys2Proof.Machine.execCeHangExpiry c s
  | .ceHaltReq m c => Sys2Proof.Machine.execCeHaltReq m c s
  | .ceStep m c => Sys2Proof.Machine.execCeStep m c s
  | .ceResume m c => Sys2Proof.Machine.execCeResume m c s
  | .ceBreakpoint c => Sys2Proof.Machine.execCeBreakpoint c s
  | .pwmWrap b => Sys2Proof.Machine.execPwmWrap b s
  | .pwmMidPoint b => Sys2Proof.Machine.execPwmMidPoint b s
  | .commitArrival b => Sys2Proof.Machine.execCommitArrival b s
  | .immediateUpdate b => Sys2Proof.Machine.execImmediateUpdate b s
  | .lsCmpWrite m b j value => Sys2Proof.Machine.execLsCmpWrite m b j value s
  | .pwmCompareEdge b c which => Sys2Proof.Machine.execPwmCompareEdge b c which s
  | .deadTimeExpiry b g => Sys2Proof.Machine.execDeadTimeExpiry b g s
  | .minPulseGuardExpiry b g => Sys2Proof.Machine.execMinPulseGuardExpiry b g s
  | .tripAssert b src => Sys2Proof.Machine.execTripAssert b src s
  | .blankClose b levels => Sys2Proof.Machine.execBlankClose b levels s
  | .tlAdcStart b k => Sys2Proof.Machine.execTlAdcStart b k s
  | .tlDsMark b k stream => Sys2Proof.Machine.execTlDsMark b k stream s
  | .tlCapture b k => Sys2Proof.Machine.execTlCapture b k s
  | .tlEngineEvent b k => Sys2Proof.Machine.execTlEngineEvent b k s
  | .tlTpoEdge b k => Sys2Proof.Machine.execTlTpoEdge b k s
  | .pwmFreeze m b => Sys2Proof.Machine.execPwmFreeze m b s
  | .pwmRelease m b => Sys2Proof.Machine.execPwmRelease m b s
  | .capTsLoRead m b n => Sys2Proof.Machine.execCapTsLoRead m b n s
  | .capInfoRead m b n => Sys2Proof.Machine.execCapInfoRead m b n s
  | .syncInEdge low high => Sys2Proof.Machine.execSyncInEdge low high s
  | .syncLinkTimeout b => Sys2Proof.Machine.execSyncLinkTimeout b s
  | .satTurnOnEdge n => Sys2Proof.Machine.execSatTurnOnEdge n s
  | .satTurnOffEdge n => Sys2Proof.Machine.execSatTurnOffEdge n s
  | .handshakeRelease n => Sys2Proof.Machine.execHandshakeRelease n s
  | .handshakeTimeout n => Sys2Proof.Machine.execHandshakeTimeout n s
  | .minOnTimeExpiry n => Sys2Proof.Machine.execMinOnTimeExpiry n s
  | .gateStateChange n on => Sys2Proof.Machine.execGateStateChange n on s
  | .gateStuckTimer n => Sys2Proof.Machine.execGateStuckTimer n s
  | .satEdgeMeasured n off vPre crossed softSwitched half => Sys2Proof.Machine.execSatEdgeMeasured n off vPre crossed softSwitched half s
  | .ch0RangeSwitch n => Sys2Proof.Machine.execCh0RangeSwitch n s
  | .keepaliveSend n => Sys2Proof.Machine.execKeepaliveSend n s
  | .cfgKeepalive n => Sys2Proof.Machine.execCfgKeepalive n s
  | .cfgWrite n index value => Sys2Proof.Machine.execCfgWrite n index value s
  | .cfgDesatClear n => Sys2Proof.Machine.execCfgDesatClear n s
  | .cfgResume n => Sys2Proof.Machine.execCfgResume n s
  | .cfgStop n => Sys2Proof.Machine.execCfgStop n s
  | .retStatus n => Sys2Proof.Machine.execRetStatus n s
  | .retEdge n => Sys2Proof.Machine.execRetEdge n s
  | .retCond n mv => Sys2Proof.Machine.execRetCond n mv s
  | .retTemp n t => Sys2Proof.Machine.execRetTemp n t s
  | .retRails n vee mv => Sys2Proof.Machine.execRetRails n vee mv s
  | .retHs n => Sys2Proof.Machine.execRetHs n s
  | .retHintAck n => Sys2Proof.Machine.execRetHintAck n s
  | .returnFrameBad n crc => Sys2Proof.Machine.execReturnFrameBad n crc s
  | .returnCarrierLoss n => Sys2Proof.Machine.execReturnCarrierLoss n s
  | .hintAckTimeout n => Sys2Proof.Machine.execHintAckTimeout n s
  | .faultBreak n => Sys2Proof.Machine.execFaultBreak n s
  | .desatDetect n => Sys2Proof.Machine.execDesatDetect n s
  | .desatConfirm n => Sys2Proof.Machine.execDesatConfirm n s
  | .softOffLevel2 n => Sys2Proof.Machine.execSoftOffLevel2 n s
  | .desatClearPoint b => Sys2Proof.Machine.execDesatClearPoint b s
  | .satOtShut n => Sys2Proof.Machine.execSatOtShut n s
  | .uvloEngage n neg mv => Sys2Proof.Machine.execUvloEngage n neg mv s
  | .uvloRelease n neg mv => Sys2Proof.Machine.execUvloRelease n neg mv s
  | .satRailsReady n vcc vee => Sys2Proof.Machine.execSatRailsReady n vcc vee s
  | .txDutyAdjust n => Sys2Proof.Machine.execTxDutyAdjust n s
  | .supplyRegTimer n => Sys2Proof.Machine.execSupplyRegTimer n s
  | .crossCarrierLoss n => Sys2Proof.Machine.execCrossCarrierLoss n s
  | .satLinkLoss n carrier => Sys2Proof.Machine.execSatLinkLoss n carrier s
  | .adcConversionDone n raw => Sys2Proof.Machine.execAdcConversionDone n raw s
  | .adcSwStart m n input => Sys2Proof.Machine.execAdcSwStart m n input s
  | .adcUrgentRequest req => Sys2Proof.Machine.execAdcUrgentRequest req s
  | .adcRefCheck n raw => Sys2Proof.Machine.execAdcRefCheck n raw s
  | .resultRead m n => Sys2Proof.Machine.execResultRead m n s
  | .tripCap1Read m b => Sys2Proof.Machine.execTripCap1Read m b s
  | .ctAssert k mv => Sys2Proof.Machine.execCtAssert k mv s
  | .dsOutput c window => Sys2Proof.Machine.execDsOutput c window s
  | .vdcMismatchTimer => Sys2Proof.Machine.execVdcMismatchTimer s
  | .posQualifyingEdge x back => Sys2Proof.Machine.execPosQualifyingEdge x back s
  | .spdStandstillExpiry x => Sys2Proof.Machine.execSpdStandstillExpiry x s
  | .rsvCarrierPeriod n sin cos lag err angle => Sys2Proof.Machine.execRsvCarrierPeriod n sin cos lag err angle s
  | .rsvExcLimitTimer n => Sys2Proof.Machine.execRsvExcLimitTimer n s
  | .encIllegalTransition n => Sys2Proof.Machine.execEncIllegalTransition n s
  | .encIndex n => Sys2Proof.Machine.execEncIndex n s
  | .hallTransition n state => Sys2Proof.Machine.execHallTransition n state s
  | .hallInvalidState n seven => Sys2Proof.Machine.execHallInvalidState n seven s
  | .serRequestSend n => Sys2Proof.Machine.execSerRequestSend n s
  | .serResponse n bytes framing age => Sys2Proof.Machine.execSerResponse n bytes framing age s
  | .serResponseTimeout n => Sys2Proof.Machine.execSerResponseTimeout n s
  | .pcmpResolverEval k => Sys2Proof.Machine.execPcmpResolverEval k s
  | .pcmpPulseEnd k => Sys2Proof.Machine.execPcmpPulseEnd k s
  | .heartbeatWrite p word => Sys2Proof.Machine.execHeartbeatWrite p word s
  | .heartbeatLoss p => Sys2Proof.Machine.execHeartbeatLoss p s
  | .lockstepMismatch p group => Sys2Proof.Machine.execLockstepMismatch p group s
  | .lockstepSelftestDone p groups => Sys2Proof.Machine.execLockstepSelftestDone p groups s
  | .pairRestartTimeout p => Sys2Proof.Machine.execPairRestartTimeout p s
  | .safeStateChoice a b => Sys2Proof.Machine.execSafeStateChoice a b s
  | .safeDtExpiry b => Sys2Proof.Machine.execSafeDtExpiry b s
  | .safeTurnOnRetry n => Sys2Proof.Machine.execSafeTurnOnRetry n s
  | .monitorWindowEnd n => Sys2Proof.Machine.execMonitorWindowEnd n s
  | .monitorStaleTimer n => Sys2Proof.Machine.execMonitorStaleTimer n s
  | .stoAssert x => Sys2Proof.Machine.execStoAssert x s
  | .stoRelease x => Sys2Proof.Machine.execStoRelease x s
  | .stoDiscrepancyTimer => Sys2Proof.Machine.execStoDiscrepancyTimer s
  | .stoPathCheckTimer x bankA bankB => Sys2Proof.Machine.execStoPathCheckTimer x bankA bankB s
  | .safeResetEdge lowTicks => Sys2Proof.Machine.execSafeResetEdge lowTicks s
  | .peerBroadcastRx => Sys2Proof.Machine.execPeerBroadcastRx s
  | .peerBroadcastEnd => Sys2Proof.Machine.execPeerBroadcastEnd s
  | .dchgCheckExpiry b => Sys2Proof.Machine.execDchgCheckExpiry b s
  | .dischargeComplete => Sys2Proof.Machine.execDischargeComplete s
  | .dischargeFailTimer b => Sys2Proof.Machine.execDischargeFailTimer b s
  | .dchgReleaseAfterRestart => Sys2Proof.Machine.execDchgReleaseAfterRestart s
  | .debugHaltRequest m => Sys2Proof.Machine.execDebugHaltRequest m s
  | .debugGuardHalt => Sys2Proof.Machine.execDebugGuardHalt s
  | .dbSqWrite master n tail => Sys2Proof.Machine.execDbSqWrite master n tail s
  | .dbCqWrite master n head => Sys2Proof.Machine.execDbCqWrite master n head s
  | .descriptorFetch n host => Sys2Proof.Machine.execDescriptorFetch n host s
  | .rpEnable master n => Sys2Proof.Machine.execRpEnable master n s
  | .rpDisable master n => Sys2Proof.Machine.execRpDisable master n s
  | .irqTimerExpiry n => Sys2Proof.Machine.execIrqTimerExpiry n s
  | .flushTExpiry n => Sys2Proof.Machine.execFlushTExpiry n s
  | .nopDescriptor n => Sys2Proof.Machine.execNopDescriptor n s
  | .recvBuf n => Sys2Proof.Machine.execRecvBuf n s
  | .driveCmd n => Sys2Proof.Machine.execDriveCmd n s
  | .driveCmdDischarge n => Sys2Proof.Machine.execDriveCmdDischarge n s
  | .setStateEnable p => Sys2Proof.Machine.execSetStateEnable p s
  | .setStateDisable p => Sys2Proof.Machine.execSetStateDisable p s
  | .paramWrite n data => Sys2Proof.Machine.execParamWrite n data s
  | .paramRead n => Sys2Proof.Machine.execParamRead n s
  | .progLoad p => Sys2Proof.Machine.execProgLoad p s
  | .injectStart n => Sys2Proof.Machine.execInjectStart n s
  | .discharge n => Sys2Proof.Machine.execDischarge n s
  | .resetLatch n => Sys2Proof.Machine.execResetLatch n s
  | .benchMode n => Sys2Proof.Machine.execBenchMode n s
  | .snapshot n => Sys2Proof.Machine.execSnapshot n s
  | .claimSource n => Sys2Proof.Machine.execClaimSource n s
  | .timeStepAccept n => Sys2Proof.Machine.execTimeStepAccept n s
  | .authChallenge n => Sys2Proof.Machine.execAuthChallenge n s
  | .authResponse n data => Sys2Proof.Machine.execAuthResponse n data s
  | .authClose n => Sys2Proof.Machine.execAuthClose n s
  | .driveToken n data => Sys2Proof.Machine.execDriveToken n data s
  | .fwUpdate n data => Sys2Proof.Machine.execFwUpdate n data s
  | .fwUpdateDone => Sys2Proof.Machine.execFwUpdateDone s
  | .atlasExport n => Sys2Proof.Machine.execAtlasExport n s
  | .bedrockImport n data => Sys2Proof.Machine.execBedrockImport n data s
  | .logExport n => Sys2Proof.Machine.execLogExport n s
  | .auditAck n => Sys2Proof.Machine.execAuditAck n s
  | .canTx n host => Sys2Proof.Machine.execCanTx n host s
  | .ethTx n host => Sys2Proof.Machine.execEthTx n host s
  | .reservedDescriptorOpcode n => Sys2Proof.Machine.execReservedDescriptorOpcode n s
  | .hbTimeoutExpiry h => Sys2Proof.Machine.execHbTimeoutExpiry h s
  | .holdTExpiry n => Sys2Proof.Machine.execHoldTExpiry n s
  | .pcieLinkUp speed wide bme memEn => Sys2Proof.Machine.execPcieLinkUp speed wide bme memEn s
  | .pcieLinkDown => Sys2Proof.Machine.execPcieLinkDown s
  | .bmeCleared => Sys2Proof.Machine.execBmeCleared s
  | .startUp test fusesOk marchFail lost locks trained => Sys2Proof.Machine.execStartUp test fusesOk marchFail lost locks trained s
  | .bootlockWrite master value => Sys2Proof.Machine.execBootlockWrite master value s
  | .bootConfirm master value => Sys2Proof.Machine.execBootConfirm master value s
  | .bootConfirmTimeout => Sys2Proof.Machine.execBootConfirmTimeout s
  | .authLockoutExpiry role => Sys2Proof.Machine.execAuthLockoutExpiry role s
  | .tokenExpiry => Sys2Proof.Machine.execTokenExpiry s
  | .tokenResumeExpiry => Sys2Proof.Machine.execTokenResumeExpiry s
  | .immobStandstillExpiry n => Sys2Proof.Machine.execImmobStandstillExpiry n s
  | .supplyLevelChange rail band => Sys2Proof.Machine.execSupplyLevelChange rail band s
  | .powerOnReset => Sys2Proof.Machine.execPowerOnReset s
  | .porstPin => Sys2Proof.Machine.execPorstPin s
  | .resetAssert => Sys2Proof.Machine.execResetAssert s
  | .pdOn m mask => Sys2Proof.Machine.execPdOn m mask s
  | .pdOff m mask => Sys2Proof.Machine.execPdOff m mask s
  | .domainLost d clock => Sys2Proof.Machine.execDomainLost d clock s
  | .clockGateWrite m set k value => Sys2Proof.Machine.execClockGateWrite m set k value s
  | .rampStep => Sys2Proof.Machine.execRampStep s
  | .refMonitorWindow count => Sys2Proof.Machine.execRefMonitorWindow count s
  | .pllRelock => Sys2Proof.Machine.execPllRelock s
  | .pllLockTimeout => Sys2Proof.Machine.execPllLockTimeout s
  | .lpoCheck ppm => Sys2Proof.Machine.execLpoCheck ppm s
  | .requestRun m => Sys2Proof.Machine.execRequestRun m s
  | .requestIdle m => Sys2Proof.Machine.execRequestIdle m s
  | .requestSleep m => Sys2Proof.Machine.execRequestSleep m s
  | .requestDeepSleep m => Sys2Proof.Machine.execRequestDeepSleep m s
  | .requestOff m => Sys2Proof.Machine.execRequestOff m s
  | .idleWake => Sys2Proof.Machine.execIdleWake s
  | .sleepWake => Sys2Proof.Machine.execSleepWake s
  | .wdtKick m value => Sys2Proof.Machine.execWdtKick m value s
  | .watchdogExpiry => Sys2Proof.Machine.execWatchdogExpiry s
  | .resetReq m value => Sys2Proof.Machine.execResetReq m value s
  | .canFrameRx n xtd rtr fdf brs esi id data => Sys2Proof.Machine.execCanFrameRx n xtd rtr fdf brs esi id data s
  | .rxoStatusRead master n j => Sys2Proof.Machine.execRxoStatusRead master n j s
  | .canTxStart n won => Sys2Proof.Machine.execCanTxStart n won s
  | .canFrameTxDone n tdcv => Sys2Proof.Machine.execCanFrameTxDone n tdcv s
  | .canError n kind => Sys2Proof.Machine.execCanError n kind s
  | .canBusOffRecovery n => Sys2Proof.Machine.execCanBusOffRecovery n s
  | .canWindowOpen n k => Sys2Proof.Machine.execCanWindowOpen n k s
  | .canWindowEnd n => Sys2Proof.Machine.execCanWindowEnd n s
  | .aqTimeoutExpiry c => Sys2Proof.Machine.execAqTimeoutExpiry c s
  | .aqSkewExpiry c => Sys2Proof.Machine.execAqSkewExpiry c s
  | .ptpSyncRx domain port seq logInterval age oneStep => Sys2Proof.Machine.execPtpSyncRx domain port seq logInterval age oneStep s
  | .ptpFollowUpRx domain port seq t => Sys2Proof.Machine.execPtpFollowUpRx domain port seq t s
  | .ptpAnnounceRx domain logInterval a => Sys2Proof.Machine.execPtpAnnounceRx domain logInterval a s
  | .pdelayReqSend => Sys2Proof.Machine.execPdelayReqSend s
  | .ptpPdelayReqRx requester seq age => Sys2Proof.Machine.execPtpPdelayReqRx requester seq age s
  | .ptpPdelayRespRx seq t2 t3 age => Sys2Proof.Machine.execPtpPdelayRespRx seq t2 t3 age s
  | .syncReceiptTimeout => Sys2Proof.Machine.execSyncReceiptTimeout s
  | .holdoverExpiry => Sys2Proof.Machine.execHoldoverExpiry s
  | .timeStepTimeout => Sys2Proof.Machine.execTimeStepTimeout s
  | .ethLinkChange up speed => Sys2Proof.Machine.execEthLinkChange up speed s
  | .ethFrameRx fcsOk frame age => Sys2Proof.Machine.execEthFrameRx fcsOk frame age s
  | .ethFrameTxDone age => Sys2Proof.Machine.execEthFrameTxDone age s
  | .timeNowRead master => Sys2Proof.Machine.execTimeNowRead master s
  | .tpoArm master k width => Sys2Proof.Machine.execTpoArm master k width s
  | .tpoDisarm master k => Sys2Proof.Machine.execTpoDisarm master k s
  | .tpoEdge k => Sys2Proof.Machine.execTpoEdge k s
  | .evcapEdge c falling => Sys2Proof.Machine.execEvcapEdge c falling s
  | .evcapInfoRead master c => Sys2Proof.Machine.execEvcapInfoRead master c s
  | .mdioGo master value => Sys2Proof.Machine.execMdioGo master value s
  | .mdioDone data => Sys2Proof.Machine.execMdioDone data s
  | .snRound vbat ntc0 ntc1 => Sys2Proof.Machine.execSnRound vbat ntc0 ntc1 s
  | .snBurstEnd value within invalid => Sys2Proof.Machine.execSnBurstEnd value within invalid s
  | .wakePinEdge k level => Sys2Proof.Machine.execWakePinEdge k level s
  | .snCanFrame error id xtd fdf dlc data => Sys2Proof.Machine.execSnCanFrame error id xtd fdf dlc data s
  | .parkVdcCompare b => Sys2Proof.Machine.execParkVdcCompare b s
  | .wakeOutExpiry => Sys2Proof.Machine.execWakeOutExpiry s
  | .snHangTimer => Sys2Proof.Machine.execSnHangTimer s
  | .eccWriteback k a => Sys2Proof.Machine.execEccWriteback k a s
  | .sramScrubStep k bank result => Sys2Proof.Machine.execSramScrubStep k bank result s
  | .marchGo m mem => Sys2Proof.Machine.execMarchGo m mem s
  | .marchAbort m => Sys2Proof.Machine.execMarchAbort m s
  | .marchSegmentDone outcome => Sys2Proof.Machine.execMarchSegmentDone outcome s
  | .arbiterRecoveryExpiry a => Sys2Proof.Machine.execArbiterRecoveryExpiry a s
  | .hkRound codes dies mram => Sys2Proof.Machine.execHkRound codes dies mram s
  | .stoTestBothAsserted => Sys2Proof.Machine.execStoTestBothAsserted s
  | .announceReceiptTimeout => Sys2Proof.Machine.execAnnounceReceiptTimeout s
  | .logExportDone => Sys2Proof.Machine.execLogExportDone s
  | .bedrockImageChecked => Sys2Proof.Machine.execBedrockImageChecked s
  | .tokenNotBefore => Sys2Proof.Machine.execTokenNotBefore s
  | .coreHaltEnd m => Sys2Proof.Machine.execCoreHaltEnd m s
  | .latchRecordWriteDone => Sys2Proof.Machine.execLatchRecordWriteDone s
  | .pcieCompletionTimeout n => Sys2Proof.Machine.execPcieCompletionTimeout n s

end Sys2Proof.Machine
end

