-- ==== Sys2Proof/Safety.lean ====
section
/-! DEFINITION. What a safe run is, and the invariants of the machine, in the terms the statements use. -/

namespace Sys2Proof.Machine

/-- The registers' table is in canonical form. -/
def State.regsWf (s : State) : Bool := Table.wf RKey.lt (fun k => k.reg.resetVal k.i) s.regs

/-- Derrick may execute a pair's next descriptor `w` as opcode `op` (R405, R410, R413, R416): the pair is ON, every FENCE is
met, the opcode is allowed in the pair's class, its right is held, and its header and its body, but for the ranges
`used`, are clean. -/
def State.mayRun (s : State) (n op : Nat) (right : Right) (usesData : Bool) (targets : Nat) (used : List (Nat × Nat)) (w : WorkItem) : Bool :=
  s.isOn .ring n && ((s.ring n).nextItem == some w) && (rawOpcode w.raw == op) && (s.ring n).fenceOk w && s.opAllowed n op && s.holds n right &&
  headClean w.raw usesData targets && bodyClean w.raw used

/-- No item of a pair's work with this number is unfinished: its completion is posted, or waits for the ring order (R410). -/
def State.answered (s : State) (n wid : Nat) : Bool := (s.ring n).work.all (fun v => v.wid != wid || v.done.isSome)

/-- What an instruction of engine `c` leaves (R173, R175): nothing of the state changes but that engine (and the model's own counter of
free values), of it only the registers `ds`, `ps` and accumulators `as`, the flags and sticky bits, and PC with the loop stack,
which go on behind the instruction. -/
abbrev State.ceOnly (s t : State) (c : Fin 8) (ds ps as : List Nat) : Prop :=
  t = { s with engines := t.engines, fresh := t.fresh } ∧ (∀ k : Fin 8, k ≠ c → t.engine k = s.engine k) ∧
  (t.engine c) = { s.engine c with d := (t.engine c).d, p := (t.engine c).p, acc := (t.engine c).acc, flags := (t.engine c).flags,
                                   srHigh := (t.engine c).srHigh, pc := (t.engine c).pc, loops := (t.engine c).loops } ∧
  ((t.engine c).pc, (t.engine c).loops) = loopNext (s.engine c).loops (s.engine c).pc ∧
  (∀ i : Fin 16, ds.contains i.val = false → (t.engine c).dReg i = (s.engine c).dReg i) ∧
  (∀ i : Fin 8, ps.contains i.val = false → (t.engine c).pReg i = (s.engine c).pReg i) ∧
  (∀ i : Fin 4, as.contains i.val = false → (t.engine c).accum i = (s.engine c).accum i)

/-- The flags and sticky bits of an engine are as they were. -/
abbrev State.sameFlags (s t : State) (c : Fin 8) : Prop := (t.engine c).flags = (s.engine c).flags ∧ (t.engine c).srHigh = (s.engine c).srHigh

/-- Registers of which a write does more than its field types say; the write of any other acts by R8, R10, R42 and R443 alone. -/
def writeActs (r : Reg) : Bool :=
  [Reg.PROT_BOOTLOCK, .PROT_BOOT_CONFIRM, .SYSCTL_RESET_REQ, .SYSCTL_PWR_MODE, .SYSCTL_PD_ON, .SYSCTL_PD_OFF, .SYSCTL_CG_RUN, .SYSCTL_CG_SLEEP, .SYSCTL_CG_DSLEEP,
   .SYSCTL_WDT_KICK, .SYSCTL_WDT_CTRL, .CE_DEBUG_CTRL, .CE_DBG_DATA, .PWM_LS_CMP, .PWM_DEBUG_CTRL, .ADC_SW_START, .DERRICK_RP_CTRL, .DERRICK_DB_SQ, .DERRICK_DB_CQ,
   .DERRICK_RP_BASE_LO, .DERRICK_RP_BASE_HI, .DERRICK_RP_CFG, .TIME_TPO_START_LO, .TIME_TPO_START_HI, .TIME_TPO_PERIOD, .TIME_TPO_CTRL, .ETH_MDIO,
   .MEMCTL_MARCH_CTRL, .MEMCTL_MARCH_BANKS, .MEMCTL_CONF_CNT, .PCIE_CTRL].contains r

/-- No domain is being switched off or waits for that, and no mode waits for the domains: nothing follows when a function reaches OFF. -/
def State.quiet (s : State) : Bool :=
  s.power.entering.isNone && (List.range 12).all (fun d => !(s.domainOf d).heldOff && !s.isStopping .domain d)

/-- Every memory of the machine, and its register table, is in canonical form. -/
abbrev State.storesWf (s : State) : Prop :=
  Memory.wf s.mem = true ∧ Memory.wf s.mram = true ∧ Memory.wf s.hostMem = true ∧ s.regsWf = true

/-- The parts of the state, one for each field but the queue and the time. -/
inductive Part where
  | dev | fresh | regs | params | stored | lcs | mem | mram | hostMem | lanes | faults | safe | skipAt | island | rings | hosts | slotHosts | served
  | bulk | prot | msix | irqLines | clocks | power | rst | domains | engines | pwms | sats | adcs | sensing | sense | slots | posIfs | posCmps
  | capHi | atlasNv | atlas | atlasC | cans | aqs | time | sn | memc | hk | life
  deriving DecidableEq, Repr

/-- Whether a part is the same in two states. -/
def State.same (p : Part) (s t : State) : Prop :=
  match p with
  | .dev => t.dev = s.dev
  | .fresh => t.fresh = s.fresh
  | .regs => t.regs = s.regs
  | .params => t.params = s.params
  | .stored => t.stored = s.stored
  | .lcs => t.lcs = s.lcs
  | .mem => t.mem = s.mem
  | .mram => t.mram = s.mram
  | .hostMem => t.hostMem = s.hostMem
  | .lanes => t.lanes = s.lanes
  | .faults => t.faults = s.faults
  | .safe => t.safe = s.safe
  | .skipAt => t.skipAt = s.skipAt
  | .island => t.island = s.island
  | .rings => t.rings = s.rings
  | .hosts => t.hosts = s.hosts
  | .slotHosts => t.slotHosts = s.slotHosts
  | .served => t.served = s.served
  | .bulk => t.bulk = s.bulk
  | .prot => t.prot = s.prot
  | .msix => t.msix = s.msix
  | .irqLines => t.irqLines = s.irqLines
  | .clocks => t.clocks = s.clocks
  | .power => t.power = s.power
  | .rst => t.rst = s.rst
  | .domains => t.domains = s.domains
  | .engines => t.engines = s.engines
  | .pwms => t.pwms = s.pwms
  | .sats => t.sats = s.sats
  | .adcs => t.adcs = s.adcs
  | .sensing => t.sensing = s.sensing
  | .sense => t.sense = s.sense
  | .slots => t.slots = s.slots
  | .posIfs => t.posIfs = s.posIfs
  | .posCmps => t.posCmps = s.posCmps
  | .capHi => t.capHi = s.capHi
  | .atlasNv => t.atlasNv = s.atlasNv
  | .atlas => t.atlas = s.atlas
  | .atlasC => t.atlasC = s.atlasC
  | .cans => t.cans = s.cans
  | .aqs => t.aqs = s.aqs
  | .time => t.time = s.time
  | .sn => t.sn = s.sn
  | .memc => t.memc = s.memc
  | .hk => t.hk = s.hk
  | .life => t.life = s.life

/-- Every part: what a reset may change. -/
def allParts : List Part :=
  [.dev, .fresh, .regs, .params, .stored, .lcs, .mem, .mram, .hostMem, .lanes, .faults, .safe, .skipAt, .island, .rings, .hosts, .slotHosts,
   .served, .bulk, .prot, .msix, .irqLines, .clocks, .power, .rst, .domains, .engines, .pwms, .sats, .adcs, .sensing, .sense, .slots, .posIfs,
   .posCmps, .capHi, .atlasNv, .atlas, .atlasC, .cans, .aqs, .time, .sn, .memc, .hk, .life]

/-- What a raised fault may change: its reaction, the stop of functions and engines in its scope, the scree log and its EVENT records. -/
def raiseParts : List Part := [.regs, .lcs, .mem, .mram, .hostMem, .lanes, .faults, .safe, .island, .rings, .msix, .irqLines, .engines, .memc]

/-- What the completion of a descriptor may change. -/
def finishParts : List Part := [.regs, .mem, .hostMem, .rings, .msix, .irqLines, .memc]

/-- The parts that a command may change; every other stays as it is, whatever the state and the operands. -/
def parts : Instr → List Part
  | .heartbeatWrite .. => [.regs, .lanes, .safe, .island, .engines]
  | .heartbeatLoss .. | .resetReq .. => raiseParts ++ [.rst]
  | .lockstepMismatch .. | .safeStateChoice .. | .stoAssert .. | .stoDiscrepancyTimer | .stoPathCheckTimer .. | .safeResetEdge .. | .peerBroadcastRx
  | .dchgCheckExpiry .. | .dischargeFailTimer .. | .rpEnable .. | .rpDisable .. | .pcieCompletionTimeout .. | .capTsLoRead .. | .capInfoRead ..
  | .supplyRegTimer .. | .resultRead .. | .tripCap1Read .. | .vdcMismatchTimer | .windowStarvedTimer .. | .move .. | .atlas .. | .publ .. | .call ..
  | .ret .. | .loop .. | .reservedOpcode .. | .nowLoRead .. | .ceHangExpiry .. | .ld .. | .monitorStaleTimer .. | .canBusOffRecovery ..
  | .timeNowRead .. | .mdioGo .. | .clockGateWrite .. | .lpoCheck .. | .marchGo .. | .marchAbort .. | .marchSegmentDone .. | .fld .. => raiseParts
  | .lockstepSelftestDone .. | .parkVdcCompare .. | .snHangTimer => raiseParts ++ [.sn]
  | .pairRestartTimeout .. | .porstPin | .watchdogExpiry => [.regs, .lanes, .faults, .safe, .island, .rst, .engines]
  | .resetGuardWithdraw .. => [.safe]
  | .safeDtExpiry .. => [.lanes, .safe]
  | .safeTurnOnRetry .. => [.lanes, .skipAt]
  | .faultActiveExpiry .. => [.regs, .faults, .engines]
  | .stoRelease .. => finishParts ++ [.mram, .faults, .safe, .island, .engines]
  | .stoTestBothAsserted | .dchgReleaseAfterRestart => [.island]
  | .peerBroadcastEnd => finishParts ++ [.mram, .faults, .safe, .engines]
  | .dischargeComplete => [.regs, .lcs, .island]
  | .bootlockWrite .. | .bootConfirm .. | .authResponse .. | .driveToken .. | .immobStandstillExpiry .. | .resetLatch .. | .benchMode ..
  | .auditAck .. | .progLoad .. => raiseParts ++ [.prot]
  | .bootConfirmTimeout => [.regs, .lanes, .faults, .safe, .island, .prot, .rst, .engines]
  | .authChallenge .. => finishParts ++ [.fresh, .prot]
  | .authClose .. | .reservedDescriptorOpcode .. | .nopDescriptor .. | .paramRead .. | .snapshot .. => finishParts
  | .authLockoutExpiry .. => [.prot]
  | .tokenExpiry | .tokenNotBefore | .tokenResumeExpiry => [.regs, .prot]
  | .fwUpdate .. | .fwUpdateDone => raiseParts ++ [.bulk, .prot]
  | .discharge .. | .driveCmdDischarge .. => finishParts ++ [.lcs, .lanes, .safe, .island, .engines]
  | .dbSqWrite .. | .dbCqWrite .. => raiseParts ++ [.hosts]
  | .descriptorFetch .. => raiseParts ++ [.served]
  | .irqTimerExpiry .. => [.rings, .msix, .irqLines]
  | .recvBuf .. | .flushTExpiry .. | .logExport .. | .atlasExport .. | .atlasExportDone => finishParts ++ [.bulk]
  | .logExportDone => finishParts ++ [.bulk, .prot]
  | .hbTimeoutExpiry .. | .pcieLinkDown | .bmeCleared => raiseParts ++ [.hosts, .slotHosts, .bulk]
  | .holdTExpiry .. => raiseParts ++ [.slotHosts]
  | .pcieLinkUp .. | .seamCheck | .mdioDone .. => [.regs]
  | .pwmMidPoint .. | .commitArrival .. | .immediateUpdate .. | .lsCmpWrite .. | .pwmCompareEdge .. | .deadTimeExpiry .. | .minPulseGuardExpiry ..
  | .pwmFreeze .. | .pwmRelease .. | .syncInEdge .. | .syncLinkTimeout .. | .debugGuardHalt | .ceHaltReq .. | .ceResume .. | .ceBreakpoint ..
  | .debugHaltRequest .. | .wpwm .. | .bkpt .. => raiseParts ++ [.pwms]
  | .tripAssert .. | .blankClose .. | .ctAssert .. => raiseParts ++ [.pwms, .sensing]
  | .satTurnOnEdge .. | .handshakeTimeout .. | .gateStuckTimer .. | .retStatus .. | .retTemp .. => raiseParts ++ [.sats]
  | .satTurnOffEdge .. | .handshakeRelease .. | .minOnTimeExpiry .. | .ch0RangeSwitch .. | .cfgWrite .. | .cfgResume .. | .cfgStop ..
  | .returnFrameBad .. | .returnCarrierLoss .. | .hintAckTimeout .. | .satOtShut .. | .uvloEngage .. | .satLinkLoss .. => raiseParts ++ [.sats, .sense]
  | .gateStateChange .. | .satEdgeMeasured .. | .keepaliveSend .. | .cfgKeepalive .. | .desatDetect .. | .softOffLevel2 .. | .satRailsReady ..
  | .txDutyAdjust .. | .crossCarrierLoss .. => [.sats]
  | .cfgDesatClear .. | .retRails .. | .retHintAck .. => [.regs, .sats]
  | .retEdge .. | .retCond .. => [.regs, .engines, .sats]
  | .retHs .. => [.regs, .lanes, .skipAt, .sats]
  | .faultBreak .. => raiseParts ++ [.pwms, .sats, .sensing]
  | .desatConfirm .. => raiseParts ++ [.sats, .sense, .life]
  | .desatClearPoint .. => [.pwms, .sats]
  | .uvloRelease .. => finishParts ++ [.mram, .faults, .engines, .sats]
  | .adcConversionDone .. => raiseParts ++ [.adcs, .sensing]
  | .adcSwStart .. | .adcRefCheck .. => raiseParts ++ [.adcs]
  | .adcUrgentRequest .. => [.regs, .adcs, .sensing]
  | .dsOutput .. => raiseParts ++ [.sensing, .sense]
  | .posQualifyingEdge .. | .hallTransition .. | .serResponse .. => raiseParts ++ [.posIfs, .posCmps]
  | .spdStandstillExpiry .. | .serRequestSend .. => [.posIfs]
  | .rsvCarrierPeriod .. | .rsvExcLimitTimer .. | .encIllegalTransition .. | .encIndex .. | .hallInvalidState .. | .serResponseTimeout .. => raiseParts ++ [.posIfs]
  | .pcmpResolverEval .. => [.regs, .lcs, .posCmps]
  | .pcmpPulseEnd .. => [.regs, .posCmps]
  | .pwmWrap .. => raiseParts ++ [.params, .skipAt, .pwms, .sats, .sensing, .sense]
  | .tlAdcStart .. => raiseParts ++ [.pwms, .adcs, .sensing]
  | .tlDsMark .. => [.pwms, .sensing]
  | .tlCapture .. => raiseParts ++ [.pwms, .capHi]
  | .tlEngineEvent .. => [.regs, .engines, .pwms]
  | .tileFillDone .. | .commitBlock .. => raiseParts ++ [.atlasNv, .atlas, .atlasC]
  | .strataReloadDone .. => raiseParts ++ [.atlas, .atlasC]
  | .dressCreditWindow .. => [.atlas]
  | .dressPublication .. => [.regs, .mem, .atlas, .memc]
  | .mramAddressParityError | .bedrockSigCheck .. => raiseParts ++ [.atlasC]
  | .mramScrubBlock .. => raiseParts ++ [.atlasNv, .atlas]
  | .bedrockImport .. => finishParts ++ [.mram, .bulk]
  | .bedrockImageChecked => raiseParts ++ [.bulk, .prot, .atlasNv, .atlas, .atlasC]
  | .importInstallDone => raiseParts ++ [.bulk, .atlasNv, .atlas, .atlasC]
  | .driveCmd .. => finishParts ++ [.slotHosts, .engines, .slots]
  | .claimSource .. => finishParts ++ [.slotHosts]
  | .coreHaltEnd .. => [.safe, .island, .power]
  | .nop .. | .ldi .. | .ldip .. | .mac .. | .dmac .. | .accop .. | .rnd .. | .aluh .. | .shh .. | .sincos .. | .recip .. | .rsqrt .. | .b ..
  | .movsr .. => [.engines]
  | .aluw .. => [.fresh, .engines]
  | .atlasLookupDone .. => raiseParts ++ [.pwms, .atlasNv, .atlas, .atlasC]
  | .waitev .. | .waitevResume .. => finishParts ++ [.lcs, .engines]
  | .ceTimerWrite .. | .cmdAck .. | .st .. | .missingPhaseCheck .. | .anglePulseDecay .. | .flySyncTimeout .. | .aqTimeoutExpiry .. => raiseParts ++ [.slots]
  | .publDrainDone .. => raiseParts ++ [.pwms, .slots, .atlas]
  | .ceTimerExpiry .. => [.regs, .engines]
  | .currentCycle .. => raiseParts ++ [.fresh, .pwms, .sensing, .slots, .atlasNv, .atlas, .atlasC]
  | .injectStart .. | .injConditionsMet .. => finishParts ++ [.lcs, .slots]
  | .referenceStep .. => raiseParts ++ [.fresh, .params, .slotHosts, .prot, .slots, .atlasNv, .atlas, .atlasC]
  | .speedLoopStep .. | .anglePulseEnd .. | .flySync .. | .stopRampDone .. => [.slots]
  | .flyBemfRest .. | .monitorWindowEnd .. => raiseParts ++ [.sensing, .slots]
  | .flyBemfOverDc .. => raiseParts ++ [.sensing]
  | .flyOnDelay .. => raiseParts ++ [.sats, .sense, .slots, .atlas]
  | .zeroCurrentHoldExpiry .. => raiseParts ++ [.params, .slotHosts, .prot, .pwms, .sats, .sensing, .sense, .slots]
  | .canFrameRx .. => raiseParts ++ [.fresh, .slotHosts, .slots, .cans, .aqs]
  | .rxoStatusRead .. | .canFrameTxDone .. | .canError .. | .canWindowOpen .. | .canWindowEnd .. => raiseParts ++ [.cans]
  | .canTx .. => finishParts ++ [.cans]
  | .canTxStart .. => finishParts ++ [.cans, .aqs, .time]
  | .aqSkewExpiry .. => raiseParts ++ [.aqs]
  | .tlTpoEdge .. => [.pwms, .time]
  | .timeStepAccept .. | .syncReceiptTimeout | .holdoverExpiry | .ethLinkChange .. => raiseParts ++ [.prot, .time]
  | .ethTx .. | .timeStepTimeout | .ethFrameTxDone .. => finishParts ++ [.time]
  | .ptpSyncRx .. | .ptpFollowUpRx .. => raiseParts ++ [.dev, .prot, .sensing, .slots, .cans, .time]
  | .ptpAnnounceRx .. | .pdelayReqSend | .ptpPdelayRespRx .. | .tpoArm .. | .evcapEdge .. | .evcapInfoRead .. => raiseParts ++ [.time]
  | .ptpPdelayReqRx .. => [.time]
  | .ethFrameRx .. => raiseParts ++ [.slotHosts, .slots, .cans, .aqs]
  | .tpoDisarm .. | .tpoEdge .. => raiseParts ++ [.params, .time]
  | .announceReceiptTimeout => [.regs, .time]
  | .startSequenceDone .. => raiseParts ++ [.fresh, .params, .hosts, .domains, .pwms, .sats, .adcs, .sensing, .sense, .slots, .posIfs, .posCmps, .atlasNv, .atlas, .atlasC, .cans, .aqs, .sn, .hk, .life]
  | .stopSequenceDone .. => raiseParts ++ [.params, .hosts, .slotHosts, .bulk, .prot, .power, .rst, .domains, .pwms, .sats, .adcs, .sensing, .sense, .slots, .posIfs, .posCmps, .capHi, .atlasNv, .atlas, .atlasC, .cans, .aqs, .time, .sn, .hk]
  | .startingBoundExpiry .. => raiseParts ++ [.sats, .sense, .cans]
  | .stoppingBoundExpiry .. | .setStateDisable .. | .pdOff .. | .domainLost .. | .requestDeepSleep .. | .requestOff .. | .fst .. => raiseParts ++ [.params, .hosts, .slotHosts, .bulk, .prot, .power, .rst, .domains, .pwms, .sats, .adcs, .sensing, .sense, .slots, .posIfs, .posCmps, .capHi, .atlas, .atlasC, .cans, .aqs, .time, .sn, .hk]
  | .setStateEnable .. | .pdOn .. => raiseParts ++ [.params, .domains, .pwms, .sats, .sensing, .sense, .slots, .posIfs, .posCmps, .cans, .sn]
  | .unitReset .. | .clusterReset .. | .registerWrite .. | .ceStep .. => raiseParts ++ [.fresh, .params, .hosts, .slotHosts, .bulk, .prot, .power, .rst, .domains, .pwms, .sats, .adcs, .sensing, .sense, .slots, .posIfs, .posCmps, .capHi, .atlas, .atlasC, .cans, .aqs, .time, .sn, .hk]
  | .domainReset .. => raiseParts ++ [.fresh, .params, .hosts, .slotHosts, .bulk, .prot, .power, .rst, .domains, .pwms, .sats, .adcs, .sensing, .sense, .slots, .posIfs, .posCmps, .capHi, .atlasNv, .atlas, .atlasC, .cans, .aqs, .time, .sn, .hk, .life]
  | .resetAssert | .powerOnReset | .supplyLevelChange .. | .startUp .. => allParts
  | .latchRecordWriteDone => [.faults]
  | .rampStep => [.regs, .clocks]
  | .refMonitorWindow .. | .pllRelock => raiseParts ++ [.prot, .clocks, .cans, .time]
  | .pllLockTimeout => raiseParts ++ [.clocks]
  | .requestRun .. | .requestIdle .. | .wdtKick .. => raiseParts ++ [.power]
  | .requestSleep .. => raiseParts ++ [.params, .power, .sn]
  | .idleWake | .sleepWake => [.regs, .power]
  | .snRound .. | .wakePinEdge .. | .snCanFrame .. => [.fresh, .regs, .mem, .lanes, .faults, .safe, .island, .irqLines, .power, .rst, .engines, .sn, .memc]
  | .snBurstEnd .. => raiseParts ++ [.fresh, .power, .rst, .sn]
  | .wakeOutExpiry => [.power, .sn]
  | .ptimeSave => raiseParts ++ [.atlasNv, .atlasC, .life]
  | .eccWriteback .. | .arbiterRecoveryExpiry .. => [.memc]
  | .sramScrubStep .. => raiseParts ++ [.fresh, .atlas]
  | .hkRound .. => raiseParts ++ [.fresh, .params, .sense, .slots, .atlasNv, .atlas, .atlasC, .hk, .life]
  | .paramWrite .. => raiseParts ++ [.params, .stored, .prot, .pwms, .adcs, .sensing, .slots, .atlasNv, .atlas]
  | .fldDone .. => raiseParts ++ [.fresh, .pwms, .atlas, .cans, .time]

end Sys2Proof.Machine
end

