-- ==== Sys2Proof/Certificates/Slice0/Obligations.lean ====
section
/-! DEFINITION. The statements for the provers, one definition each. -/

section

open Sys2Proof Sys2Proof.Machine

/-- A step takes the command at the front of the queue and is `exec` of it on the state with the queue's rest, whatever the command and the state. -/
def Obligations.StepRunsTheFrontCommand : Prop :=
  (∀ (s : State) (c : Instr) (l : List Instr), s.pending = c :: l → step s = exec c { s with pending := l })

/-- On an empty queue one tick of CLK_PWM passes (the model's choice, log entry 2): the clocks advance, four times as far in a coast (R529), and nothing else
changes but at every eighth tick, where a cycle of CLK_PER begins: a function that has reached OFF with a pending ENABLE enters STARTING, and one that has
reached ON with a pending DISABLE enters STOPPING (R45). -/
def Obligations.AnEmptyQueueLetsOneTickPass : Prop :=
  (∀ (s : State), s.pending = [] → step s = .next s.tick ∧ s.tick.now = s.now + 1 ∧ s.tick.lpo = s.lpo + (if s.coasting then 4 else 1) ∧
    s.tick.dev = (s.dev + s.devAdvance) % devModulus) ∧
  (∀ (s : State), s.pending = [] → (s.now + 1) % 8 ≠ 0 → step s = .next { s with now := s.tick.now, lpo := s.tick.lpo, dev := s.tick.dev }) ∧
  (∀ (s : State), s.coasting = true → s.devAdvance = 4 * (5 * (256000000000 + s.fldS F.TIME_FREQ_ADJ_ADJ)).toNat) ∧
  (∀ (s : State) (k : FuncKind) (n : Nat) (l : Lc), s.pending = [] → (s.now + 1) % 8 = 0 → s.lcs = [(⟨k, n⟩, l)] → k ∈ [FuncKind.bridge, .posIf, .posCmp, .dressing, .rule, .ring] →
    l.state = .off → l.pending = .enable → ∃ t, step s = .next t ∧ (t.lc k n).state = .starting ∧ (t.lc k n).pending = .none ∧ (t.lc k n).since = s.now + 1) ∧
  (∀ (s : State) (k : FuncKind) (n : Nat) (l : Lc), s.pending = [] → (s.now + 1) % 8 = 0 → s.lcs = [(⟨k, n⟩, l)] → k ∈ [FuncKind.dressing, .rule, .ring] →
    l.state = .on → l.pending = .disable → ∃ t, step s = .next t ∧ (t.lc k n).state = .stopping ∧ (t.lc k n).pending = .none ∧ (t.lc k n).since = s.now + 1)

/-- `State.reset` has every store in canonical form (the base of the invariant), an empty queue, no function that is not OFF, no active fault and no register that
differs from its reset value. -/
def Obligations.ResetStoresAreCanonical : Prop :=
  State.reset.storesWf ∧ State.reset.pending = [] ∧ State.reset.faults.active = [] ∧ State.reset.regs = [] ∧
  (∀ (k : FuncKind) (n : Nat), State.reset.isOff k n = true) ∧ (∀ k : RKey, State.reset.reg k = k.reg.resetVal k.i) ∧
  (∀ (id i j : Nat), State.reset.par id i j = paramDefault ⟨id, i, j⟩)

/-- The commands about the safety pairs (R356 to R360) run, each with its effect: a heartbeat word is taken in; a heartbeat lost for 30 µs and a lockstep mismatch raise
their fault and put the pair in restart; a complete self-test lets the pair run and an incomplete one raises LOCKSTEP_SELFTEST; a restart not ended in 10 ms
triggers a package reset; the choice of safe states notes the source of the speed. -/
def Obligations.SafetyPairCommandsAct : Prop :=
  (∀ (s : State) (p : Fin 2) (w : Nat), s.pdOn 1 = true → (s.pair p).running = true → (s.pair p).selftest = true → (s.pair p).halted = false →
    ∃ t, exec (.heartbeatWrite p w) s = .next t ∧ (t.pair p).word = w ∧ (t.pair p).restarting = false ∧
      (t.pair p).lastChange = (if w = (s.pair p).word then (s.pair p).lastChange else s.now) ∧ t = { s with island := t.island, safe := t.safe }) ∧
  (∀ (s : State) (p : Fin 2), s.pdOn 1 = true → (s.pair p).running = true → (s.pair p).restarting = false → s.elapsed (s.pair p).lastChange (30 * usT) = true →
    ∃ t, exec (.heartbeatLoss p) s = .next t ∧ t.faultActive .SAFETY_WDG p = true ∧ (t.pair p).restarting = true ∧ (t.pair p).running = false) ∧
  (∀ (s : State) (p : Fin 2) (g : Fin 12), s.pdOn 1 = true → (s.pair p).running = true → (s.pair p).broken = false →
    ∃ t, exec (.lockstepMismatch p g) s = .next t ∧ t.faultActive .LOCKSTEP_MISMATCH p = true ∧ (t.pair p).mismatch = true ∧
      (t.pair p).restarting = true ∧ t.island.lastGroup = g) ∧
  (∀ (s : State) (p : Fin 2) (g : Fin 4096), s.pdOn 1 = true → (s.pair p).selftest = false →
    ∃ t, exec (.lockstepSelftestDone p g) s = .next t ∧
      (if g = 4095 then (t.pair p).selftest = true ∧ (t.pair p).running = true else t.faultActive .LOCKSTEP_SELFTEST p = true)) ∧
  (∀ (s : State) (p : Fin 2), (s.pair p).restarting = true → (s.pair p).failCode ≠ 0 → s.elapsed (s.pair p).resetAt (10 * msT) = true →
    ∃ t, exec (.pairRestartTimeout p) s = .next t ∧ t.rst.guard.isSome = true ∧ (t.pair p).failCode = 0) ∧
  (∀ (s : State) (a b : BridgeSense), (s.pairOk 0 = true ∨ s.pairOk 1 = true) →
    ∃ t, exec (.safeStateChoice a b) s = .next t ∧ (t.safeOf 0).speedSrc = (s.choiceSpeed 0 a).2)

/-- The commands about safe-state requests (R355, R365, R366, R368, R385 to R388) run, each with its effect. -/
def Obligations.SafeStateRequestsAct : Prop :=
  (∀ (s : State) (b : Fin 2), (s.safeOf b).guard = true → s.guardMayEnd b = true →
    ∃ t, exec (.resetGuardWithdraw b) s = .next t ∧ (t.safeOf b).guard = false ∧ t = { s with safe := t.safe }) ∧
  (∀ (s : State) (b : Fin 2), (s.safeOf b).dtPending = true → (s.safeOf b).state.isAsc = true →
    s.elapsed (s.safeOf b).decided (nsToTicks (s.parN P.SAFE_DT (s.slotOfBridge b))) = true →
    ∃ t, exec (.safeDtExpiry b) s = .next t ∧ (t.safeOf b).dtPending = false ∧
      (∀ n ∈ satsOfBridge b, (s.safeOf b).state.gateOn n = true → t.lane n = true) ∧ t = { s with safe := t.safe, lanes := t.lanes }) ∧
  (∀ (s : State) (n : Fin 12) (t0 : Nat), s.skipAt.at none n.val = some t0 → s.elapsed t0 usT = true →
    (s.safeOf (bridgeOfSat n)).state.gateOn n = true → (s.safeOf (bridgeOfSat n)).dtPending = false →
    ∃ t, exec (.safeTurnOnRetry n) s = .next t ∧ t.lane n = true ∧ t.skipAt.at none n.val = none ∧ t = { s with skipAt := t.skipAt, lanes := t.lanes }) ∧
  (∀ (s : State) (i : Fin 2), s.island.sto.asserted i = false →
    ∃ t, exec (.stoAssert i) s = .next t ∧ t.island.sto.asserted i = true ∧ t.faultActive .STO_STOP i = true ∧
      (if i = 0 then (t.safeOf 0).stoA && (t.safeOf 1).stoA else (t.safeOf 0).stoB && (t.safeOf 1).stoB) = true) ∧
  (∀ (s : State) (i : Fin 2), s.island.sto.asserted i = true →
    ∃ t, exec (.stoRelease i) s = .next t ∧ t.island.sto.asserted i = false ∧ t.faultActive .STO_STOP i = false ∧
      (if i = 0 then (t.safeOf 0).stoA || (t.safeOf 1).stoA else (t.safeOf 0).stoB || (t.safeOf 1).stoB) = false) ∧
  (∀ (s : State) (t0 : Nat), s.island.sto.discSince = some t0 → s.elapsed t0 (s.parN P.STO_DISC_T * msT) = true →
    ∃ t, exec .stoDiscrepancyTimer s = .next t ∧ t.faultActive .STO_DISCREPANCY 0 = true) ∧
  (∀ (s : State) (i : Fin 2) (bankA bankB : Bool), s.island.sto.asserted i = true →
    s.elapsed (if i = 0 then s.island.sto.aSince else s.island.sto.bSince) (10 * usT) = true →
    ∃ t, exec (.stoPathCheckTimer i bankA bankB) s = .next t ∧
      (if i = 0 then t.island.sto.pathA else t.island.sto.pathB) = (bankA && bankB) ∧
      ((bankA && bankB) = false → t.faultActive .STO_PATH_FAULT i = true)) ∧
  (∀ (s : State) (t0 : Nat), s.island.sto.bothSince = some t0 → s.island.sto.test = .pending → s.elapsed t0 msT = true →
    s.island.sto.pathA = true → s.island.sto.pathB = true →
    ∃ t, exec .stoTestBothAsserted s = .next t ∧ t.island.sto.test = .assertedSeen ∧ t = { s with island := t.island }) ∧
  (∀ (s : State), s.par P.PEER_EN = 1 → s.pdOn 9 = true →
    ∃ t, exec .peerBroadcastRx s = .next t ∧ (t.safeOf 0).peer = true ∧ (t.safeOf 1).peer = true ∧ t.faultActive .PEER_SAFE 0 = true) ∧
  (∀ (s : State), s.flag F.TIME_PEER_SAFE = true →
    ∃ t, exec .peerBroadcastEnd s = .next t ∧ (t.safeOf 0).peer = false ∧ (t.safeOf 1).peer = false ∧ t.faultActive .PEER_SAFE 0 = false)

/-- The end of a fault's activity (R371), the release of the fault latch by SAFE_RESET (R390) and the supervision of a discharge (R392 to R396, R399) act. -/
def Obligations.FaultEndsAndDischargeAct : Prop :=
  (∀ (s : State) (k : Nat) (e : ActiveFault), s.faults.active[k]? = some e → e.active = true → e.single = true → s.elapsed e.last secT = true →
    ∃ t, exec (.faultActiveExpiry k) s = .next t ∧
      t.faults.active = (s.faults.active.set k { e with active := false }).filter
        (fun x => x.active || (decide (3 ≤ x.cls) && x.scope.slots.any (fun n => !s.isOff .slot n))) ∧
      t = { s with faults := t.faults, engines := t.engines, regs := t.regs }) ∧
  (∀ (s : State) (low : Nat), s.pdOn 1 = true → msT ≤ low → s.faults.latched ≠ [] → s.releasedThisMs = false →
    ∃ t, exec (.safeResetEdge low) s = .next t ∧
      (if s.faults.latched.any (fun l => s.faultActive l.name l.unit) then t.faultActive .SAFE_RESET_REFUSED 255 = true
       else t.faults.latched = [] ∧ t.island.lastRelease = some s.now)) ∧
  (∀ (s : State) (b : Fin 2), s.dchgHolds b = true → s.elapsed (if b = 0 then s.island.dchg.startA else s.island.dchg.startB)
      (s.parN P.DCHG_CHECK_T (s.slotOfBridge b) * msT) = true → s.island.dchg.backup = false →
    (if b = 0 then s.island.dchg.vStartA else s.island.dchg.vStartB) ≤ 2 * s.vdcQ b →
    ∃ t, exec (.dchgCheckExpiry b) s = .next t ∧ t.island.dchg.backup = true ∧ t.faultActive .DISCHARGE_BACKUP b = true) ∧
  (∀ (s : State), s.isOn .discharge 0 = true → s.dchgBridges.all s.vdcLow10 = true →
    ∃ t, exec .dischargeComplete s = .next t ∧ t.isStopping .discharge 0 = true) ∧
  (∀ (s : State) (b : Fin 2), s.dchgHolds b = true → s.elapsed (if b = 0 then s.island.dchg.startA else s.island.dchg.startB) (2 * secT) = true →
    s.island.dchg.failed = false → s.vdcLow10 b = false →
    ∃ t, exec (.dischargeFailTimer b) s = .next t ∧ t.island.dchg.failed = true ∧ t.island.dchg.out = true ∧ t.faultActive .DISCHARGE_FAIL b = true) ∧
  (∀ (s : State), s.island.dchg.out = true → s.isOff .discharge 0 = true → s.pairOk 1 = true → s.vdcLow10 0 = true → s.vdcLow10 1 = true →
    ∃ t, exec .dchgReleaseAfterRestart s = .next t ∧ t.island.dchg.out = false ∧ t = { s with island := t.island })

/-- Compare edges (R211), bootstrap refreshes (R235), dead times (R213), the minimum-pulse guard (R217) and the update points inside a period (R223 to R225) act. -/
def Obligations.PwmEdgesAct : Prop :=
  (∀ (s : State) (b : Fin 2) (c : Fin 6), (s.pwm b).live = true → (s.pwmChans b).contains c.val = true → ((s.pwm b).ch c).isFloat = false →
    ((s.pwm b).ch c).effOn < s.p8 b → ((s.pwm b).ch c).onMade = false → s.reached b ((s.pwm b).ch c).effOn = true →
    (((s.pwm b).ch c).effOn ≤ ((s.pwm b).ch c).effOff ∨ ((s.pwm b).ch c).offMade = true) →
    ∃ t, exec (.pwmCompareEdge b c 0) s = .next t ∧ ((t.pwm b).ch c).onMade = true ∧
      (((s.pwm b).ch c).effOn ≠ ((s.pwm b).ch c).effOff → ((t.pwm b).ch c).demand = true)) ∧
  (∀ (s : State) (b : Fin 2) (c : Fin 6), (s.pwm b).live = true → (s.pwmChans b).contains c.val = true → ((s.pwm b).ch c).isFloat = false →
    ((s.pwm b).ch c).effOff < s.p8 b → ((s.pwm b).ch c).effOn < s.p8 b → ((s.pwm b).ch c).offMade = false → s.reached b ((s.pwm b).ch c).effOff = true →
    (((s.pwm b).ch c).effOff ≤ ((s.pwm b).ch c).effOn ∨ ((s.pwm b).ch c).onMade = true) →
    ∃ t, exec (.pwmCompareEdge b c 1) s = .next t ∧ ((t.pwm b).ch c).offMade = true ∧ ((t.pwm b).ch c).demand = false) ∧
  (∀ (s : State) (b : Fin 2) (c : Fin 6), (s.pwm b).live = true → (s.pwmChans b).contains c.val = true → ((s.pwm b).ch c).isFloat = false →
    ((s.pwm b).leg (c.val / 2)).refreshDue = true → s.reached b (s.p8 b - 8 * s.parN P.BOOT_T b * 4 / 5 - s.dtLH b (c.val / 2)) = true →
    ∃ t, exec (.pwmCompareEdge b c 2) s = .next t ∧ ((t.pwm b).leg (c.val / 2)).refreshed = true ∧ ((t.pwm b).leg (c.val / 2)).refreshDue = false) ∧
  (∀ (s : State) (b : Fin 2) (g : Fin 6) (t0 : Nat), ((s.pwm b).gate g).turnOn = some t0 → (s.pwm b).live = true → t0 / 8 ≤ s.now →
    s.pwmDrives b = true → (s.pwm b).resync = false →
    ∃ t, exec (.deadTimeExpiry b g) s = .next t ∧ ((t.pwm b).gate g).out = true ∧ ((t.pwm b).gate g).turnOn = none) ∧
  (∀ (s : State) (b : Fin 2) (g : Fin 6) (t0 : Nat), ((s.pwm b).gate g).turnOff = some t0 → (s.pwm b).live = true → t0 / 8 ≤ s.now →
    s.pwmDrives b = true → (s.pwm b).resync = false →
    ∃ t, exec (.minPulseGuardExpiry b g) s = .next t ∧ ((t.pwm b).gate g).out = false ∧ ((t.pwm b).gate g).turnOff = none) ∧
  (∀ (s : State) (b : Fin 2), (s.pwm b).live = true → (s.pwm b).midDone = false → s.par P.UPD_MODE b = 1 → (s.pwm b).wrapAt + s.period b / 2 ≤ s.now →
    ∃ t, exec (.pwmMidPoint b) s = .next t ∧ (t.pwm b).midDone = true ∧
      (∀ g, (s.pwm b).pending = some g → g.arrival + 4 < (s.pwm b).wrapAt + s.period b / 2 → g.period = none → (t.pwm b).pending = none)) ∧
  (∀ (s : State) (b : Fin 2) (t0 : Nat) (g : PwmSet), (s.pwm b).immediate = some t0 → (s.pwm b).pending = some g → (s.pwm b).live = true →
    s.elapsed t0 2 = true →
    ∃ t, exec (.immediateUpdate b) s = .next t ∧ (t.pwm b).pending = none ∧ (t.pwm b).immediate = none)

/-- Commits close the open generation (R219, R220), an LS_CMP write joins it (R215), trips act or wait for the blanking window (R226 to R228), a freeze stops and a release
restarts a bridge (R231), sync edges are taken in (R234, R538, R540), and the reads of the captures clear and latch what R244 says. -/
def Obligations.PwmWritesAndTripsAct : Prop :=
  (∀ (s : State) (b : Fin 2) (w : PwmFlight) (l : List PwmFlight), (s.pwm b).flight = w :: l → s.elapsed w.issued 8 = true →
    ∃ t, exec (.commitArrival b) s = .next t ∧
      (if w.tag = s.fld F.PWM_STATUS_GEN_OPEN b then t.fld F.PWM_STATUS_GEN_OPEN b = (s.fld F.PWM_STATUS_GEN_OPEN b + 1) % 256
       else t.fld F.PWM_STATUS_GEN_OPEN b = s.fld F.PWM_STATUS_GEN_OPEN b ∧ t.faultActive .GEN_MISMATCH b = true)) ∧
  (∀ (s : State) (m : Fin 21) (b : Fin 2) (j : Fin 6) (v : Nat), (s.mayWrite m .PWM_LS_CMP b j).2 = true → m.val < 8 →
    (s.engine m).writes.contains b.val = true → s.indep b = true →
    ∃ t, exec (.lsCmpWrite m b j v) s = .next t ∧ t.fld F.PWM_LS_CMP_VALUE b j = v % 2 ^ 23 ∧
      (t.pwm b).shadow.writes.at none (6 + j) = some (v % 2 ^ 23) ∧ t = { s with regs := t.regs, pwms := t.pwms }) ∧
  (∀ (s : State) (b : Fin 2) (src : Fin 18), s.pdOn 7 = true → (src.val < 6 → s.satReport b src = true) → (s.pwm b).running = true → s.tripEnabled b src = true →
    ∃ t, exec (.tripAssert b src) s = .next t ∧
      (if s.now < (s.pwm b).blankUntil then (t.pwm b).levels.contains src.val = true
       else (t.pwm b).tripped = true ∧ (t.pwm b).lastTrip = some s.now ∧
         ∀ k : Fin 3, (6 ≤ src.val ∨ k.val = src.val / 2) → ((t.pwm b).leg k).cut = true)) ∧
  (∀ (s : State) (b : Fin 2) (lv : Fin 4096), (s.pwm b).live = true → (s.pwm b).blankOpen = true → (s.pwm b).blankUntil ≤ s.now →
    ∃ t, exec (.blankClose b lv) s = .next t ∧ (t.pwm b).levels = [] ∧
      ∀ src : Fin 18, (if src.val < 6 then s.satReport b src else bits lv (src.val - 6) (src.val - 6) == 1) = true → s.tripEnabled b src = true →
        (t.pwm b).tripped = true) ∧
  (∀ (s : State) (m : Fin 21) (b : Fin 2), (s.debugAccess m .pwmFreeze .PWM_DEBUG_CTRL b).2 = true →
    ∃ t, exec (.pwmFreeze m b) s = .next t ∧ t.flag F.PWM_DEBUG_CTRL_FREEZE b = true ∧ (t.pwm b).frozenSince.isSome = true) ∧
  (∀ (s : State) (m : Fin 21) (b : Fin 2), (s.debugAccess m .pwmFreeze .PWM_DEBUG_CTRL b).2 = true →
    ∃ t, exec (.pwmRelease m b) s = .next t ∧ t.flag F.PWM_DEBUG_CTRL_FREEZE b = false ∧
      ((s.pwm b).haltFreeze = false → (s.pwm b).clockStop = false → s.lockedToA b = false → (t.pwm b).frozenSince = none)) ∧
  (∀ (s : State) (low high : Nat) (b : Fin 2), s.pdOn 7 = true → 16 ≤ low → high ≤ 32 → s.par P.SYNC_MODE b = 2 → (s.pwm b).frozenSince = none →
    s.isOff .bridge b = false → ((s.pwm b).running = true ∨ s.isStarting .bridge b = true) →
    ∃ t, exec (.syncInEdge low high) s = .next t ∧ (t.pwm b).lastSync = some s.now ∧ (t.pwm b).running = true) ∧
  (∀ (s : State) (b : Fin 2) (t0 : Nat), (s.pwm b).lastSync = some t0 → s.isOn .bridge b = true → s.par P.SYNC_MODE b = 2 → (s.pwm b).frozenSince = none →
    s.elapsed t0 (2 * s.period b) = true →
    ∃ t, exec (.syncLinkTimeout b) s = .next t ∧ (t.pwm b).lastSync = none ∧ t.faultActive .SYNC_LINK_LOST 255 = true) ∧
  (∀ (s : State) (m : Fin 21) (b : Fin 2) (n : Fin 8), (s.mayRead m .PWM_CAP_TS_LO b n).2 = true →
    ∃ t, exec (.capTsLoRead m b n) s = .next t ∧ t.fld F.PWM_CAP_TS_HI_TS b n = s.capHi.at 0 (8 * b.val + n.val) % 2 ^ 32 ∧ t = { s with regs := t.regs }) ∧
  (∀ (s : State) (m : Fin 21) (b : Fin 2) (n : Fin 8), (s.mayRead m .PWM_CAP_INFO b n).2 = true →
    ∃ t, exec (.capInfoRead m b n) s = .next t ∧ t.flag F.PWM_CAP_INFO_VALID b n = false ∧ t.flag F.PWM_CAP_INFO_OVR b n = false ∧ t = { s with regs := t.regs })

/-- A slot of a timeline fires once in its period, with its action's effect (R237, R238); the counter's wrap begins the next period or ends the stop sequence (R208, R240). -/
def Obligations.TimelineAndWrapAct : Prop :=
  (∀ (s : State) (b : Fin 2) (k : Fin 32) (t0 : Nat), (s.pwm b).live = true → (s.pwm b).fired.contains k.val = false → s.fld F.PWM_TL_ACT_TYPE b k = 1 →
    s.slotActive b k = true → s.slotTime b k = some t0 → t0 / 8 ≤ s.counter b →
    ∃ t, exec (.tlAdcStart b k) s = .next t ∧ (t.pwm b).fired = k.val :: (s.pwm b).fired) ∧
  (∀ (s : State) (b : Fin 2) (k : Fin 32) (t0 : Nat) (st : List Bool), (s.pwm b).live = true → (s.pwm b).fired.contains k.val = false → s.fld F.PWM_TL_ACT_TYPE b k = 2 →
    s.slotActive b k = true → s.slotTime b k = some t0 → t0 / 8 ≤ s.counter b →
    ∃ t, exec (.tlDsMark b k st) s = .next t ∧ (t.pwm b).fired = k.val :: (s.pwm b).fired ∧
      (bits (s.fld F.PWM_TL_ACT_ARG b k) 3 0 = 1 + 6 * b.val → s.pdOn 8 = true → bits (s.fld F.PWM_TL_ACT_ARG b k) 4 4 = 0 →
        (t.sens b).openMark.at 0 (bits (s.fld F.PWM_TL_ACT_ARG b k) 5 4) = 8 * (t0 / 8) + 1)) ∧
  (∀ (s : State) (b : Fin 2) (k : Fin 32) (t0 : Nat), (s.pwm b).live = true → (s.pwm b).fired.contains k.val = false → s.fld F.PWM_TL_ACT_TYPE b k = 3 →
    s.slotActive b k = true → s.slotTime b k = some t0 → t0 / 8 ≤ s.counter b →
    ∃ t, exec (.tlCapture b k) s = .next t ∧ (t.pwm b).fired = k.val :: (s.pwm b).fired ∧
      t.flag F.PWM_CAP_INFO_VALID b (bits (s.fld F.PWM_TL_ACT_ARG b k) 2 0) = true ∧
      t.fld F.PWM_CAP_TS_LO_TS b (bits (s.fld F.PWM_TL_ACT_ARG b k) 2 0) = s.ts % 2 ^ 32 ∧
      t.capHi.at 0 (8 * b.val + bits (s.fld F.PWM_TL_ACT_ARG b k) 2 0) = s.ts / 2 ^ 32) ∧
  (∀ (s : State) (b : Fin 2) (k : Fin 32) (t0 : Nat), (s.pwm b).live = true → (s.pwm b).fired.contains k.val = false → s.fld F.PWM_TL_ACT_TYPE b k = 4 →
    s.slotActive b k = true → s.slotTime b k = some t0 → t0 / 8 ≤ s.counter b →
    ∃ t, exec (.tlEngineEvent b k) s = .next t ∧ (t.pwm b).fired = k.val :: (s.pwm b).fired ∧
      ∀ c : Fin 8, bits (s.fld F.PWM_TL_ACT_ARG b k) c c = 1 → s.isOn .engine c = true → bits (t.engine c).evPend (7 + b.val) (7 + b.val) = 1) ∧
  (∀ (s : State) (b : Fin 2) (t0 : Nat), s.wrapDue b = some t0 →
    ∃ t, exec (.pwmWrap b) s = .next t ∧ t.fld F.PWM_PERIOD_SEQ_SEQ b = (s.fld F.PWM_PERIOD_SEQ_SEQ b + 1) % 2 ^ 32 ∧
      (if (s.pwm b).stopPhase = 2 then (t.pwm b).running = false ∧ (t.pwm b).stopPhase = 0
       else (t.pwm b).wrapAt = t0 ∧ (t.pwm b).fired = [] ∧ (t.pwm b).midDone = false))

/-- Edges (R245, R247, R260, R262), the leg handshake and its timeout (R260, R261), the gate comparator (R248), the cross link (R264), a measured edge (R266) and the range of
channel 0 (R280) act on the satellite. -/
def Obligations.SatelliteGateCommandsAct : Prop :=
  (∀ (s : State) (n : Fin 12), s.lane n = true → (s.sat n).edge = false → s.linkLive n = true → s.satRuns n = true → (s.sat n).latched = false →
    (s.sat n).soft = 0 → (s.sat n).otShut = false → (s.sat n).uvloPos = false → (s.sat n).uvloNeg = false → (s.sat n).supplyMode ≠ 2 →
    (s.sat (partnerSat n)).req = none →
    ∃ t, exec (.satTurnOnEdge n) s = .next t ∧ (t.sat n).edge = true ∧ (t.sat n).req = some s.now ∧ (t.sat n).edgeAt = s.now ∧ t = { s with sats := t.sats }) ∧
  (∀ (s : State) (n : Fin 12), s.lane n = false → (s.sat n).edge = true → s.linkLive n = true → s.satRuns n = true → (s.sat n).soft = 0 →
    ∃ t, exec (.satTurnOffEdge n) s = .next t ∧ (t.sat n).edge = false ∧ (t.sat n).req = none ∧
      ((s.sat n).driven = true → if s.elapsedNs ((s.sat n).releasedAt.getD 0) 40 then (t.sat n).driven = false else (t.sat n).offDelayed = true)) ∧
  (∀ (s : State) (n : Fin 12), s.mayRelease n = true →
    ∃ t, exec (.handshakeRelease n) s = .next t ∧ (t.sat n).driven = true ∧ (t.sat n).req = none ∧ (t.sat n).releasedAt = some s.now ∧
      t.fld F.GDS_HS_STATS_CONSEC n = 0) ∧
  (∀ (s : State) (n : Fin 12), (s.sat n).req.isSome = true → (s.sat n).hintReq = false → s.elapsedNs (s.sat n).edgeAt (s.satSetN n P.HANDSHAKE_TIMEOUT) = true →
    ∃ t, exec (.handshakeTimeout n) s = .next t ∧ (t.sat n).req = none ∧ (t.sat n).skipRun = (s.sat n).skipRun + 1 ∧ t.faultActive .LEG_HANDSHAKE n = true) ∧
  (∀ (s : State) (n : Fin 12), (s.sat n).offDelayed = true → (s.sat n).driven = true → s.elapsedNs ((s.sat n).releasedAt.getD 0) 40 = true →
    ∃ t, exec (.minOnTimeExpiry n) s = .next t ∧ (t.sat n).driven = false ∧ (t.sat n).offDelayed = false) ∧
  (∀ (s : State) (n : Fin 12) (on : Bool), (s.sat n).gateOn ≠ on →
    ∃ t, exec (.gateStateChange n on) s = .next t ∧ (t.sat n).gateOn = on ∧ (t.sat n).latched = ((s.sat n).latched || (!on && (s.sat n).soft == 2)) ∧
      t = { s with sats := t.sats }) ∧
  (∀ (s : State) (n : Fin 12), (s.sat n).resumed = true → (s.sat n).driven ≠ (s.sat n).gateOn → (s.sat n).stuckTold = false →
    s.elapsedNs (s.sat n).changedAt (s.satSetN n P.T_GOFF_MAX) = true →
    ∃ t, exec (.gateStuckTimer n) s = .next t ∧ (t.sat n).stuckTold = true ∧ t.faultActive .GATE_STUCK n = true) ∧
  (∀ (s : State) (n : Fin 12) (off : Bool) (v : Nat) (crossed soft : Bool) (half : Nat), (s.sat n).resumed = true →
    ∃ t, exec (.satEdgeMeasured n off v crossed soft half) s = .next t ∧ (t.sat n).edges.length = (s.sat n).edges.length + 1 ∧ t = { s with sats := t.sats }) ∧
  (∀ (s : State) (n : Fin 12), (s.sat n).driven = true → (s.sat n).ch0Mode = 0 → (s.sat n).conduction = false → s.elapsedNs ((s.sat n).releasedAt.getD 0) 20 = true →
    ∃ t, exec (.ch0RangeSwitch n) s = .next t ∧ (t.sat n).conduction = true) ∧
  (∀ (s : State) (n : Fin 12), ∃ t, exec (.crossCarrierLoss n) s = .next t ∧ (t.sat n).crossOk = false ∧ (t.sat n).confSince = none ∧ t = { s with sats := t.sats })

/-- Keepalives and configuration frames (R250 to R252, R257, R258), return frames (R253, R267) and a HINT_ACK (R251) are taken in. -/
def Obligations.SatelliteFramesAct : Prop :=
  (∀ (s : State) (n : Fin 12), s.linkLive n = true → (s.elapsed (s.sat n).hintSentAt (10 * usT) = true ∨ s.bridgeHint (bridgeOfSat n) ≠ (s.sat n).hintSent) →
    ∃ t, exec (.keepaliveSend n) s = .next t ∧ (t.sat n).hintSent = s.bridgeHint (bridgeOfSat n) ∧ (t.sat n).hintSentAt = s.now ∧ t = { s with sats := t.sats }) ∧
  (∀ (s : State) (n : Fin 12), s.linkLive n = true →
    ∃ t, exec (.cfgKeepalive n) s = .next t ∧ (t.sat n).hint = (s.sat n).hintSent ∧ (t.sat n).ackDue = true ∧ (t.sat n).cfgAt = s.now ∧ t = { s with sats := t.sats }) ∧
  (∀ (s : State) (n : Fin 12) (i : Fin 256) (v : Word), s.linkLive n = true →
    ∃ t, exec (.cfgWrite n i v) s = .next t ∧ (t.sat n).cfgAt = s.now ∧
      (if reservedSetting i then (t.sat n).fwdErr = (s.sat n).fwdErr + 1 ∧ t.faultActive .LINK_ERR n = true
       else if i.val = 0x3F then (t.sat n).ch0Force = (if v.toNat = 1 then 1 else 0)
       else (t.sat n).settings.at none i.val = some (if i.val = 0x0C then ((v.toNat % 32 : Nat) : Int) else v.toInt))) ∧
  (∀ (s : State) (n : Fin 12), s.linkLive n = true → (s.sat n).clearDue = true →
    ∃ t, exec (.cfgDesatClear n) s = .next t ∧ (t.sat n).latched = false ∧ (t.sat n).report = false ∧ t.flag F.GDS_STATUS_DESAT_LATCH n = false ∧
      t = { s with sats := t.sats, regs := t.regs }) ∧
  (∀ (s : State) (n : Fin 12), s.linkLive n = true → (s.sat n).startStep = 6 → s.isStarting .satellite n = true →
    ∃ t, exec (.cfgResume n) s = .next t ∧ (t.sat n).resumed = true ∧ (t.sat n).strOn = s.satSetN n P.STR_INIT ∧
      ((s.lc .satellite n).pending ≠ .disable → t.isOn .satellite n = true)) ∧
  (∀ (s : State) (n : Fin 12), s.linkLive n = true → s.isStopping .satellite n = true →
    ∃ t, exec (.cfgStop n) s = .next t ∧ (t.sat n).resumed = false ∧ (t.sat n).req = none ∧
      ((s.sat n).driven = true → if s.elapsedNs ((s.sat n).releasedAt.getD 0) 40 then (t.sat n).driven = false else (t.sat n).offDelayed = true)) ∧
  (∀ (s : State) (n : Fin 12), (s.goodFrame n).2 = true →
    ∃ t, exec (.retStatus n) s = .next t ∧ t.flag F.GDS_STATUS_GATE_ON n = (s.sat n).gateOn ∧ t.flag F.GDS_STATUS_DESAT_LATCH n = (s.sat n).latched ∧
      (t.sat n).fwdErr = 0 ∧ t.faultActive .CROSS_LOSS n = !(s.sat n).crossOk) ∧
  (∀ (s : State) (n : Fin 12) (m : EdgeMsg) (l : List EdgeMsg), (s.goodFrame n).2 = true → (s.sat n).edges = m :: l →
    ∃ t, exec (.retEdge n) s = .next t ∧ (t.sat n).edges = l ∧ t.fld F.GDS_STRENGTH_ON_STR n = (s.sat n).strOn % 32) ∧
  (∀ (s : State) (n : Fin 12) (mv : Int), (s.goodFrame n).2 = true → -32768 ≤ mv → mv ≤ 32767 →
    ∃ t, exec (.retCond n mv) s = .next t ∧ t.fldS F.GDS_SENSE_V_COND n = mv) ∧
  (∀ (s : State) (n : Fin 12) (c : Int), (s.goodFrame n).2 = true →
    ∃ t, exec (.retTemp n c) s = .next t ∧ (t.sat n).tempAt = some s.now ∧ t.faultActive .SAT_OT_WARN n = decide (s.satSet n P.OT_WARN ≤ c)) ∧
  (∀ (s : State) (n : Fin 12) (vee : Bool) (mv : Int), (s.goodFrame n).2 = true → -32768 ≤ mv → mv ≤ 32767 →
    ∃ t, exec (.retRails n vee mv) s = .next t ∧ (if vee then t.fldS F.GDS_RAILS_VEE n = mv else t.fldS F.GDS_RAILS_VCC n = mv ∧ (t.sat n).vcc = mv)) ∧
  (∀ (s : State) (n : Fin 12) (skipped : Bool) (wait : Nat) (l : List (Bool × Nat)), (s.goodFrame n).2 = true → (s.sat n).hs = (skipped, wait) :: l →
    ∃ t, exec (.retHs n) s = .next t ∧ (t.sat n).hs = l ∧ (skipped = false → t.fld F.GDS_HS_WAIT_LAST n = min 65535 wait)) ∧
  (∀ (s : State) (n : Fin 12), (s.goodFrame n).2 = true → (s.sat n).ackDue = true →
    ∃ t, exec (.retHintAck n) s = .next t ∧ (t.sat n).ackDue = false ∧ (t.sat n).ackMissing = none ∧ t.fld F.GDS_STATUS_HINT_ACK n = (s.sat n).hint % 4)

/-- Bad frames and lost links (R255, R256, R285), desaturation (R269 to R271), UVLO, over-temperature and the supply (R273 to R279) and the loss of the bank (R283) act. -/
def Obligations.SatelliteFaultsAct : Prop :=
  (∀ (s : State) (n : Fin 12) (crc : Bool), s.linkLive n = true →
    ∃ t, exec (.returnFrameBad n crc) s = .next t ∧ t.faultActive .LINK_ERR n = true ∧ (t.sat n).badRun = (s.sat n).badRun + 1 ∧
      (4 ≤ (s.sat n).badRun + 1 → t.flag F.GDS_STATUS_FENCED n = true)) ∧
  (∀ (s : State) (n : Fin 12), s.linkLive n = true →
    ∃ t, exec (.returnCarrierLoss n) s = .next t ∧ t.flag F.GDS_STATUS_FENCED n = true ∧ t.faultActive .SAT_FENCED n = true ∧ (t.sat n).carriers = false ∧
      (t.safeOf (bridgeOfSat n)).locked = true) ∧
  (∀ (s : State) (n : Fin 12) (t0 : Nat), (s.sat n).ackMissing = some t0 → s.linkLive n = true → s.elapsed t0 (25 * usT) = true →
    ∃ t, exec (.hintAckTimeout n) s = .next t ∧ t.flag F.GDS_STATUS_FENCED n = true ∧ t.faultActive .SAT_FENCED n = true ∧ (t.sat n).carriers = false ∧
      (t.safeOf (bridgeOfSat n)).locked = true) ∧
  (∀ (s : State) (n : Fin 12), s.linkLive n = true → (s.sat n).breakDue = true →
    ∃ t, exec (.faultBreak n) s = .next t ∧ (t.sat n).breakDue = false ∧ (t.sat n).report = true) ∧
  (∀ (s : State) (n : Fin 12), (s.sat n).driven = true → (s.sat n).gateOn = true → (s.sat n).soft = 0 →
    s.elapsedNs ((s.sat n).releasedAt.getD 0) (s.satSetN n P.DESAT_BLANK) = true →
    ∃ t, exec (.desatDetect n) s = .next t ∧ (t.sat n).detectAt = some s.now ∧ t = { s with sats := t.sats }) ∧
  (∀ (s : State) (n : Fin 12) (t0 : Nat), (s.sat n).detectAt = some t0 → (s.sat n).driven = true → (s.sat n).soft = 0 →
    s.elapsedNs t0 (s.satSetN n P.DESAT_FILT) = true →
    ∃ t, exec (.desatConfirm n) s = .next t ∧ (t.sat n).soft = 1 ∧ (t.sat n).driven = false ∧ t.life.soft.at 0 n.val = s.life.soft.at 0 n.val + 1 ∧
      (s.linkLive n = true → t.faultActive .SAT_DESAT n = true ∧ (t.sat n).breakDue = true)) ∧
  (∀ (s : State) (n : Fin 12), (s.sat n).soft = 1 → s.elapsedNs (s.sat n).softAt (s.satSetN n P.SOFT_T1) = true →
    ∃ t, exec (.softOffLevel2 n) s = .next t ∧ (t.sat n).soft = (if (s.sat n).gateOn then 2 else 0) ∧ t = { s with sats := t.sats }) ∧
  (∀ (s : State) (b : Fin 2), (s.pwm b).live = true → (s.pwm b).clearDone = false → s.period b ≤ s.counter b + 800 →
    ∃ t, exec (.desatClearPoint b) s = .next t ∧ (t.pwm b).clearDone = true ∧ t = { s with pwms := t.pwms, sats := t.sats } ∧
      ∀ n ∈ satsOfBridge b, ((s.sat n).latched = true ∨ (s.sat n).report = true) → (s.sat n).noClear = false → s.linkLive n = true → (t.sat n).clearDue = true) ∧
  (∀ (s : State) (n : Fin 12), (s.sat n).resumed = true → (s.sat n).otShut = false →
    ∃ t, exec (.satOtShut n) s = .next t ∧ (t.sat n).otShut = true ∧ (t.sat n).req = none ∧ (s.linkLive n = true → t.faultActive .SAT_OT_SHUT n = true) ∧
      ((s.sat n).driven = true → if s.elapsedNs ((s.sat n).releasedAt.getD 0) 40 then (t.sat n).driven = false else (t.sat n).offDelayed = true)) ∧
  (∀ (s : State) (n : Fin 12) (mv : Int), (s.sat n).resumed = true → mv < s.satSet n P.UVLO_POS → (s.sat n).uvloPos = false →
    ((s.sat n).supplyMode ≠ 2 ∨ (s.sat n).driven = true) →
    ∃ t, exec (.uvloEngage n false mv) s = .next t ∧ (t.sat n).uvloPos = true ∧ (t.sat n).req = none ∧ (s.linkLive n = true → t.faultActive .UVLO_POS n = true) ∧
      ((s.sat n).soft = 0 → (s.sat n).driven = true → if s.elapsedNs ((s.sat n).releasedAt.getD 0) 40 then (t.sat n).driven = false else (t.sat n).offDelayed = true)) ∧
  (∀ (s : State) (n : Fin 12) (mv : Int), (s.sat n).resumed = true → s.satSet n P.UVLO_NEG ≠ 0 → s.satSet n P.UVLO_NEG < mv → (s.sat n).uvloNeg = false →
    ∃ t, exec (.uvloEngage n true mv) s = .next t ∧ (t.sat n).uvloNeg = true ∧ (t.sat n).req = none ∧ (s.linkLive n = true → t.faultActive .UVLO_NEG n = true) ∧
      ((s.sat n).soft = 0 → (s.sat n).driven = true → if s.elapsedNs ((s.sat n).releasedAt.getD 0) 40 then (t.sat n).driven = false else (t.sat n).offDelayed = true)) ∧
  (∀ (s : State) (n : Fin 12) (neg : Bool) (mv : Int), (if neg then (s.sat n).uvloNeg else (s.sat n).uvloPos) = true →
    (if neg then decide (mv ≤ s.satSet n P.UVLO_NEG - s.satSet n P.UVLO_HYST) else decide (s.satSet n P.UVLO_POS + s.satSet n P.UVLO_HYST ≤ mv)) = true →
    ∃ t, exec (.uvloRelease n neg mv) s = .next t ∧ (if neg then (t.sat n).uvloNeg else (t.sat n).uvloPos) = false ∧
      t.faultActive (if neg then .UVLO_NEG else .UVLO_POS) n = false) ∧
  (∀ (s : State) (n : Fin 12) (vcc vee : Int), s.isStarting .satellite n = true → (s.sat n).startStep = 5 → s.linkLive n = true →
    ((s.sat n).supplyMode = 2 ∨ s.satSet n P.UVLO_POS + s.satSet n P.UVLO_HYST ≤ vcc ∧
      (s.satSet n P.UVLO_NEG = 0 ∨ vee ≤ s.satSet n P.UVLO_NEG - s.satSet n P.UVLO_HYST)) →
    ∃ t, exec (.satRailsReady n vcc vee) s = .next t ∧ (t.sat n).startStep = 6 ∧ t = { s with sats := t.sats }) ∧
  (∀ (s : State) (n : Fin 12), (s.sat n).supplyMode = 1 → s.linkLive n = true → s.elapsed (s.sat n).txAt (10 * usT) = true →
    ∃ t, exec (.txDutyAdjust n) s = .next t ∧ (t.sat n).txAt = s.now ∧ (t.sat n).txDuty ≤ (s.sat n).txDuty + (s.sat n).txDuty / 100 ∧
      (s.sat n).txDuty ≤ (t.sat n).txDuty + (s.sat n).txDuty / 100 ∧ t = { s with sats := t.sats }) ∧
  (∀ (s : State) (n : Fin 12) (t0 : Nat), (s.sat n).regSince = some t0 → (s.sat n).supplyMode = 1 → s.isOn .satellite n = true → s.elapsed t0 msT = true →
    ∃ t, exec (.supplyRegTimer n) s = .next t ∧ t.faultActive .SUPPLY_REG n = true) ∧
  (∀ (s : State) (n : Fin 12) (c : Bool), (s.sat n).listening = true → (s.sat n).applying = false →
    (s.elapsed (s.sat n).cfgAt (25 * usT) = true ∨ c = true ∨ (s.sat n).carriers = false ∨ s.pdOn (satDomain n) = false) →
    ∃ t, exec (.satLinkLoss n c) s = .next t ∧ (t.sat n).applying = true ∧ (t.sat n).lossSeen = true ∧ (t.sat n).lossHint = (s.sat n).hint)

/-- Starts (R298, R299) and completions (R302) of the main ADCs, the reference check (R297), the reads that clear VALID (R321), the comparators (R304), the demodulators'
outputs (R305, R308) and the comparison of the DC links (R310) act. -/
def Obligations.CurrentSensingCommandsAct : Prop :=
  (∀ (s : State) (m : Fin 21) (n : Fin 6) (i : Fin 8), (s.mayWrite m .ADC_SW_START n).2 = true →
    ∃ t, exec (.adcSwStart m n i) s = .next t ∧
      (if (s.adc n).run.isNone && (s.adc n).aborted.isNone then (t.adc n).run.map (fun c => (c.src, c.input)) = some (.software, i.val)
       else if (s.adc n).heldSw.isNone then (t.adc n).heldSw = some i.val
       else t.fld F.ADC_STATS_SW_DROP n = min 255 (s.fld F.ADC_STATS_SW_DROP n + 1))) ∧
  (∀ (s : State) (n : Fin 6) (i : Fin 8), s.pdOn 8 = true → s.par P.ADC_MODE n ≠ 2 → (s.adc n).run = none → (s.adc n).aborted = none →
    ∃ t, exec (.adcUrgentRequest (.safety n i)) s = .next t ∧ (t.adc n).run.map (fun c => (c.src, c.input)) = some (.safety, i.val)) ∧
  (∀ (s : State) (b : Fin 2), s.pdOn 8 = true → (s.sens b).tripCapDue = true →
    ∃ t, exec (.adcUrgentRequest (.tripCap b)) s = .next t ∧ (t.sens b).tripCapDue = false) ∧
  (∀ (s : State) (n : Fin 6) (raw : Int) (c : Conv), (s.adc n).run = some c → s.pdOn 8 = true → s.elapsed c.at_ (s.convTime n) = true →
    ∃ t, exec (.adcConversionDone n raw) s = .next t ∧
      (c.src = .timeline → t.flag F.ADC_RESULT_VALID n = true) ∧ (c.src = .safety → (t.adc n).safety = some (c.input, s.correct n raw))) ∧
  (∀ (s : State) (n : Fin 6) (raw : Int), (s.adc n).run = none → (s.adc n).aborted = none → s.pdOn 8 = true →
    ∃ t, exec (.adcRefCheck n raw) s = .next t ∧ (t.adc n).refOk = decide ((s.correct n raw - 4096).natAbs ≤ 40) ∧
      ((t.adc n).refOk = false → (s.adc n).refBad = 2 → t.faultActive .ADC_REF_FAULT n = true)) ∧
  (∀ (s : State) (m : Fin 21) (n : Fin 6), (s.mayRead m .ADC_RESULT n).2 = true →
    ∃ t, exec (.resultRead m n) s = .next t ∧ t.flag F.ADC_RESULT_VALID n = false ∧ t = { s with regs := t.regs }) ∧
  (∀ (s : State) (m : Fin 21) (b : Fin 2), (s.mayRead m .ADC_TRIP_CAP1 b).2 = true →
    ∃ t, exec (.tripCap1Read m b) s = .next t ∧ t.flag F.ADC_TRIP_CAP1_VALID b = false ∧ t = { s with regs := t.regs }) ∧
  (∀ (s : State) (k : Fin 8) (mv : Int), s.pdOn 8 = true → bits (s.fld F.ADC_CT_STATUS_LEVEL) k k = 0 → s.ctTrue k mv 0 = true →
    ∃ t, exec (.ctAssert k mv) s = .next t ∧ bits (t.fld F.ADC_CT_STATUS_LEVEL) k k = 1 ∧ bits (t.fld F.ADC_CT_STATUS_LATCHED) k k = 1) ∧
  (∀ (s : State) (k : Fin 8) (mv : Int), s.pdOn 8 = true → bits (s.fld F.ADC_CT_STATUS_LEVEL) k k = 1 → s.ctTrue k mv 50 = false →
    ∃ t, exec (.ctAssert k mv) s = .next t ∧ bits (t.fld F.ADC_CT_STATUS_LEVEL) k k = 0 ∧ t = { s with regs := t.regs }) ∧
  (∀ (s : State) (c : Fin 24) (w : List Bool), s.pdOn 8 = true → s.linkLive (c.val / 2) = true → w.length = 3 * s.parN P.DS_OSR c - 2 →
    s.elapsed (s.sense.outAt.at 0 c.val) (40 * s.parN P.DS_OSR c) = true →
    ∃ t, exec (.dsOutput c w) s = .next t ∧ t.sense.outAt.at 0 c.val = s.now ∧
      (s.isOn .satellite (c.val / 2) = true → (s.sense.since.at none c.val).any (fun t0 => s.elapsed t0 (120 * s.parN P.DS_OSR c)) = true →
        t.flag F.ADC_DS_VAL_VALID c = true ∧ t.fldS F.ADC_DS_VAL_VALUE c = toSigned 16 (ofSigned 16 (sinc3 (s.parN P.DS_OSR c) w)))) ∧
  (∀ (s : State) (t0 : Nat), s.sense.mismatchSince = some t0 → s.elapsed t0 msT = true →
    ∃ t, exec .vdcMismatchTimer s = .next t ∧ t.faultActive .VDC_MISMATCH 0 = true)

/-- Edges and references of encoders (R336 to R338), carrier periods of resolvers (R332 to R335), Hall states (R339, R341), serial responses (R342, R343), standstill (R329) and
position compares (R346, R347) act. -/
def Obligations.PositionCommandsAct : Prop :=
  (∀ (s : State) (k : Fin 4), s.parN P.PCMP_SRC k < 2 → s.isOn .posCmp k = true →
    ∃ t, exec (.pcmpResolverEval k) s = .next t ∧ (t.posCmp k).prev = s.posNow (s.parN P.PCMP_SRC k) ∧ t = { s with regs := t.regs, lcs := t.lcs, posCmps := t.posCmps }) ∧
  (∀ (s : State) (k : Fin 4) (t0 : Nat), (s.posCmp k).pulseAt = some t0 → s.elapsedNs t0 (s.parN P.PCMP_WIDTH k) = true →
    ∃ t, exec (.pcmpPulseEnd k) s = .next t ∧ (t.posCmp k).pulseAt = none ∧ t.flag F.POS_PCMP_STATUS_ACTIVE k = false ∧
      t = { s with regs := t.regs, posCmps := t.posCmps }) ∧
  (∀ (s : State) (i : Fin 8), s.isOn .posIf i = true → (s.posIf i).standstill = false → s.elapsed (s.posIf i).lastEdge (s.parN P.SPD_STANDSTILL i * msT) = true →
    ∃ t, exec (.spdStandstillExpiry i) s = .next t ∧ (t.posIf i).standstill = true ∧ (t.posIf i).hist = [] ∧ t = { s with posIfs := t.posIfs }) ∧
  (∀ (s : State) (n : Fin 2), s.isOn .posIf (n.val + 2) = true → s.par P.INDEX_EN (n.val + 2) = 1 → s.par P.ENC_MODE (n.val + 2) = 0 →
    ∃ t, exec (.encIndex n) s = .next t ∧ (t.posIf (n.val + 2)).travel = 0 ∧
      (s.flag F.POS_IF_STATUS_ALIGNED (n.val + 2) = false → t.flag F.POS_IF_STATUS_ALIGNED (n.val + 2) = true)) ∧
  (∀ (s : State) (n : Fin 2), s.isOn .posIf (n.val + 2) = true →
    ∃ t, exec (.encIllegalTransition n) s = .next t ∧ t.faultActive .ENC_QUAD_ERR (n.val + 2) = true ∧ (t.posIf (n.val + 2)).standstill = true) ∧
  (∀ (s : State) (i : Fin 4) (back : Bool), (s.isOn .posIf i = true ∨ (2 ≤ i.val ∧ s.isStarting .posIf i = true)) →
    ∃ t, exec (.posQualifyingEdge i back) s = .next t ∧ (t.posIf i).lastEdge = s.now) ∧
  (∀ (s : State) (n : Fin 2) (sin cos lag err : Int) (angle : Nat), (s.isOn .posIf n = true ∨ s.isStarting .posIf n = true) →
    ∃ t, exec (.rsvCarrierPeriod n sin cos lag err angle) s = .next t ∧ (t.posIf n).carriers = (s.posIf n).carriers + 1 ∧
      t.fld F.POS_RSV_TRACK_LAST n = min 65535 err.natAbs) ∧
  (∀ (s : State) (n : Fin 2), (s.isOn .posIf n = true ∨ s.isStarting .posIf n = true) →
    ∃ t, exec (.rsvExcLimitTimer n) s = .next t ∧ t.faultActive .RSV_EXC_FAULT n = true) ∧
  (∀ (s : State) (n : Fin 2) (st : Fin 8) (sec : Nat), hallSector st = some sec → (s.isOn .posIf (n.val + 4) = true ∨ s.isStarting .posIf (n.val + 4) = true) →
    st.val ≠ s.fld F.POS_HALL_DIAG_STATE n →
    ∃ t, exec (.hallTransition n st) s = .next t ∧ t.fld F.POS_HALL_DIAG_STATE n = st ∧ (t.posIf (n.val + 4)).ready = true) ∧
  (∀ (s : State) (n : Fin 2) (seven : Bool), (s.isOn .posIf (n.val + 4) = true ∨ s.isStarting .posIf (n.val + 4) = true) →
    ∃ t, exec (.hallInvalidState n seven) s = .next t ∧ (t.posIf (n.val + 4)).ok = false ∧ t.fld F.POS_HALL_DIAG_STATE n = (if seven then 7 else 0) ∧
      t.faultActive .HALL_INVALID (n.val + 4) = true) ∧
  (∀ (s : State) (n : Fin 2), (s.isOn .posIf (n.val + 6) = true ∨ s.isStarting .posIf (n.val + 6) = true) → s.par P.SER_ROLE (n.val + 6) = 0 →
    s.elapsed (s.posIf (n.val + 6)).sentAt (s.parN P.SER_PERIOD (n.val + 6) * usT) = true →
    ∃ t, exec (.serRequestSend n) s = .next t ∧ (t.posIf (n.val + 6)).sentAt = s.now ∧ (t.posIf (n.val + 6)).asked = true ∧ t = { s with posIfs := t.posIfs }) ∧
  (∀ (s : State) (n : Fin 2) (bs : List Byte) (framing : Bool) (age : Nat), (s.isOn .posIf (n.val + 6) = true ∨ s.isStarting .posIf (n.val + 6) = true) →
    ((s.posIf (n.val + 6)).asked = true ∨ s.par P.SER_ROLE (n.val + 6) = 1) →
    ∃ t, exec (.serResponse n bs framing age) s = .next t ∧
      (if framing || bs.length ≠ s.parN P.SER_RESP_BYTES (n.val + 6) || crc8 (s.parN P.SER_CRC_POLY (n.val + 6)) (bs.take (s.parN P.SER_RESP_BYTES (n.val + 6) - 1)) ≠
          leNat (bs.drop (s.parN P.SER_RESP_BYTES (n.val + 6) - 1)) then
         (t.posIf (n.val + 6)).badRun = (s.posIf (n.val + 6)).badRun + 1 ∧ t.faultActive .SER_CRC (n.val + 6) = true
       else (t.posIf (n.val + 6)).badRun = 0 ∧ (t.posIf (n.val + 6)).known = true ∧ (t.posIf (n.val + 6)).asked = false)) ∧
  (∀ (s : State) (n : Fin 2), (s.isOn .posIf (n.val + 6) = true ∨ s.isStarting .posIf (n.val + 6) = true) →
    (if s.par P.SER_ROLE (n.val + 6) = 1 then s.elapsed (s.posIf (n.val + 6)).sentAt (2 * s.parN P.SER_PERIOD (n.val + 6) * usT)
     else (s.posIf (n.val + 6)).asked && s.elapsed (s.posIf (n.val + 6)).sentAt
       (800000 * 10 * (1 + s.parN P.SER_RESP_BYTES (n.val + 6)) / max 1 (s.parN P.SER_BAUD (n.val + 6)) + 2 * usT)) = true →
    ∃ t, exec (.serResponseTimeout n) s = .next t ∧ (t.posIf (n.val + 6)).badRun = (s.posIf (n.val + 6)).badRun + 1 ∧ t.faultActive .SER_CRC (n.val + 6) = true)

/-- The seam check (R133), WINDOW_STARVED (R139), the filling of tiles and half-tiles (R137, R138, R156) and the committer (R149) act on the atlas of their slot. -/
def Obligations.AtlasWindowCommandsAct : Prop :=
  (∀ (s : State),
    ∃ t, exec .seamCheck s = .next t ∧ s.fld F.ATLAS_SEAM_MAX_SEAM_PSI_D 0 ≤ t.fld F.ATLAS_SEAM_MAX_SEAM_PSI_D 0 ∧
      s.fld F.ATLAS_SEAM_MAX_SEAM_PSI_Q 1 ≤ t.fld F.ATLAS_SEAM_MAX_SEAM_PSI_Q 1 ∧
      (s.isOn .slot 0 = false → s.isOn .slot 1 = false → t = s) ∧ t = { s with regs := t.regs }) ∧
  (∀ (s : State) (n : Fin 2) (t0 : Nat), (s.atl n).coarseSince = some t0 → s.isOn .slot n = true → s.elapsed t0 (s.parN P.COARSE_WARN_T n * msT) = true →
    ∃ t, exec (.windowStarvedTimer n) s = .next t ∧ t.faultActive .WINDOW_STARVED n = true) ∧
  (∀ (s : State) (n : Fin 2) (errs : List (Nat × Nat)) (td tq : Nat) (rest : List (Nat × Nat)), (s.atl n).fillQ = (td, tq) :: rest → s.mramReady = true →
    ∃ t, exec (.tileFillDone n errs) s = .next t ∧ (t.atl n).fillQ = rest ∧
      (rest = [] → (t.atl n).tiles.at none (2 * tilePos td tq) ≠ none ∧ (t.atl n).tiles.at none (2 * tilePos td tq + 1) ≠ none) ∧
      (badWords errs ≠ [] → t.faultActive .ATLAS_NODE_UNCORR n = true)) ∧
  (∀ (s : State) (n : Fin 2) (errs : List (Nat × Nat)) (td tq st : Nat) (rest : List (Nat × Nat × Nat)), (s.atl n).halfQ = (td, tq, st) :: rest → s.mramReady = true →
    ∃ t, exec (.strataReloadDone n errs) s = .next t ∧ (t.atl n).halfQ = rest ∧
      (t.atl n).tiles.at none (2 * tilePos td tq + st % 2) = some (td, tq, st) ∧
      (badWords errs ≠ [] → t.faultActive .ATLAS_NODE_UNCORR n = true)) ∧
  (∀ (s : State) (n : Fin 2) (b : Nat), s.mramReady = true → (s.changedBlocks n).filter (s.commitDue n) = [b] →
    ∃ t, exec (.commitBlock n) s = .next t ∧ (t.atl n).drift.at 0 b = 0 ∧ (t.atl n).last.at 0 b = s.ptime ∧ (t.atl n).rewrite.contains b = false ∧
      t.atlasNv.commits.at 0 n = s.atlasNv.commits.at 0 n + 1)

/-- The rate credit and the publications of dressing (R142), address-parity errors (R154), the scrubber (R156 to R158), signature checks and bedrock images (R162 to R164), and the
dressed export (R161) act. -/
def Obligations.DressingAndMramCommandsAct : Prop :=
  (∀ (s : State) (n : Fin 2), s.isOn .dressing n = true → s.ts / 1000000 + 1 ≠ (s.atl n).creditAt →
    ∃ t, exec (.dressCreditWindow n) s = .next t ∧
      (t.atl n).credit = min ((s.atl n).credit + s.parN P.DRESS_RATE n) (s.parN P.DRESS_RATE n + 999) ∧ t = { s with atlas := t.atlas }) ∧
  (∀ (s : State) (n : Fin 2) (r : List Byte) (rest : List (List Byte)), (s.atl n).fifo = r :: rest → s.pdOn 5 = true →
    ∃ t, exec (.dressPublication n) s = .next t ∧ (t.atl n).fifo = rest ∧
      (bits (rawField r 25 1) 7 7 = 1 → (t.atl n).target = some (rawFieldS r 8 2, rawFieldS r 10 2)) ∧
      (bits (rawField r 25 1) 7 7 = 0 → s.isOn .dressing n = false → t.fld F.ATLAS_DRESS_DROP_OTHER n = (s.fld F.ATLAS_DRESS_DROP_OTHER n + 1) % 2 ^ 16) ∧
      t = { s with regs := t.regs, mem := t.mem, atlas := t.atlas, memc := t.memc }) ∧
  (∀ (s : State), s.pdOn 5 = true → s.flag F.ATLAS_MRAM_STATUS_TRAINED = true → s.fenced = false →
    ∃ t, exec .mramAddressParityError s = .next t ∧ t.atlasC.parity = (s.atlasC.parity.filter (fun t => !s.elapsed t secT)) ++ [s.now] ∧
      (4 ≤ t.atlasC.parity.length → t.fenced = true ∧ t.faultActive .MRAM_FENCED 255 = true)) ∧
  (∀ (s : State) (errs : List (Nat × Nat)), s.mramReady = true →
    s.atlasNv.nextBlock * (s.parN P.SCRUB_PASS_H * 3600) ≤ (s.ptime - s.atlasNv.passStart) * 32768 → s.atlasNv.nextBlock < 32768 →
    ∃ t, exec (.mramScrubBlock errs) s = .next t ∧ t.atlasNv.nextBlock = (s.atlasNv.nextBlock + 1) % 32768 ∧
      t.atlasNv.passCount = s.atlasNv.passCount + (s.atlasNv.nextBlock + 1) / 32768) ∧
  (∀ (s : State) (n : Fin 2), s.pdOn 1 = true → s.island.sp0.selftest = true → s.island.sp1.selftest = true → s.pdOn 5 = true →
    (s.atl n).resolved = true → (s.atl n).bedrock = true → s.atlasC.sig.at none n = none →
    ∃ t, exec (.bedrockSigCheck n) s = .next t ∧
      t.atlasC.sig.at none n = some (Config.ecdsaOk (beBytes 64 (s.parN P.INSTALLER_KEY))
        (Config.sha256 ((s.bedrockHdr n).take 192 ++ s.bedrockBody n 0)) (((s.bedrockHdr n).drop 192).take 64)) ∧
      (t.atlasC.sig.at none n = some false → s.hasGeo n = true → t.faultActive .BEDROCK_INVALID n = true)) ∧
  (∀ (s : State) (n : Fin 64) (w : WorkItem) (d : List Byte), s.mayRun n 0x31 (.roles [2]) true 2 [(24, 1)] w = true → rawField w.raw 24 1 ≤ 1 →
    256 ≤ rawLen w.raw → rawLen w.raw ≤ 0x200000 → s.bulk = none → s.isOff .slot (rawTarget w.raw) = true → s.isOff .dressing (rawTarget w.raw) = true →
    s.mramReady = true → s.rpPcie n = true → s.hostOk n (rawAddr w.raw) (rawLen w.raw) false = true → d.length = rawLen w.raw →
    ∃ t, exec (.bedrockImport n (some d)) s = .next t ∧
      t.bulk = some ⟨.bedrockImport, n, w.wid, rawTarget w.raw, [], d.length, false, rawField w.raw 24 1⟩ ∧
      t.mram = Memory.write s.mram 0x5600000 d ∧ t.flag F.ATLAS_MRAM_STATUS_IMPORT_BUSY = true) ∧
  (∀ (s : State) (b : Bulk), s.bulk = some b → b.kind = .bedrockImport → b.checked = false →
    ∃ t, exec .bedrockImageChecked s = .next t ∧
      ((t.bulk = none ∧ t.flag F.ATLAS_MRAM_STATUS_IMPORT_BUSY = false ∧ t.faultActive .IMPORT_REFUSED b.target = true) ∨
        (t.bulk.map (fun c => { c with result := b.result }) = some { b with checked := true } ∧ t.bedrockValid b.target = true ∧
          t.atlasNv.policy.at none b.target = some b.param ∧ t.atlasNv.commits.at 0 b.target = 0))) ∧
  (∀ (s : State) (n : Fin 2), s.policySlot = some n.val → s.mramReady = true →
    ∃ t, exec .importInstallDone s = .next t ∧ t.atlasNv.policy.at none n = none ∧ t.flag F.ATLAS_INT_STATUS_IMPORT_DONE = true ∧
      (s.hasGeo n = true → (t.atl n).coarse = true ∧ (t.atl n).window = true)) ∧
  (∀ (s : State) (n : Fin 64) (w : WorkItem), s.mayRun n 0x30 (.roles [1, 2]) false 2 [] w = true → s.bulk = none → s.atlasReady (rawTarget w.raw) = true →
    ∃ t, exec (.atlasExport n) s = .next t ∧ (t.bulk.map (fun b => (b.kind, b.pair, b.wid, b.target, b.result))) =
      some (.atlasExport, n.val, w.wid, rawTarget w.raw, 256 + 8 * (s.geo (rawTarget w.raw)).count)) ∧
  (∀ (s : State) (b : Bulk), s.bulk = some b → b.kind = .atlasExport → b.queue = [] →
    ∃ t, exec .atlasExportDone s = .next t ∧ t.bulk = none ∧
      t = (({ s with bulk := none } : State).setFlag F.ATLAS_INT_STATUS_EXPORT_DONE true).finish b.pair b.wid St.ok b.result)

/-- Enable and disable of a ring pair (R406), its doorbells (R407, R408), the fetch (R408, R410, R411), reserved opcodes (R415, R416), NOP, the interrupt timer (R412), and posted
buffers (R421) act. -/
def Obligations.RingPairCommandsAct : Prop :=
  (∀ (s : State) (master : Fin 21) (n : Fin 64), (s.mayWrite master .DERRICK_RP_CTRL n).2 = true → (master.val = 16 → s.rpPcie n = true) → s.rpRefusal n = 0 →
    ∃ t, exec (.rpEnable master n) s = .next t ∧ t.lc .ring n = Lc.enable (s.lc .ring n) s.now ∧
      (s.isOff .ring n = true → t.ring n = { nextWid := (s.ring n).nextWid })) ∧
  (∀ (s : State) (master : Fin 21) (n : Fin 64), (s.mayWrite master .DERRICK_RP_CTRL n).2 = true → (master.val = 16 → s.rpPcie n = true) → s.isOn .ring n = true →
    ∃ t, exec (.rpDisable master n) s = .next t ∧ t.isStopping .ring n = true ∧ (t.ring n).bufs = []) ∧
  (∀ (s : State) (master : Fin 21) (n : Fin 64) (tail : Fin 4096), (s.mayWrite master .DERRICK_DB_SQ n).2 = true → s.doorbellMaster master n = true →
    ∃ t, exec (.dbSqWrite master n tail) s = .next t ∧ (t.hostOf (s.rpHost n)).lastDb = s.now ∧
      (s.isOn .ring n = true → (tail.val < s.rpSize n → (t.ring n).tail = tail) ∧
        (s.rpSize n ≤ tail.val → t.isStopping .ring n = true ∧ t.faultActive .RING_FORMAT n = true)) ∧
      (s.isStarting .ring n = true → (t.ring n).dbWaiting = some tail.val)) ∧
  (∀ (s : State) (master : Fin 21) (n : Fin 64) (head : Fin 4096), (s.mayWrite master .DERRICK_DB_CQ n).2 = true → s.doorbellMaster master n = true →
    s.isOn .ring n = true → head.val < s.rpSize n → ringDist (s.rpSize n) (s.ring n).released head ≤ (s.ring n).outstanding →
    ∃ t, exec (.dbCqWrite master n head) s = .next t ∧ (t.ring n).released = head ∧ (t.hostOf (s.rpHost n)).lastDb = s.now ∧
      (t.ring n).outstanding = (s.ring n).outstanding - ringDist (s.rpSize n) (s.ring n).released head) ∧
  (∀ (s : State) (n : Fin 64) (host : List Byte), s.canFetch n = true → s.myTurn n = true → s.hostOk n (s.rpBase n + 64 * (s.ring n).head) 64 false = true →
    ∃ t, exec (.descriptorFetch n host) s = .next t ∧ (t.ring n).head = ((s.ring n).head + 1) % s.rpSize n ∧
      (t.ring n).work = (s.ring n).work ++ [⟨(s.ring n).nextWid,
        if s.rpPcie n then (host ++ List.replicate 64 0#8).take 64 else s.sysBytes (s.rpBase n + 64 * (s.ring n).head) 64, false, none⟩] ∧
      t = { s with rings := t.rings, served := t.served }) ∧
  (∀ (s : State) (n : Fin 64) (w : WorkItem), s.isOn .ring n = true → (s.ring n).nextItem = some w → (s.ring n).fenceOk w = true → s.opAllowed n (rawOpcode w.raw) = false →
    ∃ t, exec (.reservedDescriptorOpcode n) s = .next t ∧ t = s.finish n w.wid St.badOpcode 0) ∧
  (∀ (s : State) (n : Fin 64) (w : WorkItem), s.mayRun n 0x00 .any false 1 [] w = true →
    ∃ t, exec (.nopDescriptor n) s = .next t ∧ t = (s.markStarted n w.wid).finish n w.wid St.ok 0) ∧
  (∀ (s : State) (n : Fin 64) (t0 : Nat), (s.ring n).unsigSince = some t0 → s.fld F.DERRICK_RP_CFG_IRQ_TIME n ≠ 0 →
    s.elapsed t0 (s.fld F.DERRICK_RP_CFG_IRQ_TIME n * usT) = true →
    ∃ t, exec (.irqTimerExpiry n) s = .next t ∧ (t.ring n).unsig = 0 ∧ (t.ring n).unsigSince = none ∧
      (if s.rpPcie n then t.msix.contains (s.fld F.DERRICK_RP_CFG_VECTOR n) = true else t.irqLines.contains (s.fld F.DERRICK_RP_CFG_VECTOR n % 4) = true) ∧
      t = { s with rings := t.rings, msix := t.msix, irqLines := t.irqLines }) ∧
  (∀ (s : State) (n : Fin 64) (w : WorkItem), s.mayRun n 0x01 .any true 1 [] w = true → 64 ≤ rawLen w.raw → rawLen w.raw ≤ 65536 → rawLen w.raw % 16 = 0 →
    s.hostOk n (rawAddr w.raw) (rawLen w.raw) true = true → s.bulk = none →
    ∃ t, exec (.recvBuf n) s = .next t ∧
      (t.ring n).bufs = (s.ring n).bufs ++ [⟨w.wid, rawAddr w.raw, rawLen w.raw, 0, 0, none, rawTag w.raw, rawFlags w.raw⟩]) ∧
  (∀ (s : State) (n : Fin 64) (b : RecvBuf) (rest : List RecvBuf) (t0 : Nat), (s.ring n).bufs = b :: rest → b.firstAt = some t0 →
    s.elapsed t0 (s.parN P.FLUSH_T * usT) = true → s.bulk = none →
    ∃ t, exec (.flushTExpiry n) s = .next t ∧ (t.ring n).bufs = rest ∧ t = (s.setRing n { s.ring n with bufs := rest }).completeBuf n b)

/-- Log exports (R459), the heartbeat of a host (R424), HOLD_T (R426), and the PCIe link (R428, R430, R433, R434) act. -/
def Obligations.HostLinkCommandsAct : Prop :=
  (∀ (s : State) (n : Fin 64) (w : WorkItem), s.mayRun n 0x32 (.roles [1, 2, 3]) false 1 [(24, 1), (28, 4), (32, 4)] w = true → rawField w.raw 24 1 ≤ 1 →
    s.bulk = none → s.mramReady = true →
    ∃ t, exec (.logExport n) s = .next t ∧ t.bulk.map (fun b => (b.kind, b.pair, b.wid, b.target, b.result)) = some (.logExport, n.val, w.wid, rawField w.raw 24 1,
      (s.logEntries (rawField w.raw 24 1) (rawField w.raw 28 4) (rawField w.raw 32 4)).length)) ∧
  (∀ (s : State) (b : Bulk), s.bulk = some b → b.kind = .logExport → b.queue = [] →
    ∃ t, exec .logExportDone s = .next t ∧ t.bulk = none ∧ t.answered b.pair b.wid = true ∧
      (b.target = 1 → b.result ≠ 0 → t.prot.audit.exported = ((s.prot.audit.index.filter (fun p => decide (p.1 < b.param))).getLast?.map (fun p => p.1)))) ∧
  (∀ (s : State) (h : Fin 2), s.hostPresent h = true → s.elapsed (s.hostOf h).lastDb (s.parN P.HB_TIMEOUT h * msT) = true →
    ∃ t, exec (.hbTimeoutExpiry h) s = .next t ∧ (t.hostOf h).lost = true ∧ t.hostPresent h = false) ∧
  (∀ (s : State) (n : Fin 2), s.elapsed (s.slotHost n).lossAt ((s.slotHost n).holdT * msT) = true → (s.slotHost n).ramped = false → (s.slotHost n).due = false →
    ((s.slotHost n).policy = 3 ∨ (s.slotHost n).policy = 2 ∧ (s.slotHost n).firstCan = false) →
    ∃ t, exec (.holdTExpiry n) s = .next t ∧ t.slotHost n = { s.slotHost n with due := true } ∧
      ((s.slotHost n).policy = 2 → t.faultActive .HANDOVER_FAIL n = true)) ∧
  (∀ (s : State) (speed : Fin 4) (wide bme memEn : Bool), s.pdOn 9 = true → s.flag F.PCIE_CTRL_LINK_EN = true →
    ∃ t, exec (.pcieLinkUp speed wide bme memEn) s = .next t ∧ t.flag F.PCIE_STATUS_DL_ACTIVE = true ∧ t.flag F.PCIE_STATUS_BME = bme ∧
      t.flag F.PCIE_STATUS_MEM_EN = memEn ∧ (s.flag F.PCIE_STATUS_DL_ACTIVE = false → t.fld F.PCIE_STATUS_SPEED = speed ∧ t.fld F.PCIE_STATUS_WIDTH = (if wide then 2 else 1)) ∧
      t = { s with regs := t.regs }) ∧
  (∀ (s : State), s.flag F.PCIE_STATUS_DL_ACTIVE = true →
    ∃ t, exec .pcieLinkDown s = .next t ∧ t.flag F.PCIE_STATUS_DL_ACTIVE = false ∧ t.flag F.PCIE_STATUS_BME = false ∧ t.fld F.PCIE_STATUS_WIDTH = 0 ∧
      t.hostPresent 1 = false ∧ (s.hostPresent 1 = true → t.flag F.PCIE_INT_STATUS_SURPRISE = true)) ∧
  (∀ (s : State), s.flag F.PCIE_STATUS_BME = true →
    ∃ t, exec .bmeCleared s = .next t ∧ t.flag F.PCIE_STATUS_BME = false ∧ t.flag F.PCIE_INT_STATUS_BME_CLEARED = true ∧ t.hostPresent 1 = false) ∧
  (∀ (s : State) (n : Fin 64), s.rpPcie n = true → s.isOff .ring n = false →
    ∃ t, exec (.pcieCompletionTimeout n) s = .next t ∧ t.faultActive .RING_DMA_ERR n = true ∧ t.isOn .ring n = false)

/-- A DRIVE_CMD is placed in the mailbox of a slot that is ON, or held by one that is STARTING (R66 to R68, R417); with MODE = 3 it requests active discharge (R70, R392); CLAIM_SOURCE ends
a handover (R427). -/
def Obligations.DriveCommandsAct : Prop :=
  (∀ (s : State) (n : Fin 64) (w : WorkItem) (k : Fin 2), s.mayRun n 0x10 .drive false 2 driveCmdUsed w = true → rawTarget w.raw = k.val → rawField w.raw 24 1 < 3 →
    rawField w.raw 25 1 = 0 → 0 ≤ rawFieldS w.raw 36 4 → s.cmdSourceOf k = 0 →
    (s.isOn .slot k = true ∧ (rawField w.raw 24 1 = 2 → (s.slot k).expert = true) ∨ s.isStarting .slot k = true) →
    ∃ t, exec (.driveCmd n) s = .next t ∧ (t.slotHost k).host = some (s.rpHost n) ∧
      (s.isStarting .slot k = true → (t.slot k).held = some (driveCmdOf w.raw s.ts n w.wid)) ∧
      (s.isOn .slot k = true → (t.slot k).cmdSeq = ((s.slot k).cmdSeq + 1) % 65536 ∧
        (t.slot k).mail.any (fun c => { c with buf := 0 } == { driveCmdOf w.raw s.ts n w.wid with seq := (s.slot k).cmdSeq }) = true)) ∧
  (∀ (s : State) (n : Fin 64) (w : WorkItem), s.mayRun n 0x10 .drive false 2 driveCmdUsed w = true → rawField w.raw 24 1 = 3 → rawField w.raw 25 1 ≤ 1 →
    s.cmdSourceOf (rawTarget w.raw) = 0 → s.pdOn 1 = true →
    (rawField w.raw 25 1 = 1 ∨ s.isOn .slot 0 = false ∧ s.isOn .slot 1 = false) →
    ∃ t, exec (.driveCmdDischarge n) s = .next t ∧ t.isOff .discharge 0 = false ∧ t.answered n w.wid = true) ∧
  (∀ (s : State) (n : Fin 64) (w : WorkItem), s.mayRun n 0x1A .drive false 2 [] w = true → s.isOn .slot (rawTarget w.raw) = true →
    ((s.slotHost (rawTarget w.raw)).policy = 2 ∨ (s.slotHost (rawTarget w.raw)).source = true) →
    ∃ t, exec (.claimSource n) s = .next t ∧ t.cmdSourceOf (rawTarget w.raw) = s.parN P.CMD_SOURCE (rawTarget w.raw) ∧ (t.slotHost (rawTarget w.raw)).policy = 0 ∧
      t.answered n w.wid = true)

/-- BOOTLOCK and the confirm (R443, R444), AUTH_CHALLENGE, AUTH_RESPONSE and AUTH_CLOSE (R448 to R450), drive tokens and immobilisation (R453 to R456) act. A signature decides through the
open verification of the configuration. -/
def Obligations.BootAndSessionCommandsAct : Prop :=
  (∀ (s : State) (master : Fin 21) (value : Nat), (s.mayWrite master .PROT_BOOTLOCK 0).2 = true →
    ∃ t, exec (.bootlockWrite master value) s = .next t ∧
      (s.bootlock = false → value % 2 = 1 → t.bootlock = true ∧ t.prot.lockSince = some s.now ∧ t = { s with regs := t.regs, prot := t.prot }) ∧
      (s.bootlock = false → value % 2 = 0 → t = s) ∧
      (s.bootlock = true → t.bootlock = true ∧ t.fld F.PROT_LOCK_VIOL_INFO_MASTER = master ∧ t.faultActive .PROT_WRITE_LOCKED master = true)) ∧
  (∀ (s : State) (value r : Nat), (s.mayWrite 8 .PROT_BOOT_CONFIRM 0).2 = true → value % 2 = 1 → s.flag F.PROT_STATUS_CONFIRMED = false → s.prot.running = some r →
    ∃ t, exec (.bootConfirm 8 value) s = .next t ∧ t.flag F.PROT_STATUS_CONFIRMED = true ∧ t.prot.lockSince = none ∧
      t.prot.rollback = max s.prot.rollback s.prot.runRollback ∧
      (s.prot.pendingSlot = some r → t.prot.active = r ∧ t.prot.pendingSlot = none ∧ t.prot.tries = 0) ∧ t = { s with regs := t.regs, prot := t.prot }) ∧
  (∀ (s : State) (t0 : Nat), s.prot.lockSince = some t0 → s.elapsed t0 (5 * secT) = true → s.flag F.PROT_STATUS_CONFIRMED = false → s.rst.guard = none →
    ∃ t, exec .bootConfirmTimeout s = .next t ∧ t.rst.guard = some 7 ∧ t.prot.lockSince = none) ∧
  (∀ (s : State) (n : Fin 64) (w : WorkItem), s.mayRun n 0x20 .bound true 1 [] w = true → s.prot.lockout.at none (s.rpRole n) = none → rawLen w.raw = 16 →
    s.hostOk n (rawAddr w.raw) 16 true = true →
    ∃ t, exec (.authChallenge n) s = .next t ∧ t.nonceOf n = some (s.fresh, s.now) ∧ t.fresh = s.fresh + 1 ∧ t.answered n w.wid = true) ∧
  (∀ (s : State) (n : Fin 64) (w : WorkItem) (sig : List Byte) (k t0 : Nat), s.mayRun n 0x21 .bound true 1 [] w = true → rawLen w.raw = 64 → s.rpPcie n = true →
    s.hostOk n (rawAddr w.raw) 64 false = true → sig.length = 64 → s.nonceOf n = some (k, t0) → s.elapsed t0 (60 * secT) = false →
    (s.roleKey (s.rpRole n)).all (fun b => b == 0#8) = false → s.mramReady = true →
    ∃ t, exec (.authResponse n (some sig)) s = .next t ∧ t.nonceOf n = none ∧ t.answered n w.wid = true ∧
      (if Config.ecdsaOk (s.roleKey (s.rpRole n)) (Config.sha256 (authMessage (nonceBytes k) n (s.rpRole n))) sig then
        (t.ring n).session = some n.val ∧ t.prot.fails.at 0 (s.rpRole n) = 0
      else t.faultActive .AUTH_FAIL n = true)) ∧
  (∀ (s : State) (n : Fin 64) (w : WorkItem) (k : Nat), s.mayRun n 0x22 .bound false 1 [] w = true → (s.ring n).session = some k →
    ∃ t, exec (.authClose n) s = .next t ∧ (t.ring n).session = none ∧ t.answered n w.wid = true) ∧
  (∀ (s : State) (role : Fin 3) (t0 : Nat), s.prot.lockout.at none (role.val + 1) = some t0 → s.elapsed t0 (s.parN P.AUTH_LOCKOUT_T * secT) = true →
    ∃ t, exec (.authLockoutExpiry role) s = .next t ∧ t.prot.lockout.at none (role.val + 1) = none ∧ t = { s with prot := t.prot }) ∧
  (∀ (s : State) (n : Fin 64) (w : WorkItem) (d : List Byte), s.mayRun n 0x23 .any true 1 [] w = true → rawLen w.raw = 128 → s.rpPcie n = true →
    s.hostOk n (rawAddr w.raw) 128 false = true → d.length = 128 → s.mramReady = true → s.prot.audit.unacked.length < 8192 →
    ∃ t, exec (.driveToken n (some d)) s = .next t ∧ t.answered n w.wid = true ∧
      (if s.tokenOk d then t.prot.token = some (tokenOf d) ∧ t.prot.tokenSeq = some (tokenOf d).seq else t.prot.token = s.prot.token ∧ t.faultActive .TOKEN_REFUSED n = true)) ∧
  (∀ (s : State) (k : Token), s.prot.token = some k → k.expiry ≤ s.ts → s.prot.everSynced = true → s.par P.IMMOB_POLICY = 1 →
    s.isOff .slot 0 = true → s.isOff .slot 1 = true →
    ∃ t, exec .tokenExpiry s = .next t ∧ (t.immobOf 0).on = true ∧ (t.immobOf 1).on = true ∧ t.fld F.PROT_STATUS_IMMOBILISED = 3) ∧
  (∀ (s : State) (k : Token), s.prot.token = some k → k.notBefore ≤ s.ts → s.ts < k.expiry → k.revoke = false → k.slots = 3 → s.prot.everSynced = true →
    s.isOff .slot 0 = true → s.isOff .slot 1 = true →
    ∃ t, exec .tokenNotBefore s = .next t ∧ (t.immobOf 0).on = false ∧ (t.immobOf 1).on = false ∧ t.fld F.PROT_STATUS_IMMOBILISED = 0) ∧
  (∀ (s : State), s.prot.resume = true → s.elapsed s.prot.resumeSince (s.parN P.TOKEN_RESUME_T * secT) = true → s.prot.everSynced = false → s.par P.IMMOB_POLICY = 1 →
    s.isOff .slot 0 = true →
    ∃ t, exec .tokenResumeExpiry s = .next t ∧ t.prot.resume = false ∧ (t.immobOf 0).on = true) ∧
  (∀ (s : State) (n : Fin 2) (t0 : Nat), (s.immobOf n).lowSince = some t0 → (s.immobOf n).pending = true → s.elapsed t0 (s.parN P.IMMOB_STANDSTILL_T * msT) = true →
    ∃ t, exec (.immobStandstillExpiry n) s = .next t ∧ (t.immobOf n).on = true ∧ (t.immobOf n).pending = false ∧ t.faultActive .TOKEN_EXPIRED n = true)

/-- FW_UPDATE and its end (R439, R440, R460), DISCHARGE (R392), RESET_LATCH (R390, R391), BENCH_MODE (R398) and AUDIT_ACK (R459) act. -/
def Obligations.ServiceDescriptorsAct : Prop :=
  (∀ (s : State) (n : Fin 64) (w : WorkItem) (d : List Byte), s.mayRun n 0x24 (.roles [3]) true 2 [] w = true → s.bulk = none → s.prot.running ≠ some (rawTarget w.raw) →
    512 ≤ rawLen w.raw → rawLen w.raw ≤ 0x800000 → s.rpPcie n = true → s.hostOk n (rawAddr w.raw) (rawLen w.raw) false = true → d.length = rawLen w.raw →
    s.mramReady = true → s.prot.audit.unacked.length < 8192 →
    ∃ t, exec (.fwUpdate n (some d)) s = .next t ∧ t.bulk = some ⟨.fwUpdate, n, w.wid, rawTarget w.raw, [], 0, false, d.length⟩ ∧
      t.mramRead (fwBase (rawTarget w.raw)) d.length = d ∧ t.prot.audit.seq = (s.prot.audit.seq + 1) % 2 ^ 32) ∧
  (∀ (s : State) (b : Bulk), s.bulk = some b → b.kind = .fwUpdate →
    ∃ t, exec .fwUpdateDone s = .next t ∧ t.bulk = none ∧ t.flag F.PROT_INT_STATUS_FW_UPDATE = true ∧ t.answered b.pair b.wid = true ∧
      (t.prot.pendingSlot = some b.target ∧ t.prot.tries = 0 ∨ t.prot.pendingSlot = s.prot.pendingSlot ∧
        (t.faultActive .FW_UPDATE_FAIL b.target = true ∨ t.faultActive .ROLLBACK_REFUSED b.target = true))) ∧
  (∀ (s : State) (n : Fin 64) (w : WorkItem), s.mayRun n 0x16 .drive false 1 [(24, 1), (25, 1)] w = true → 1 ≤ rawField w.raw 24 1 → rawField w.raw 24 1 ≤ 3 →
    rawField w.raw 25 1 ≤ 1 → s.pdOn 1 = true → (rawField w.raw 25 1 = 1 ∨ s.isOn .slot 0 = false ∧ s.isOn .slot 1 = false) →
    ∃ t, exec (.discharge n) s = .next t ∧ t.answered n w.wid = true ∧ t.isOff .discharge 0 = false ∧
      (s.isStopping .discharge 0 = false → (rawField w.raw 24 1 % 2 = 1 → t.island.dchg.bridgeA = true) ∧ (2 ≤ rawField w.raw 24 1 → t.island.dchg.bridgeB = true))) ∧
  (∀ (s : State) (n : Fin 64) (w : WorkItem), s.mayRun n 0x17 (.roles [1, 2]) false 1 [(24, 4)] w = true → s.pdOn 1 = true →
    rawField w.raw 24 4 = (s.island.resetCount + 1) % 2 ^ 32 → s.mramReady = true → s.prot.audit.unacked.length < 8192 →
    ∃ t, exec (.resetLatch n) s = .next t ∧ t.island.resetCount = rawField w.raw 24 4 ∧ t.answered n w.wid = true ∧
      (s.faults.latched.all (fun l => !s.faultActive l.name l.unit) = true → s.releasedThisMs = false → t.faults.latched = [])) ∧
  (∀ (s : State) (n : Fin 64) (w : WorkItem), s.mayRun n 0x18 (.roles [2]) false 1 [(24, 1)] w = true → s.pdOn 1 = true → rawField w.raw 24 1 ≤ 1 →
    (rawField w.raw 24 1 = 1 → s.benchAllowed = true) → s.mramReady = true → s.prot.audit.unacked.length < 8192 →
    ∃ t, exec (.benchMode n) s = .next t ∧ t.island.bench = (rawField w.raw 24 1 == 1) ∧ t.answered n w.wid = true) ∧
  (∀ (s : State) (n : Fin 64) (w : WorkItem) (e : Nat), s.mayRun n 0x33 (.roles [1, 2, 3]) false 1 [(24, 4)] w = true → s.prot.audit.exported = some e → rawField w.raw 24 4 ≤ e →
    s.mramReady = true →
    ∃ t, exec (.auditAck n) s = .next t ∧ t.prot.audit.unacked = s.prot.audit.unacked.filter (fun q => decide (rawField w.raw 24 4 < q)) ∧ t.answered n w.wid = true ∧
      t.prot.audit.seq = (s.prot.audit.seq + 1) % 2 ^ 32)

/-- When the next instruction of engine c is NOP, LDI, LDIP, MOVE (not one that CE_ILLEGAL stops) or MOVSR, the command of its name runs it: the destination takes the value R175 gives, and nothing else changes. -/
def Obligations.EngineMovesAct : Prop :=
  (∀ (s : State) (c : Fin 8), s.ceNext c = some .nop →
    ∃ t, exec (.nop c) s = .next t ∧ s.ceOnly t c [] [] [] ∧ s.sameFlags t c) ∧
  (∀ (s : State) (c : Fin 8) (d imm : Nat) (h : Bool), s.ceNext c = some (.ldi d h imm) →
    ∃ t, exec (.ldi c) s = .next t ∧ s.ceOnly t c [d] [] [] ∧ s.sameFlags t c ∧ (t.engine c).half d h = toSigned 16 imm ∧
      (t.engine c).half d (!h) = (s.engine c).half d (!h)) ∧
  (∀ (s : State) (c : Fin 8) (p v : Nat), s.ceNext c = some (.ldip p v) →
    ∃ t, exec (.ldip c) s = .next t ∧ s.ceOnly t c [] [p] [] ∧ s.sameFlags t c ∧ (t.engine c).pReg p = v) ∧
  (∀ (s : State) (c : Fin 8) (dst src sub : Nat), s.ceNext c = some (.move dst src sub) → (sub = 7 → (s.engine c).dReg src / 65536 % 16 ≠ 1) →
    ∃ t, exec (.move c) s = .next t ∧ s.ceOnly t c (if sub = 7 then [] else [dst]) (if sub = 7 then [dst] else []) [] ∧ s.sameFlags t c ∧
      (if sub = 0 then (t.engine c).dReg dst = (s.engine c).dReg src
       else if sub ≤ 2 then (t.engine c).half dst true = (s.engine c).half src (sub == 1) ∧ (t.engine c).half dst false = (s.engine c).half dst false
       else if sub ≤ 4 then (t.engine c).half dst false = (s.engine c).half src (sub == 3) ∧ (t.engine c).half dst true = (s.engine c).half dst true
       else if sub = 5 then (t.engine c).half dst true = (s.engine c).half src false ∧ (t.engine c).half dst false = (s.engine c).half src true
       else if sub = 6 then (t.engine c).dReg dst = (s.engine c).pReg src % 2 ^ 32
       else (t.engine c).pReg dst = (s.engine c).dReg src % 2 ^ 20)) ∧
  (∀ (s : State) (c : Fin 8) (d : Nat) (write : Bool), s.ceNext c = some (.movsr d write) →
    ∃ t, exec (.movsr c) s = .next t ∧ s.ceOnly t c (if write then [] else [d]) [] [] ∧
      (if write then (t.engine c).flags = ⟨bitAt ((s.engine c).dReg d) 0, bitAt ((s.engine c).dReg d) 1, bitAt ((s.engine c).dReg d) 2, bitAt ((s.engine c).dReg d) 3⟩ ∧
        (∀ k : Fin 6, bitAt (t.engine c).srHigh (10 + k.val) = (bitAt (s.engine c).srHigh (10 + k.val) && !bitAt ((s.engine c).dReg d) (10 + k.val)))
       else s.sameFlags t c ∧ (t.engine c).dReg d = (s.engine c).sr % 2 ^ 32))

/-- The accumulators take the exact sums of R177 or the results of ACCOP, saturated to 40 bits with AOVn set when they were (R171); RND rounds a pre-shifted accumulator to Q15 (R172). -/
def Obligations.EngineMultiplyInstructionsAct : Prop :=
  (∀ (s : State) (c : Fin 8) (a b acc : Nat) (ha hb neg clr : Bool) (x : Int), s.ceNext c = some (.mac a b acc ha hb neg clr) →
    x = (if clr then 0 else (s.engine c).accum acc) + (if neg then -1 else 1) * ((s.engine c).half a ha * (s.engine c).half b hb) →
    ∃ t, exec (.mac c) s = .next t ∧ s.ceOnly t c [] [] [acc] ∧ (t.engine c).flags = (s.engine c).flags ∧
      (t.engine c).accum acc = clampI (-(2 ^ 39)) (2 ^ 39 - 1) x ∧
      (t.engine c).srHigh = (if -(2 ^ 39) ≤ x ∧ x < 2 ^ 39 then (s.engine c).srHigh else (s.engine c).srHigh ||| 2 ^ (10 + acc))) ∧
  (∀ (s : State) (c : Fin 8) (a b k d pair : Nat) (clr x0 n0a n0b x1 n1a n1b : Bool), s.ceNext c = some (.dmac a b k d pair clr x0 n0a n0b x1 n1a n1b) →
    ∃ t, exec (.dmac c) s = .next t ∧ s.ceOnly t c [] [] [2 * pair, 2 * pair + 1] ∧ (t.engine c).flags = (s.engine c).flags ∧
      (t.engine c).accum (2 * pair) = clampI (-(2 ^ 39)) (2 ^ 39 - 1) ((if clr then 0 else (s.engine c).accum (2 * pair)) +
        (if n0a then -1 else 1) * ((s.engine c).half a true * (s.engine c).half b (!x0)) + (if n0b then -1 else 1) * ((s.engine c).half a false * (s.engine c).half b x0)) ∧
      (t.engine c).accum (2 * pair + 1) = clampI (-(2 ^ 39)) (2 ^ 39 - 1) ((if clr then 0 else (s.engine c).accum (2 * pair + 1)) +
        (if n1a then -1 else 1) * ((s.engine c).half k true * (s.engine c).half d (!x1)) + (if n1b then -1 else 1) * ((s.engine c).half k false * (s.engine c).half d x1))) ∧
  (∀ (s : State) (c : Fin 8) (a b d sub : Nat) (h : Bool) (sh : Int), s.ceNext c = some (.accop a b d h sub sh) →
    ∃ t, exec (.accop c) s = .next t ∧ s.ceOnly t c (if sub = 5 then [d] else []) [] (if sub = 5 then [] else [a]) ∧ (t.engine c).flags = (s.engine c).flags ∧
      (sub = 0 → (t.engine c).accum a = 0) ∧ (sub = 1 → (t.engine c).accum a = clampI (-(2 ^ 39)) (2 ^ 39 - 1) ((s.engine c).accum a + (s.engine c).accum b)) ∧
      (sub = 2 → (t.engine c).accum a = clampI (-(2 ^ 39)) (2 ^ 39 - 1) ((s.engine c).accum a - (s.engine c).accum b)) ∧
      (sub = 3 → (t.engine c).accum a = (s.engine c).accum b) ∧
      (sub = 4 → (t.engine c).accum a = clampI (-(2 ^ 39)) (2 ^ 39 - 1) (if 0 ≤ sh then (s.engine c).accum a * 2 ^ sh.toNat else (s.engine c).accum a / 2 ^ (-sh).toNat)) ∧
      (sub = 5 → 0 ≤ (t.engine c).half d false ∧ (t.engine c).half d false ≤ 39 ∧ (t.engine c).half d true = (s.engine c).half d true) ∧
      (sub = 6 → (t.engine c).accum a = (s.engine c).half d h * 32768) ∧ (sub = 7 → (t.engine c).accum a = toSigned 32 ((s.engine c).dReg d))) ∧
  (∀ (s : State) (c : Fin 8) (d acc : Nat) (h : Bool) (pre x : Int), s.ceNext c = some (.rnd d h acc pre) →
    x = clampI (-(2 ^ 39)) (2 ^ 39 - 1) (if 0 ≤ pre then (s.engine c).accum acc * 2 ^ pre.toNat else (s.engine c).accum acc / 2 ^ (-pre).toNat) →
    ∃ t, exec (.rnd c) s = .next t ∧ s.ceOnly t c [d] [] [] ∧ (t.engine c).half d h = rnd15 x ∧ (t.engine c).half d (!h) = (s.engine c).half d (!h) ∧
      (t.engine c).srHigh = (if rnd15Raw x = rnd15 x then (s.engine c).srHigh else (s.engine c).srHigh ||| 0x4000))

/-- ALUH and SHH saturate both halves (R172), ALUW sets the flags (R173), and SINCOS, RECIP and RSQRT keep within the deviation R178 allows. -/
def Obligations.EngineArithmeticInstructionsAct : Prop :=
  (∀ (s : State) (c : Fin 8) (d a b sub : Nat), s.ceNext c = some (.aluh d a b sub) →
    ∃ t, exec (.aluh c) s = .next t ∧ s.ceOnly t c [d] [] [] ∧ (t.engine c).flags = (s.engine c).flags ∧
      (∀ h : Bool, (t.engine c).half d h = sat16 (if sub = 0 then (s.engine c).half a h + (s.engine c).half b h
        else if sub = 1 then (s.engine c).half a h - (s.engine c).half b h else if sub = 2 then -(s.engine c).half a h
        else if sub = 3 then ((s.engine c).half a h).natAbs else if sub = 4 then min ((s.engine c).half a h) ((s.engine c).half b h)
        else max ((s.engine c).half a h) ((s.engine c).half b h)))) ∧
  (∀ (s : State) (c : Fin 8) (d a b sub y : Nat) (imm : Option Int), s.ceNext c = some (.aluw d a b sub imm) →
    y = (match imm with | some i => ofSigned 32 i | none => (s.engine c).dReg b) →
    ∃ t, exec (.aluw c) s = .next t ∧ s.ceOnly t c (if sub < 8 then [d] else []) [] [] ∧ (t.engine c).srHigh = (s.engine c).srHigh ∧
      (sub = 0 → (t.engine c).dReg d = ((s.engine c).dReg a + y) % 2 ^ 32 ∧ (t.engine c).flags = addFlags ((s.engine c).dReg a) y) ∧
      (sub = 1 → (t.engine c).dReg d = ((s.engine c).dReg a + (2 ^ 32 - y)) % 2 ^ 32 ∧ (t.engine c).flags = subFlags ((s.engine c).dReg a) y) ∧
      (sub = 8 → (t.engine c).flags = subFlags ((s.engine c).dReg a) y) ∧
      (2 ≤ sub → sub ≤ 7 → (t.engine c).dReg d = aluwOf sub ((s.engine c).dReg a) y % 2 ^ 32 ∧ (t.engine c).flags.z = ((t.engine c).dReg d == 0) ∧
        (t.engine c).flags.n = decide (2 ^ 31 ≤ (t.engine c).dReg d))) ∧
  (∀ (s : State) (c : Fin 8) (d a b : Nat) (amt : Option Int) (n : Int), s.ceNext c = some (.shh d a b amt) → n = amt.getD (toSigned 5 ((s.engine c).dReg b % 32)) →
    ∃ t, exec (.shh c) s = .next t ∧ s.ceOnly t c [d] [] [] ∧ (t.engine c).flags = (s.engine c).flags ∧
      (∀ h : Bool, (t.engine c).half d h = sat16 (if 0 ≤ n then (s.engine c).half a h * 2 ^ n.toNat else (s.engine c).half a h / 2 ^ (-n).toNat))) ∧
  (∀ (s : State) (c : Fin 8) (d a : Nat) (h : Bool) (th : Nat), s.ceNext c = some (.sincos d a h) → th = ofSigned 16 ((s.engine c).half a h) →
    ∃ t, exec (.sincos c) s = .next t ∧ s.ceOnly t c [d] [] [] ∧ s.sameFlags t c ∧
      ((t.engine c).half d true - cosExact th).natAbs ≤ 1 ∧ ((t.engine c).half d false - sinExact th).natAbs ≤ 1) ∧
  (∀ (s : State) (c : Fin 8) (d a : Nat) (h : Bool) (x : Int), s.ceNext c = some (.recip d a h) → x = (s.engine c).half a h →
    ∃ t, exec (.recip c) s = .next t ∧ s.ceOnly t c [d] [] [] ∧ (t.engine c).flags = (s.engine c).flags ∧
      (x = 0 → (t.engine c).half d true = 32767 ∧ (t.engine c).half d false = 16 ∧ (t.engine c).srHigh = (s.engine c).srHigh ||| 0x8000) ∧
      (x ≠ 0 → (t.engine c).half d false = (normShift 16384 15 x.natAbs : Nat) + 1 ∧
        ((t.engine c).half d true - sat16 (roundAway (if x < 0 then -536870912 else 536870912) (x.natAbs * 2 ^ (normShift 16384 15 x.natAbs)))).natAbs ≤ 2)) ∧
  (∀ (s : State) (c : Fin 8) (d a : Nat) (h : Bool) (x : Int), s.ceNext c = some (.rsqrt d a h) → x = (s.engine c).half a h →
    ∃ t, exec (.rsqrt c) s = .next t ∧ s.ceOnly t c [d] [] [] ∧ (t.engine c).flags = (s.engine c).flags ∧
      (x ≤ 0 → (t.engine c).half d true = 32767 ∧ (t.engine c).half d false = 16 ∧ (t.engine c).srHigh = (s.engine c).srHigh ||| 0x8000) ∧
      (0 < x → (t.engine c).half d false = (normShift4 8 x.toNat : Nat) + 1 ∧
        ((t.engine c).half d true - sat16 (isqrtNear (2 ^ 43 / (x.toNat * 4 ^ (normShift4 8 x.toNat))) : Nat)).natAbs ≤ 2))

/-- LD and ST (R174, R183), the local I/O words NOW_LO, TIMERn and CMD_ACK (R188, R190), ATLAS and its results (R179), WPWM (R191, R192) and PUBL (R193, R194) have their effect. -/
def Obligations.EngineMemoryInstructionsAct : Prop :=
  (∀ (s : State) (c : Fin 8) (d p am sz a : Nat) (off : Int), s.ceNext c = some (.ld d p am sz off) → a = ((s.engine c).address p am off).1 →
    a % (if sz = 2 then 4 else 2) = 0 → isLocalIo a = false →
    ∃ t, exec (.ld c 0) s = .next t ∧ s.ceOnly t c [d] (if am = 0 then [] else [p]) [] ∧ s.sameFlags t c ∧
      (t.engine c).pReg p = ((s.engine c).address p am off).2.pReg p ∧
      (sz = 2 → (t.engine c).dReg d = (s.engine c).dataNat a 4 % 2 ^ 32) ∧
      (sz ≠ 2 → (t.engine c).half d (sz == 1) = toSigned 16 ((s.engine c).dataNat a 2) ∧ (t.engine c).half d (sz != 1) = (s.engine c).half d (sz != 1))) ∧
  (∀ (s : State) (c : Fin 8) (d p am sz a : Nat) (off : Int), s.ceNext c = some (.st d p am sz off) → a = ((s.engine c).address p am off).1 →
    a % (if sz = 2 then 4 else 2) = 0 → isLocalIo a = false →
    ∃ t, exec (.st c 0) s = .next t ∧ t = { s with engines := t.engines } ∧ (∀ k : Fin 8, k ≠ c → t.engine k = s.engine k) ∧
      t.engine c = { s.engine c with mem := (t.engine c).mem, p := ((s.engine c).address p am off).2.p, pc := (t.engine c).pc, loops := (t.engine c).loops } ∧
      ((t.engine c).pc, (t.engine c).loops) = loopNext (s.engine c).loops (s.engine c).pc ∧
      (t.engine c).mem = (if isReservedData a then (s.engine c).mem else Memory.write (s.engine c).mem a
        (if sz = 2 then leBytes 4 ((s.engine c).dReg d) else if sz = 1 then leBytes 2 ((s.engine c).dReg d / 65536) else leBytes 2 ((s.engine c).dReg d % 65536)))) ∧
  (∀ (s : State) (c : Fin 8) (d p am : Nat) (off : Int), s.ceNext c = some (.ld d p am 2 off) → ((s.engine c).address p am off).1 = 0xFC0C →
    ∃ t, exec (.nowLoRead c) s = .next t ∧ (t.engine c).dReg d = s.ts % 2 ^ 32 ∧ (t.engine c).nowHi = s.ts / 2 ^ 32 ∧ s.sameFlags t c ∧ t = { s with engines := t.engines }) ∧
  (∀ (s : State) (c : Fin 8) (d p am : Nat) (n : Fin 2) (off : Int), s.ceNext c = some (.st d p am 2 off) → ((s.engine c).address p am off).1 = 0xFC14 + 4 * n.val →
    ∃ t, exec (.ceTimerWrite c) s = .next t ∧ (t.engine c).timer n = ⟨(s.engine c).dReg d &&& 0x80FFFFFF, s.now⟩ ∧ s.sameFlags t c ∧ t = { s with engines := t.engines }) ∧
  (∀ (s : State) (c : Fin 8) (d p am seq : Nat) (off : Int), s.ceNext c = some (.st d p am 2 off) → ((s.engine c).address p am off).1 = 0xFC28 → (s.engine c).task = 1 →
    seq = (s.engine c).dReg d / 65536 →
    ∃ t, exec (.cmdAck c) s = .next t ∧ (t.slot (s.engine c).slot).mail.find? (fun k => k.seq == seq) = none ∧
      ((s.engine c).dReg d % 65536 < 0x100 → (s.engine c).dReg d % 65536 ≠ 2 →
        (t.slot (s.engine c).slot).cmd = ((s.slot (s.engine c).slot).mail.find? (fun k => k.seq == seq)).getD (s.slot (s.engine c).slot).cmd)) ∧
  (∀ (s : State) (c : Fin 8) (dx dy o1 o2 : Nat), s.ceNext c = some (.atlas dx dy o1 o2) → (s.engine c).task ≠ 0 →
    ∃ t, exec (.atlas c) s = .next t ∧ t.engine c = { s.engine c with wait := .atlas o1 o2 ((s.engine c).dReg dx) ((s.engine c).dReg dy) } ∧ t = { s with engines := t.engines }) ∧
  (∀ (s : State) (c : Fin 8) (o1 o2 x y : Nat), (s.engine c).wait = .atlas o1 o2 x y → o1 ≠ o2 →
    ∃ t, exec (.atlasLookupDone c) s = .next t ∧ (t.engine c).wait = .none ∧
      (s.atlasServes (s.engine c).slot = false → t.faultActive .ATLAS_UNAVAIL (s.engine c).slot = true ∧ (t.engine c).dReg o1 = 0 ∧ (t.engine c).half o2 false = 16) ∧
      (s.atlasServes (s.engine c).slot = true →
        (t.engine c).half o1 true = (s.lookAtlas (s.engine c).slot (toSigned 16 (x / 65536)) (toSigned 16 (x % 65536)) (y / 65536) (toSigned 16 (y % 65536))).psiD ∧
        (t.engine c).half o1 false = (s.lookAtlas (s.engine c).slot (toSigned 16 (x / 65536)) (toSigned 16 (x % 65536)) (y / 65536) (toSigned 16 (y % 65536))).psiQ ∧
        (t.engine c).half o2 true = (s.lookAtlas (s.engine c).slot (toSigned 16 (x / 65536)) (toSigned 16 (x % 65536)) (y / 65536) (toSigned 16 (y % 65536))).tau)) ∧
  (∀ (s : State) (c : Fin 8) (d br sel idx : Nat) (commit : Bool), s.ceNext c = some (.wpwm d br sel commit) → (s.engine c).task ≠ 0 → (s.engine c).writes.contains br = true →
    s.pdOn (Reg.PWM_STATUS.domain br) = true → (commit = true ∨ (s.pwm br).flight ≠ []) → idx = (if sel = 6 then 12 else sel) →
    ∃ t, exec (.wpwm c) s = .next t ∧ (t.pwm br).flight = (s.pwm br).flight ++ [⟨idx, (s.engine c).dReg d, (s.engine c).gen br, commit, c, s.now⟩] ∧
      (t.engine c).gen br = (if commit then ((s.engine c).gen br + 1) % 256 else (s.engine c).gen br) ∧ s.sameFlags t c ∧
      ((t.engine c).pc, (t.engine c).loops) = loopNext (s.engine c).loops (s.engine c).pc) ∧
  (∀ (s : State) (c : Fin 8) (box p : Nat), s.ceNext c = some (.publ box p) → (s.engine c).pAddr p % 8 = 0 →
    ∃ t, exec (.publ c) s = .next t ∧ t = { s with engines := t.engines } ∧
      (if (s.engine c).staged.at [] box = [] then (t.engine c).staged.at [] box = (List.range 32).map (fun k => (s.engine c).dataByte (((s.engine c).pAddr p + k) % 65536)) ∧
          ((t.engine c).pc, (t.engine c).loops) = loopNext (s.engine c).loops (s.engine c).pc
        else t.engine c = { s.engine c with wait := .publ box ((s.engine c).pAddr p) })) ∧
  (∀ (s : State) (c : Fin 8) (box : Fin 5), (s.engine c).staged.at [] box ≠ [] → (s.engine c).wait = .none →
    ∃ t, exec (.publDrainDone c box) s = .next t ∧ (t.engine c).staged.at [] box = [])

/-- WAITEV and the event that ends its sleep (R181, R182), B, CALL, RET and LOOP (R175), BKPT (R204), reserved opcodes (R176), local timers (R190) and CE_HANG (R201) act. -/
def Obligations.EngineControlInstructionsAct : Prop :=
  (∀ (s : State) (c : Fin 8) (d mask : Nat), s.ceNext c = some (.waitev d mask) → (s.engine c).stopReturned = false → bitAt (s.engine c).evPend Ev.stop = false →
    ∃ t, exec (.waitev c) s = .next t ∧ t = { s with engines := t.engines } ∧
      (∀ k : Fin 12, (s.engine c).pendingIn mask = some k.val → (t.engine c).dReg d = (s.engine c).evInfo.at 0 k % 65536 * 65536 + k ∧
        bitAt (t.engine c).evPend k = false ∧ (t.engine c).wait = .none ∧ (t.engine c).lastReturn = s.now) ∧
      ((s.engine c).pendingIn mask = none → t.engine c = { s.engine c with wait := .event mask d })) ∧
  (∀ (s : State) (c : Fin 8) (mask d : Nat) (k : Fin 12), (s.engine c).wait = .event mask d → (s.engine c).halted = false → s.pdOn (ceDomain c) = true →
    (s.engine c).stopReturned = false → bitAt (s.engine c).evPend Ev.stop = false → (s.engine c).pendingIn mask = some k.val →
    ∃ t, exec (.waitevResume c) s = .next t ∧ (t.engine c).dReg d = (s.engine c).evInfo.at 0 k % 65536 * 65536 + k ∧ bitAt (t.engine c).evPend k = false ∧
      (t.engine c).wait = .none ∧ ((t.engine c).pc, (t.engine c).loops) = loopNext (s.engine c).loops (s.engine c).pc ∧ t = { s with engines := t.engines }) ∧
  (∀ (s : State) (c : Fin 8) (cond target : Nat), s.ceNext c = some (.b cond target) →
    ∃ t, exec (.b c) s = .next t ∧ t = { s with engines := t.engines } ∧
      (if (s.engine c).cond cond then t.engine c = { s.engine c with pc := target, loops := (t.engine c).loops } else s.ceOnly t c [] [] [] ∧ s.sameFlags t c)) ∧
  (∀ (s : State) (c : Fin 8) (target : Nat), s.ceNext c = some (.call target) → (s.engine c).stack.length < 4 →
    ∃ t, exec (.call c) s = .next t ∧ t.engine c = { s.engine c with stack := ((s.engine c).pc + 1) :: (s.engine c).stack, pc := target } ∧ t = { s with engines := t.engines }) ∧
  (∀ (s : State) (c : Fin 8) (r : Nat) (rest : List Nat), s.ceNext c = some .ret → (s.engine c).stack = r :: rest →
    ∃ t, exec (.ret c) s = .next t ∧ t.engine c = { s.engine c with stack := rest, pc := r } ∧ t = { s with engines := t.engines }) ∧
  (∀ (s : State) (c : Fin 8) (imm : Bool) (count last k : Nat), s.ceNext c = some (.loop imm count last) → (s.engine c).pc < last → (s.engine c).loops.length < 2 →
    k = (if imm then count else (s.engine c).dReg count % 65536) →
    ∃ t, exec (.loop c) s = .next t ∧ t = { s with engines := t.engines } ∧
      (if k = 0 then t.engine c = { s.engine c with pc := (loopNext (s.engine c).loops last).1, loops := (loopNext (s.engine c).loops last).2 }
       else t.engine c = { s.engine c with pc := (s.engine c).pc + 1, loops := ((s.engine c).pc + 1, last, k) :: (s.engine c).loops })) ∧
  (∀ (s : State) (c : Fin 8), s.ceNext c = some .bkpt →
    ∃ t, exec (.bkpt c) s = .next t ∧ ((t.engine c).pc, (t.engine c).loops) = loopNext (s.engine c).loops (s.engine c).pc ∧
      (s.debugOpen .ceHalt = false → t.engine c = { s.engine c with pc := (t.engine c).pc, loops := (t.engine c).loops } ∧ t = { s with engines := t.engines }) ∧
      (s.debugOpen .ceHalt = true → (s.engine c).writes = [] → (t.engine c).halted = true)) ∧
  (∀ (s : State) (c : Fin 8), s.ceReady c = true → (s.engine c).fetch = none →
    ∃ t, exec (.reservedOpcode c) s = .next t ∧ (t.engine c).faulted = true ∧ t.isStopping .engine c = true ∧ t.faultActive .CE_ILLEGAL c = true ∧
      t.fld F.CE_FAULT_CODE c = FaultName.CE_ILLEGAL.code ∧ (t.engine c).pc = (s.engine c).pc) ∧
  (∀ (s : State) (c : Fin 8) (n : Fin 2), s.isOn .engine c = true → ((s.engine c).timer n).word % 2 ^ 24 ≠ 0 →
    s.elapsed ((s.engine c).timer n).start (2 * (((s.engine c).timer n).word % 2 ^ 24)) = true →
    ∃ t, exec (.ceTimerExpiry c n) s = .next t ∧ bitAt (t.engine c).evPend (2 + n) = true ∧
      (t.engine c).timer n = (if bitAt ((s.engine c).timer n).word 31 then
        { (s.engine c).timer n with start := ((s.engine c).timer n).start + 2 * (((s.engine c).timer n).word % 2 ^ 24) } else ⟨0, s.now⟩)) ∧
  (∀ (s : State) (c : Fin 8), s.isOn .engine c = true → (s.engine c).faulted = false → (s.engine c).halted = false → (s.engine c).wait = .none →
    s.parN P.WDG_CYCLES c < (s.now - (s.engine c).lastReturn) / 2 →
    ∃ t, exec (.ceHangExpiry c) s = .next t ∧ t.faultActive .CE_HANG c = true ∧ (t.engine c).faulted = true ∧ t.isStopping .engine c = true)

/-- A current cycle, a reference step (R64, R68, R73), a step of the speed loop (R71), the missing-phase check (R104), the injector's start (R110 to R113) and the torque monitor's window and
its stale timer (R377, R384) act on their slot. -/
def Obligations.FieldControlStepsAct : Prop :=
  (∀ (s : State) (n : Fin 2) (c : Fin 8), s.ownerOf n = some c.val → (s.bridgesOfSlot n).contains n.val = true → s.cycleReady c (s.mainBridge n) = true →
    ∃ t, exec (.currentCycle n) s = .next t ∧ (t.slot n).refCount = (s.slot n).refCount + 1 ∧ (t.slot n).spdCount = (s.slot n).spdCount + 1 ∧
      (s.driven n = false → (t.slot n).vLimit = false ∧ (t.slot n).obsRun = 0)) ∧
  (∀ (s : State) (n : Fin 2) (c : Fin 8), s.ownerOf n = some c.val → s.slotSteps n c = true → s.refDiv n ≤ (s.slot n).refCount → s.isOn .slot n = true →
    ∃ t, exec (.referenceStep n) s = .next t ∧ (t.slot n).refCount = 0 ∧ (t.slot n).recDue = [] ∧ (t.slot n).mail = [] ∧
      (t.slot n).telSeq = ((s.slot n).telSeq + 1) % 256 ∧
      (∀ k ∈ (s.slot n).mail.getLast?, (k.mode = 2 → (s.slot n).expert = true) → s.reverses n k = false → (t.slot n).cmd = k) ∧
      ((s.slot n).mail = [] → (s.slot n).recDue = [] → (s.slotHost n).due = false → (s.slot n).zeroDue = false → (s.slot n).cmd.mode = 2 →
        (s.slot n).cmd.iD.natAbs * (s.slot n).cmd.iD.natAbs + (s.slot n).cmd.iQ.natAbs * (s.slot n).cmd.iQ.natAbs ≤ s.parN P.I_MAX n * s.parN P.I_MAX n →
        (t.slot n).iD = (s.slot n).cmd.iD ∧ (t.slot n).iQ = (s.slot n).cmd.iQ)) ∧
  (∀ (s : State) (n : Fin 2) (c : Fin 8), s.ownerOf n = some c.val → s.slotSteps n c = true → s.isOn .slot n = true → (s.slot n).cmd.mode = 1 → s.parN P.SPD_DIV n ≤ (s.slot n).spdCount →
    ∃ t, exec (.speedLoopStep n) s = .next t ∧ (t.slot n).spdCount = 0 ∧
      t.slot n = { s.slot n with wRef := (t.slot n).wRef, aRef := (t.slot n).aRef, integ := (t.slot n).integ, tReq := (t.slot n).tReq, spdCount := 0 } ∧
      (s.speedTarget n = (s.slot n).wRef → (s.slot n).aRef = 0 → (t.slot n).wRef = (s.slot n).wRef) ∧ t = { s with slots := t.slots }) ∧
  (∀ (s : State) (n : Fin 2) (a b : Nat), s.isOn .slot n = true → (s.slot n).squares.length = 6 →
    ∃ t, exec (.missingPhaseCheck n a b) s = .next t ∧ (t.slot n).squares = [] ∧ (t.slot n).periodOk = true ∧
      (t.slot n).missingOff = decide ((s.slot n).seenSpeed.natAbs * s.parN P.POLE_PAIRS n < 60 * s.parN P.MISSING_FMIN n)) ∧
  (∀ (s : State) (n : Fin 64) (w : WorkItem), s.mayRun n 0x15 (.roles [1, 2]) false 2 injectUsed w = true → s.injFields (rawTarget w.raw) w.raw = true →
    s.injLimits (rawTarget w.raw) w.raw = true → s.rpClass (rawField w.raw 26 1) = 3 → (rawTarget w.raw = 1 → s.dual3 = false) → s.pdOn 7 = true →
    s.stillFaulted .injector (rawTarget w.raw) = false → s.isOff .injector (rawTarget w.raw) = true →
    ∃ t, exec (.injectStart n) s = .next t ∧ t.isStarting .injector (rawTarget w.raw) = true ∧ (t.slot (rawTarget w.raw)).inj.replies = [(n.val, w.wid)] ∧
      (t.slot (rawTarget w.raw)).inj.amp = rawFieldS w.raw 28 4 ∧ (t.slot (rawTarget w.raw)).inj.pair = rawField w.raw 26 1) ∧
  (∀ (s : State) (n : Fin 2), s.isStarting .injector n = true → s.isOn .slot n = true → s.injOk n = true →
    ∃ t, exec (.injConditionsMet n) s = .next t ∧ t.lc .injector n = Lc.startDone (s.lc .injector n) s.now ∧ (t.slot n).inj.since = s.now ∧ (t.slot n).inj.replies = [] ∧
      (t.slot n).inj.seq0 = (s.slot n).inj.seq) ∧
  (∀ (s : State) (n : Fin 2), s.monOn n = true → (s.slot n).monWin < s.ts / 50000 →
    ∃ t, exec (.monitorWindowEnd n) s = .next t ∧ (t.slot n).monWin = s.ts / 50000) ∧
  (∀ (s : State) (n : Fin 2), s.isOn .slot n = true → (s.pairOk 0 = true ∨ s.pairOk 1 = true) → s.elapsed (s.slot n).monAt (max (200 * usT) ((s.cycleTime n 4).1 / (s.cycleTime n 4).2)) = true →
    ∃ t, exec (.monitorStaleTimer n) s = .next t ∧ t.faultActive .MONITOR_STALE n = true)

/-- The steps of the flying start (R86 to R90) and of the stop sequence (R85) act on a slot that is STARTING or STOPPING. -/
def Obligations.FlyingStartAndStopAct : Prop :=
  (∀ (s : State) (n : Fin 2) (amp : Nat), s.isStarting .slot n = true → (s.slot n).fly = .observe → s.elapsed (s.lc .slot n).since msT = true → s.bemfLow n amp = true →
    ∃ t, exec (.flyBemfRest n amp) s = .next t ∧ t = { s with slots := t.slots } ∧ t.slot n = { s.slot n with fly := (t.slot n).fly, rates := (t.slot n).rates } ∧
      (s.par P.POS_MODE n = 1 → (t.slot n).fly = .pulse 0) ∧ (s.par P.POS_MODE n ≠ 1 → s.encAligned n = true → (t.slot n).fly = .synced s.now)) ∧
  (∀ (s : State) (n : Fin 2) (peak ticks k : Nat), s.isStarting .slot n = true → (s.slot n).fly = .pulse k → 0 < ticks → ticks ≤ 16000 →
    (s.parN P.I_RATED n ≤ 10 * peak ∨ ticks = 16000) →
    ∃ t, exec (.anglePulseEnd n peak ticks) s = .next t ∧ t.slot n = { s.slot n with fly := .decay k, rates := (s.slot n).rates ++ [(peak, ticks)] } ∧ t = { s with slots := t.slots }) ∧
  (∀ (s : State) (n : Fin 2) (k : Nat), s.isStarting .slot n = true → (s.slot n).fly = .decay k →
    ∃ t, exec (.anglePulseDecay n) s = .next t ∧ (k < 5 → (t.slot n).fly = .pulse (k + 1)) ∧
      (5 ≤ k → if poleAngle (s.slot n).rates = none then (t.slot n).fly = .failed ∧ t.faultActive .FLY_NO_SYNC n = true
        else some (t.slot n).angle0 = poleAngle (s.slot n).rates ∧ (t.slot n).fly = .synced s.now)) ∧
  (∀ (s : State) (n : Fin 2) (amp : Nat), s.isStarting .slot n = true → (s.slot n).fly = .observe → s.elapsed (s.lc .slot n).since msT = true → s.now ≤ (s.lc .slot n).since + 5 * msT →
    s.elapsed (s.slot n).steadyAt msT = true → s.bemfLow n amp = false →
    ∃ t, exec (.flySync n amp true) s = .next t ∧ t.slot n = { s.slot n with fly := .synced s.now } ∧ t = { s with slots := t.slots }) ∧
  (∀ (s : State) (n : Fin 2), s.isStarting .slot n = true → s.elapsed (s.lc .slot n).since (5 * msT) = true → (s.slot n).fly = .observe →
    ∃ t, exec (.flySyncTimeout n) s = .next t ∧ (t.slot n).fly = .failed ∧ t.faultActive .FLY_NO_SYNC n = true) ∧
  (∀ (s : State) (n : Fin 2) (amp : Nat), s.isStarting .slot n = true → (s.slot n).fly = .observe → s.slotVdc n * s.slotVdc n ≤ (3 * amp * amp : Nat) →
    ∃ t, exec (.flyBemfOverDc n amp) s = .next t ∧ t.faultActive .FLY_BEMF_OVER_DC n = true) ∧
  (∀ (s : State) (n : Fin 2) (t0 : Nat), s.isStarting .slot n = true → (s.slot n).fly = .synced t0 → s.elapsed t0 msT = true → (s.lc .slot n).pending = .none → (s.slot n).held = none →
    ∃ t, exec (.flyOnDelay n) s = .next t ∧ t.isOn .slot n = true ∧ (t.slot n).fly = .idle ∧ (t.slot n).cmd = {} ∧ (t.slot n).mail = []) ∧
  (∀ (s : State) (n : Fin 2), s.isStopping .slot n = true → (s.lc .slot n).fault = false → (s.slot n).fly = .idle → (s.slot n).tRef = 0 → (s.slot n).stopHold = none →
    ∃ t, exec (.stopRampDone n) s = .next t ∧ t.slot n = { s.slot n with stopHold := some s.now } ∧ t = { s with slots := t.slots }) ∧
  (∀ (s : State) (n : Fin 2) (t0 : Nat), (s.slot n).stopHold = some t0 → s.isStopping .slot n = true → s.elapsed t0 msT = true → (s.lc .slot n).pending = .none →
    ∃ t, exec (.zeroCurrentHoldExpiry n) s = .next t ∧ t.isOff .slot n = true ∧ (t.slot n).stopHold = none ∧ (t.slot n).tRef = 0 ∧ (t.slot n).mail = [])

/-- Halt requests and their guard (R397, R398), resumes, breakpoints and single steps of engines (R204), and the halts of safety pairs and application cores (R359, R487) act. -/
def Obligations.DebugCommandsAct : Prop :=
  (∀ (s : State) (m : Fin 21) (c : Fin 8), (s.debugAccess m .ceHalt .CE_DEBUG_CTRL c).2 = true → (s.engine c).halted = false → (s.engine c).wait = .none →
    ((s.engine c).writes = [] ∨ s.island.bench = true) →
    ∃ t, exec (.ceHaltReq m c) s = .next t ∧ (t.engine c).halted = true ∧ (t.engine c).haltedSince = s.now ∧ (t.engine c).pc = (s.engine c).pc) ∧
  (∀ (s : State) (m : Fin 21) (c : Fin 8), (s.debugAccess m .ceHalt .CE_DEBUG_CTRL c).2 = true → (s.engine c).halted = true →
    ∃ t, exec (.ceResume m c) s = .next t ∧ (t.engine c).halted = false ∧ (t.engine c).lastReturn = (s.engine c).lastReturn + (s.now - (s.engine c).haltedSince)) ∧
  (∀ (s : State) (c : Fin 8), s.isOn .engine c = true → (s.engine c).halted = false → (s.engine c).faulted = false → (s.engine c).wait = .none → s.atBreak c = true →
    s.debugOpen .ceHalt = true → (s.engine c).writes = [] →
    ∃ t, exec (.ceBreakpoint c) s = .next t ∧ (t.engine c).halted = true ∧ (t.engine c).pc = (s.engine c).pc) ∧
  (∀ (s : State) (m : Fin 21), 8 ≤ m.val → m.val ≤ 13 → s.debugOpen (if m.val = 12 ∨ m.val = 13 then DebugArea.safetyHalt else .appHalt) = true →
    s.island.halted.contains m.val = false → s.island.bench = true →
    ∃ t, exec (.debugHaltRequest m) s = .next t ∧ t.island.halted.contains m.val = true) ∧
  (∀ (s : State) (m : Fin 21), s.island.halted.contains m.val = true →
    ∃ t, exec (.coreHaltEnd m) s = .next t ∧ t.island.halted = s.island.halted.filter (· != m.val)) ∧
  (∀ (s : State) (m : Nat), s.island.haltPending = some m → m ≤ 13 → 8 ≤ m →
    ∃ t, exec .debugGuardHalt s = .next t ∧ t.island.haltPending = none ∧ t.island.halted.contains m = true ∧
      t.island.guardDelay = min 65535 ((s.now - s.island.guardSince) * 5 / 4))

/-- Received frames (R499), reads of an object's status (R500), CAN_TX and the frames it sends (R502, R503, R514), the schedule (R504, R505), errors and bus-off (R506), and the Aqosh timers
(R513, R516) act. -/
def Obligations.CanCommandsAct : Prop :=
  (∀ (s : State) (n : Fin 4) (j : Fin 512) (e id : Nat) (xtd fdf brs esi : Bool) (data : List Byte), s.canLive n = true → s.flag F.CAN_STATUS_INTEGRATING n = false →
    id < 2 ^ (if xtd then 29 else 11) → s.objOf n id xtd = some (j.val, e) → rxoPass e ≠ 2 → data.length ≤ (if fdf then 64 else 8) →
    ∃ t, exec (.canFrameRx n xtd false fdf brs esi id data) s = .next t ∧ ((t.can n).objs.at ([], 0) j) = (data, s.ts) ∧ t.flag F.CAN_RXO_STATUS_NEW n j = true ∧
      t.fld F.CAN_RXO_STATUS_LEN n j = data.length ∧ t.flag F.CAN_RXO_STATUS_FDF n j = fdf ∧ t.fld F.CAN_RXO_STATUS_COUNT n j = (s.fld F.CAN_RXO_STATUS_COUNT n j + 1) % 2 ^ 16 ∧
      t.flag F.CAN_RXO_STATUS_LOST n j = (s.flag F.CAN_RXO_STATUS_LOST n j || s.flag F.CAN_RXO_STATUS_NEW n j) ∧ t.flag F.CAN_INT_STATUS_RX n = true) ∧
  (∀ (s : State) (m : Fin 21) (n : Fin 4) (j : Fin 512), (s.mayRead m .CAN_RXO_STATUS n j).2 = true →
    ∃ t, exec (.rxoStatusRead m n j) s = .next t ∧ t.flag F.CAN_RXO_STATUS_NEW n j = false ∧ t.flag F.CAN_RXO_STATUS_LOST n j = false ∧
      (t.can n).snaps.at none m = some (j.val, ((s.can n).objs.at ([], 0) j).1)) ∧
  (∀ (s : State) (n : Fin 64) (w : WorkItem) (c : Fin 4), s.mayRun n 0x40 .any true 4 [(24, 4), (28, 1), (29, 1), (32, 32)] w = true → rawTarget w.raw = c.val →
    bits (rawField w.raw 24 4) 30 29 = 0 → rawField w.raw 28 1 = 0 → rawField w.raw 29 1 ≤ 8 → ((canTxId w.raw).2 = true ∨ (canTxId w.raw).1 < 2 ^ 11) →
    rawAddr w.raw = 0 → rawLen w.raw = 0 → s.isOn .can c = true → s.parN P.CAN_MODE c = 0 → s.bufOf c (canTxId w.raw).1 (canTxId w.raw).2 = none → (s.can c).queue.length < 32 →
    ∃ t, exec (.canTx n none) s = .next t ∧ (t.can c).queue = (s.can c).queue ++
      [⟨⟨(canTxId w.raw).1, (canTxId w.raw).2, false, false, false, fitBytes (rawField w.raw 29 1) ((w.raw.drop 32).take (rawField w.raw 29 1))⟩, some (n.val, w.wid), none⟩]) ∧
  (∀ (s : State) (n : Fin 4) (k : CanTx) (won : Bool), s.isOn .can n = true → s.canLive n = true → s.flag F.CAN_STATUS_INTEGRATING n = false → s.parN P.CAN_MODE n = 0 →
    (s.can n).onBus = none → s.candidate n = some (64, k) → (s.can n).queue.head? = some k →
    ∃ t, exec (.canTxStart n won) s = .next t ∧
      (if won then (t.can n).onBus = some ⟨none, k, s.ts⟩ ∧ (t.can n).queue = (s.can n).queue.tail else (t.can n).queue = (s.can n).queue ∧ (t.can n).onBus = none)) ∧
  (∀ (s : State) (n : Fin 4) (o : OnBus) (tdcv : Nat), (s.can n).onBus = some o → s.canLive n = true → s.fld F.CAN_ERR_COUNT_TEC n < 128 → s.fld F.CAN_ERR_COUNT_REC n < 128 →
    ∃ t, exec (.canFrameTxDone n tdcv) s = .next t ∧ (t.can n).onBus = none ∧ t.flag F.CAN_INT_STATUS_TX_DONE n = true ∧
      t.fld F.CAN_ERR_COUNT_TEC n = s.fld F.CAN_ERR_COUNT_TEC n - 1) ∧
  (∀ (s : State) (n : Fin 4) (k : Fin 64), s.isOn .can n = true → s.schedOn n = true → s.inWindow n k = true → (s.can n).window ≠ some k.val →
    ∃ t, exec (.canWindowOpen n k) s = .next t ∧ (t.can n).window = some k.val ∧ (t.can n).windowAt = s.now ∧ (t.can n).began = false ∧ t.fld F.CAN_SCHED_STATUS_SLOT n = k) ∧
  (∀ (s : State) (n : Fin 4) (k : Nat), (s.can n).window = some k → s.inWindow n k = false →
    ∃ t, exec (.canWindowEnd n) s = .next t ∧ (t.can n).window = none) ∧
  (∀ (s : State) (n : Fin 4) (kind : CanErr), s.canLive n = true →
    ∃ t, exec (.canError n kind) s = .next t ∧ (t.can n).onBus = none ∧
      (kind = .protocolException → t.flag F.CAN_STATUS_INTEGRATING n = true) ∧
      (kind = .transmit → s.parN P.CAN_MODE n ≠ 1 → t.fld F.CAN_ERR_COUNT_TEC n = min 511 (s.fld F.CAN_ERR_COUNT_TEC n + 8) ∧
        (255 < t.fld F.CAN_ERR_COUNT_TEC n → t.flag F.CAN_STATUS_BUS_OFF n = true ∧ t.faultActive .CAN_BUS_OFF n = true))) ∧
  (∀ (s : State) (n : Fin 4), s.flag F.CAN_STATUS_BUS_OFF n = true → s.flag F.CAN_STATUS_SUSPENDED n = false → s.isOn .can n = true →
    s.elapsed (s.can n).offSince (128 * 11 * s.canBit n) = true →
    ∃ t, exec (.canBusOffRecovery n) s = .next t ∧ t.flag F.CAN_STATUS_BUS_OFF n = false ∧ t.fld F.CAN_ERR_COUNT_TEC n = 0 ∧ t.fld F.CAN_ERR_COUNT_REC n = 0) ∧
  (∀ (s : State) (c : Fin 32) (e : AqFirst), (s.aq (s.aqHome c)).firsts = [e] → s.elapsed e.at_ (s.parN P.AQ_SKEW e.from_ * usT) = true → e.from_ < 32 →
    ∃ t, exec (.aqSkewExpiry c) s = .next t ∧ (t.aq (s.aqHome c)).firsts = [] ∧ t.flag F.CAN_AQ_STATUS_DUAL_OK e.from_ = false ∧
      (t.aq (s.aqHome c)).missRun = (s.aq (s.aqHome c)).missRun + 1) ∧
  (∀ (s : State) (c : Fin 32), s.aqActive c = true → s.parN P.AQ_DIR c = 1 → s.flag F.CAN_AQ_STATUS_TIMED_OUT c = false →
    s.elapsed (s.aq c).lastAcc (s.parN P.AQ_TIMEOUT c * usT) = true →
    ∃ t, exec (.aqTimeoutExpiry c) s = .next t ∧ t.flag F.CAN_AQ_STATUS_TIMED_OUT c = true ∧ t.faultActive .AQ_TIMEOUT c = true)

/-- The link (R530), the messages and timeouts of 802.1AS (R524 to R526, R533) and TIME_STEP_ACCEPT (R527) act. -/
def Obligations.NetworkTimeCommandsAct : Prop :=
  (∀ (s : State) (up : Bool) (speed : Fin 3), s.macRuns = true → s.flag F.ETH_STATUS_LINK_UP = !up →
    ∃ t, exec (.ethLinkChange up speed) s = .next t ∧ t.flag F.ETH_STATUS_LINK_UP = up ∧ t.flag F.TIME_STATUS_LINK_UP = up ∧ t.flag F.TIME_INT_STATUS_LINK = true ∧
      (up = true → s.parN P.ETH_SPEED = 0 → t.fld F.ETH_STATUS_SPEED = speed + 1) ∧ (up = false → t.fld F.ETH_STATUS_SPEED = 0 ∧ t.time.ethQueue = [] ∧ t.flag F.TIME_STATUS_AS_CAPABLE = false)) ∧
  (∀ (s : State) (domain port seq age : Nat) (li : Int) (g : Announce), s.ptpHears domain = true → s.flag F.TIME_STATUS_AS_CAPABLE = true → s.flag F.TIME_STATUS_GM_KNOWN = true →
    s.time.gm = some g → g.sourcePort = port →
    ∃ t, exec (.ptpSyncRx domain port seq li age none) s = .next t ∧ t.time.syncAt = s.now ∧
      t.time.pendingSync = some ⟨port, seq, s.devAgo age - s.parN P.PHY_RX_LAT * devNs⟩ ∧ t = { s with time := t.time }) ∧
  (∀ (s : State) (domain port seq : Nat) (x : PtpTime) (p : SyncRx), s.time.pendingSync = some p → s.ptpHears domain = true → p.port = port → p.seq = seq → s.time.accept = [] →
    ∃ t, exec (.ptpFollowUpRx domain port seq x) s = .next t ∧ t.time.pendingSync = none ∧ t.time.lastSync = some s.now ∧
      (s.clockState ≠ 0 → s.parN P.JUMP_LIMIT * 1000 * 65536 <
          (((p.at_ * 65536 / devNs : Nat) : Int) - ((x.origin : Int) * 65536 + x.correction + (s.fld F.TIME_LINK_DELAY_DELAY : Int) * 65536)).natAbs →
        t.flag F.TIME_STATUS_JUMP_PENDING = true ∧ t.ts = s.ts)) ∧
  (∀ (s : State) (domain : Nat) (li : Int) (a : Announce), s.ptpHears domain = true → s.flag F.TIME_STATUS_AS_CAPABLE = true → a.stepsRemoved < 255 → s.time.gm = none →
    ∃ t, exec (.ptpAnnounceRx domain li a) s = .next t ∧ t.time.gm = some a ∧ t.flag F.TIME_STATUS_GM_KNOWN = true ∧ t.time.announceAt = s.now ∧
      t.fld F.TIME_GM_ID_HI_ID = a.gmId % 2 ^ 64 / 2 ^ 32 ∧ t.fld F.TIME_GM_ID_LO_ID = a.gmId % 2 ^ 32) ∧
  (∀ (s : State) (g : Announce), s.time.gm = some g → s.elapsed s.time.announceAt (3 * s.time.announceInterval) = true →
    ∃ t, exec .announceReceiptTimeout s = .next t ∧ t.time.gm = none ∧ t.flag F.TIME_STATUS_GM_KNOWN = false ∧ t = { s with regs := t.regs, time := t.time }) ∧
  (∀ (s : State), s.clockState = 1 → s.elapsed s.time.syncAt (3 * s.time.syncInterval) = true →
    ∃ t, exec .syncReceiptTimeout s = .next t ∧ t.clockState = 2 ∧ t.time.holdSince = s.now) ∧
  (∀ (s : State), s.clockState = 2 → s.elapsed s.time.holdSince (s.parN P.HOLDOVER_T * secT) = true →
    ∃ t, exec .holdoverExpiry s = .next t ∧ t.clockState = 3 ∧ t.flag F.TIME_INT_STATUS_SYNC_LOST = true ∧ t.faultActive .SYNC_LOST 255 = true) ∧
  (∀ (s : State), s.linkIsUp = true → s.elapsed s.time.pdelayAt (logTicks (s.par P.PDELAY_LOG_INT)) = true →
    ∃ t, exec .pdelayReqSend s = .next t ∧ t.time.ethQueue = s.time.ethQueue ++ [.pdelayReq ((s.time.pdelaySeq + 1) % 65536)] ∧ t.time.pdelayAt = s.now ∧
      (s.time.pdelaySent.isSome = true → 9 ≤ s.time.pdelayLost → t.flag F.TIME_STATUS_AS_CAPABLE = false)) ∧
  (∀ (s : State) (r seq age : Nat), s.linkIsUp = true →
    ∃ t, exec (.ptpPdelayReqRx r seq age) s = .next t ∧
      t.time.ethQueue = s.time.ethQueue ++ [.pdelayResp r seq ((s.devAgo age - s.parN P.PHY_RX_LAT * devNs) / devNs)] ∧ t = { s with time := t.time }) ∧
  (∀ (s : State) (seq t1 t2 t3 age : Nat), s.time.pdelaySent = some (seq, t1) → s.linkIsUp = true →
    ∃ t, exec (.ptpPdelayRespRx seq t2 t3 age) s = .next t ∧ t.time.pdelaySent = none ∧ t.time.pdelayLost = 0 ∧
      t.time.pdelayPrev = some (t3, s.devAgo age - s.parN P.PHY_RX_LAT * devNs)) ∧
  (∀ (s : State) (n : Fin 64) (w : WorkItem), s.mayRun n 0x1B (.roles [1, 2]) false 1 [(24, 4)] w = true → s.flag F.TIME_STATUS_JUMP_PENDING = true →
    rawField w.raw 24 4 = s.fld F.TIME_JUMP_SEQ_SEQ → s.mramReady = true → s.prot.audit.unacked.length < 8192 →
    ∃ t, exec (.timeStepAccept n) s = .next t ∧ t.time.accept = s.time.accept ++ [(n.val, w.wid, s.now)]) ∧
  (∀ (s : State) (n : Fin 64) (wid t0 : Nat), s.time.accept = [(n.val, wid, t0)] → s.elapsed t0 (2 * secT) = true →
    ∃ t, exec .timeStepTimeout s = .next t ∧ t.time.accept = [] ∧ t.answered n wid = true ∧ t.flag F.TIME_STATUS_JUMP_PENDING = s.flag F.TIME_STATUS_JUMP_PENDING)

/-- Frames received and sent (R531, R532), timed outputs (R534 to R536, R238), captures (R537) and the registers with reads and writes of their own (R543) act. -/
def Obligations.EthernetAndPulseCommandsAct : Prop :=
  (∀ (s : State) (frame : List Byte) (age : Nat), s.linkIsUp = true → 60 ≤ frame.length → frame.length ≤ 1514 →
    beNat (frame.take 6) = 2 ^ 48 - 1 → (etherType frame).1 ≠ 0x88F7 → (etherType frame).1 ≠ s.parN P.AQ_ETHERTYPE →
    ∃ t, exec (.ethFrameRx true frame age) s = .next t ∧ t.fld F.ETH_RX_STATS_FRAMES = (s.fld F.ETH_RX_STATS_FRAMES + 1) % 2 ^ 16 ∧
      t = (s.bump F.ETH_RX_STATS_FRAMES).toFramePair (s.parN P.ETH_RX_RP) (frameRecord ((s.devAgo age - s.parN P.PHY_RX_LAT * devNs) / devNs) 8 0 0 frame)) ∧
  (∀ (s : State) (n : Fin 64) (w : WorkItem) (f : List Byte), s.mayRun n 0x41 .any true 1 [(24, 1)] w = true → 60 ≤ rawLen w.raw → rawLen w.raw ≤ 1518 → rawField w.raw 24 1 ≤ 1 →
    s.linkIsUp = true → s.rpPcie n = true → s.hostOk n (rawAddr w.raw) (rawLen w.raw) false = true → f.length = rawLen w.raw → (etherType f).1 ≠ 0x88F7 →
    (etherType f).1 ≠ s.parN P.AQ_ETHERTYPE →
    ∃ t, exec (.ethTx n (some f)) s = .next t ∧ t.time.ethQueue = s.time.ethQueue ++ [.host n w.wid f (rawField w.raw 24 1 == 1)]) ∧
  (∀ (s : State) (age : Nat) (x : EthTx) (rest : List EthTx), s.linkIsUp = true → s.coasting = false → s.time.ethQueue = x :: rest → (∀ y ∈ rest, x.prio ≤ y.prio) →
    ∃ t, exec (.ethFrameTxDone age) s = .next t ∧ t.fld F.ETH_TX_STATS_FRAMES = (s.fld F.ETH_TX_STATS_FRAMES + 1) % 2 ^ 16 ∧
      (∀ y ∈ t.time.ethQueue, y ∈ rest ∨ y.prio = 0) ∧
      (x.prio ≠ 0 → t.time.ethQueue = rest)) ∧
  (∀ (s : State) (m : Fin 21), (s.mayRead m .TIME_NOW_NS).2 = true →
    ∃ t, exec (.timeNowRead m) s = .next t ∧ t.reg ⟨.TIME_NOW_NS, 0, 0⟩ = BitVec.ofNat 32 (s.ts % 1000000000) ∧
      t.reg ⟨.TIME_NOW_SEC_LO, 0, 0⟩ = BitVec.ofNat 32 (s.ts / 1000000000) ∧ t.fld F.TIME_NOW_SEC_HI_SEC = s.ts / 1000000000 / 2 ^ 32 % 2 ^ 16) ∧
  (∀ (s : State) (m : Fin 21) (k : Fin 8) (width : Nat), (s.mayWrite m .TIME_TPO_CTRL k).2 = true → 8 ≤ m.val → m.val ≤ 13 → s.par P.TPO_MODE k = 1 → 10 ≤ width → width < 2 ^ 20 →
    (s.fld F.TIME_TPO_PERIOD_PERIOD k = 0 ∨ width < s.fld F.TIME_TPO_PERIOD_PERIOD k) →
    ∃ t, exec (.tpoArm m k width) s = .next t ∧ (t.tpo k).armed = true ∧ (t.tpo k).width = width ∧ (t.tpo k).period = s.fld F.TIME_TPO_PERIOD_PERIOD k ∧
      t.flag F.TIME_TPO_CTRL_ARM k = true ∧ t.tpoPin k = false) ∧
  (∀ (s : State) (m : Fin 21) (k : Fin 8), (s.mayWrite m .TIME_TPO_CTRL k).2 = true → 8 ≤ m.val → m.val ≤ 13 →
    ∃ t, exec (.tpoDisarm m k) s = .next t ∧ t.tpo k = {} ∧ t.flag F.TIME_TPO_CTRL_ARM k = false ∧ t.tpoPin k = false) ∧
  (∀ (s : State) (k : Fin 8), (s.tpo k).armed = true → s.pdOn 9 = true → tsDiff (s.tpo k).edge s.ts ≤ 0 →
    ∃ t, exec (.tpoEdge k) s = .next t ∧ t.tpoPin k = !(s.tpo k).active ∧
      ((s.tpo k).active = true → (s.tpo k).period ≠ 0 → (s.tpo k).late = false → (t.tpo k).k = (s.tpo k).k + 1 ∧ (t.tpo k).active = false)) ∧
  (∀ (s : State) (b : Fin 2) (k : Fin 32) (o : Fin 8) (t0 : Nat), (s.pwm b).live = true → (s.pwm b).fired.contains k.val = false → s.fld F.PWM_TL_ACT_TYPE b k = 5 → s.slotActive b k = true →
    s.slotTime b k = some t0 → t0 / 8 ≤ s.counter b → bits (s.fld F.PWM_TL_ACT_ARG b k) 2 0 = o.val → bits (s.fld F.PWM_TL_ACT_ARG b k) 5 4 ≤ 2 →
    s.parN P.TPO_MODE o = 2 + b.val → s.pdOn 9 = true →
    ∃ t, exec (.tlTpoEdge b k) s = .next t ∧
      t.tpoPin o = (if bits (s.fld F.PWM_TL_ACT_ARG b k) 5 4 = 0 then false else if bits (s.fld F.PWM_TL_ACT_ARG b k) 5 4 = 1 then true else !s.tpoPin o)) ∧
  (∀ (s : State) (c : Fin 5) (falling : Bool), s.pdOn 9 = true → (s.parN P.CAPT_EDGE c = 3 ∨ s.parN P.CAPT_EDGE c = (if falling then 2 else 1)) → (s.caps c).length < 4 →
    ∃ t, exec (.evcapEdge c falling) s = .next t ∧
      t.caps c = s.caps c ++ [⟨s.tsAgo (s.parN P.CAPT_FILT c + 2), s.coasting, falling, s.fld F.TIME_STATUS_STEP_COUNT⟩] ∧ t.flag F.TIME_INT_STATUS_CAP = true ∧
      t = { s with regs := t.regs, time := t.time }) ∧
  (∀ (s : State) (m : Fin 21) (c : Fin 5), (s.mayRead m .TIME_EVCAP_INFO c).2 = true →
    ∃ t, exec (.evcapInfoRead m c) s = .next t ∧ t.caps c = (s.caps c).drop 1 ∧ t.flag F.TIME_EVCAP_INFO_OVR c = false) ∧
  (∀ (s : State) (m : Fin 21) (value : Word), (s.mayWrite m .ETH_MDIO 0).2 = true → 8 ≤ m.val → m.val ≤ 13 → s.flag F.ETH_MDIO_GO = false →
    ∃ t, exec (.mdioGo m value) s = .next t ∧ t.flag F.ETH_MDIO_GO = true ∧ t.fld F.ETH_MDIO_DATA = value.toNat % 65536) ∧
  (∀ (s : State) (data : Fin 65536), s.flag F.ETH_MDIO_GO = true → s.macRuns = true →
    ∃ t, exec (.mdioDone data) s = .next t ∧ t.flag F.ETH_MDIO_GO = false ∧ t.fld F.ETH_MDIO_DATA = (if 2 ≤ s.fld F.ETH_MDIO_OP then data.val else s.fld F.ETH_MDIO_DATA) ∧
      t = { s with regs := t.regs })

/-- The ends of start and stop sequences and their bounds (R43, R45) act: a sequence that may end ends in ON or OFF, with a request
held for the next cycle; one that exceeds its bound raises the function's timeout fault. A satellite and an injector end their start by commands of their own. -/
def Obligations.LifecycleSequencesAct : Prop :=
  (∀ (s : State) (k : FuncKind) (n : Fin 64), n.val < k.count → s.isStarting k n = true → s.startReady k n = true →
    ∃ t, exec (.startSequenceDone k n) s = .next t ∧ t = s.startEnds k n ∧
      (k ∈ [FuncKind.bridge, .posIf, .posCmp, .dressing, .discharge, .can, .rule] →
        (t.lc k n).pending = (s.lc k n).pending ∧ (t.lc k n).since = s.now ∧ (t.lc k n).state = .on)) ∧
  (∀ (s : State) (k : FuncKind) (n : Fin 64) (clampsOk : Bool), n.val < k.count → s.isStopping k n = true → s.stopReady k n = true → s.quiet = true →
    k ∈ [FuncKind.bridge, .posIf, .posCmp, .injector, .discharge, .can, .rule] →
    ∃ t, exec (.stopSequenceDone k n clampsOk) s = .next t ∧ (t.lc k n).state = .off ∧ (t.lc k n).pending = (s.lc k n).pending ∧ (t.lc k n).since = s.now) ∧
  (∀ (s : State) (k : FuncKind) (n : Fin 64) (b : Nat), n.val < k.count → s.isStarting k n = true → s.startBound k n = some b → s.elapsed (s.lc k n).since b = true →
    ∃ t, exec (.startingBoundExpiry k n) s = .next t ∧
      (∀ f ∈ k.timeout, k ≠ .bridge → t.faultActive f n = true) ∧ (k = .ring → t.flag F.DERRICK_INT_STATUS_RING_FAULT = true) ∧
      (k = .bridge → t.faultActive (if s.par P.SYNC_MODE n = 2 then .LOCK_FAIL else .BRIDGE_TIMEOUT) n = true) ∧
      (k ≠ .satellite → k ≠ .can → t.isStarting k n = false ∧ (t.lc k n).pending = .none)) ∧
  (∀ (s : State) (k : FuncKind) (n : Fin 64), n.val < k.count → k ≠ .posCmp → s.isStopping k n = true → s.elapsed (s.lc k n).since (s.stopBound k n) = true → s.quiet = true →
    k ∈ [FuncKind.bridge, .posIf, .dressing, .can, .discharge] →
    ∃ t, exec (.stoppingBoundExpiry k n) s = .next t ∧ t.isOff k n = true ∧
      (∀ f ∈ k.timeout, t.faultActive f n = true)) ∧
  (∀ (s : State) (k : FuncKind) (n : Fin 64), n.val < k.count → s.isStopping k n = true → s.elapsed (s.lc k n).since (s.stopBound k n) = true → s.quiet = true → k = .ring →
    ∃ t, exec (.stoppingBoundExpiry k n) s = .next t ∧ t.fld F.DERRICK_RP_ERR_CAUSE n = 8 ∧ t.flag F.DERRICK_INT_STATUS_RING_FAULT = true ∧ t.isOff k n = true)

/-- SET_STATE (R418) reaches the function's lifecycle, and PROG_LOAD (R196) puts an engine in STARTING with its load, unless refused. -/
def Obligations.SetStateAndLoadsAct : Prop :=
  (∀ (s : State) (n : Fin 64) (w : WorkItem) (k : FuncKind) (r : Right) (x : Bool), s.mayRun n 0x11 .any false 16 [(24, 1), (25, 1)] w = true → rawField w.raw 25 1 = 1 →
    setStateKind (rawField w.raw 24 1) = some (k, r, false) → s.holds n r = true → rawTarget w.raw < k.count → s.enableStatus k (rawTarget w.raw) = 0 →
    s.isOff k (rawTarget w.raw) = x →
    ∃ t, exec (.setStateEnable n) s = .next t ∧ t.answered n w.wid = true ∧
      (k ∈ [FuncKind.bridge, .posIf, .posCmp, .dressing, .can, .rule] → (t.lc k (rawTarget w.raw)).state = (if x then .starting else (s.lc k (rawTarget w.raw)).state) ∧
        (t.lc k (rawTarget w.raw)).discard = false ∧
        (t.lc k (rawTarget w.raw)).pending = (if (s.lc k (rawTarget w.raw)).state = .stopping then .enable else .none))) ∧
  (∀ (s : State) (n : Fin 64) (w : WorkItem) (k : FuncKind) (r : Right) (x : Bool), s.mayRun n 0x11 .any false 16 [(24, 1), (25, 1)] w = true → rawField w.raw 25 1 = 2 →
    setStateKind (rawField w.raw 24 1) = some (k, r, x) → s.holds n r = true → rawTarget w.raw < k.count → s.pdOn (funcDomain k (rawTarget w.raw)) = true →
    s.disableRefused k (rawTarget w.raw) = false → s.isStarting k (rawTarget w.raw) = false →
    ∃ t, exec (.setStateDisable n) s = .next t ∧ t.answered n w.wid = true ∧
      (k ≠ .slot → k ≠ .satellite → (t.lc k (rawTarget w.raw)).state = (if (s.lc k (rawTarget w.raw)).state = .on then .stopping else (s.lc k (rawTarget w.raw)).state) ∧
        (t.lc k (rawTarget w.raw)).pending = .none)) ∧
  (∀ (s : State) (n : Fin 64) (w : WorkItem) (h : ImageHead), s.mayRun n 0x14 .any true 8 [(24, 1), (25, 1), (26, 1)] w = true → progLoadForm w.raw = true →
    s.rpDrive n = true → s.pdOn (ceDomain (rawTarget w.raw)) = true → s.stillFaulted .engine (rawTarget w.raw) = false →
    s.loadStatus (rawTarget w.raw) w.raw (s.sessionRole n) true = 0 → imageHead (s.sysBytes (rawAddr w.raw) 128) = some h → h.signer = 0 →
    ∃ t, exec (.progLoad n) s = .next t ∧
      (s.isStopping .engine (rawTarget w.raw) = true → (t.lc .engine (rawTarget w.raw)).pending = .enable ∧ (t.engine (rawTarget w.raw)).held = some (loadOf n w)) ∧
      (s.isOff .engine (rawTarget w.raw) = true → t.isStarting .engine (rawTarget w.raw) = true ∧ (t.engine (rawTarget w.raw)).load = some (loadOf n w)))

/-- Unit, cluster and domain resets (R20 to R26, R30, R35), requests on and off (R28, R476) and a lost domain (R479) act. -/
def Obligations.ResetsAndDomainsAct : Prop :=
  (∀ (s : State) (u : ResetUnit), s.pdOn u.domain = true → s.quiet = true →
    ∃ t, exec (.unitReset u) s = .next t ∧ t.faults.unitResets.contains (u.faultUnit.1, u.faultUnit.2, s.now) = true ∧
      (∀ c : Fin 8, u = .engine c → t.isOff .engine c = true ∧ (t.engine c).prog = (s.engine c).prog ∧ (t.engine c).mem = (s.engine c).mem ∧ (t.engine c).d = ({} : Engine).d) ∧
      (∀ b : Fin 2, u = .bridge b → t.isOff .bridge b = true ∧ t.pwm b = {}) ∧ (∀ i : Fin 8, u = .posIf i → t.isOff .posIf i = true ∧ t.posIf i = {}) ∧
      (∀ m : Fin 4, u = .can m → t.isOff .can m = true ∧ t.can m = {}) ∧ (∀ a : Fin 6, u = .adc a → t.adc a = {}) ∧
      (∀ k : Fin 8, u = .tpo k → t.tpo k = {}) ∧ (∀ p : Fin 64, u = .ring p → t.ring p = {}) ∧
      (∀ m : Fin 12, u = .satellite m → t.flag F.GDS_STATUS_FENCED m = s.flag F.GDS_STATUS_FENCED m ∧ (t.sat m).carriers = false)) ∧
  (∀ (s : State) (c : Cluster), s.pdOn c.domain = true → s.quiet = true →
    ∃ t, exec (.clusterReset c) s = .next t ∧ t.memc.recover.at none (5 + c.ctorIdx) = some s.now ∧
      (c = .ceA → ∀ k : Fin 4, t.isOff .engine k.val = true) ∧ (c = .ceB → ∀ k : Fin 4, t.isOff .engine (4 + k.val) = true)) ∧
  (∀ (s : State) (d : Fin 12) (cause : Fin 3) (fault : Fin 65536), s.pdOn d = true → s.quiet = true →
    ∃ t, exec (.domainReset d cause fault) s = .next t ∧
      (d = 0 ∨ d = 6 → t.rst.guard.isSome = true) ∧
      (d ≠ 0 → d ≠ 6 → t.isOn .domain d = true ∧ t.fld F.SYSCTL_PD_STATUS_LAST_RST d = 2 + cause ∧ (∀ c ∈ clustersOf d, t.memc.recover.at none (5 + c.ctorIdx) = some s.now))) ∧
  (∀ (s : State) (m : Fin 21) (mask : Nat) (d : Fin 12), 8 ≤ m.val → m.val ≤ 13 → (s.mayWrite m .SYSCTL_PD_ON 0).2 = true → d.val ∈ domainsIn mask → s.isOff .domain d = true →
    (∀ e ∈ domainRequires d, s.pdOn e = true) →
    ∃ t, exec (.pdOn m mask) s = .next t ∧ t.isStarting .domain d = true ∧ t.flag F.SYSCTL_PD_STATUS_CLAMPED d = true) ∧
  (∀ (s : State) (m : Fin 21) (d : Fin 12), 8 ≤ m.val → m.val ≤ 13 → (s.mayWrite m .SYSCTL_PD_OFF 0).2 = true → d ≠ 0 → s.quiet = true →
    ∃ t, exec (.pdOff m (2 ^ d.val)) s = .next t ∧ (s.offRefused d = true → (t.lc .domain d) = s.lc .domain d) ∧
      (s.offRefused d = false → s.dependentsOff d = true → s.isOn .domain d = true → t.isStopping .domain d = true) ∧
      (s.offRefused d = false → s.dependentsOff d = false → s.isOn .domain d = true → (t.domainOf d).heldOff = true)) ∧
  (∀ (s : State) (d : Fin 12) (clock : Bool), d ≠ 0 → s.isOn .domain d = true → s.quiet = true →
    ∃ t, exec (.domainLost d clock) s = .next t ∧ (d = 6 → t.rst.guard.isSome = true) ∧ (d ≠ 6 → (t.domainOf d).lost = true ∧ t.isOff .domain d = true ∧
      t.fld F.SYSCTL_PD_STATUS_LAST_RST d = (if clock then 4 else 3)))

/-- Reset triggers and the reset (R37, R483 to R486, R488), the rails (R467), the clock gates (R470, R471) and the watchdog (R487) act. -/
def Obligations.ResetAndSupplyCommandsAct : Prop :=
  (∀ (s : State) (c : Nat), s.rst.guard = some c → (c = 9 ∨ s.elapsedLpo s.rst.guardSince (2 * usT) = true) → s.faults.latchWriting = false → c < 16 →
    ∃ t, exec .resetAssert s = .next t ∧ t.rst.guard = none ∧ t.rst.started = false ∧ t.fld F.SYSCTL_RESET_CAUSE_CAUSE = c ∧
      t.fld F.SYSCTL_RESET_CAUSE_PREV_CAUSE = s.fld F.SYSCTL_RESET_CAUSE_CAUSE ∧
      t.fld F.SYSCTL_RESET_CAUSE_PKG_COUNT = min 255 (s.fld F.SYSCTL_RESET_CAUSE_PKG_COUNT + 1) ∧
      t.faults.active = [] ∧ t.faults.scree = s.faults.scree ∧ t.hostMem = s.hostMem ∧ t.mram = s.bulkCut.mram ∧
      t.stored = s.stored.filter (fun e => e.1.id != P.DEBUG_UNLOCK)) ∧
  (∀ (s : State), s.faults.latchWriting = true →
    ∃ t, exec .latchRecordWriteDone s = .next t ∧ t = { s with faults := { s.faults with latchRecord := s.faults.latchPending, latchWriting := false } }) ∧
  (∀ (s : State),
    ∃ t, exec .powerOnReset s = .next t ∧ t.lcs = [] ∧ t.mem = [] ∧ t.power = State.reset.power ∧ t.island.sto.a = s.island.sto.a ∧
      t.hostMem = s.hostMem ∧ t.mram = s.bulkCut.mram ∧ t.rst = State.reset.rst) ∧
  (∀ (s : State), (s.rst.started = true ∨ s.rst.testHeld = true) → s.rst.guard = none →
    ∃ t, exec .porstPin s = .next t ∧ t.rst.guard = some 3 ∧ t.rst.guardSince = s.lpo ∧ t.rst.testHeld = false) ∧
  (∀ (s : State) (m : Fin 21) (v : Word), ((8 ≤ m.val ∧ m.val ≤ 13) ∨ (m = 20 ∧ s.lifecycle ≠ 1)) → bits v.toNat 31 16 = 0x6B1D → bits v.toNat 0 0 = 1 →
    (s.mayWrite m .SYSCTL_RESET_REQ 0).2 = true → s.rst.guard = none →
    ∃ t, exec (.resetReq m v) s = .next t ∧ t.rst.guard = some 6) ∧
  (∀ (s : State) (rail band : Fin 4), s.power.mode = .run → (rail = 3 → band ≠ 3) →
    ∃ t, exec (.supplyLevelChange rail band) s = .next t ∧ (1 ≤ band → t.faultActive .SUPPLY_WARN rail = true) ∧ (band = 0 → t.faultActive .SUPPLY_WARN rail = false) ∧
      (2 ≤ band → rail ≠ 3 → t.faultActive .SUPPLY_FAULT rail = true) ∧ (band = 3 → t.rst.guard.isSome = true) ∧
      (band ≠ 3 → t.fld (railFld rail) = (if rail = 3 then min 1 band.val else band.val))) ∧
  (∀ (s : State) (m : Fin 21) (set k : Fin 3) (v : Word),
    (s.mayWrite m (if set = 0 then .SYSCTL_CG_RUN else if set = 1 then .SYSCTL_CG_SLEEP else .SYSCTL_CG_DSLEEP) (if set = 2 then 0 else k)).2 = true →
    ∃ t, exec (.clockGateWrite m set k v) s = .next t ∧ (set = 2 → t.flag F.SYSCTL_CG_DSLEEP_SN = bitAt v.toNat 14) ∧
      (∀ b : Fin 32, (set = 0 ∨ set = 1) → (k = 2 → b < 4) →
        bitAt (t.fld (if set = 0 then F.SYSCTL_CG_RUN_EN else F.SYSCTL_CG_SLEEP_EN) k) b =
          (bitAt v.toNat b || (bitAt (s.fld (if set = 0 then F.SYSCTL_CG_RUN_EN else F.SYSCTL_CG_SLEEP_EN) k) b && s.unitBusy (32 * k + b) &&
            s.power.mode == (if set = 0 then .run else .idle))))) ∧
  (∀ (s : State) (m : Fin 21) (v : Word), 8 ≤ m.val → m.val ≤ 11 → (s.mayWrite m .SYSCTL_WDT_KICK 0).2 = true →
    ∃ t, exec (.wdtKick m v) s = .next t ∧ t.power.wdtKick = (if bits v.toNat 15 0 = 0x5AC3 then s.lpo else s.power.wdtKick) ∧ t = { s with power := t.power }) ∧
  (∀ (s : State), s.flag F.SYSCTL_WDT_CTRL_EN = true → s.elapsedLpo s.power.wdtKick (s.fld F.SYSCTL_WDT_CTRL_TIMEOUT * msT) = true →
    (∀ h ∈ s.island.halted, h < 8 ∨ 11 < h) → s.rst.guard = none →
    ∃ t, exec .watchdogExpiry s = .next t ∧ t.rst.guard = some 4) ∧
  (∀ (s : State) (lost : Fin 65536) (march : Option Nat) (f l r : Bool), s.rst.started = false → s.rst.guard = none → s.rst.testHeld = false →
    ∃ t, exec (.startUp true f march lost l r) s = .next t ∧ t = { s with rst := { s.rst with testHeld := true } }) ∧
  (∀ (s : State) (lost : Fin 65536) (march : Option Nat) (f l r : Bool), s.rst.started = false → s.rst.guard = none → s.rst.testHeld = false →
    ∃ t, exec (.startUp false f march lost l r) s = .next t ∧ t.rst.started = true ∧ t.rst.coldStart = false ∧ t.power.mode = .run ∧ t.pdOn 6 = true ∧ t.pdOn 2 = true ∧
      t.prot.resumeSince = s.now ∧ (f = false → t.faultActive .FUSE_FAULT 255 = true))

/-- The PLL's ramps and locks (R472, R475), the monitors of the reference and the LPO (R469, R473) and the requests of power modes (R480 to R482) act. -/
def Obligations.ClockAndPowerCommandsAct : Prop :=
  (∀ (s : State), s.flag F.SYSCTL_CLK_STATUS_RAMP_BUSY = true → s.elapsed s.clocks.stepSince (s.parN P.RAMP_STEP_T * usT) = true →
    ∃ t, exec .rampStep s = .next t ∧
      t.flag F.SYSCTL_CLK_STATUS_RAMP_BUSY = !(decide (s.fld F.SYSCTL_CLK_STATUS_RAMP_STEP = 0 ∧ s.parN P.RAMP_STEPS = 16) || decide (s.parN P.RAMP_STEPS ≤ s.fld F.SYSCTL_CLK_STATUS_RAMP_STEP)) ∧
      t = { s with regs := t.regs, clocks := t.clocks }) ∧
  (∀ (s : State) (n : Fin 256), s.refRuns = true →
    ∃ t, exec (.refMonitorWindow n) s = .next t ∧ t.fld F.SYSCTL_CLK_STATUS_REF_COUNT = n ∧ (90 ≤ n → n ≤ 110 → t.clocks.badRun = 0) ∧
      ((n < 90 ∨ 110 < n) → 1 ≤ s.clocks.badRun → s.flag F.SYSCTL_CLK_STATUS_PLL_LOCK = true →
        t.flag F.SYSCTL_CLK_STATUS_COAST = true ∧ t.flag F.SYSCTL_CLK_STATUS_PLL_LOCK = false ∧ t.faultActive .CLK_LOSS 255 = true) ∧
      ((n < 90 ∨ 110 < n) → (s.clocks.badRun = 0 ∨ s.flag F.SYSCTL_CLK_STATUS_PLL_LOCK = false) →
        t.clocks.badRun = s.clocks.badRun + 1 ∧ t = { s with regs := t.regs, clocks := t.clocks })) ∧
  (∀ (s : State) (a : Nat), s.lockAttempt = some a → s.flag F.SYSCTL_CLK_STATUS_PLL_LOCK = false → s.refRuns = true → a ≤ s.lpo →
    ∃ t, exec .pllRelock s = .next t ∧ t.flag F.SYSCTL_CLK_STATUS_PLL_LOCK = true ∧ t.flag F.SYSCTL_CLK_STATUS_RAMP_BUSY = true ∧ t.fld F.SYSCTL_CLK_STATUS_ON_PLL = 63 ∧
      t.flag F.SYSCTL_CLK_STATUS_COAST = false) ∧
  (∀ (s : State) (a : Nat), s.lockAttempt = some a → s.flag F.SYSCTL_CLK_STATUS_PLL_LOCK = false → s.refRuns = true → s.elapsedLpo a (5 * msT) = true →
    ∃ t, exec .pllLockTimeout s = .next t ∧ t.clocks.tryingSince = some s.lpo ∧ t.faultActive .PLL_LOCK_FAIL 255 = true) ∧
  (∀ (s : State) (ppm : Int), s.flag F.SYSCTL_CLK_STATUS_PLL_LOCK = true → 30000 < ppm.natAbs →
    ∃ t, exec (.lpoCheck ppm) s = .next t ∧ t.faultActive .LPO_TRIM 255 = true) ∧
  (∀ (s : State) (m : Fin 21), 8 ≤ m.val → m.val ≤ 13 → (s.mayWrite m .SYSCTL_PWR_MODE 0).2 = true → s.domainSwitching = false → s.power.entering = none →
    s.flag F.SYSCTL_CLK_STATUS_CLK_LOSS = false → s.power.mode = .idle →
    ∃ t, exec (.requestRun m) s = .next t ∧ t.power.mode = .run ∧ t.fld F.SYSCTL_PWR_MODE_PRESENT = 0 ∧ t = { s with regs := t.regs, power := t.power }) ∧
  (∀ (s : State) (m : Fin 21), 8 ≤ m.val → m.val ≤ 13 → (s.mayWrite m .SYSCTL_PWR_MODE 0).2 = true → s.domainSwitching = false → s.power.entering = none →
    s.flag F.SYSCTL_CLK_STATUS_CLK_LOSS = false → s.power.mode = .run → s.anyBusy [.bridge] = false →
    ∃ t, exec (.requestIdle m) s = .next t ∧ t.power.mode = .idle ∧ t.fld F.SYSCTL_PWR_MODE_PRESENT = PowerMode.idle.code) ∧
  (∀ (s : State) (m : Fin 21), 8 ≤ m.val → m.val ≤ 13 → (s.mayWrite m .SYSCTL_PWR_MODE 0).2 = true → s.domainSwitching = false → s.power.entering = none →
    s.flag F.SYSCTL_CLK_STATUS_CLK_LOSS = false → s.anyBusy [.engine, .slot, .bridge, .satellite, .posIf, .posCmp, .injector, .can] = false →
    ∃ t, exec (.requestSleep m) s = .next t ∧ t.power.mode = .sleep ∧ t.fld F.SYSCTL_CLK_STATUS_ON_PLL = 0 ∧ t.sn.parkedAt = some s.lpo) ∧
  (∀ (s : State) (m : Fin 21), 8 ≤ m.val → m.val ≤ 13 → (s.mayWrite m .SYSCTL_PWR_MODE 0).2 = true → s.domainSwitching = false → s.power.entering = none →
    s.flag F.SYSCTL_CLK_STATUS_CLK_LOSS = false → s.anyBusy [.slot, .bridge, .satellite, .discharge] = false → s.quiet = true →
    ∃ t, exec (.requestDeepSleep m) s = .next t ∧ (t.power.entering = some .deepSleep ∨ t.power.mode = .deepSleep ∨ t.rst.guard.isSome = true)) ∧
  (∀ (s : State) (m : Fin 21), 8 ≤ m.val → m.val ≤ 13 → (s.mayWrite m .SYSCTL_PWR_MODE 0).2 = true → s.domainSwitching = false → s.power.entering = none →
    s.flag F.SYSCTL_CLK_STATUS_CLK_LOSS = false → s.anyBusy [.slot, .bridge, .satellite, .discharge] = false → s.quiet = true →
    ∃ t, exec (.requestOff m) s = .next t ∧ (t.power.entering = some .off ∨ t.power.mode = .off ∨ t.rst.guard.isSome = true)) ∧
  (∀ (s : State), s.power.mode = .idle →
    ∃ t, exec .idleWake s = .next t ∧ t.power.mode = .run ∧ t = { s with regs := t.regs, power := t.power }) ∧
  (∀ (s : State), s.power.mode = .sleep → s.power.wakeWaiting = true →
    ∃ t, exec .sleepWake s = .next t ∧ t.power.mode = .run ∧ t.power.wakeWaiting = false ∧ t.flag F.SYSCTL_CLK_STATUS_PLL_LOCK = true ∧ t.fld F.SYSCTL_CLK_STATUS_ON_PLL = 63)

/-- The sentinel (R544 to R560) acts: rounds filter the samples, a burst judges rotation, pins and frames are taken in, a park short compares V_DC, and
its timers end WAKE_OUT and restart a hung SN. -/
def Obligations.SentinelCommandsAct : Prop :=
  (∀ (s : State) (v a b : List Int), s.snRuns = true → s.sn.burstSince = none → (∀ t0 ∈ s.sn.roundAt, s.elapsedLpo t0 s.roundMin = true) →
    ∃ t, exec (.snRound v a b) s = .next t ∧ t.sn.sampled = true ∧ t.sn.roundAt = some s.lpo ∧
      t.fld F.SENTINEL_ANALOG_VBAT = (clampI 0 65535 (if s.sn.sampled then (s.fld F.SENTINEL_ANALOG_VBAT : Int) + (medianOf v - s.fld F.SENTINEL_ANALOG_VBAT) / 2 ^ s.parN P.SN_IIR_SHIFT else medianOf v)).toNat ∧
      (s.sn.ntcWait = 0 → s.sn.ntcSampled = false → t.fldS F.SENTINEL_NTC_NTC1 = sat16 (medianOf b)) ∧
      t.sn.burstSince = (if s.holdsPosPins then some s.lpo else none)) ∧
  (∀ (s : State) (value : Int) (within : Nat) (inv : Bool) (t0 : Nat), s.holdsPosPins = true → s.sn.burstSince = some t0 → s.elapsedLpo t0 (s.parN P.SN_BURST_T * usT) = true →
    ∃ t, exec (.snBurstEnd value within inv) s = .next t ∧ t.sn.burstSince = none ∧ t.sn.prev = value ∧ t.sn.burstFresh = false ∧ t.fld F.SENTINEL_ROT_COUNT = min 65535 within ∧
      t.fld F.SENTINEL_ROT_RUN = (if s.sn.burstFresh = false ∧ (s.snHall && inv) = false ∧ s.moved value within = true then min 255 (s.fld F.SENTINEL_ROT_RUN + 1) else 0) ∧
      (s.snHall = true → inv = true → t.faultActive .SN_SENSOR_FAULT 255 = true)) ∧
  (∀ (s : State) (k : Fin 4) (level : Bool), bitAt s.sn.wakes k = !level →
    ∃ t, exec (.wakePinEdge k level) s = .next t ∧ bitAt t.sn.wakes k = level ∧
      (s.power.mode = .off → level = true → bitAt (s.parN P.SN_OFF_WAKE) k = true → t.power.wakeOut = true ∧ t.rst.guard.isSome = true)) ∧
  (∀ (s : State) (id : Fin 536870912) (xtd fdf : Bool) (dlc : Fin 16) (data : List Byte), s.holdsCanPin = true →
    ∃ t, exec (.snCanFrame true id xtd fdf dlc data) s = .next t ∧
      t.fld F.SENTINEL_CANWAKE_ERR = (if s.parN P.SN_CAN_ERR_LIM ≤ s.fld F.SENTINEL_CANWAKE_ERR + 1 then 0 else (s.fld F.SENTINEL_CANWAKE_ERR + 1) % 2 ^ 8)) ∧
  (∀ (s : State) (id : Fin 536870912) (xtd : Bool) (dlc : Fin 16) (data : List Byte), s.holdsCanPin = true →
    ∃ t, exec (.snCanFrame false id xtd false dlc data) s = .next t ∧ t.fld F.SENTINEL_CANWAKE_ERR = s.fld F.SENTINEL_CANWAKE_ERR - 1 ∧
      (∀ f : Fin 8, bitAt (t.fld F.SENTINEL_CANWAKE_MATCHED) f = (bitAt (s.fld F.SENTINEL_CANWAKE_MATCHED) f || s.wakeMatch f id xtd dlc data))) ∧
  (∀ (s : State) (t0 : Nat), s.sn.wakeOutSince = some t0 → s.elapsedLpo t0 (s.parN P.SN_WAKE_OUT_T * msT) = true →
    ∃ t, exec .wakeOutExpiry s = .next t ∧ t.sn.wakeOutSince = none ∧
      t.power.wakeOut = !((s.power.mode == .deepSleep || s.power.mode == .off) && s.rst.guard.isNone) ∧ t = { s with sn := t.sn, power := t.power }) ∧
  (∀ (s : State) (b : Fin 2) (p : Park), s.sn.park = some p → s.rst.started = true → p.bridges.contains b.val = true → p.compared.contains b.val = false → s.pdOn (10 + b) = true →
    s.islandStarted = false →
    ∃ t, exec (.parkVdcCompare b) s = .next t ∧ t.sn.park.map (·.compared) = some (p.compared ++ [b.val]) ∧
      ((s.flag F.ADC_DS_VAL_VALID (vdcCh b) = false ∨ mvQ p.limit < s.vdcQ b) → (t.safeOf b).guard = true ∧ (s.parkState b p.high = (if p.high then .ascHigh else .ascLow) → (t.safeOf b).choice = s.parkState b p.high))) ∧
  (∀ (s : State), s.snRuns = true → s.elapsedLpo s.sn.doneAt (4 * s.parN P.SN_ROUND_T * msT) = true →
    ∃ t, exec .snHangTimer s = .next t ∧ t.faultActive .SN_HANG 255 = true ∧ t.sn.roundAt = none ∧ t.sn.burstSince = none ∧ t.sn.doneAt = s.lpo)

/-- The memories' scrubber and march (R566, R577 to R579, R591), the arbiters' recovery (R569), the save of PTIME (R157, R627) and the housekeeping round (R581) act. -/
def Obligations.MemoryAndHousekeepingAct : Prop :=
  (∀ (s : State) (k : Fin 5) (a : Nat), ∃ t, exec (.eccWriteback k a) s = .next t ∧ t.memc.writeback.contains (k.val, a) = false ∧ t.mem = s.mem ∧ t = { s with memc := t.memc }) ∧
  (∀ (s : State) (k : Fin 5) (b : Fin 32), s.pdOn 6 = true → b.val < (memGeom k).banks → s.bankSkipped k b = false → s.memc.scrubNext.at 0 (32 * k.val + b.val) < (memGeom k).bank / 8 →
    ∃ t, exec (.sramScrubStep k b 1) s = .next t ∧ t.faultActive .SRAM_CORR k = true ∧ t.mem = s.mem) ∧
  (∀ (s : State) (k : Fin 5) (b : Fin 32), s.pdOn 6 = true → b.val < (memGeom k).banks → s.bankSkipped k b = false → s.memc.scrubNext.at 0 (32 * k.val + b.val) < (memGeom k).bank / 8 →
    k ≠ 1 → k ≠ 3 → s.memc.poison.contains ((memGeom k).base + b * (memGeom k).bank + 8 * s.memc.scrubNext.at 0 (32 * k.val + b.val)) = false →
    ∃ t, exec (.sramScrubStep k b 2) s = .next t ∧ t.faultActive .SRAM_UNCORR k = true ∧
      t.memc.poison.contains ((memGeom k).base + b * (memGeom k).bank + 8 * s.memc.scrubNext.at 0 (32 * k.val + b.val)) = true) ∧
  (∀ (s : State) (m : Fin 21) (k : Fin 8), 8 ≤ m.val → m.val ≤ 13 → (s.mayWrite m .MEMCTL_MARCH_CTRL 0).2 = true →
    ∃ t, exec (.marchGo m k) s = .next t ∧
      (s.marchRefused k (s.fld F.MEMCTL_MARCH_BANKS_BANKS) = true → t.flag F.MEMCTL_MARCH_STATUS_REFUSED = true ∧ t.memc.march = s.memc.march) ∧
      (s.marchRefused k (s.fld F.MEMCTL_MARCH_BANKS_BANKS) = false → bitAt (s.fld F.MEMCTL_MARCH_BANKS_BANKS) 0 = true →
        t.memc.march.map (fun x => (x.mem, x.seg, x.since)) = some (k.val, 0, s.now) ∧ t.flag F.MEMCTL_STATUS_MARCH_BUSY = true)) ∧
  (∀ (s : State) (m : Fin 21), 8 ≤ m.val → m.val ≤ 13 → (s.mayWrite m .MEMCTL_MARCH_CTRL 0).2 = true → s.memc.march.isSome = true →
    ∃ t, exec (.marchAbort m) s = .next t ∧ t.memc.march = none ∧ t.flag F.MEMCTL_STATUS_MARCH_BUSY = false) ∧
  (∀ (s : State) (x : March) (o : MarchOutcome), s.memc.march = some x → s.gateOpen 46 = true →
    ∃ t, exec (.marchSegmentDone o) s = .next t ∧
      (o = .preempt → t.memc.march = some { x with since := s.now } ∧ t.fld F.MEMCTL_MARCH_STATUS_SEG = x.seg % 2 ^ 11) ∧
      (o = .pass → s.elapsed x.since 3328 = true → x.seg + 1 < (memGeom x.mem).bank / 1024 → t.memc.march = some { x with seg := x.seg + 1, since := s.now }) ∧
      (o = .pass → s.elapsed x.since 3328 = true → (memGeom x.mem).bank / 1024 ≤ x.seg + 1 → x.banks.length = 1 → t.memc.march = none ∧ t.flag F.MEMCTL_MARCH_STATUS_PASS = true)) ∧
  (∀ (s : State) (x : March) (a : Fin 4194304), s.memc.march = some x → s.gateOpen 46 = true →
    ∃ t, exec (.marchSegmentDone (.fail a)) s = .next t ∧ t.memc.march = none ∧ t.flag F.MEMCTL_MARCH_STATUS_FAIL = true ∧ t.faultActive .MARCH_FAIL x.mem = true) ∧
  (∀ (s : State) (a : Fin 13) (t0 : Nat), s.memc.recover.at none a.val = some t0 → s.elapsed t0 msT = true →
    ∃ t, exec (.arbiterRecoveryExpiry a) s = .next t ∧ t.memc.recover.at none a.val = none ∧ t = { s with memc := t.memc }) ∧
  (∀ (s : State), s.mramReady = true → s.atlasC.savedAt + 60 ≤ s.ptime →
    ∃ t, exec .ptimeSave s = .next t ∧ t.atlasC.savedAt = s.ptime ∧
      (s.pdOn 1 = true → s.hvLive 1 = true → t.life.hvB = min 0xFFFFFFFF (s.life.hvB + 1))) ∧
  (∀ (s : State) (codes : List Nat) (dies : List (Option Int)) (mram : Option Int) (t0 : Nat), s.hk.roundAt = some t0 → s.pdOn 8 = true → s.gateOpen 22 = true → s.gateOpen 23 = true → t0 ≤ s.lpo →
    ∃ t, exec (.hkRound codes dies mram) s = .next t ∧ t.fld F.HKEEP_STATUS_ROUND = (s.fld F.HKEEP_STATUS_ROUND + 1) % 2 ^ 16 ∧
      t.flag F.HKEEP_STATUS_LATE = s.elapsedLpo t0 msT ∧ t.hk.roundAt = some (if s.elapsedLpo t0 msT then s.lpo else t0 + msT))

/-- PARAM_WRITE stores a record, PARAM_READ and SNAPSHOT answer (R431, R451), a register write stores its fields (R8) and FLD, FST and the single step act (R176, R204). -/
def Obligations.RecordsAndFabricAct : Prop :=
  (∀ (s : State) (n : Fin 64) (w : WorkItem) (data : Option (List Byte)) (d : List Byte) (es : List (Nat × List Byte)) (r : PRecord) (ws : Written),
    s.mayRun n 0x12 .any true 0x10000 [(24, 2)] w = true → rawField w.raw 24 2 ≠ 0 → rawField w.raw 24 2 ≤ 64 → (s.markStarted n w.wid).dataIn n w data = some d →
    cutEntries (rawField w.raw 24 2) d = some es → paramRecordOf (es.headD (0, [])).1 = some r → rawTarget w.raw < r.insts → recordWrites r (rawTarget w.raw) es = some ws →
    (s.markStarted n w.wid).writeStatus r (rawTarget w.raw) (s.sessionRole n) es ws = 0 → s.mramReady = true → s.prot.audit.unacked.length < 8192 →
    ∃ t, exec (.paramWrite n data) s = .next t ∧ t.answered n w.wid = true ∧ (r.first ≠ P.LIFECYCLE_ADVANCE → t.stored = (s.storeWrites (rawTarget w.raw) ws).stored)) ∧
  (∀ (s : State) (n : Fin 64) (w : WorkItem) (f : PDef) (r : PRecord) (l : List Byte), s.mayRun n 0x13 .any true 0x10000 [(24, 2)] w = true →
    paramDef (rawField w.raw 24 2) = some f → paramRecordOf (rawField w.raw 24 2) = some r → rawTarget w.raw < r.insts → idFits (rawField w.raw 24 2) (rawTarget w.raw) = true →
    (r.members (rawTarget w.raw)).flatMap (fun d => d.entry (fun k => s.parStored d.id (rawTarget w.raw) k)) = l → l.length ≤ rawLen w.raw →
    (s.markStarted n w.wid).hostOk n (rawAddr w.raw) l.length true = true →
    ∃ t, exec (.paramRead n) s = .next t ∧ t = ((s.markStarted n w.wid).hostWrite n (rawAddr w.raw) l).finish n w.wid 0 l.length) ∧
  (∀ (s : State) (n : Fin 64) (w : WorkItem), s.mayRun n 0x19 .any true 1 [] w = true → 336 ≤ rawLen w.raw →
    (s.markStarted n w.wid).hostOk n (rawAddr w.raw) (s.markStarted n w.wid).snapshot.length true = true → (s.markStarted n w.wid).snapshot.length = 336 →
    ∃ t, exec (.snapshot n) s = .next t ∧ t = ((s.markStarted n w.wid).hostWrite n (rawAddr w.raw) (s.markStarted n w.wid).snapshot).finish n w.wid 0 336) ∧
  (∀ (s : State) (m : Fin 21) (a : Nat) (v : Word) (k : RKey), (s.busAllows m a 1).2 = true → regAt a = some k → writeActs k.reg = false → lcOfReg k = none →
    (k.reg.hasLock = true → s.bootlock = false ∧ m = 8) →
    ∃ t, exec (.registerWrite m a v) s = .next t ∧ t.reg k = BitVec.ofNat 32 (k.reg.written (s.reg k).toNat v.toNat) ∧ t = { s with regs := t.regs } ∧
      (∀ j : Fin 8, ∀ r ∈ [Reg.SYSCTL_PD_STATUS, .CE_STATUS, .DERRICK_RP_BIND], ({ k with reg := r, i := j.val, j := 0 } : RKey) ≠ k → t.reg ⟨r, j, 0⟩ = s.reg ⟨r, j, 0⟩)) ∧
  (∀ (s : State) (m : Fin 21) (a : Nat) (v : Word), (s.busAllows m a 1).2 = true → regAt a = none → (memArea a = some .sram ∨ memArea a = some .tcm) → s.partPoisoned a 4 = false →
    ∃ t, exec (.registerWrite m a v) s = .next t ∧ t = s.sysWrite a (leBytes 4 v.toNat)) ∧
  (∀ (s : State) (c : Fin 8) (d a : Nat), s.ceNext c = some (.fld d a) → (s.engine c).dReg a % 4 = 0 → (s.busAllows c ((s.engine c).dReg a) 0).2 = true →
    ∃ t, exec (.fld c) s = .next t ∧ (t.engine c).wait = .fld d ((s.engine c).dReg a) false ∧ (t.engine c).pc = (s.engine c).pc ∧ t = { s with engines := t.engines }) ∧
  (∀ (s : State) (c : Fin 8) (d a : Nat), (s.engine c).wait = .fld d a false → regAt a = none → memArea a = some .sram → s.pdOn 6 = true → s.poisoned a 4 = false →
    (s.engine c).haltAsked = false → (s.engine c).halted = false →
    ∃ t, exec (.fldDone c 0) s = .next t ∧ (t.engine c).dReg d = leNat (s.sysBytes a 4) ∧ (t.engine c).wait = .none ∧
      ((t.engine c).pc, (t.engine c).loops) = loopNext (s.engine c).loops (s.engine c).pc) ∧
  (∀ (s : State) (c : Fin 8) (d a : Nat), s.ceNext c = some (.fst d a) → (s.engine c).dReg a % 4 = 0 → (s.busAllows c ((s.engine c).dReg a) 1).2 = true →
    regAt ((s.engine c).dReg a) = none → memArea ((s.engine c).dReg a) = some .sram → s.partPoisoned ((s.engine c).dReg a) 4 = false →
    ∃ t, exec (.fst c) s = .next t ∧ t.mem = (s.sysWrite ((s.engine c).dReg a) (leBytes 4 ((s.engine c).dReg d))).mem ∧
      ((t.engine c).pc, (t.engine c).loops) = loopNext (s.engine c).loops (s.engine c).pc) ∧
  (∀ (s : State) (c : Fin 8), (s.debugAccess 20 .ceHalt .CE_DEBUG_CTRL c).2 = true → (s.engine c).halted = true → (s.engine c).wait = .none →
    (s.unhalt c).ceNext c = some .nop →
    ∃ t, exec (.ceStep 20 c) s = .next t ∧ (t.engine c).halted = true ∧ ((t.engine c).pc, (t.engine c).loops) = loopNext (s.engine c).loops (s.engine c).pc)

/-- R488: a write of RESET_REQ that reaches the register requests a package reset of kind SOFTWARE (6) where its master, KEY and GO are as the rule says, and is ignored
otherwise. -/
def Obligations.OnlyAKeyedWriteRequestsTheSoftwareReset : Prop :=
  (∀ (s : State) (m : Fin 21) (v : Word), (s.mayWrite m .SYSCTL_RESET_REQ 0).2 = true →
    ((8 ≤ m.val ∧ m.val ≤ 13) ∨ (m = 20 ∧ (s.lifecycle = 0 ∨ s.lifecycle = 2))) → bits v.toNat 31 16 = 0x6B1D → bits v.toNat 0 0 = 1 →
    ∃ t, exec (.resetReq m v) s = .next t ∧ t = s.triggerReset 6 0 ∧ (s.rst.guard = none → t.rst.guard = some 6)) ∧
  (∀ (s : State) (m : Fin 21) (v : Word), s.lifecycle ≤ 2 →
    ¬(((8 ≤ m.val ∧ m.val ≤ 13) ∨ (m = 20 ∧ (s.lifecycle = 0 ∨ s.lifecycle = 2))) ∧ bits v.toNat 31 16 = 0x6B1D ∧ bits v.toNat 0 0 = 1) → exec (.resetReq m v) s = .next s)

/-- R64: with current cycles of PERIOD / LOOP_RATE ticks of 1.25 ns, REF_DIV is at least 1, no larger integer fits in 100 µs (80,000 ticks), and itself fits unless it is 1. -/
def Obligations.ReferenceDividerIsTheLargest : Prop :=
  (∀ (s : State) (n : Fin 2), 0 < s.period (s.mainBridge n) →
    1 ≤ s.refDiv n ∧ (s.refDiv n = 1 ∨ s.refDiv n * s.period (s.mainBridge n) ≤ 80000 * s.parN P.LOOP_RATE n)) ∧
  (∀ (s : State) (n : Fin 2) (k : Nat), 0 < s.period (s.mainBridge n) → k * s.period (s.mainBridge n) ≤ 80000 * s.parN P.LOOP_RATE n → k ≤ s.refDiv n)

/-- R60: a PARAM_WRITE of entries of a slot's machine record completes while the slot is not OFF, and neither the stored record nor any value in force changes. -/
def Obligations.MachineRecordsAreWrittenOnlyWhileOff : Prop :=
  (∀ (s : State) (n : Fin 64) (w : WorkItem) (data : Option (List Byte)) (d : List Byte) (es : List (Nat × List Byte)),
    s.mayRun n 0x12 .any true 0x10000 [(24, 2)] w = true → rawField w.raw 24 2 ≠ 0 → rawField w.raw 24 2 ≤ 64 → (s.markStarted n w.wid).dataIn n w data = some d →
    cutEntries (rawField w.raw 24 2) d = some es → paramRecordOf (es.headD (0, [])).1 = some ⟨0x0200, 0x020E, 2⟩ → s.isOff .slot (rawTarget w.raw) = false →
    ∃ t, exec (.paramWrite n data) s = .next t ∧ t.answered n w.wid = true ∧ t.stored = s.stored ∧ t.params = s.params)

/-- R318: while a bridge is not OFF the request is refused: it leaves the whole state as it is, the state of every domain included. -/
def Obligations.PowerDomainOfTheAdcsStaysOnUnderABridge : Prop :=
  (∀ (s : State) (b : Fin 2), s.isOff .bridge b = false → s.domainOffRequest 8 = s) ∧
  (∀ (s : State) (m : Fin 21) (b : Fin 2), 8 ≤ m.val → m.val ≤ 13 → (s.mayWrite m .SYSCTL_PD_OFF 0).2 = true → s.quiet = true → s.isOff .bridge b = false →
    ∃ t, exec (.pdOff m 0x100) s = .next t ∧ (∀ d : Fin 12, t.lc .domain d = s.lc .domain d))

/-- R414 (with R409's phase): a completion posted on a pair that is not OFF, its host not lost, puts RESULT, TAG, SQ_HEAD, STATUS, OPCODE and FLAGS at the next entry of its completion
ring, which follows the submission ring. -/
def Obligations.CompletionsHaveTheirSixteenBytes : Prop :=
  (∀ (s : State) (n : Fin 64) (op tag status result : Nat) (irq : Bool), s.isOff .ring n = false → (s.hostOf (s.rpHost n)).lost = false →
    s.memc.poison = [] → s.hostOk n (s.rpBase n + s.rpSize n * 64 + 16 * (s.ring n).compl) 16 true = true →
    (if s.rpPcie n then (s.postCompletion n op tag irq status result).hostMem else (s.postCompletion n op tag irq status result).mem) =
      Memory.write (if s.rpPcie n then s.hostMem else s.mem) (s.rpBase n + s.rpSize n * 64 + 16 * (s.ring n).compl)
        (leBytes 8 (result % 2 ^ 64) ++ leBytes 2 tag ++ leBytes 2 (s.ring n).head ++ leBytes 2 status ++ leBytes 1 op ++ leBytes 1 (if (s.ring n).phase then 0x80 else 0)))

/-- R471: an enable of the set in force that a write would clear stays set while its unit, or a function that it serves, is not OFF, and GATE_REFUSED is raised for the first such unit;
of CG_DSLEEP only bit 14 is written. -/
def Obligations.ClockGatesOfBusyUnitsStayOpen : Prop :=
  (∀ (s : State) (m : Fin 21) (k : Fin 3) (v : Word) (b : Fin 32), (s.mayWrite m .SYSCTL_CG_RUN k).2 = true → s.power.mode = .run → (k = 2 → b < 4) →
    bitAt (s.fld F.SYSCTL_CG_RUN_EN k) b = true → bitAt v.toNat b = false → s.unitBusy (32 * k + b) = true →
    ∃ t, exec (.clockGateWrite m 0 k v) s = .next t ∧ bitAt (t.fld F.SYSCTL_CG_RUN_EN k) b = true ∧ t.flag F.SYSCTL_INT_STATUS_GATE_REFUSED = true ∧
      (∃ u : Fin 68, t.faultActive .GATE_REFUSED u = true)) ∧
  (∀ (s : State) (m : Fin 21) (k : Fin 3) (v : Word) (b : Fin 32), (s.mayWrite m .SYSCTL_CG_SLEEP k).2 = true → s.power.mode = .idle → (k = 2 → b < 4) →
    bitAt (s.fld F.SYSCTL_CG_SLEEP_EN k) b = true → bitAt v.toNat b = false → s.unitBusy (32 * k + b) = true →
    ∃ t, exec (.clockGateWrite m 1 k v) s = .next t ∧ bitAt (t.fld F.SYSCTL_CG_SLEEP_EN k) b = true ∧ t.flag F.SYSCTL_INT_STATUS_GATE_REFUSED = true ∧
      (∃ u : Fin 68, t.faultActive .GATE_REFUSED u = true)) ∧
  (∀ (s : State) (m : Fin 21) (v : Word), (s.mayWrite m .SYSCTL_CG_DSLEEP 0).2 = true →
    ∃ t, exec (.clockGateWrite m 2 0 v) s = .next t ∧ (∀ b : Fin 32, b ≠ 14 → bitAt (t.reg ⟨.SYSCTL_CG_DSLEEP, 0, 0⟩).toNat b = bitAt (s.reg ⟨.SYSCTL_CG_DSLEEP, 0, 0⟩).toNat b) ∧
      t.flag F.SYSCTL_CG_DSLEEP_SN = bitAt v.toNat 14)

/-- The table of R45 on one lifecycle: enable, disable with and without an abort, a fault that stops the function, a reset, and the ends of its sequences. -/
def Obligations.LifecyclesReactToEvents : Prop :=
  (∀ (l : Lc) (t : Nat), l.enable t = (match l.state with
    | .off => { l with state := .starting, pending := .none, fault := false, since := t }
    | .stopping => { l with pending := .enable }
    | _ => { l with pending := .none })) ∧
  (∀ (l : Lc) (t : Nat), l.state = .starting → (l.disable false t) = { l with pending := .disable } ∧ (l.disable true t).state = .stopping) ∧
  (∀ (l : Lc) (t : Nat), l.state = .on → (l.disable false t).state = .stopping ∧ (l.disable true t).state = .stopping) ∧
  (∀ (l : Lc) (t : Nat), l.state = .stopping → l.disable false t = { l with pending := .none } ∧ l.disable true t = { l with pending := .none }) ∧
  (∀ (l : Lc) (t : Nat), l.state ≠ .off → (l.faultStop t).state = .stopping ∧ (l.faultStop t).pending = .none ∧ (l.faultStop t).discard = (l.discard || l.pending != .none)) ∧
  (∀ (l : Lc) (t : Nat), (l.forceOff t).state = .off ∧ (l.forceOff t).pending = .none ∧ (l.forceOff t).discard = (l.discard || l.pending != .none)) ∧
  (∀ (l : Lc) (t : Nat), l.state = .starting → (l.startDone t).state = .on ∧ (l.startDone t).pending = l.pending) ∧
  (∀ (l : Lc) (t : Nat), l.state = .stopping → (l.stopDone t).state = .off ∧ (l.stopDone t).pending = l.pending)

/-- R8 and R10 on the write of a register that acts by its field types alone: RO and WO fields and reserved bits keep their bits, RW and RWL fields take the value, W1C bits are cleared and W1S
bits set by a 1. -/
def Obligations.FieldTypesGovernAWrite : Prop :=
  (∀ (r : Reg) (old v b : Nat), b < 32 → old < 2 ^ 32 → v < 2 ^ 32 → (r.fields.all (fun f => b < f.lo || f.hi < b)) = true → bitAt (r.written old v) b = bitAt old b) ∧
  (∀ (r : Reg) (f : Fld) (old v b : Nat), f ∈ r.fields → f.lo ≤ b → b ≤ f.hi → old < 2 ^ 32 → v < 2 ^ 32 →
    bitAt (r.written old v) b = (match f.acc with
      | .ro => bitAt old b
      | .wo => bitAt old b
      | .rw => bitAt v b
      | .rwl => bitAt v b
      | .w1c => bitAt old b && !bitAt v b
      | .w1s => bitAt old b || bitAt v b))

/-- R31: a write to a register, or to a memory, of a domain that is off leaves the whole state as it is; an engine's read of it ends in the bus error. -/
def Obligations.AnOffDomainTakesNoAccess : Prop :=
  (∀ (s : State) (m : Fin 21) (a : Nat) (v : Word) (k : RKey), regAt a = some k → s.pdOn (k.reg.domain k.i) = false → exec (.registerWrite m a v) s = .next s) ∧
  (∀ (s : State) (m : Fin 21) (a : Nat) (v : Word) (x : MemArea), regAt a = none → memArea a = some x → s.pdOn x.domain = false → exec (.registerWrite m a v) s = .next s) ∧
  (∀ (s : State) (c : Fin 8) (e : Fin 3) (d a : Nat) (k : RKey), (s.engine c).wait = .fld d a false → regAt a = some k → s.pdOn (k.reg.domain k.i) = false →
    exec (.fldDone c e) s = .next (s.ceBusError c))

/-- R76 (its first two bullets): at or below the first point the first factor, at or above the last the last, and between two points the line through them. The value is a fraction of ‰. -/
def Obligations.DeratingCurvesInterpolate : Prop :=
  (∀ (s : State) (id n : Nat) (x : Int), x ≤ s.par id n 0 → s.derate id n x = (s.par id n 1, 1)) ∧
  (∀ (s : State) (id n : Nat) (x : Int), s.par id n 0 < x → s.par id n 14 ≤ x → s.derate id n x = (s.par id n 15, 1)) ∧
  (∀ (s : State) (id n : Nat) (x : Int) (i : Fin 7), (∀ k : Fin 7, s.par id n (2 * k) < s.par id n (2 * k + 2)) → s.par id n (2 * i) ≤ x → x < s.par id n (2 * i + 2) →
    (s.derate id n x).1 * (s.par id n (2 * i + 2) - s.par id n (2 * i)) =
      (s.par id n (2 * i + 1) * (s.par id n (2 * i + 2) - s.par id n (2 * i)) + (s.par id n (2 * i + 3) - s.par id n (2 * i + 1)) * (x - s.par id n (2 * i))) * ((s.derate id n x).2 : Int))

/-- Whatever the state and the operands, a command answers a next state, in which every part of the state that is not in its frame (`parts`) is as before, and the time and the queue too.
The frame of a command holds what its rules let it change: its own unit, and what a raised fault (R369) or the completion of a descriptor (R414) reaches. -/
def Obligations.EveryCommandKeepsItsFrame : Prop :=
  (∀ (c : Instr) (s : State) (p : Part), (parts c).contains p = false → ∃ t, exec c s = .next t ∧ s.same p t ∧ t.pending = s.pending ∧ t.now = s.now ∧ t.lpo = s.lpo)

/-- From every state whose memories and register table are in canonical form, whatever waits in its queue, a step answers a next state in which they are again, and the queue has lost exactly its
front: equal contents are equal data for ever, and no command touches the queue. -/
def Obligations.EveryStepKeepsTheStoresCanonical : Prop :=
  (∀ (s : State), s.storesWf → ∃ t, step s = .next t ∧ t.storesWf ∧ t.pending = s.pending.drop 1)

end
end

