-- ==== Sys2Proof/Laws/Store.lean ====
section
/-! SUPPORT. Laws of the sparse tables: a read after a write, other keys kept, and the canonical form kept. -/

namespace Sys2Proof.Machine

/-- The order of keys is strict and total. -/
structure KeyOrder {κ : Type} (lt : κ → κ → Bool) : Prop where
  irrefl : ∀ a, lt a a = false
  trans : ∀ a b c, lt a b = true → lt b c = true → lt a c = true
  total : ∀ a b, a ≠ b → lt a b = false → lt b a = true

theorem ltNat_order : KeyOrder ltNat :=
  { irrefl := by intro a; simp [ltNat]
    trans := by intro a b c; simp only [ltNat, decide_eq_true_eq]; omega
    total := by intro a b; simp only [ltNat, decide_eq_true_eq, decide_eq_false_iff_not]; omega }

theorem Reg.ctorIdx_inj {a b : Reg} (h : a.ctorIdx = b.ctorIdx) : a = b := by
  have h1 := Reg.ofNat_ctorIdx a
  have h2 := Reg.ofNat_ctorIdx b
  rw [h] at h1
  exact h1.symm.trans h2

theorem rkey_order : KeyOrder RKey.lt :=
  { irrefl := by intro a; simp [RKey.lt]
    trans := by
      intro a b c
      simp only [RKey.lt, Bool.or_eq_true, Bool.and_eq_true, decide_eq_true_eq, beq_iff_eq]
      omega
    total := by
      intro a b hne h
      obtain ⟨ar, ai, aj⟩ := a
      obtain ⟨br, bi, bj⟩ := b
      have : ¬ (ar.ctorIdx = br.ctorIdx ∧ ai = bi ∧ aj = bj) := by
        rintro ⟨h1, rfl, rfl⟩
        exact hne (by rw [Reg.ctorIdx_inj h1])
      rw [← Bool.not_eq_true] at h
      simp only [RKey.lt, Bool.or_eq_true, Bool.and_eq_true, decide_eq_true_eq, beq_iff_eq] at h ⊢
      omega }

theorem pkey_order : KeyOrder PKey.lt :=
  { irrefl := by intro a; simp [PKey.lt]
    trans := by
      intro a b c
      simp only [PKey.lt, Bool.or_eq_true, Bool.and_eq_true, decide_eq_true_eq, beq_iff_eq]
      omega
    total := by
      intro a b hne h
      obtain ⟨ar, ai, aj⟩ := a
      obtain ⟨br, bi, bj⟩ := b
      have : ¬ (ar = br ∧ ai = bi ∧ aj = bj) := by
        rintro ⟨rfl, rfl, rfl⟩
        exact hne rfl
      rw [← Bool.not_eq_true] at h
      simp only [PKey.lt, Bool.or_eq_true, Bool.and_eq_true, decide_eq_true_eq, beq_iff_eq] at h ⊢
      omega }

theorem FuncKind.rank_inj {a b : FuncKind} (h : a.rank = b.rank) : a = b := by
  cases a <;> cases b <;> simp_all [FuncKind.rank]

theorem func_order : KeyOrder Func.lt :=
  { irrefl := by intro a; simp [Func.lt]
    trans := by
      intro a b c
      simp only [Func.lt, Bool.or_eq_true, Bool.and_eq_true, decide_eq_true_eq, beq_iff_eq]
      omega
    total := by
      intro a b hne h
      obtain ⟨ak, ai⟩ := a
      obtain ⟨bk, bi⟩ := b
      have : ¬ (ak.rank = bk.rank ∧ ai = bi) := by
        rintro ⟨h1, rfl⟩
        exact hne (by rw [FuncKind.rank_inj h1])
      rw [← Bool.not_eq_true] at h
      simp only [Func.lt, Bool.or_eq_true, Bool.and_eq_true, decide_eq_true_eq, beq_iff_eq] at h ⊢
      omega }

section
variable {κ α : Type} [DecidableEq κ] [DecidableEq α] {lt : κ → κ → Bool} {dflt : κ → α} {t : Table κ α}

omit [DecidableEq α] in
theorem Table.get_drop_same (k : κ) : Table.get dflt (t.drop k) k = dflt k := by
  induction t with
  | nil => rfl
  | cons e t ih =>
    obtain ⟨k', v⟩ := e
    by_cases h : k' = k
    · simpa [Table.drop, h] using ih
    · simpa [Table.drop, Table.get, h] using ih

omit [DecidableEq α] in
theorem Table.get_drop_other {k k' : κ} (h : k' ≠ k) : Table.get dflt (t.drop k) k' = Table.get dflt t k' := by
  induction t with
  | nil => rfl
  | cons e t ih =>
    obtain ⟨k2, v⟩ := e
    by_cases h2 : k2 = k
    · subst h2; simpa [Table.drop, Table.get, Ne.symm h] using ih
    · by_cases h3 : k2 = k'
      · subst h3; simp [Table.drop, Table.get, h2]
      · simpa [Table.drop, Table.get, h2, h3] using ih

omit [DecidableEq α] in
theorem Table.get_put_same (k : κ) (v : α) (hk : ∀ e ∈ t, e.1 ≠ k) : Table.get dflt (Table.put lt t k v) k = v := by
  induction t with
  | nil => simp [Table.put, Table.get]
  | cons e t ih =>
    obtain ⟨k', v'⟩ := e
    have h1 : k' ≠ k := hk (k', v') (by simp)
    have h2 := ih (fun e he => hk e (by simp [he]))
    simp only [Table.put]
    split
    · simp [Table.get]
    · simpa [Table.get, h1] using h2

omit [DecidableEq α] in
theorem Table.get_put_other {k k' : κ} (v : α) (h : k' ≠ k) : Table.get dflt (Table.put lt t k v) k' = Table.get dflt t k' := by
  induction t with
  | nil => simp [Table.put, Table.get, Ne.symm h]
  | cons e t ih =>
    obtain ⟨k2, v'⟩ := e
    simp only [Table.put]
    split
    · simp [Table.get, Ne.symm h]
    · by_cases h3 : k2 = k'
      · simp [Table.get, h3]
      · simpa [Table.get, h3] using ih

omit [DecidableEq α] in
theorem Table.mem_drop {k : κ} {e : κ × α} (h : e ∈ t.drop k) : e ∈ t ∧ e.1 ≠ k := by
  induction t with
  | nil => simp [Table.drop] at h
  | cons x t ih =>
    obtain ⟨k', v⟩ := x
    simp only [Table.drop] at h
    split at h
    · have := ih h
      exact ⟨List.mem_cons_of_mem _ this.1, this.2⟩
    · rcases List.mem_cons.mp h with h | h
      · subst h; exact ⟨List.mem_cons_self, by assumption⟩
      · have := ih h
        exact ⟨List.mem_cons_of_mem _ this.1, this.2⟩

omit [DecidableEq κ] [DecidableEq α] in
theorem Table.mem_put {k : κ} {v : α} {e : κ × α} (h : e ∈ Table.put lt t k v) : e = (k, v) ∨ e ∈ t := by
  induction t with
  | nil => simpa [Table.put] using h
  | cons x t ih =>
    obtain ⟨k', v'⟩ := x
    simp only [Table.put] at h
    split at h
    · rcases List.mem_cons.mp h with h | h
      · exact Or.inl h
      · exact Or.inr h
    · rcases List.mem_cons.mp h with h | h
      · exact Or.inr (by simp [h])
      · rcases ih h with h | h
        · exact Or.inl h
        · exact Or.inr (List.mem_cons_of_mem _ h)

/-- A read of a key after a write of it gives the value written. -/
theorem Table.get_set_same (k : κ) (v : α) : Table.get dflt (Table.set lt dflt t k v) k = v := by
  unfold Table.set
  split
  · rename_i h; rw [Table.get_drop_same, h]
  · exact Table.get_put_same k v (fun e he => (Table.mem_drop he).2)

/-- A write leaves every other key as it was. -/
theorem Table.get_set_other {k k' : κ} (v : α) (h : k' ≠ k) :
    Table.get dflt (Table.set lt dflt t k v) k' = Table.get dflt t k' := by
  unfold Table.set
  split
  · exact Table.get_drop_other h
  · rw [Table.get_put_other v h, Table.get_drop_other h]

omit [DecidableEq κ] in
theorem Table.wf_cons {k : κ} {v : α} : Table.wf lt dflt ((k, v) :: t) = true ↔
    (∀ e ∈ t, lt k e.1 = true) ∧ v ≠ dflt k ∧ Table.wf lt dflt t = true := by
  simp [Table.wf, and_assoc]

theorem Table.wf_drop (k : κ) (h : Table.wf lt dflt t = true) : Table.wf lt dflt (t.drop k) = true := by
  induction t with
  | nil => rfl
  | cons e t ih =>
    obtain ⟨k', v⟩ := e
    rw [Table.wf_cons] at h
    simp only [Table.drop]
    split
    · exact ih h.2.2
    · exact Table.wf_cons.mpr ⟨fun e he => h.1 e (Table.mem_drop he).1, h.2.1, ih h.2.2⟩

omit [DecidableEq κ] in
theorem Table.wf_filter (p : κ × α → Bool) (h : Table.wf lt dflt t = true) : Table.wf lt dflt (List.filter p t) = true := by
  induction t with
  | nil => rfl
  | cons e t ih =>
    obtain ⟨k', v⟩ := e
    rw [Table.wf_cons] at h
    rw [List.filter_cons]
    split
    · exact Table.wf_cons.mpr ⟨fun e he => h.1 e (List.mem_filter.mp he).1, h.2.1, ih h.2.2⟩
    · exact ih h.2.2

omit [DecidableEq κ] in
theorem Table.wf_put (ord : KeyOrder lt) (k : κ) (v : α) (hv : v ≠ dflt k) (hk : ∀ e ∈ t, e.1 ≠ k)
    (h : Table.wf lt dflt t = true) : Table.wf lt dflt (Table.put lt t k v) = true := by
  induction t with
  | nil => simp [Table.put, Table.wf, hv]
  | cons e t ih =>
    obtain ⟨k', v'⟩ := e
    have hw := Table.wf_cons.mp h
    simp only [Table.put]
    split
    · rename_i hlt
      refine Table.wf_cons.mpr ⟨fun e he => ?_, hv, h⟩
      rcases List.mem_cons.mp he with he | he
      · subst he; exact hlt
      · exact ord.trans _ _ _ hlt (hw.1 e he)
    · rename_i hlt
      have hne : k ≠ k' := fun hh => hk (k', v') (by simp) hh.symm
      have hgt := ord.total k k' hne (by simpa using hlt)
      refine Table.wf_cons.mpr ⟨fun e he => ?_, hw.2.1, ih (fun e he => hk e (List.mem_cons_of_mem _ he)) hw.2.2⟩
      rcases Table.mem_put he with he | he
      · subst he; exact hgt
      · exact hw.1 e he

/-- A write keeps the canonical form. -/
theorem Table.wf_set (ord : KeyOrder lt) (k : κ) (v : α) (h : Table.wf lt dflt t = true) :
    Table.wf lt dflt (Table.set lt dflt t k v) = true := by
  unfold Table.set
  split
  · exact Table.wf_drop k h
  · exact Table.wf_put ord k v (by assumption) (fun e he => (Table.mem_drop he).2) (Table.wf_drop k h)

end

@[simp] theorem Table.at_setAt_same {α : Type} [DecidableEq α] (d : α) (t : Table Nat α) (n : Nat) (v : α) :
    (t.setAt d n v).at d n = v := Table.get_set_same n v

theorem Table.at_setAt_other {α : Type} [DecidableEq α] (d : α) (t : Table Nat α) {n m : Nat} (v : α) (h : m ≠ n) :
    (t.setAt d n v).at d m = t.at d m := Table.get_set_other v h

theorem Table.wf_setAt {α : Type} [DecidableEq α] (d : α) (t : Table Nat α) (n : Nat) (v : α)
    (h : Table.wf ltNat (fun _ => d) t = true) : Table.wf ltNat (fun _ => d) (t.setAt d n v) = true :=
  Table.wf_set ltNat_order n v h

end Sys2Proof.Machine
end

