-- ==== Sys2Proof/Laws/State.lean ====
section
/-! SUPPORT. Laws of the state's named updates: the fields each leaves as they were, and a read after a write of a unit's record. -/

namespace Sys2Proof.Machine

variable (s : State)


/-! ### setReg -/

@[simp] theorem State.setReg_pending (k : RKey) (w : Word) : (s.setReg k w).pending = s.pending := rfl
@[simp] theorem State.setReg_now (k : RKey) (w : Word) : (s.setReg k w).now = s.now := rfl
@[simp] theorem State.setReg_lpo (k : RKey) (w : Word) : (s.setReg k w).lpo = s.lpo := rfl
@[simp] theorem State.setReg_dev (k : RKey) (w : Word) : (s.setReg k w).dev = s.dev := rfl
@[simp] theorem State.setReg_fresh (k : RKey) (w : Word) : (s.setReg k w).fresh = s.fresh := rfl
@[simp] theorem State.setReg_params (k : RKey) (w : Word) : (s.setReg k w).params = s.params := rfl
@[simp] theorem State.setReg_stored (k : RKey) (w : Word) : (s.setReg k w).stored = s.stored := rfl
@[simp] theorem State.setReg_lcs (k : RKey) (w : Word) : (s.setReg k w).lcs = s.lcs := rfl
@[simp] theorem State.setReg_mem (k : RKey) (w : Word) : (s.setReg k w).mem = s.mem := rfl
@[simp] theorem State.setReg_mram (k : RKey) (w : Word) : (s.setReg k w).mram = s.mram := rfl
@[simp] theorem State.setReg_hostMem (k : RKey) (w : Word) : (s.setReg k w).hostMem = s.hostMem := rfl
@[simp] theorem State.setReg_lanes (k : RKey) (w : Word) : (s.setReg k w).lanes = s.lanes := rfl
@[simp] theorem State.setReg_faults (k : RKey) (w : Word) : (s.setReg k w).faults = s.faults := rfl
@[simp] theorem State.setReg_safe (k : RKey) (w : Word) : (s.setReg k w).safe = s.safe := rfl
@[simp] theorem State.setReg_skipAt (k : RKey) (w : Word) : (s.setReg k w).skipAt = s.skipAt := rfl
@[simp] theorem State.setReg_island (k : RKey) (w : Word) : (s.setReg k w).island = s.island := rfl
@[simp] theorem State.setReg_rings (k : RKey) (w : Word) : (s.setReg k w).rings = s.rings := rfl
@[simp] theorem State.setReg_hosts (k : RKey) (w : Word) : (s.setReg k w).hosts = s.hosts := rfl
@[simp] theorem State.setReg_slotHosts (k : RKey) (w : Word) : (s.setReg k w).slotHosts = s.slotHosts := rfl
@[simp] theorem State.setReg_served (k : RKey) (w : Word) : (s.setReg k w).served = s.served := rfl
@[simp] theorem State.setReg_bulk (k : RKey) (w : Word) : (s.setReg k w).bulk = s.bulk := rfl
@[simp] theorem State.setReg_prot (k : RKey) (w : Word) : (s.setReg k w).prot = s.prot := rfl
@[simp] theorem State.setReg_msix (k : RKey) (w : Word) : (s.setReg k w).msix = s.msix := rfl
@[simp] theorem State.setReg_irqLines (k : RKey) (w : Word) : (s.setReg k w).irqLines = s.irqLines := rfl
@[simp] theorem State.setReg_clocks (k : RKey) (w : Word) : (s.setReg k w).clocks = s.clocks := rfl
@[simp] theorem State.setReg_power (k : RKey) (w : Word) : (s.setReg k w).power = s.power := rfl
@[simp] theorem State.setReg_rst (k : RKey) (w : Word) : (s.setReg k w).rst = s.rst := rfl
@[simp] theorem State.setReg_domains (k : RKey) (w : Word) : (s.setReg k w).domains = s.domains := rfl
@[simp] theorem State.setReg_engines (k : RKey) (w : Word) : (s.setReg k w).engines = s.engines := rfl
@[simp] theorem State.setReg_pwms (k : RKey) (w : Word) : (s.setReg k w).pwms = s.pwms := rfl
@[simp] theorem State.setReg_sats (k : RKey) (w : Word) : (s.setReg k w).sats = s.sats := rfl
@[simp] theorem State.setReg_adcs (k : RKey) (w : Word) : (s.setReg k w).adcs = s.adcs := rfl
@[simp] theorem State.setReg_sensing (k : RKey) (w : Word) : (s.setReg k w).sensing = s.sensing := rfl
@[simp] theorem State.setReg_sense (k : RKey) (w : Word) : (s.setReg k w).sense = s.sense := rfl
@[simp] theorem State.setReg_slots (k : RKey) (w : Word) : (s.setReg k w).slots = s.slots := rfl
@[simp] theorem State.setReg_posIfs (k : RKey) (w : Word) : (s.setReg k w).posIfs = s.posIfs := rfl
@[simp] theorem State.setReg_posCmps (k : RKey) (w : Word) : (s.setReg k w).posCmps = s.posCmps := rfl
@[simp] theorem State.setReg_capHi (k : RKey) (w : Word) : (s.setReg k w).capHi = s.capHi := rfl
@[simp] theorem State.setReg_atlasNv (k : RKey) (w : Word) : (s.setReg k w).atlasNv = s.atlasNv := rfl
@[simp] theorem State.setReg_atlas (k : RKey) (w : Word) : (s.setReg k w).atlas = s.atlas := rfl
@[simp] theorem State.setReg_atlasC (k : RKey) (w : Word) : (s.setReg k w).atlasC = s.atlasC := rfl
@[simp] theorem State.setReg_cans (k : RKey) (w : Word) : (s.setReg k w).cans = s.cans := rfl
@[simp] theorem State.setReg_aqs (k : RKey) (w : Word) : (s.setReg k w).aqs = s.aqs := rfl
@[simp] theorem State.setReg_time (k : RKey) (w : Word) : (s.setReg k w).time = s.time := rfl
@[simp] theorem State.setReg_sn (k : RKey) (w : Word) : (s.setReg k w).sn = s.sn := rfl
@[simp] theorem State.setReg_memc (k : RKey) (w : Word) : (s.setReg k w).memc = s.memc := rfl
@[simp] theorem State.setReg_hk (k : RKey) (w : Word) : (s.setReg k w).hk = s.hk := rfl
@[simp] theorem State.setReg_life (k : RKey) (w : Word) : (s.setReg k w).life = s.life := rfl

/-! ### setFld -/

@[simp] theorem State.setFld_pending (f : Fld) (v i j : Nat) : (s.setFld f v i j).pending = s.pending := rfl
@[simp] theorem State.setFld_now (f : Fld) (v i j : Nat) : (s.setFld f v i j).now = s.now := rfl
@[simp] theorem State.setFld_lpo (f : Fld) (v i j : Nat) : (s.setFld f v i j).lpo = s.lpo := rfl
@[simp] theorem State.setFld_dev (f : Fld) (v i j : Nat) : (s.setFld f v i j).dev = s.dev := rfl
@[simp] theorem State.setFld_fresh (f : Fld) (v i j : Nat) : (s.setFld f v i j).fresh = s.fresh := rfl
@[simp] theorem State.setFld_params (f : Fld) (v i j : Nat) : (s.setFld f v i j).params = s.params := rfl
@[simp] theorem State.setFld_stored (f : Fld) (v i j : Nat) : (s.setFld f v i j).stored = s.stored := rfl
@[simp] theorem State.setFld_lcs (f : Fld) (v i j : Nat) : (s.setFld f v i j).lcs = s.lcs := rfl
@[simp] theorem State.setFld_mem (f : Fld) (v i j : Nat) : (s.setFld f v i j).mem = s.mem := rfl
@[simp] theorem State.setFld_mram (f : Fld) (v i j : Nat) : (s.setFld f v i j).mram = s.mram := rfl
@[simp] theorem State.setFld_hostMem (f : Fld) (v i j : Nat) : (s.setFld f v i j).hostMem = s.hostMem := rfl
@[simp] theorem State.setFld_lanes (f : Fld) (v i j : Nat) : (s.setFld f v i j).lanes = s.lanes := rfl
@[simp] theorem State.setFld_faults (f : Fld) (v i j : Nat) : (s.setFld f v i j).faults = s.faults := rfl
@[simp] theorem State.setFld_safe (f : Fld) (v i j : Nat) : (s.setFld f v i j).safe = s.safe := rfl
@[simp] theorem State.setFld_skipAt (f : Fld) (v i j : Nat) : (s.setFld f v i j).skipAt = s.skipAt := rfl
@[simp] theorem State.setFld_island (f : Fld) (v i j : Nat) : (s.setFld f v i j).island = s.island := rfl
@[simp] theorem State.setFld_rings (f : Fld) (v i j : Nat) : (s.setFld f v i j).rings = s.rings := rfl
@[simp] theorem State.setFld_hosts (f : Fld) (v i j : Nat) : (s.setFld f v i j).hosts = s.hosts := rfl
@[simp] theorem State.setFld_slotHosts (f : Fld) (v i j : Nat) : (s.setFld f v i j).slotHosts = s.slotHosts := rfl
@[simp] theorem State.setFld_served (f : Fld) (v i j : Nat) : (s.setFld f v i j).served = s.served := rfl
@[simp] theorem State.setFld_bulk (f : Fld) (v i j : Nat) : (s.setFld f v i j).bulk = s.bulk := rfl
@[simp] theorem State.setFld_prot (f : Fld) (v i j : Nat) : (s.setFld f v i j).prot = s.prot := rfl
@[simp] theorem State.setFld_msix (f : Fld) (v i j : Nat) : (s.setFld f v i j).msix = s.msix := rfl
@[simp] theorem State.setFld_irqLines (f : Fld) (v i j : Nat) : (s.setFld f v i j).irqLines = s.irqLines := rfl
@[simp] theorem State.setFld_clocks (f : Fld) (v i j : Nat) : (s.setFld f v i j).clocks = s.clocks := rfl
@[simp] theorem State.setFld_power (f : Fld) (v i j : Nat) : (s.setFld f v i j).power = s.power := rfl
@[simp] theorem State.setFld_rst (f : Fld) (v i j : Nat) : (s.setFld f v i j).rst = s.rst := rfl
@[simp] theorem State.setFld_domains (f : Fld) (v i j : Nat) : (s.setFld f v i j).domains = s.domains := rfl
@[simp] theorem State.setFld_engines (f : Fld) (v i j : Nat) : (s.setFld f v i j).engines = s.engines := rfl
@[simp] theorem State.setFld_pwms (f : Fld) (v i j : Nat) : (s.setFld f v i j).pwms = s.pwms := rfl
@[simp] theorem State.setFld_sats (f : Fld) (v i j : Nat) : (s.setFld f v i j).sats = s.sats := rfl
@[simp] theorem State.setFld_adcs (f : Fld) (v i j : Nat) : (s.setFld f v i j).adcs = s.adcs := rfl
@[simp] theorem State.setFld_sensing (f : Fld) (v i j : Nat) : (s.setFld f v i j).sensing = s.sensing := rfl
@[simp] theorem State.setFld_sense (f : Fld) (v i j : Nat) : (s.setFld f v i j).sense = s.sense := rfl
@[simp] theorem State.setFld_slots (f : Fld) (v i j : Nat) : (s.setFld f v i j).slots = s.slots := rfl
@[simp] theorem State.setFld_posIfs (f : Fld) (v i j : Nat) : (s.setFld f v i j).posIfs = s.posIfs := rfl
@[simp] theorem State.setFld_posCmps (f : Fld) (v i j : Nat) : (s.setFld f v i j).posCmps = s.posCmps := rfl
@[simp] theorem State.setFld_capHi (f : Fld) (v i j : Nat) : (s.setFld f v i j).capHi = s.capHi := rfl
@[simp] theorem State.setFld_atlasNv (f : Fld) (v i j : Nat) : (s.setFld f v i j).atlasNv = s.atlasNv := rfl
@[simp] theorem State.setFld_atlas (f : Fld) (v i j : Nat) : (s.setFld f v i j).atlas = s.atlas := rfl
@[simp] theorem State.setFld_atlasC (f : Fld) (v i j : Nat) : (s.setFld f v i j).atlasC = s.atlasC := rfl
@[simp] theorem State.setFld_cans (f : Fld) (v i j : Nat) : (s.setFld f v i j).cans = s.cans := rfl
@[simp] theorem State.setFld_aqs (f : Fld) (v i j : Nat) : (s.setFld f v i j).aqs = s.aqs := rfl
@[simp] theorem State.setFld_time (f : Fld) (v i j : Nat) : (s.setFld f v i j).time = s.time := rfl
@[simp] theorem State.setFld_sn (f : Fld) (v i j : Nat) : (s.setFld f v i j).sn = s.sn := rfl
@[simp] theorem State.setFld_memc (f : Fld) (v i j : Nat) : (s.setFld f v i j).memc = s.memc := rfl
@[simp] theorem State.setFld_hk (f : Fld) (v i j : Nat) : (s.setFld f v i j).hk = s.hk := rfl
@[simp] theorem State.setFld_life (f : Fld) (v i j : Nat) : (s.setFld f v i j).life = s.life := rfl

/-! ### setFldS -/

@[simp] theorem State.setFldS_pending (f : Fld) (v : Int) (i j : Nat) : (s.setFldS f v i j).pending = s.pending := rfl
@[simp] theorem State.setFldS_now (f : Fld) (v : Int) (i j : Nat) : (s.setFldS f v i j).now = s.now := rfl
@[simp] theorem State.setFldS_lpo (f : Fld) (v : Int) (i j : Nat) : (s.setFldS f v i j).lpo = s.lpo := rfl
@[simp] theorem State.setFldS_dev (f : Fld) (v : Int) (i j : Nat) : (s.setFldS f v i j).dev = s.dev := rfl
@[simp] theorem State.setFldS_fresh (f : Fld) (v : Int) (i j : Nat) : (s.setFldS f v i j).fresh = s.fresh := rfl
@[simp] theorem State.setFldS_params (f : Fld) (v : Int) (i j : Nat) : (s.setFldS f v i j).params = s.params := rfl
@[simp] theorem State.setFldS_stored (f : Fld) (v : Int) (i j : Nat) : (s.setFldS f v i j).stored = s.stored := rfl
@[simp] theorem State.setFldS_lcs (f : Fld) (v : Int) (i j : Nat) : (s.setFldS f v i j).lcs = s.lcs := rfl
@[simp] theorem State.setFldS_mem (f : Fld) (v : Int) (i j : Nat) : (s.setFldS f v i j).mem = s.mem := rfl
@[simp] theorem State.setFldS_mram (f : Fld) (v : Int) (i j : Nat) : (s.setFldS f v i j).mram = s.mram := rfl
@[simp] theorem State.setFldS_hostMem (f : Fld) (v : Int) (i j : Nat) : (s.setFldS f v i j).hostMem = s.hostMem := rfl
@[simp] theorem State.setFldS_lanes (f : Fld) (v : Int) (i j : Nat) : (s.setFldS f v i j).lanes = s.lanes := rfl
@[simp] theorem State.setFldS_faults (f : Fld) (v : Int) (i j : Nat) : (s.setFldS f v i j).faults = s.faults := rfl
@[simp] theorem State.setFldS_safe (f : Fld) (v : Int) (i j : Nat) : (s.setFldS f v i j).safe = s.safe := rfl
@[simp] theorem State.setFldS_skipAt (f : Fld) (v : Int) (i j : Nat) : (s.setFldS f v i j).skipAt = s.skipAt := rfl
@[simp] theorem State.setFldS_island (f : Fld) (v : Int) (i j : Nat) : (s.setFldS f v i j).island = s.island := rfl
@[simp] theorem State.setFldS_rings (f : Fld) (v : Int) (i j : Nat) : (s.setFldS f v i j).rings = s.rings := rfl
@[simp] theorem State.setFldS_hosts (f : Fld) (v : Int) (i j : Nat) : (s.setFldS f v i j).hosts = s.hosts := rfl
@[simp] theorem State.setFldS_slotHosts (f : Fld) (v : Int) (i j : Nat) : (s.setFldS f v i j).slotHosts = s.slotHosts := rfl
@[simp] theorem State.setFldS_served (f : Fld) (v : Int) (i j : Nat) : (s.setFldS f v i j).served = s.served := rfl
@[simp] theorem State.setFldS_bulk (f : Fld) (v : Int) (i j : Nat) : (s.setFldS f v i j).bulk = s.bulk := rfl
@[simp] theorem State.setFldS_prot (f : Fld) (v : Int) (i j : Nat) : (s.setFldS f v i j).prot = s.prot := rfl
@[simp] theorem State.setFldS_msix (f : Fld) (v : Int) (i j : Nat) : (s.setFldS f v i j).msix = s.msix := rfl
@[simp] theorem State.setFldS_irqLines (f : Fld) (v : Int) (i j : Nat) : (s.setFldS f v i j).irqLines = s.irqLines := rfl
@[simp] theorem State.setFldS_clocks (f : Fld) (v : Int) (i j : Nat) : (s.setFldS f v i j).clocks = s.clocks := rfl
@[simp] theorem State.setFldS_power (f : Fld) (v : Int) (i j : Nat) : (s.setFldS f v i j).power = s.power := rfl
@[simp] theorem State.setFldS_rst (f : Fld) (v : Int) (i j : Nat) : (s.setFldS f v i j).rst = s.rst := rfl
@[simp] theorem State.setFldS_domains (f : Fld) (v : Int) (i j : Nat) : (s.setFldS f v i j).domains = s.domains := rfl
@[simp] theorem State.setFldS_engines (f : Fld) (v : Int) (i j : Nat) : (s.setFldS f v i j).engines = s.engines := rfl
@[simp] theorem State.setFldS_pwms (f : Fld) (v : Int) (i j : Nat) : (s.setFldS f v i j).pwms = s.pwms := rfl
@[simp] theorem State.setFldS_sats (f : Fld) (v : Int) (i j : Nat) : (s.setFldS f v i j).sats = s.sats := rfl
@[simp] theorem State.setFldS_adcs (f : Fld) (v : Int) (i j : Nat) : (s.setFldS f v i j).adcs = s.adcs := rfl
@[simp] theorem State.setFldS_sensing (f : Fld) (v : Int) (i j : Nat) : (s.setFldS f v i j).sensing = s.sensing := rfl
@[simp] theorem State.setFldS_sense (f : Fld) (v : Int) (i j : Nat) : (s.setFldS f v i j).sense = s.sense := rfl
@[simp] theorem State.setFldS_slots (f : Fld) (v : Int) (i j : Nat) : (s.setFldS f v i j).slots = s.slots := rfl
@[simp] theorem State.setFldS_posIfs (f : Fld) (v : Int) (i j : Nat) : (s.setFldS f v i j).posIfs = s.posIfs := rfl
@[simp] theorem State.setFldS_posCmps (f : Fld) (v : Int) (i j : Nat) : (s.setFldS f v i j).posCmps = s.posCmps := rfl
@[simp] theorem State.setFldS_capHi (f : Fld) (v : Int) (i j : Nat) : (s.setFldS f v i j).capHi = s.capHi := rfl
@[simp] theorem State.setFldS_atlasNv (f : Fld) (v : Int) (i j : Nat) : (s.setFldS f v i j).atlasNv = s.atlasNv := rfl
@[simp] theorem State.setFldS_atlas (f : Fld) (v : Int) (i j : Nat) : (s.setFldS f v i j).atlas = s.atlas := rfl
@[simp] theorem State.setFldS_atlasC (f : Fld) (v : Int) (i j : Nat) : (s.setFldS f v i j).atlasC = s.atlasC := rfl
@[simp] theorem State.setFldS_cans (f : Fld) (v : Int) (i j : Nat) : (s.setFldS f v i j).cans = s.cans := rfl
@[simp] theorem State.setFldS_aqs (f : Fld) (v : Int) (i j : Nat) : (s.setFldS f v i j).aqs = s.aqs := rfl
@[simp] theorem State.setFldS_time (f : Fld) (v : Int) (i j : Nat) : (s.setFldS f v i j).time = s.time := rfl
@[simp] theorem State.setFldS_sn (f : Fld) (v : Int) (i j : Nat) : (s.setFldS f v i j).sn = s.sn := rfl
@[simp] theorem State.setFldS_memc (f : Fld) (v : Int) (i j : Nat) : (s.setFldS f v i j).memc = s.memc := rfl
@[simp] theorem State.setFldS_hk (f : Fld) (v : Int) (i j : Nat) : (s.setFldS f v i j).hk = s.hk := rfl
@[simp] theorem State.setFldS_life (f : Fld) (v : Int) (i j : Nat) : (s.setFldS f v i j).life = s.life := rfl

/-! ### setFlag -/

@[simp] theorem State.setFlag_pending (f : Fld) (v : Bool) (i j : Nat) : (s.setFlag f v i j).pending = s.pending := rfl
@[simp] theorem State.setFlag_now (f : Fld) (v : Bool) (i j : Nat) : (s.setFlag f v i j).now = s.now := rfl
@[simp] theorem State.setFlag_lpo (f : Fld) (v : Bool) (i j : Nat) : (s.setFlag f v i j).lpo = s.lpo := rfl
@[simp] theorem State.setFlag_dev (f : Fld) (v : Bool) (i j : Nat) : (s.setFlag f v i j).dev = s.dev := rfl
@[simp] theorem State.setFlag_fresh (f : Fld) (v : Bool) (i j : Nat) : (s.setFlag f v i j).fresh = s.fresh := rfl
@[simp] theorem State.setFlag_params (f : Fld) (v : Bool) (i j : Nat) : (s.setFlag f v i j).params = s.params := rfl
@[simp] theorem State.setFlag_stored (f : Fld) (v : Bool) (i j : Nat) : (s.setFlag f v i j).stored = s.stored := rfl
@[simp] theorem State.setFlag_lcs (f : Fld) (v : Bool) (i j : Nat) : (s.setFlag f v i j).lcs = s.lcs := rfl
@[simp] theorem State.setFlag_mem (f : Fld) (v : Bool) (i j : Nat) : (s.setFlag f v i j).mem = s.mem := rfl
@[simp] theorem State.setFlag_mram (f : Fld) (v : Bool) (i j : Nat) : (s.setFlag f v i j).mram = s.mram := rfl
@[simp] theorem State.setFlag_hostMem (f : Fld) (v : Bool) (i j : Nat) : (s.setFlag f v i j).hostMem = s.hostMem := rfl
@[simp] theorem State.setFlag_lanes (f : Fld) (v : Bool) (i j : Nat) : (s.setFlag f v i j).lanes = s.lanes := rfl
@[simp] theorem State.setFlag_faults (f : Fld) (v : Bool) (i j : Nat) : (s.setFlag f v i j).faults = s.faults := rfl
@[simp] theorem State.setFlag_safe (f : Fld) (v : Bool) (i j : Nat) : (s.setFlag f v i j).safe = s.safe := rfl
@[simp] theorem State.setFlag_skipAt (f : Fld) (v : Bool) (i j : Nat) : (s.setFlag f v i j).skipAt = s.skipAt := rfl
@[simp] theorem State.setFlag_island (f : Fld) (v : Bool) (i j : Nat) : (s.setFlag f v i j).island = s.island := rfl
@[simp] theorem State.setFlag_rings (f : Fld) (v : Bool) (i j : Nat) : (s.setFlag f v i j).rings = s.rings := rfl
@[simp] theorem State.setFlag_hosts (f : Fld) (v : Bool) (i j : Nat) : (s.setFlag f v i j).hosts = s.hosts := rfl
@[simp] theorem State.setFlag_slotHosts (f : Fld) (v : Bool) (i j : Nat) : (s.setFlag f v i j).slotHosts = s.slotHosts := rfl
@[simp] theorem State.setFlag_served (f : Fld) (v : Bool) (i j : Nat) : (s.setFlag f v i j).served = s.served := rfl
@[simp] theorem State.setFlag_bulk (f : Fld) (v : Bool) (i j : Nat) : (s.setFlag f v i j).bulk = s.bulk := rfl
@[simp] theorem State.setFlag_prot (f : Fld) (v : Bool) (i j : Nat) : (s.setFlag f v i j).prot = s.prot := rfl
@[simp] theorem State.setFlag_msix (f : Fld) (v : Bool) (i j : Nat) : (s.setFlag f v i j).msix = s.msix := rfl
@[simp] theorem State.setFlag_irqLines (f : Fld) (v : Bool) (i j : Nat) : (s.setFlag f v i j).irqLines = s.irqLines := rfl
@[simp] theorem State.setFlag_clocks (f : Fld) (v : Bool) (i j : Nat) : (s.setFlag f v i j).clocks = s.clocks := rfl
@[simp] theorem State.setFlag_power (f : Fld) (v : Bool) (i j : Nat) : (s.setFlag f v i j).power = s.power := rfl
@[simp] theorem State.setFlag_rst (f : Fld) (v : Bool) (i j : Nat) : (s.setFlag f v i j).rst = s.rst := rfl
@[simp] theorem State.setFlag_domains (f : Fld) (v : Bool) (i j : Nat) : (s.setFlag f v i j).domains = s.domains := rfl
@[simp] theorem State.setFlag_engines (f : Fld) (v : Bool) (i j : Nat) : (s.setFlag f v i j).engines = s.engines := rfl
@[simp] theorem State.setFlag_pwms (f : Fld) (v : Bool) (i j : Nat) : (s.setFlag f v i j).pwms = s.pwms := rfl
@[simp] theorem State.setFlag_sats (f : Fld) (v : Bool) (i j : Nat) : (s.setFlag f v i j).sats = s.sats := rfl
@[simp] theorem State.setFlag_adcs (f : Fld) (v : Bool) (i j : Nat) : (s.setFlag f v i j).adcs = s.adcs := rfl
@[simp] theorem State.setFlag_sensing (f : Fld) (v : Bool) (i j : Nat) : (s.setFlag f v i j).sensing = s.sensing := rfl
@[simp] theorem State.setFlag_sense (f : Fld) (v : Bool) (i j : Nat) : (s.setFlag f v i j).sense = s.sense := rfl
@[simp] theorem State.setFlag_slots (f : Fld) (v : Bool) (i j : Nat) : (s.setFlag f v i j).slots = s.slots := rfl
@[simp] theorem State.setFlag_posIfs (f : Fld) (v : Bool) (i j : Nat) : (s.setFlag f v i j).posIfs = s.posIfs := rfl
@[simp] theorem State.setFlag_posCmps (f : Fld) (v : Bool) (i j : Nat) : (s.setFlag f v i j).posCmps = s.posCmps := rfl
@[simp] theorem State.setFlag_capHi (f : Fld) (v : Bool) (i j : Nat) : (s.setFlag f v i j).capHi = s.capHi := rfl
@[simp] theorem State.setFlag_atlasNv (f : Fld) (v : Bool) (i j : Nat) : (s.setFlag f v i j).atlasNv = s.atlasNv := rfl
@[simp] theorem State.setFlag_atlas (f : Fld) (v : Bool) (i j : Nat) : (s.setFlag f v i j).atlas = s.atlas := rfl
@[simp] theorem State.setFlag_atlasC (f : Fld) (v : Bool) (i j : Nat) : (s.setFlag f v i j).atlasC = s.atlasC := rfl
@[simp] theorem State.setFlag_cans (f : Fld) (v : Bool) (i j : Nat) : (s.setFlag f v i j).cans = s.cans := rfl
@[simp] theorem State.setFlag_aqs (f : Fld) (v : Bool) (i j : Nat) : (s.setFlag f v i j).aqs = s.aqs := rfl
@[simp] theorem State.setFlag_time (f : Fld) (v : Bool) (i j : Nat) : (s.setFlag f v i j).time = s.time := rfl
@[simp] theorem State.setFlag_sn (f : Fld) (v : Bool) (i j : Nat) : (s.setFlag f v i j).sn = s.sn := rfl
@[simp] theorem State.setFlag_memc (f : Fld) (v : Bool) (i j : Nat) : (s.setFlag f v i j).memc = s.memc := rfl
@[simp] theorem State.setFlag_hk (f : Fld) (v : Bool) (i j : Nat) : (s.setFlag f v i j).hk = s.hk := rfl
@[simp] theorem State.setFlag_life (f : Fld) (v : Bool) (i j : Nat) : (s.setFlag f v i j).life = s.life := rfl

/-! ### bump -/

@[simp] theorem State.bump_pending (f : Fld) (i j n : Nat) : (s.bump f i j n).pending = s.pending := rfl
@[simp] theorem State.bump_now (f : Fld) (i j n : Nat) : (s.bump f i j n).now = s.now := rfl
@[simp] theorem State.bump_lpo (f : Fld) (i j n : Nat) : (s.bump f i j n).lpo = s.lpo := rfl
@[simp] theorem State.bump_dev (f : Fld) (i j n : Nat) : (s.bump f i j n).dev = s.dev := rfl
@[simp] theorem State.bump_fresh (f : Fld) (i j n : Nat) : (s.bump f i j n).fresh = s.fresh := rfl
@[simp] theorem State.bump_params (f : Fld) (i j n : Nat) : (s.bump f i j n).params = s.params := rfl
@[simp] theorem State.bump_stored (f : Fld) (i j n : Nat) : (s.bump f i j n).stored = s.stored := rfl
@[simp] theorem State.bump_lcs (f : Fld) (i j n : Nat) : (s.bump f i j n).lcs = s.lcs := rfl
@[simp] theorem State.bump_mem (f : Fld) (i j n : Nat) : (s.bump f i j n).mem = s.mem := rfl
@[simp] theorem State.bump_mram (f : Fld) (i j n : Nat) : (s.bump f i j n).mram = s.mram := rfl
@[simp] theorem State.bump_hostMem (f : Fld) (i j n : Nat) : (s.bump f i j n).hostMem = s.hostMem := rfl
@[simp] theorem State.bump_lanes (f : Fld) (i j n : Nat) : (s.bump f i j n).lanes = s.lanes := rfl
@[simp] theorem State.bump_faults (f : Fld) (i j n : Nat) : (s.bump f i j n).faults = s.faults := rfl
@[simp] theorem State.bump_safe (f : Fld) (i j n : Nat) : (s.bump f i j n).safe = s.safe := rfl
@[simp] theorem State.bump_skipAt (f : Fld) (i j n : Nat) : (s.bump f i j n).skipAt = s.skipAt := rfl
@[simp] theorem State.bump_island (f : Fld) (i j n : Nat) : (s.bump f i j n).island = s.island := rfl
@[simp] theorem State.bump_rings (f : Fld) (i j n : Nat) : (s.bump f i j n).rings = s.rings := rfl
@[simp] theorem State.bump_hosts (f : Fld) (i j n : Nat) : (s.bump f i j n).hosts = s.hosts := rfl
@[simp] theorem State.bump_slotHosts (f : Fld) (i j n : Nat) : (s.bump f i j n).slotHosts = s.slotHosts := rfl
@[simp] theorem State.bump_served (f : Fld) (i j n : Nat) : (s.bump f i j n).served = s.served := rfl
@[simp] theorem State.bump_bulk (f : Fld) (i j n : Nat) : (s.bump f i j n).bulk = s.bulk := rfl
@[simp] theorem State.bump_prot (f : Fld) (i j n : Nat) : (s.bump f i j n).prot = s.prot := rfl
@[simp] theorem State.bump_msix (f : Fld) (i j n : Nat) : (s.bump f i j n).msix = s.msix := rfl
@[simp] theorem State.bump_irqLines (f : Fld) (i j n : Nat) : (s.bump f i j n).irqLines = s.irqLines := rfl
@[simp] theorem State.bump_clocks (f : Fld) (i j n : Nat) : (s.bump f i j n).clocks = s.clocks := rfl
@[simp] theorem State.bump_power (f : Fld) (i j n : Nat) : (s.bump f i j n).power = s.power := rfl
@[simp] theorem State.bump_rst (f : Fld) (i j n : Nat) : (s.bump f i j n).rst = s.rst := rfl
@[simp] theorem State.bump_domains (f : Fld) (i j n : Nat) : (s.bump f i j n).domains = s.domains := rfl
@[simp] theorem State.bump_engines (f : Fld) (i j n : Nat) : (s.bump f i j n).engines = s.engines := rfl
@[simp] theorem State.bump_pwms (f : Fld) (i j n : Nat) : (s.bump f i j n).pwms = s.pwms := rfl
@[simp] theorem State.bump_sats (f : Fld) (i j n : Nat) : (s.bump f i j n).sats = s.sats := rfl
@[simp] theorem State.bump_adcs (f : Fld) (i j n : Nat) : (s.bump f i j n).adcs = s.adcs := rfl
@[simp] theorem State.bump_sensing (f : Fld) (i j n : Nat) : (s.bump f i j n).sensing = s.sensing := rfl
@[simp] theorem State.bump_sense (f : Fld) (i j n : Nat) : (s.bump f i j n).sense = s.sense := rfl
@[simp] theorem State.bump_slots (f : Fld) (i j n : Nat) : (s.bump f i j n).slots = s.slots := rfl
@[simp] theorem State.bump_posIfs (f : Fld) (i j n : Nat) : (s.bump f i j n).posIfs = s.posIfs := rfl
@[simp] theorem State.bump_posCmps (f : Fld) (i j n : Nat) : (s.bump f i j n).posCmps = s.posCmps := rfl
@[simp] theorem State.bump_capHi (f : Fld) (i j n : Nat) : (s.bump f i j n).capHi = s.capHi := rfl
@[simp] theorem State.bump_atlasNv (f : Fld) (i j n : Nat) : (s.bump f i j n).atlasNv = s.atlasNv := rfl
@[simp] theorem State.bump_atlas (f : Fld) (i j n : Nat) : (s.bump f i j n).atlas = s.atlas := rfl
@[simp] theorem State.bump_atlasC (f : Fld) (i j n : Nat) : (s.bump f i j n).atlasC = s.atlasC := rfl
@[simp] theorem State.bump_cans (f : Fld) (i j n : Nat) : (s.bump f i j n).cans = s.cans := rfl
@[simp] theorem State.bump_aqs (f : Fld) (i j n : Nat) : (s.bump f i j n).aqs = s.aqs := rfl
@[simp] theorem State.bump_time (f : Fld) (i j n : Nat) : (s.bump f i j n).time = s.time := rfl
@[simp] theorem State.bump_sn (f : Fld) (i j n : Nat) : (s.bump f i j n).sn = s.sn := rfl
@[simp] theorem State.bump_memc (f : Fld) (i j n : Nat) : (s.bump f i j n).memc = s.memc := rfl
@[simp] theorem State.bump_hk (f : Fld) (i j n : Nat) : (s.bump f i j n).hk = s.hk := rfl
@[simp] theorem State.bump_life (f : Fld) (i j n : Nat) : (s.bump f i j n).life = s.life := rfl

/-! ### resetRegs -/

@[simp] theorem State.resetRegs_pending (p : RKey → Bool) : (s.resetRegs p).pending = s.pending := rfl
@[simp] theorem State.resetRegs_now (p : RKey → Bool) : (s.resetRegs p).now = s.now := rfl
@[simp] theorem State.resetRegs_lpo (p : RKey → Bool) : (s.resetRegs p).lpo = s.lpo := rfl
@[simp] theorem State.resetRegs_dev (p : RKey → Bool) : (s.resetRegs p).dev = s.dev := rfl
@[simp] theorem State.resetRegs_fresh (p : RKey → Bool) : (s.resetRegs p).fresh = s.fresh := rfl
@[simp] theorem State.resetRegs_params (p : RKey → Bool) : (s.resetRegs p).params = s.params := rfl
@[simp] theorem State.resetRegs_stored (p : RKey → Bool) : (s.resetRegs p).stored = s.stored := rfl
@[simp] theorem State.resetRegs_lcs (p : RKey → Bool) : (s.resetRegs p).lcs = s.lcs := rfl
@[simp] theorem State.resetRegs_mem (p : RKey → Bool) : (s.resetRegs p).mem = s.mem := rfl
@[simp] theorem State.resetRegs_mram (p : RKey → Bool) : (s.resetRegs p).mram = s.mram := rfl
@[simp] theorem State.resetRegs_hostMem (p : RKey → Bool) : (s.resetRegs p).hostMem = s.hostMem := rfl
@[simp] theorem State.resetRegs_lanes (p : RKey → Bool) : (s.resetRegs p).lanes = s.lanes := rfl
@[simp] theorem State.resetRegs_faults (p : RKey → Bool) : (s.resetRegs p).faults = s.faults := rfl
@[simp] theorem State.resetRegs_safe (p : RKey → Bool) : (s.resetRegs p).safe = s.safe := rfl
@[simp] theorem State.resetRegs_skipAt (p : RKey → Bool) : (s.resetRegs p).skipAt = s.skipAt := rfl
@[simp] theorem State.resetRegs_island (p : RKey → Bool) : (s.resetRegs p).island = s.island := rfl
@[simp] theorem State.resetRegs_rings (p : RKey → Bool) : (s.resetRegs p).rings = s.rings := rfl
@[simp] theorem State.resetRegs_hosts (p : RKey → Bool) : (s.resetRegs p).hosts = s.hosts := rfl
@[simp] theorem State.resetRegs_slotHosts (p : RKey → Bool) : (s.resetRegs p).slotHosts = s.slotHosts := rfl
@[simp] theorem State.resetRegs_served (p : RKey → Bool) : (s.resetRegs p).served = s.served := rfl
@[simp] theorem State.resetRegs_bulk (p : RKey → Bool) : (s.resetRegs p).bulk = s.bulk := rfl
@[simp] theorem State.resetRegs_prot (p : RKey → Bool) : (s.resetRegs p).prot = s.prot := rfl
@[simp] theorem State.resetRegs_msix (p : RKey → Bool) : (s.resetRegs p).msix = s.msix := rfl
@[simp] theorem State.resetRegs_irqLines (p : RKey → Bool) : (s.resetRegs p).irqLines = s.irqLines := rfl
@[simp] theorem State.resetRegs_clocks (p : RKey → Bool) : (s.resetRegs p).clocks = s.clocks := rfl
@[simp] theorem State.resetRegs_power (p : RKey → Bool) : (s.resetRegs p).power = s.power := rfl
@[simp] theorem State.resetRegs_rst (p : RKey → Bool) : (s.resetRegs p).rst = s.rst := rfl
@[simp] theorem State.resetRegs_domains (p : RKey → Bool) : (s.resetRegs p).domains = s.domains := rfl
@[simp] theorem State.resetRegs_engines (p : RKey → Bool) : (s.resetRegs p).engines = s.engines := rfl
@[simp] theorem State.resetRegs_pwms (p : RKey → Bool) : (s.resetRegs p).pwms = s.pwms := rfl
@[simp] theorem State.resetRegs_sats (p : RKey → Bool) : (s.resetRegs p).sats = s.sats := rfl
@[simp] theorem State.resetRegs_adcs (p : RKey → Bool) : (s.resetRegs p).adcs = s.adcs := rfl
@[simp] theorem State.resetRegs_sensing (p : RKey → Bool) : (s.resetRegs p).sensing = s.sensing := rfl
@[simp] theorem State.resetRegs_sense (p : RKey → Bool) : (s.resetRegs p).sense = s.sense := rfl
@[simp] theorem State.resetRegs_slots (p : RKey → Bool) : (s.resetRegs p).slots = s.slots := rfl
@[simp] theorem State.resetRegs_posIfs (p : RKey → Bool) : (s.resetRegs p).posIfs = s.posIfs := rfl
@[simp] theorem State.resetRegs_posCmps (p : RKey → Bool) : (s.resetRegs p).posCmps = s.posCmps := rfl
@[simp] theorem State.resetRegs_capHi (p : RKey → Bool) : (s.resetRegs p).capHi = s.capHi := rfl
@[simp] theorem State.resetRegs_atlasNv (p : RKey → Bool) : (s.resetRegs p).atlasNv = s.atlasNv := rfl
@[simp] theorem State.resetRegs_atlas (p : RKey → Bool) : (s.resetRegs p).atlas = s.atlas := rfl
@[simp] theorem State.resetRegs_atlasC (p : RKey → Bool) : (s.resetRegs p).atlasC = s.atlasC := rfl
@[simp] theorem State.resetRegs_cans (p : RKey → Bool) : (s.resetRegs p).cans = s.cans := rfl
@[simp] theorem State.resetRegs_aqs (p : RKey → Bool) : (s.resetRegs p).aqs = s.aqs := rfl
@[simp] theorem State.resetRegs_time (p : RKey → Bool) : (s.resetRegs p).time = s.time := rfl
@[simp] theorem State.resetRegs_sn (p : RKey → Bool) : (s.resetRegs p).sn = s.sn := rfl
@[simp] theorem State.resetRegs_memc (p : RKey → Bool) : (s.resetRegs p).memc = s.memc := rfl
@[simp] theorem State.resetRegs_hk (p : RKey → Bool) : (s.resetRegs p).hk = s.hk := rfl
@[simp] theorem State.resetRegs_life (p : RKey → Bool) : (s.resetRegs p).life = s.life := rfl

/-! ### setStored -/

@[simp] theorem State.setStored_pending (a b c : Nat) (v : Int) : (s.setStored a b c v).pending = s.pending := rfl
@[simp] theorem State.setStored_now (a b c : Nat) (v : Int) : (s.setStored a b c v).now = s.now := rfl
@[simp] theorem State.setStored_lpo (a b c : Nat) (v : Int) : (s.setStored a b c v).lpo = s.lpo := rfl
@[simp] theorem State.setStored_dev (a b c : Nat) (v : Int) : (s.setStored a b c v).dev = s.dev := rfl
@[simp] theorem State.setStored_fresh (a b c : Nat) (v : Int) : (s.setStored a b c v).fresh = s.fresh := rfl
@[simp] theorem State.setStored_regs (a b c : Nat) (v : Int) : (s.setStored a b c v).regs = s.regs := rfl
@[simp] theorem State.setStored_params (a b c : Nat) (v : Int) : (s.setStored a b c v).params = s.params := rfl
@[simp] theorem State.setStored_lcs (a b c : Nat) (v : Int) : (s.setStored a b c v).lcs = s.lcs := rfl
@[simp] theorem State.setStored_mem (a b c : Nat) (v : Int) : (s.setStored a b c v).mem = s.mem := rfl
@[simp] theorem State.setStored_mram (a b c : Nat) (v : Int) : (s.setStored a b c v).mram = s.mram := rfl
@[simp] theorem State.setStored_hostMem (a b c : Nat) (v : Int) : (s.setStored a b c v).hostMem = s.hostMem := rfl
@[simp] theorem State.setStored_lanes (a b c : Nat) (v : Int) : (s.setStored a b c v).lanes = s.lanes := rfl
@[simp] theorem State.setStored_faults (a b c : Nat) (v : Int) : (s.setStored a b c v).faults = s.faults := rfl
@[simp] theorem State.setStored_safe (a b c : Nat) (v : Int) : (s.setStored a b c v).safe = s.safe := rfl
@[simp] theorem State.setStored_skipAt (a b c : Nat) (v : Int) : (s.setStored a b c v).skipAt = s.skipAt := rfl
@[simp] theorem State.setStored_island (a b c : Nat) (v : Int) : (s.setStored a b c v).island = s.island := rfl
@[simp] theorem State.setStored_rings (a b c : Nat) (v : Int) : (s.setStored a b c v).rings = s.rings := rfl
@[simp] theorem State.setStored_hosts (a b c : Nat) (v : Int) : (s.setStored a b c v).hosts = s.hosts := rfl
@[simp] theorem State.setStored_slotHosts (a b c : Nat) (v : Int) : (s.setStored a b c v).slotHosts = s.slotHosts := rfl
@[simp] theorem State.setStored_served (a b c : Nat) (v : Int) : (s.setStored a b c v).served = s.served := rfl
@[simp] theorem State.setStored_bulk (a b c : Nat) (v : Int) : (s.setStored a b c v).bulk = s.bulk := rfl
@[simp] theorem State.setStored_prot (a b c : Nat) (v : Int) : (s.setStored a b c v).prot = s.prot := rfl
@[simp] theorem State.setStored_msix (a b c : Nat) (v : Int) : (s.setStored a b c v).msix = s.msix := rfl
@[simp] theorem State.setStored_irqLines (a b c : Nat) (v : Int) : (s.setStored a b c v).irqLines = s.irqLines := rfl
@[simp] theorem State.setStored_clocks (a b c : Nat) (v : Int) : (s.setStored a b c v).clocks = s.clocks := rfl
@[simp] theorem State.setStored_power (a b c : Nat) (v : Int) : (s.setStored a b c v).power = s.power := rfl
@[simp] theorem State.setStored_rst (a b c : Nat) (v : Int) : (s.setStored a b c v).rst = s.rst := rfl
@[simp] theorem State.setStored_domains (a b c : Nat) (v : Int) : (s.setStored a b c v).domains = s.domains := rfl
@[simp] theorem State.setStored_engines (a b c : Nat) (v : Int) : (s.setStored a b c v).engines = s.engines := rfl
@[simp] theorem State.setStored_pwms (a b c : Nat) (v : Int) : (s.setStored a b c v).pwms = s.pwms := rfl
@[simp] theorem State.setStored_sats (a b c : Nat) (v : Int) : (s.setStored a b c v).sats = s.sats := rfl
@[simp] theorem State.setStored_adcs (a b c : Nat) (v : Int) : (s.setStored a b c v).adcs = s.adcs := rfl
@[simp] theorem State.setStored_sensing (a b c : Nat) (v : Int) : (s.setStored a b c v).sensing = s.sensing := rfl
@[simp] theorem State.setStored_sense (a b c : Nat) (v : Int) : (s.setStored a b c v).sense = s.sense := rfl
@[simp] theorem State.setStored_slots (a b c : Nat) (v : Int) : (s.setStored a b c v).slots = s.slots := rfl
@[simp] theorem State.setStored_posIfs (a b c : Nat) (v : Int) : (s.setStored a b c v).posIfs = s.posIfs := rfl
@[simp] theorem State.setStored_posCmps (a b c : Nat) (v : Int) : (s.setStored a b c v).posCmps = s.posCmps := rfl
@[simp] theorem State.setStored_capHi (a b c : Nat) (v : Int) : (s.setStored a b c v).capHi = s.capHi := rfl
@[simp] theorem State.setStored_atlasNv (a b c : Nat) (v : Int) : (s.setStored a b c v).atlasNv = s.atlasNv := rfl
@[simp] theorem State.setStored_atlas (a b c : Nat) (v : Int) : (s.setStored a b c v).atlas = s.atlas := rfl
@[simp] theorem State.setStored_atlasC (a b c : Nat) (v : Int) : (s.setStored a b c v).atlasC = s.atlasC := rfl
@[simp] theorem State.setStored_cans (a b c : Nat) (v : Int) : (s.setStored a b c v).cans = s.cans := rfl
@[simp] theorem State.setStored_aqs (a b c : Nat) (v : Int) : (s.setStored a b c v).aqs = s.aqs := rfl
@[simp] theorem State.setStored_time (a b c : Nat) (v : Int) : (s.setStored a b c v).time = s.time := rfl
@[simp] theorem State.setStored_sn (a b c : Nat) (v : Int) : (s.setStored a b c v).sn = s.sn := rfl
@[simp] theorem State.setStored_memc (a b c : Nat) (v : Int) : (s.setStored a b c v).memc = s.memc := rfl
@[simp] theorem State.setStored_hk (a b c : Nat) (v : Int) : (s.setStored a b c v).hk = s.hk := rfl
@[simp] theorem State.setStored_life (a b c : Nat) (v : Int) : (s.setStored a b c v).life = s.life := rfl

/-! ### takeEffect -/

@[simp] theorem State.takeEffect_pending (a z n : Nat) : (s.takeEffect a z n).pending = s.pending := rfl
@[simp] theorem State.takeEffect_now (a z n : Nat) : (s.takeEffect a z n).now = s.now := rfl
@[simp] theorem State.takeEffect_lpo (a z n : Nat) : (s.takeEffect a z n).lpo = s.lpo := rfl
@[simp] theorem State.takeEffect_dev (a z n : Nat) : (s.takeEffect a z n).dev = s.dev := rfl
@[simp] theorem State.takeEffect_fresh (a z n : Nat) : (s.takeEffect a z n).fresh = s.fresh := rfl
@[simp] theorem State.takeEffect_regs (a z n : Nat) : (s.takeEffect a z n).regs = s.regs := rfl
@[simp] theorem State.takeEffect_stored (a z n : Nat) : (s.takeEffect a z n).stored = s.stored := rfl
@[simp] theorem State.takeEffect_lcs (a z n : Nat) : (s.takeEffect a z n).lcs = s.lcs := rfl
@[simp] theorem State.takeEffect_mem (a z n : Nat) : (s.takeEffect a z n).mem = s.mem := rfl
@[simp] theorem State.takeEffect_mram (a z n : Nat) : (s.takeEffect a z n).mram = s.mram := rfl
@[simp] theorem State.takeEffect_hostMem (a z n : Nat) : (s.takeEffect a z n).hostMem = s.hostMem := rfl
@[simp] theorem State.takeEffect_lanes (a z n : Nat) : (s.takeEffect a z n).lanes = s.lanes := rfl
@[simp] theorem State.takeEffect_faults (a z n : Nat) : (s.takeEffect a z n).faults = s.faults := rfl
@[simp] theorem State.takeEffect_safe (a z n : Nat) : (s.takeEffect a z n).safe = s.safe := rfl
@[simp] theorem State.takeEffect_skipAt (a z n : Nat) : (s.takeEffect a z n).skipAt = s.skipAt := rfl
@[simp] theorem State.takeEffect_island (a z n : Nat) : (s.takeEffect a z n).island = s.island := rfl
@[simp] theorem State.takeEffect_rings (a z n : Nat) : (s.takeEffect a z n).rings = s.rings := rfl
@[simp] theorem State.takeEffect_hosts (a z n : Nat) : (s.takeEffect a z n).hosts = s.hosts := rfl
@[simp] theorem State.takeEffect_slotHosts (a z n : Nat) : (s.takeEffect a z n).slotHosts = s.slotHosts := rfl
@[simp] theorem State.takeEffect_served (a z n : Nat) : (s.takeEffect a z n).served = s.served := rfl
@[simp] theorem State.takeEffect_bulk (a z n : Nat) : (s.takeEffect a z n).bulk = s.bulk := rfl
@[simp] theorem State.takeEffect_prot (a z n : Nat) : (s.takeEffect a z n).prot = s.prot := rfl
@[simp] theorem State.takeEffect_msix (a z n : Nat) : (s.takeEffect a z n).msix = s.msix := rfl
@[simp] theorem State.takeEffect_irqLines (a z n : Nat) : (s.takeEffect a z n).irqLines = s.irqLines := rfl
@[simp] theorem State.takeEffect_clocks (a z n : Nat) : (s.takeEffect a z n).clocks = s.clocks := rfl
@[simp] theorem State.takeEffect_power (a z n : Nat) : (s.takeEffect a z n).power = s.power := rfl
@[simp] theorem State.takeEffect_rst (a z n : Nat) : (s.takeEffect a z n).rst = s.rst := rfl
@[simp] theorem State.takeEffect_domains (a z n : Nat) : (s.takeEffect a z n).domains = s.domains := rfl
@[simp] theorem State.takeEffect_engines (a z n : Nat) : (s.takeEffect a z n).engines = s.engines := rfl
@[simp] theorem State.takeEffect_pwms (a z n : Nat) : (s.takeEffect a z n).pwms = s.pwms := rfl
@[simp] theorem State.takeEffect_sats (a z n : Nat) : (s.takeEffect a z n).sats = s.sats := rfl
@[simp] theorem State.takeEffect_adcs (a z n : Nat) : (s.takeEffect a z n).adcs = s.adcs := rfl
@[simp] theorem State.takeEffect_sensing (a z n : Nat) : (s.takeEffect a z n).sensing = s.sensing := rfl
@[simp] theorem State.takeEffect_sense (a z n : Nat) : (s.takeEffect a z n).sense = s.sense := rfl
@[simp] theorem State.takeEffect_slots (a z n : Nat) : (s.takeEffect a z n).slots = s.slots := rfl
@[simp] theorem State.takeEffect_posIfs (a z n : Nat) : (s.takeEffect a z n).posIfs = s.posIfs := rfl
@[simp] theorem State.takeEffect_posCmps (a z n : Nat) : (s.takeEffect a z n).posCmps = s.posCmps := rfl
@[simp] theorem State.takeEffect_capHi (a z n : Nat) : (s.takeEffect a z n).capHi = s.capHi := rfl
@[simp] theorem State.takeEffect_atlasNv (a z n : Nat) : (s.takeEffect a z n).atlasNv = s.atlasNv := rfl
@[simp] theorem State.takeEffect_atlas (a z n : Nat) : (s.takeEffect a z n).atlas = s.atlas := rfl
@[simp] theorem State.takeEffect_atlasC (a z n : Nat) : (s.takeEffect a z n).atlasC = s.atlasC := rfl
@[simp] theorem State.takeEffect_cans (a z n : Nat) : (s.takeEffect a z n).cans = s.cans := rfl
@[simp] theorem State.takeEffect_aqs (a z n : Nat) : (s.takeEffect a z n).aqs = s.aqs := rfl
@[simp] theorem State.takeEffect_time (a z n : Nat) : (s.takeEffect a z n).time = s.time := rfl
@[simp] theorem State.takeEffect_sn (a z n : Nat) : (s.takeEffect a z n).sn = s.sn := rfl
@[simp] theorem State.takeEffect_memc (a z n : Nat) : (s.takeEffect a z n).memc = s.memc := rfl
@[simp] theorem State.takeEffect_hk (a z n : Nat) : (s.takeEffect a z n).hk = s.hk := rfl
@[simp] theorem State.takeEffect_life (a z n : Nat) : (s.takeEffect a z n).life = s.life := rfl

/-! ### setLc -/

@[simp] theorem State.setLc_pending (k : FuncKind) (n : Nat) (l : Lc) : (s.setLc k n l).pending = s.pending := rfl
@[simp] theorem State.setLc_now (k : FuncKind) (n : Nat) (l : Lc) : (s.setLc k n l).now = s.now := rfl
@[simp] theorem State.setLc_lpo (k : FuncKind) (n : Nat) (l : Lc) : (s.setLc k n l).lpo = s.lpo := rfl
@[simp] theorem State.setLc_dev (k : FuncKind) (n : Nat) (l : Lc) : (s.setLc k n l).dev = s.dev := rfl
@[simp] theorem State.setLc_fresh (k : FuncKind) (n : Nat) (l : Lc) : (s.setLc k n l).fresh = s.fresh := rfl
@[simp] theorem State.setLc_regs (k : FuncKind) (n : Nat) (l : Lc) : (s.setLc k n l).regs = s.regs := rfl
@[simp] theorem State.setLc_params (k : FuncKind) (n : Nat) (l : Lc) : (s.setLc k n l).params = s.params := rfl
@[simp] theorem State.setLc_stored (k : FuncKind) (n : Nat) (l : Lc) : (s.setLc k n l).stored = s.stored := rfl
@[simp] theorem State.setLc_mem (k : FuncKind) (n : Nat) (l : Lc) : (s.setLc k n l).mem = s.mem := rfl
@[simp] theorem State.setLc_mram (k : FuncKind) (n : Nat) (l : Lc) : (s.setLc k n l).mram = s.mram := rfl
@[simp] theorem State.setLc_hostMem (k : FuncKind) (n : Nat) (l : Lc) : (s.setLc k n l).hostMem = s.hostMem := rfl
@[simp] theorem State.setLc_lanes (k : FuncKind) (n : Nat) (l : Lc) : (s.setLc k n l).lanes = s.lanes := rfl
@[simp] theorem State.setLc_faults (k : FuncKind) (n : Nat) (l : Lc) : (s.setLc k n l).faults = s.faults := rfl
@[simp] theorem State.setLc_safe (k : FuncKind) (n : Nat) (l : Lc) : (s.setLc k n l).safe = s.safe := rfl
@[simp] theorem State.setLc_skipAt (k : FuncKind) (n : Nat) (l : Lc) : (s.setLc k n l).skipAt = s.skipAt := rfl
@[simp] theorem State.setLc_island (k : FuncKind) (n : Nat) (l : Lc) : (s.setLc k n l).island = s.island := rfl
@[simp] theorem State.setLc_rings (k : FuncKind) (n : Nat) (l : Lc) : (s.setLc k n l).rings = s.rings := rfl
@[simp] theorem State.setLc_hosts (k : FuncKind) (n : Nat) (l : Lc) : (s.setLc k n l).hosts = s.hosts := rfl
@[simp] theorem State.setLc_slotHosts (k : FuncKind) (n : Nat) (l : Lc) : (s.setLc k n l).slotHosts = s.slotHosts := rfl
@[simp] theorem State.setLc_served (k : FuncKind) (n : Nat) (l : Lc) : (s.setLc k n l).served = s.served := rfl
@[simp] theorem State.setLc_bulk (k : FuncKind) (n : Nat) (l : Lc) : (s.setLc k n l).bulk = s.bulk := rfl
@[simp] theorem State.setLc_prot (k : FuncKind) (n : Nat) (l : Lc) : (s.setLc k n l).prot = s.prot := rfl
@[simp] theorem State.setLc_msix (k : FuncKind) (n : Nat) (l : Lc) : (s.setLc k n l).msix = s.msix := rfl
@[simp] theorem State.setLc_irqLines (k : FuncKind) (n : Nat) (l : Lc) : (s.setLc k n l).irqLines = s.irqLines := rfl
@[simp] theorem State.setLc_clocks (k : FuncKind) (n : Nat) (l : Lc) : (s.setLc k n l).clocks = s.clocks := rfl
@[simp] theorem State.setLc_power (k : FuncKind) (n : Nat) (l : Lc) : (s.setLc k n l).power = s.power := rfl
@[simp] theorem State.setLc_rst (k : FuncKind) (n : Nat) (l : Lc) : (s.setLc k n l).rst = s.rst := rfl
@[simp] theorem State.setLc_domains (k : FuncKind) (n : Nat) (l : Lc) : (s.setLc k n l).domains = s.domains := rfl
@[simp] theorem State.setLc_engines (k : FuncKind) (n : Nat) (l : Lc) : (s.setLc k n l).engines = s.engines := rfl
@[simp] theorem State.setLc_pwms (k : FuncKind) (n : Nat) (l : Lc) : (s.setLc k n l).pwms = s.pwms := rfl
@[simp] theorem State.setLc_sats (k : FuncKind) (n : Nat) (l : Lc) : (s.setLc k n l).sats = s.sats := rfl
@[simp] theorem State.setLc_adcs (k : FuncKind) (n : Nat) (l : Lc) : (s.setLc k n l).adcs = s.adcs := rfl
@[simp] theorem State.setLc_sensing (k : FuncKind) (n : Nat) (l : Lc) : (s.setLc k n l).sensing = s.sensing := rfl
@[simp] theorem State.setLc_sense (k : FuncKind) (n : Nat) (l : Lc) : (s.setLc k n l).sense = s.sense := rfl
@[simp] theorem State.setLc_slots (k : FuncKind) (n : Nat) (l : Lc) : (s.setLc k n l).slots = s.slots := rfl
@[simp] theorem State.setLc_posIfs (k : FuncKind) (n : Nat) (l : Lc) : (s.setLc k n l).posIfs = s.posIfs := rfl
@[simp] theorem State.setLc_posCmps (k : FuncKind) (n : Nat) (l : Lc) : (s.setLc k n l).posCmps = s.posCmps := rfl
@[simp] theorem State.setLc_capHi (k : FuncKind) (n : Nat) (l : Lc) : (s.setLc k n l).capHi = s.capHi := rfl
@[simp] theorem State.setLc_atlasNv (k : FuncKind) (n : Nat) (l : Lc) : (s.setLc k n l).atlasNv = s.atlasNv := rfl
@[simp] theorem State.setLc_atlas (k : FuncKind) (n : Nat) (l : Lc) : (s.setLc k n l).atlas = s.atlas := rfl
@[simp] theorem State.setLc_atlasC (k : FuncKind) (n : Nat) (l : Lc) : (s.setLc k n l).atlasC = s.atlasC := rfl
@[simp] theorem State.setLc_cans (k : FuncKind) (n : Nat) (l : Lc) : (s.setLc k n l).cans = s.cans := rfl
@[simp] theorem State.setLc_aqs (k : FuncKind) (n : Nat) (l : Lc) : (s.setLc k n l).aqs = s.aqs := rfl
@[simp] theorem State.setLc_time (k : FuncKind) (n : Nat) (l : Lc) : (s.setLc k n l).time = s.time := rfl
@[simp] theorem State.setLc_sn (k : FuncKind) (n : Nat) (l : Lc) : (s.setLc k n l).sn = s.sn := rfl
@[simp] theorem State.setLc_memc (k : FuncKind) (n : Nat) (l : Lc) : (s.setLc k n l).memc = s.memc := rfl
@[simp] theorem State.setLc_hk (k : FuncKind) (n : Nat) (l : Lc) : (s.setLc k n l).hk = s.hk := rfl
@[simp] theorem State.setLc_life (k : FuncKind) (n : Nat) (l : Lc) : (s.setLc k n l).life = s.life := rfl

/-! ### updLc -/

@[simp] theorem State.updLc_pending (k : FuncKind) (n : Nat) (f : Lc → Nat → Lc) : (s.updLc k n f).pending = s.pending := rfl
@[simp] theorem State.updLc_now (k : FuncKind) (n : Nat) (f : Lc → Nat → Lc) : (s.updLc k n f).now = s.now := rfl
@[simp] theorem State.updLc_lpo (k : FuncKind) (n : Nat) (f : Lc → Nat → Lc) : (s.updLc k n f).lpo = s.lpo := rfl
@[simp] theorem State.updLc_dev (k : FuncKind) (n : Nat) (f : Lc → Nat → Lc) : (s.updLc k n f).dev = s.dev := rfl
@[simp] theorem State.updLc_fresh (k : FuncKind) (n : Nat) (f : Lc → Nat → Lc) : (s.updLc k n f).fresh = s.fresh := rfl
@[simp] theorem State.updLc_regs (k : FuncKind) (n : Nat) (f : Lc → Nat → Lc) : (s.updLc k n f).regs = s.regs := rfl
@[simp] theorem State.updLc_params (k : FuncKind) (n : Nat) (f : Lc → Nat → Lc) : (s.updLc k n f).params = s.params := rfl
@[simp] theorem State.updLc_stored (k : FuncKind) (n : Nat) (f : Lc → Nat → Lc) : (s.updLc k n f).stored = s.stored := rfl
@[simp] theorem State.updLc_mem (k : FuncKind) (n : Nat) (f : Lc → Nat → Lc) : (s.updLc k n f).mem = s.mem := rfl
@[simp] theorem State.updLc_mram (k : FuncKind) (n : Nat) (f : Lc → Nat → Lc) : (s.updLc k n f).mram = s.mram := rfl
@[simp] theorem State.updLc_hostMem (k : FuncKind) (n : Nat) (f : Lc → Nat → Lc) : (s.updLc k n f).hostMem = s.hostMem := rfl
@[simp] theorem State.updLc_lanes (k : FuncKind) (n : Nat) (f : Lc → Nat → Lc) : (s.updLc k n f).lanes = s.lanes := rfl
@[simp] theorem State.updLc_faults (k : FuncKind) (n : Nat) (f : Lc → Nat → Lc) : (s.updLc k n f).faults = s.faults := rfl
@[simp] theorem State.updLc_safe (k : FuncKind) (n : Nat) (f : Lc → Nat → Lc) : (s.updLc k n f).safe = s.safe := rfl
@[simp] theorem State.updLc_skipAt (k : FuncKind) (n : Nat) (f : Lc → Nat → Lc) : (s.updLc k n f).skipAt = s.skipAt := rfl
@[simp] theorem State.updLc_island (k : FuncKind) (n : Nat) (f : Lc → Nat → Lc) : (s.updLc k n f).island = s.island := rfl
@[simp] theorem State.updLc_rings (k : FuncKind) (n : Nat) (f : Lc → Nat → Lc) : (s.updLc k n f).rings = s.rings := rfl
@[simp] theorem State.updLc_hosts (k : FuncKind) (n : Nat) (f : Lc → Nat → Lc) : (s.updLc k n f).hosts = s.hosts := rfl
@[simp] theorem State.updLc_slotHosts (k : FuncKind) (n : Nat) (f : Lc → Nat → Lc) : (s.updLc k n f).slotHosts = s.slotHosts := rfl
@[simp] theorem State.updLc_served (k : FuncKind) (n : Nat) (f : Lc → Nat → Lc) : (s.updLc k n f).served = s.served := rfl
@[simp] theorem State.updLc_bulk (k : FuncKind) (n : Nat) (f : Lc → Nat → Lc) : (s.updLc k n f).bulk = s.bulk := rfl
@[simp] theorem State.updLc_prot (k : FuncKind) (n : Nat) (f : Lc → Nat → Lc) : (s.updLc k n f).prot = s.prot := rfl
@[simp] theorem State.updLc_msix (k : FuncKind) (n : Nat) (f : Lc → Nat → Lc) : (s.updLc k n f).msix = s.msix := rfl
@[simp] theorem State.updLc_irqLines (k : FuncKind) (n : Nat) (f : Lc → Nat → Lc) : (s.updLc k n f).irqLines = s.irqLines := rfl
@[simp] theorem State.updLc_clocks (k : FuncKind) (n : Nat) (f : Lc → Nat → Lc) : (s.updLc k n f).clocks = s.clocks := rfl
@[simp] theorem State.updLc_power (k : FuncKind) (n : Nat) (f : Lc → Nat → Lc) : (s.updLc k n f).power = s.power := rfl
@[simp] theorem State.updLc_rst (k : FuncKind) (n : Nat) (f : Lc → Nat → Lc) : (s.updLc k n f).rst = s.rst := rfl
@[simp] theorem State.updLc_domains (k : FuncKind) (n : Nat) (f : Lc → Nat → Lc) : (s.updLc k n f).domains = s.domains := rfl
@[simp] theorem State.updLc_engines (k : FuncKind) (n : Nat) (f : Lc → Nat → Lc) : (s.updLc k n f).engines = s.engines := rfl
@[simp] theorem State.updLc_pwms (k : FuncKind) (n : Nat) (f : Lc → Nat → Lc) : (s.updLc k n f).pwms = s.pwms := rfl
@[simp] theorem State.updLc_sats (k : FuncKind) (n : Nat) (f : Lc → Nat → Lc) : (s.updLc k n f).sats = s.sats := rfl
@[simp] theorem State.updLc_adcs (k : FuncKind) (n : Nat) (f : Lc → Nat → Lc) : (s.updLc k n f).adcs = s.adcs := rfl
@[simp] theorem State.updLc_sensing (k : FuncKind) (n : Nat) (f : Lc → Nat → Lc) : (s.updLc k n f).sensing = s.sensing := rfl
@[simp] theorem State.updLc_sense (k : FuncKind) (n : Nat) (f : Lc → Nat → Lc) : (s.updLc k n f).sense = s.sense := rfl
@[simp] theorem State.updLc_slots (k : FuncKind) (n : Nat) (f : Lc → Nat → Lc) : (s.updLc k n f).slots = s.slots := rfl
@[simp] theorem State.updLc_posIfs (k : FuncKind) (n : Nat) (f : Lc → Nat → Lc) : (s.updLc k n f).posIfs = s.posIfs := rfl
@[simp] theorem State.updLc_posCmps (k : FuncKind) (n : Nat) (f : Lc → Nat → Lc) : (s.updLc k n f).posCmps = s.posCmps := rfl
@[simp] theorem State.updLc_capHi (k : FuncKind) (n : Nat) (f : Lc → Nat → Lc) : (s.updLc k n f).capHi = s.capHi := rfl
@[simp] theorem State.updLc_atlasNv (k : FuncKind) (n : Nat) (f : Lc → Nat → Lc) : (s.updLc k n f).atlasNv = s.atlasNv := rfl
@[simp] theorem State.updLc_atlas (k : FuncKind) (n : Nat) (f : Lc → Nat → Lc) : (s.updLc k n f).atlas = s.atlas := rfl
@[simp] theorem State.updLc_atlasC (k : FuncKind) (n : Nat) (f : Lc → Nat → Lc) : (s.updLc k n f).atlasC = s.atlasC := rfl
@[simp] theorem State.updLc_cans (k : FuncKind) (n : Nat) (f : Lc → Nat → Lc) : (s.updLc k n f).cans = s.cans := rfl
@[simp] theorem State.updLc_aqs (k : FuncKind) (n : Nat) (f : Lc → Nat → Lc) : (s.updLc k n f).aqs = s.aqs := rfl
@[simp] theorem State.updLc_time (k : FuncKind) (n : Nat) (f : Lc → Nat → Lc) : (s.updLc k n f).time = s.time := rfl
@[simp] theorem State.updLc_sn (k : FuncKind) (n : Nat) (f : Lc → Nat → Lc) : (s.updLc k n f).sn = s.sn := rfl
@[simp] theorem State.updLc_memc (k : FuncKind) (n : Nat) (f : Lc → Nat → Lc) : (s.updLc k n f).memc = s.memc := rfl
@[simp] theorem State.updLc_hk (k : FuncKind) (n : Nat) (f : Lc → Nat → Lc) : (s.updLc k n f).hk = s.hk := rfl
@[simp] theorem State.updLc_life (k : FuncKind) (n : Nat) (f : Lc → Nat → Lc) : (s.updLc k n f).life = s.life := rfl

/-! ### setSafe -/

@[simp] theorem State.setSafe_pending (n : Nat) (x : BridgeSafe) : (s.setSafe n x).pending = s.pending := rfl
@[simp] theorem State.setSafe_now (n : Nat) (x : BridgeSafe) : (s.setSafe n x).now = s.now := rfl
@[simp] theorem State.setSafe_lpo (n : Nat) (x : BridgeSafe) : (s.setSafe n x).lpo = s.lpo := rfl
@[simp] theorem State.setSafe_dev (n : Nat) (x : BridgeSafe) : (s.setSafe n x).dev = s.dev := rfl
@[simp] theorem State.setSafe_fresh (n : Nat) (x : BridgeSafe) : (s.setSafe n x).fresh = s.fresh := rfl
@[simp] theorem State.setSafe_regs (n : Nat) (x : BridgeSafe) : (s.setSafe n x).regs = s.regs := rfl
@[simp] theorem State.setSafe_params (n : Nat) (x : BridgeSafe) : (s.setSafe n x).params = s.params := rfl
@[simp] theorem State.setSafe_stored (n : Nat) (x : BridgeSafe) : (s.setSafe n x).stored = s.stored := rfl
@[simp] theorem State.setSafe_lcs (n : Nat) (x : BridgeSafe) : (s.setSafe n x).lcs = s.lcs := rfl
@[simp] theorem State.setSafe_mem (n : Nat) (x : BridgeSafe) : (s.setSafe n x).mem = s.mem := rfl
@[simp] theorem State.setSafe_mram (n : Nat) (x : BridgeSafe) : (s.setSafe n x).mram = s.mram := rfl
@[simp] theorem State.setSafe_hostMem (n : Nat) (x : BridgeSafe) : (s.setSafe n x).hostMem = s.hostMem := rfl
@[simp] theorem State.setSafe_lanes (n : Nat) (x : BridgeSafe) : (s.setSafe n x).lanes = s.lanes := rfl
@[simp] theorem State.setSafe_faults (n : Nat) (x : BridgeSafe) : (s.setSafe n x).faults = s.faults := rfl
@[simp] theorem State.setSafe_skipAt (n : Nat) (x : BridgeSafe) : (s.setSafe n x).skipAt = s.skipAt := rfl
@[simp] theorem State.setSafe_island (n : Nat) (x : BridgeSafe) : (s.setSafe n x).island = s.island := rfl
@[simp] theorem State.setSafe_rings (n : Nat) (x : BridgeSafe) : (s.setSafe n x).rings = s.rings := rfl
@[simp] theorem State.setSafe_hosts (n : Nat) (x : BridgeSafe) : (s.setSafe n x).hosts = s.hosts := rfl
@[simp] theorem State.setSafe_slotHosts (n : Nat) (x : BridgeSafe) : (s.setSafe n x).slotHosts = s.slotHosts := rfl
@[simp] theorem State.setSafe_served (n : Nat) (x : BridgeSafe) : (s.setSafe n x).served = s.served := rfl
@[simp] theorem State.setSafe_bulk (n : Nat) (x : BridgeSafe) : (s.setSafe n x).bulk = s.bulk := rfl
@[simp] theorem State.setSafe_prot (n : Nat) (x : BridgeSafe) : (s.setSafe n x).prot = s.prot := rfl
@[simp] theorem State.setSafe_msix (n : Nat) (x : BridgeSafe) : (s.setSafe n x).msix = s.msix := rfl
@[simp] theorem State.setSafe_irqLines (n : Nat) (x : BridgeSafe) : (s.setSafe n x).irqLines = s.irqLines := rfl
@[simp] theorem State.setSafe_clocks (n : Nat) (x : BridgeSafe) : (s.setSafe n x).clocks = s.clocks := rfl
@[simp] theorem State.setSafe_power (n : Nat) (x : BridgeSafe) : (s.setSafe n x).power = s.power := rfl
@[simp] theorem State.setSafe_rst (n : Nat) (x : BridgeSafe) : (s.setSafe n x).rst = s.rst := rfl
@[simp] theorem State.setSafe_domains (n : Nat) (x : BridgeSafe) : (s.setSafe n x).domains = s.domains := rfl
@[simp] theorem State.setSafe_engines (n : Nat) (x : BridgeSafe) : (s.setSafe n x).engines = s.engines := rfl
@[simp] theorem State.setSafe_pwms (n : Nat) (x : BridgeSafe) : (s.setSafe n x).pwms = s.pwms := rfl
@[simp] theorem State.setSafe_sats (n : Nat) (x : BridgeSafe) : (s.setSafe n x).sats = s.sats := rfl
@[simp] theorem State.setSafe_adcs (n : Nat) (x : BridgeSafe) : (s.setSafe n x).adcs = s.adcs := rfl
@[simp] theorem State.setSafe_sensing (n : Nat) (x : BridgeSafe) : (s.setSafe n x).sensing = s.sensing := rfl
@[simp] theorem State.setSafe_sense (n : Nat) (x : BridgeSafe) : (s.setSafe n x).sense = s.sense := rfl
@[simp] theorem State.setSafe_slots (n : Nat) (x : BridgeSafe) : (s.setSafe n x).slots = s.slots := rfl
@[simp] theorem State.setSafe_posIfs (n : Nat) (x : BridgeSafe) : (s.setSafe n x).posIfs = s.posIfs := rfl
@[simp] theorem State.setSafe_posCmps (n : Nat) (x : BridgeSafe) : (s.setSafe n x).posCmps = s.posCmps := rfl
@[simp] theorem State.setSafe_capHi (n : Nat) (x : BridgeSafe) : (s.setSafe n x).capHi = s.capHi := rfl
@[simp] theorem State.setSafe_atlasNv (n : Nat) (x : BridgeSafe) : (s.setSafe n x).atlasNv = s.atlasNv := rfl
@[simp] theorem State.setSafe_atlas (n : Nat) (x : BridgeSafe) : (s.setSafe n x).atlas = s.atlas := rfl
@[simp] theorem State.setSafe_atlasC (n : Nat) (x : BridgeSafe) : (s.setSafe n x).atlasC = s.atlasC := rfl
@[simp] theorem State.setSafe_cans (n : Nat) (x : BridgeSafe) : (s.setSafe n x).cans = s.cans := rfl
@[simp] theorem State.setSafe_aqs (n : Nat) (x : BridgeSafe) : (s.setSafe n x).aqs = s.aqs := rfl
@[simp] theorem State.setSafe_time (n : Nat) (x : BridgeSafe) : (s.setSafe n x).time = s.time := rfl
@[simp] theorem State.setSafe_sn (n : Nat) (x : BridgeSafe) : (s.setSafe n x).sn = s.sn := rfl
@[simp] theorem State.setSafe_memc (n : Nat) (x : BridgeSafe) : (s.setSafe n x).memc = s.memc := rfl
@[simp] theorem State.setSafe_hk (n : Nat) (x : BridgeSafe) : (s.setSafe n x).hk = s.hk := rfl
@[simp] theorem State.setSafe_life (n : Nat) (x : BridgeSafe) : (s.setSafe n x).life = s.life := rfl

/-! ### setRing -/

@[simp] theorem State.setRing_pending (n : Nat) (x : RingPair) : (s.setRing n x).pending = s.pending := rfl
@[simp] theorem State.setRing_now (n : Nat) (x : RingPair) : (s.setRing n x).now = s.now := rfl
@[simp] theorem State.setRing_lpo (n : Nat) (x : RingPair) : (s.setRing n x).lpo = s.lpo := rfl
@[simp] theorem State.setRing_dev (n : Nat) (x : RingPair) : (s.setRing n x).dev = s.dev := rfl
@[simp] theorem State.setRing_fresh (n : Nat) (x : RingPair) : (s.setRing n x).fresh = s.fresh := rfl
@[simp] theorem State.setRing_regs (n : Nat) (x : RingPair) : (s.setRing n x).regs = s.regs := rfl
@[simp] theorem State.setRing_params (n : Nat) (x : RingPair) : (s.setRing n x).params = s.params := rfl
@[simp] theorem State.setRing_stored (n : Nat) (x : RingPair) : (s.setRing n x).stored = s.stored := rfl
@[simp] theorem State.setRing_lcs (n : Nat) (x : RingPair) : (s.setRing n x).lcs = s.lcs := rfl
@[simp] theorem State.setRing_mem (n : Nat) (x : RingPair) : (s.setRing n x).mem = s.mem := rfl
@[simp] theorem State.setRing_mram (n : Nat) (x : RingPair) : (s.setRing n x).mram = s.mram := rfl
@[simp] theorem State.setRing_hostMem (n : Nat) (x : RingPair) : (s.setRing n x).hostMem = s.hostMem := rfl
@[simp] theorem State.setRing_lanes (n : Nat) (x : RingPair) : (s.setRing n x).lanes = s.lanes := rfl
@[simp] theorem State.setRing_faults (n : Nat) (x : RingPair) : (s.setRing n x).faults = s.faults := rfl
@[simp] theorem State.setRing_safe (n : Nat) (x : RingPair) : (s.setRing n x).safe = s.safe := rfl
@[simp] theorem State.setRing_skipAt (n : Nat) (x : RingPair) : (s.setRing n x).skipAt = s.skipAt := rfl
@[simp] theorem State.setRing_island (n : Nat) (x : RingPair) : (s.setRing n x).island = s.island := rfl
@[simp] theorem State.setRing_hosts (n : Nat) (x : RingPair) : (s.setRing n x).hosts = s.hosts := rfl
@[simp] theorem State.setRing_slotHosts (n : Nat) (x : RingPair) : (s.setRing n x).slotHosts = s.slotHosts := rfl
@[simp] theorem State.setRing_served (n : Nat) (x : RingPair) : (s.setRing n x).served = s.served := rfl
@[simp] theorem State.setRing_bulk (n : Nat) (x : RingPair) : (s.setRing n x).bulk = s.bulk := rfl
@[simp] theorem State.setRing_prot (n : Nat) (x : RingPair) : (s.setRing n x).prot = s.prot := rfl
@[simp] theorem State.setRing_msix (n : Nat) (x : RingPair) : (s.setRing n x).msix = s.msix := rfl
@[simp] theorem State.setRing_irqLines (n : Nat) (x : RingPair) : (s.setRing n x).irqLines = s.irqLines := rfl
@[simp] theorem State.setRing_clocks (n : Nat) (x : RingPair) : (s.setRing n x).clocks = s.clocks := rfl
@[simp] theorem State.setRing_power (n : Nat) (x : RingPair) : (s.setRing n x).power = s.power := rfl
@[simp] theorem State.setRing_rst (n : Nat) (x : RingPair) : (s.setRing n x).rst = s.rst := rfl
@[simp] theorem State.setRing_domains (n : Nat) (x : RingPair) : (s.setRing n x).domains = s.domains := rfl
@[simp] theorem State.setRing_engines (n : Nat) (x : RingPair) : (s.setRing n x).engines = s.engines := rfl
@[simp] theorem State.setRing_pwms (n : Nat) (x : RingPair) : (s.setRing n x).pwms = s.pwms := rfl
@[simp] theorem State.setRing_sats (n : Nat) (x : RingPair) : (s.setRing n x).sats = s.sats := rfl
@[simp] theorem State.setRing_adcs (n : Nat) (x : RingPair) : (s.setRing n x).adcs = s.adcs := rfl
@[simp] theorem State.setRing_sensing (n : Nat) (x : RingPair) : (s.setRing n x).sensing = s.sensing := rfl
@[simp] theorem State.setRing_sense (n : Nat) (x : RingPair) : (s.setRing n x).sense = s.sense := rfl
@[simp] theorem State.setRing_slots (n : Nat) (x : RingPair) : (s.setRing n x).slots = s.slots := rfl
@[simp] theorem State.setRing_posIfs (n : Nat) (x : RingPair) : (s.setRing n x).posIfs = s.posIfs := rfl
@[simp] theorem State.setRing_posCmps (n : Nat) (x : RingPair) : (s.setRing n x).posCmps = s.posCmps := rfl
@[simp] theorem State.setRing_capHi (n : Nat) (x : RingPair) : (s.setRing n x).capHi = s.capHi := rfl
@[simp] theorem State.setRing_atlasNv (n : Nat) (x : RingPair) : (s.setRing n x).atlasNv = s.atlasNv := rfl
@[simp] theorem State.setRing_atlas (n : Nat) (x : RingPair) : (s.setRing n x).atlas = s.atlas := rfl
@[simp] theorem State.setRing_atlasC (n : Nat) (x : RingPair) : (s.setRing n x).atlasC = s.atlasC := rfl
@[simp] theorem State.setRing_cans (n : Nat) (x : RingPair) : (s.setRing n x).cans = s.cans := rfl
@[simp] theorem State.setRing_aqs (n : Nat) (x : RingPair) : (s.setRing n x).aqs = s.aqs := rfl
@[simp] theorem State.setRing_time (n : Nat) (x : RingPair) : (s.setRing n x).time = s.time := rfl
@[simp] theorem State.setRing_sn (n : Nat) (x : RingPair) : (s.setRing n x).sn = s.sn := rfl
@[simp] theorem State.setRing_memc (n : Nat) (x : RingPair) : (s.setRing n x).memc = s.memc := rfl
@[simp] theorem State.setRing_hk (n : Nat) (x : RingPair) : (s.setRing n x).hk = s.hk := rfl
@[simp] theorem State.setRing_life (n : Nat) (x : RingPair) : (s.setRing n x).life = s.life := rfl

/-! ### setHost -/

@[simp] theorem State.setHost_pending (n : Nat) (x : HostState) : (s.setHost n x).pending = s.pending := rfl
@[simp] theorem State.setHost_now (n : Nat) (x : HostState) : (s.setHost n x).now = s.now := rfl
@[simp] theorem State.setHost_lpo (n : Nat) (x : HostState) : (s.setHost n x).lpo = s.lpo := rfl
@[simp] theorem State.setHost_dev (n : Nat) (x : HostState) : (s.setHost n x).dev = s.dev := rfl
@[simp] theorem State.setHost_fresh (n : Nat) (x : HostState) : (s.setHost n x).fresh = s.fresh := rfl
@[simp] theorem State.setHost_regs (n : Nat) (x : HostState) : (s.setHost n x).regs = s.regs := rfl
@[simp] theorem State.setHost_params (n : Nat) (x : HostState) : (s.setHost n x).params = s.params := rfl
@[simp] theorem State.setHost_stored (n : Nat) (x : HostState) : (s.setHost n x).stored = s.stored := rfl
@[simp] theorem State.setHost_lcs (n : Nat) (x : HostState) : (s.setHost n x).lcs = s.lcs := rfl
@[simp] theorem State.setHost_mem (n : Nat) (x : HostState) : (s.setHost n x).mem = s.mem := rfl
@[simp] theorem State.setHost_mram (n : Nat) (x : HostState) : (s.setHost n x).mram = s.mram := rfl
@[simp] theorem State.setHost_hostMem (n : Nat) (x : HostState) : (s.setHost n x).hostMem = s.hostMem := rfl
@[simp] theorem State.setHost_lanes (n : Nat) (x : HostState) : (s.setHost n x).lanes = s.lanes := rfl
@[simp] theorem State.setHost_faults (n : Nat) (x : HostState) : (s.setHost n x).faults = s.faults := rfl
@[simp] theorem State.setHost_safe (n : Nat) (x : HostState) : (s.setHost n x).safe = s.safe := rfl
@[simp] theorem State.setHost_skipAt (n : Nat) (x : HostState) : (s.setHost n x).skipAt = s.skipAt := rfl
@[simp] theorem State.setHost_island (n : Nat) (x : HostState) : (s.setHost n x).island = s.island := rfl
@[simp] theorem State.setHost_rings (n : Nat) (x : HostState) : (s.setHost n x).rings = s.rings := rfl
@[simp] theorem State.setHost_slotHosts (n : Nat) (x : HostState) : (s.setHost n x).slotHosts = s.slotHosts := rfl
@[simp] theorem State.setHost_served (n : Nat) (x : HostState) : (s.setHost n x).served = s.served := rfl
@[simp] theorem State.setHost_bulk (n : Nat) (x : HostState) : (s.setHost n x).bulk = s.bulk := rfl
@[simp] theorem State.setHost_prot (n : Nat) (x : HostState) : (s.setHost n x).prot = s.prot := rfl
@[simp] theorem State.setHost_msix (n : Nat) (x : HostState) : (s.setHost n x).msix = s.msix := rfl
@[simp] theorem State.setHost_irqLines (n : Nat) (x : HostState) : (s.setHost n x).irqLines = s.irqLines := rfl
@[simp] theorem State.setHost_clocks (n : Nat) (x : HostState) : (s.setHost n x).clocks = s.clocks := rfl
@[simp] theorem State.setHost_power (n : Nat) (x : HostState) : (s.setHost n x).power = s.power := rfl
@[simp] theorem State.setHost_rst (n : Nat) (x : HostState) : (s.setHost n x).rst = s.rst := rfl
@[simp] theorem State.setHost_domains (n : Nat) (x : HostState) : (s.setHost n x).domains = s.domains := rfl
@[simp] theorem State.setHost_engines (n : Nat) (x : HostState) : (s.setHost n x).engines = s.engines := rfl
@[simp] theorem State.setHost_pwms (n : Nat) (x : HostState) : (s.setHost n x).pwms = s.pwms := rfl
@[simp] theorem State.setHost_sats (n : Nat) (x : HostState) : (s.setHost n x).sats = s.sats := rfl
@[simp] theorem State.setHost_adcs (n : Nat) (x : HostState) : (s.setHost n x).adcs = s.adcs := rfl
@[simp] theorem State.setHost_sensing (n : Nat) (x : HostState) : (s.setHost n x).sensing = s.sensing := rfl
@[simp] theorem State.setHost_sense (n : Nat) (x : HostState) : (s.setHost n x).sense = s.sense := rfl
@[simp] theorem State.setHost_slots (n : Nat) (x : HostState) : (s.setHost n x).slots = s.slots := rfl
@[simp] theorem State.setHost_posIfs (n : Nat) (x : HostState) : (s.setHost n x).posIfs = s.posIfs := rfl
@[simp] theorem State.setHost_posCmps (n : Nat) (x : HostState) : (s.setHost n x).posCmps = s.posCmps := rfl
@[simp] theorem State.setHost_capHi (n : Nat) (x : HostState) : (s.setHost n x).capHi = s.capHi := rfl
@[simp] theorem State.setHost_atlasNv (n : Nat) (x : HostState) : (s.setHost n x).atlasNv = s.atlasNv := rfl
@[simp] theorem State.setHost_atlas (n : Nat) (x : HostState) : (s.setHost n x).atlas = s.atlas := rfl
@[simp] theorem State.setHost_atlasC (n : Nat) (x : HostState) : (s.setHost n x).atlasC = s.atlasC := rfl
@[simp] theorem State.setHost_cans (n : Nat) (x : HostState) : (s.setHost n x).cans = s.cans := rfl
@[simp] theorem State.setHost_aqs (n : Nat) (x : HostState) : (s.setHost n x).aqs = s.aqs := rfl
@[simp] theorem State.setHost_time (n : Nat) (x : HostState) : (s.setHost n x).time = s.time := rfl
@[simp] theorem State.setHost_sn (n : Nat) (x : HostState) : (s.setHost n x).sn = s.sn := rfl
@[simp] theorem State.setHost_memc (n : Nat) (x : HostState) : (s.setHost n x).memc = s.memc := rfl
@[simp] theorem State.setHost_hk (n : Nat) (x : HostState) : (s.setHost n x).hk = s.hk := rfl
@[simp] theorem State.setHost_life (n : Nat) (x : HostState) : (s.setHost n x).life = s.life := rfl

/-! ### setDomain -/

@[simp] theorem State.setDomain_pending (n : Nat) (x : DomainPower) : (s.setDomain n x).pending = s.pending := rfl
@[simp] theorem State.setDomain_now (n : Nat) (x : DomainPower) : (s.setDomain n x).now = s.now := rfl
@[simp] theorem State.setDomain_lpo (n : Nat) (x : DomainPower) : (s.setDomain n x).lpo = s.lpo := rfl
@[simp] theorem State.setDomain_dev (n : Nat) (x : DomainPower) : (s.setDomain n x).dev = s.dev := rfl
@[simp] theorem State.setDomain_fresh (n : Nat) (x : DomainPower) : (s.setDomain n x).fresh = s.fresh := rfl
@[simp] theorem State.setDomain_regs (n : Nat) (x : DomainPower) : (s.setDomain n x).regs = s.regs := rfl
@[simp] theorem State.setDomain_params (n : Nat) (x : DomainPower) : (s.setDomain n x).params = s.params := rfl
@[simp] theorem State.setDomain_stored (n : Nat) (x : DomainPower) : (s.setDomain n x).stored = s.stored := rfl
@[simp] theorem State.setDomain_lcs (n : Nat) (x : DomainPower) : (s.setDomain n x).lcs = s.lcs := rfl
@[simp] theorem State.setDomain_mem (n : Nat) (x : DomainPower) : (s.setDomain n x).mem = s.mem := rfl
@[simp] theorem State.setDomain_mram (n : Nat) (x : DomainPower) : (s.setDomain n x).mram = s.mram := rfl
@[simp] theorem State.setDomain_hostMem (n : Nat) (x : DomainPower) : (s.setDomain n x).hostMem = s.hostMem := rfl
@[simp] theorem State.setDomain_lanes (n : Nat) (x : DomainPower) : (s.setDomain n x).lanes = s.lanes := rfl
@[simp] theorem State.setDomain_faults (n : Nat) (x : DomainPower) : (s.setDomain n x).faults = s.faults := rfl
@[simp] theorem State.setDomain_safe (n : Nat) (x : DomainPower) : (s.setDomain n x).safe = s.safe := rfl
@[simp] theorem State.setDomain_skipAt (n : Nat) (x : DomainPower) : (s.setDomain n x).skipAt = s.skipAt := rfl
@[simp] theorem State.setDomain_island (n : Nat) (x : DomainPower) : (s.setDomain n x).island = s.island := rfl
@[simp] theorem State.setDomain_rings (n : Nat) (x : DomainPower) : (s.setDomain n x).rings = s.rings := rfl
@[simp] theorem State.setDomain_hosts (n : Nat) (x : DomainPower) : (s.setDomain n x).hosts = s.hosts := rfl
@[simp] theorem State.setDomain_slotHosts (n : Nat) (x : DomainPower) : (s.setDomain n x).slotHosts = s.slotHosts := rfl
@[simp] theorem State.setDomain_served (n : Nat) (x : DomainPower) : (s.setDomain n x).served = s.served := rfl
@[simp] theorem State.setDomain_bulk (n : Nat) (x : DomainPower) : (s.setDomain n x).bulk = s.bulk := rfl
@[simp] theorem State.setDomain_prot (n : Nat) (x : DomainPower) : (s.setDomain n x).prot = s.prot := rfl
@[simp] theorem State.setDomain_msix (n : Nat) (x : DomainPower) : (s.setDomain n x).msix = s.msix := rfl
@[simp] theorem State.setDomain_irqLines (n : Nat) (x : DomainPower) : (s.setDomain n x).irqLines = s.irqLines := rfl
@[simp] theorem State.setDomain_clocks (n : Nat) (x : DomainPower) : (s.setDomain n x).clocks = s.clocks := rfl
@[simp] theorem State.setDomain_power (n : Nat) (x : DomainPower) : (s.setDomain n x).power = s.power := rfl
@[simp] theorem State.setDomain_rst (n : Nat) (x : DomainPower) : (s.setDomain n x).rst = s.rst := rfl
@[simp] theorem State.setDomain_engines (n : Nat) (x : DomainPower) : (s.setDomain n x).engines = s.engines := rfl
@[simp] theorem State.setDomain_pwms (n : Nat) (x : DomainPower) : (s.setDomain n x).pwms = s.pwms := rfl
@[simp] theorem State.setDomain_sats (n : Nat) (x : DomainPower) : (s.setDomain n x).sats = s.sats := rfl
@[simp] theorem State.setDomain_adcs (n : Nat) (x : DomainPower) : (s.setDomain n x).adcs = s.adcs := rfl
@[simp] theorem State.setDomain_sensing (n : Nat) (x : DomainPower) : (s.setDomain n x).sensing = s.sensing := rfl
@[simp] theorem State.setDomain_sense (n : Nat) (x : DomainPower) : (s.setDomain n x).sense = s.sense := rfl
@[simp] theorem State.setDomain_slots (n : Nat) (x : DomainPower) : (s.setDomain n x).slots = s.slots := rfl
@[simp] theorem State.setDomain_posIfs (n : Nat) (x : DomainPower) : (s.setDomain n x).posIfs = s.posIfs := rfl
@[simp] theorem State.setDomain_posCmps (n : Nat) (x : DomainPower) : (s.setDomain n x).posCmps = s.posCmps := rfl
@[simp] theorem State.setDomain_capHi (n : Nat) (x : DomainPower) : (s.setDomain n x).capHi = s.capHi := rfl
@[simp] theorem State.setDomain_atlasNv (n : Nat) (x : DomainPower) : (s.setDomain n x).atlasNv = s.atlasNv := rfl
@[simp] theorem State.setDomain_atlas (n : Nat) (x : DomainPower) : (s.setDomain n x).atlas = s.atlas := rfl
@[simp] theorem State.setDomain_atlasC (n : Nat) (x : DomainPower) : (s.setDomain n x).atlasC = s.atlasC := rfl
@[simp] theorem State.setDomain_cans (n : Nat) (x : DomainPower) : (s.setDomain n x).cans = s.cans := rfl
@[simp] theorem State.setDomain_aqs (n : Nat) (x : DomainPower) : (s.setDomain n x).aqs = s.aqs := rfl
@[simp] theorem State.setDomain_time (n : Nat) (x : DomainPower) : (s.setDomain n x).time = s.time := rfl
@[simp] theorem State.setDomain_sn (n : Nat) (x : DomainPower) : (s.setDomain n x).sn = s.sn := rfl
@[simp] theorem State.setDomain_memc (n : Nat) (x : DomainPower) : (s.setDomain n x).memc = s.memc := rfl
@[simp] theorem State.setDomain_hk (n : Nat) (x : DomainPower) : (s.setDomain n x).hk = s.hk := rfl
@[simp] theorem State.setDomain_life (n : Nat) (x : DomainPower) : (s.setDomain n x).life = s.life := rfl

/-! ### setLane -/

@[simp] theorem State.setLane_pending (n : Nat) (x : Bool) : (s.setLane n x).pending = s.pending := rfl
@[simp] theorem State.setLane_now (n : Nat) (x : Bool) : (s.setLane n x).now = s.now := rfl
@[simp] theorem State.setLane_lpo (n : Nat) (x : Bool) : (s.setLane n x).lpo = s.lpo := rfl
@[simp] theorem State.setLane_dev (n : Nat) (x : Bool) : (s.setLane n x).dev = s.dev := rfl
@[simp] theorem State.setLane_fresh (n : Nat) (x : Bool) : (s.setLane n x).fresh = s.fresh := rfl
@[simp] theorem State.setLane_regs (n : Nat) (x : Bool) : (s.setLane n x).regs = s.regs := rfl
@[simp] theorem State.setLane_params (n : Nat) (x : Bool) : (s.setLane n x).params = s.params := rfl
@[simp] theorem State.setLane_stored (n : Nat) (x : Bool) : (s.setLane n x).stored = s.stored := rfl
@[simp] theorem State.setLane_lcs (n : Nat) (x : Bool) : (s.setLane n x).lcs = s.lcs := rfl
@[simp] theorem State.setLane_mem (n : Nat) (x : Bool) : (s.setLane n x).mem = s.mem := rfl
@[simp] theorem State.setLane_mram (n : Nat) (x : Bool) : (s.setLane n x).mram = s.mram := rfl
@[simp] theorem State.setLane_hostMem (n : Nat) (x : Bool) : (s.setLane n x).hostMem = s.hostMem := rfl
@[simp] theorem State.setLane_faults (n : Nat) (x : Bool) : (s.setLane n x).faults = s.faults := rfl
@[simp] theorem State.setLane_safe (n : Nat) (x : Bool) : (s.setLane n x).safe = s.safe := rfl
@[simp] theorem State.setLane_skipAt (n : Nat) (x : Bool) : (s.setLane n x).skipAt = s.skipAt := rfl
@[simp] theorem State.setLane_island (n : Nat) (x : Bool) : (s.setLane n x).island = s.island := rfl
@[simp] theorem State.setLane_rings (n : Nat) (x : Bool) : (s.setLane n x).rings = s.rings := rfl
@[simp] theorem State.setLane_hosts (n : Nat) (x : Bool) : (s.setLane n x).hosts = s.hosts := rfl
@[simp] theorem State.setLane_slotHosts (n : Nat) (x : Bool) : (s.setLane n x).slotHosts = s.slotHosts := rfl
@[simp] theorem State.setLane_served (n : Nat) (x : Bool) : (s.setLane n x).served = s.served := rfl
@[simp] theorem State.setLane_bulk (n : Nat) (x : Bool) : (s.setLane n x).bulk = s.bulk := rfl
@[simp] theorem State.setLane_prot (n : Nat) (x : Bool) : (s.setLane n x).prot = s.prot := rfl
@[simp] theorem State.setLane_msix (n : Nat) (x : Bool) : (s.setLane n x).msix = s.msix := rfl
@[simp] theorem State.setLane_irqLines (n : Nat) (x : Bool) : (s.setLane n x).irqLines = s.irqLines := rfl
@[simp] theorem State.setLane_clocks (n : Nat) (x : Bool) : (s.setLane n x).clocks = s.clocks := rfl
@[simp] theorem State.setLane_power (n : Nat) (x : Bool) : (s.setLane n x).power = s.power := rfl
@[simp] theorem State.setLane_rst (n : Nat) (x : Bool) : (s.setLane n x).rst = s.rst := rfl
@[simp] theorem State.setLane_domains (n : Nat) (x : Bool) : (s.setLane n x).domains = s.domains := rfl
@[simp] theorem State.setLane_engines (n : Nat) (x : Bool) : (s.setLane n x).engines = s.engines := rfl
@[simp] theorem State.setLane_pwms (n : Nat) (x : Bool) : (s.setLane n x).pwms = s.pwms := rfl
@[simp] theorem State.setLane_sats (n : Nat) (x : Bool) : (s.setLane n x).sats = s.sats := rfl
@[simp] theorem State.setLane_adcs (n : Nat) (x : Bool) : (s.setLane n x).adcs = s.adcs := rfl
@[simp] theorem State.setLane_sensing (n : Nat) (x : Bool) : (s.setLane n x).sensing = s.sensing := rfl
@[simp] theorem State.setLane_sense (n : Nat) (x : Bool) : (s.setLane n x).sense = s.sense := rfl
@[simp] theorem State.setLane_slots (n : Nat) (x : Bool) : (s.setLane n x).slots = s.slots := rfl
@[simp] theorem State.setLane_posIfs (n : Nat) (x : Bool) : (s.setLane n x).posIfs = s.posIfs := rfl
@[simp] theorem State.setLane_posCmps (n : Nat) (x : Bool) : (s.setLane n x).posCmps = s.posCmps := rfl
@[simp] theorem State.setLane_capHi (n : Nat) (x : Bool) : (s.setLane n x).capHi = s.capHi := rfl
@[simp] theorem State.setLane_atlasNv (n : Nat) (x : Bool) : (s.setLane n x).atlasNv = s.atlasNv := rfl
@[simp] theorem State.setLane_atlas (n : Nat) (x : Bool) : (s.setLane n x).atlas = s.atlas := rfl
@[simp] theorem State.setLane_atlasC (n : Nat) (x : Bool) : (s.setLane n x).atlasC = s.atlasC := rfl
@[simp] theorem State.setLane_cans (n : Nat) (x : Bool) : (s.setLane n x).cans = s.cans := rfl
@[simp] theorem State.setLane_aqs (n : Nat) (x : Bool) : (s.setLane n x).aqs = s.aqs := rfl
@[simp] theorem State.setLane_time (n : Nat) (x : Bool) : (s.setLane n x).time = s.time := rfl
@[simp] theorem State.setLane_sn (n : Nat) (x : Bool) : (s.setLane n x).sn = s.sn := rfl
@[simp] theorem State.setLane_memc (n : Nat) (x : Bool) : (s.setLane n x).memc = s.memc := rfl
@[simp] theorem State.setLane_hk (n : Nat) (x : Bool) : (s.setLane n x).hk = s.hk := rfl
@[simp] theorem State.setLane_life (n : Nat) (x : Bool) : (s.setLane n x).life = s.life := rfl

/-! ### setEngine -/

@[simp] theorem State.setEngine_pending (n : Nat) (x : Engine) : (s.setEngine n x).pending = s.pending := rfl
@[simp] theorem State.setEngine_now (n : Nat) (x : Engine) : (s.setEngine n x).now = s.now := rfl
@[simp] theorem State.setEngine_lpo (n : Nat) (x : Engine) : (s.setEngine n x).lpo = s.lpo := rfl
@[simp] theorem State.setEngine_dev (n : Nat) (x : Engine) : (s.setEngine n x).dev = s.dev := rfl
@[simp] theorem State.setEngine_fresh (n : Nat) (x : Engine) : (s.setEngine n x).fresh = s.fresh := rfl
@[simp] theorem State.setEngine_regs (n : Nat) (x : Engine) : (s.setEngine n x).regs = s.regs := rfl
@[simp] theorem State.setEngine_params (n : Nat) (x : Engine) : (s.setEngine n x).params = s.params := rfl
@[simp] theorem State.setEngine_stored (n : Nat) (x : Engine) : (s.setEngine n x).stored = s.stored := rfl
@[simp] theorem State.setEngine_lcs (n : Nat) (x : Engine) : (s.setEngine n x).lcs = s.lcs := rfl
@[simp] theorem State.setEngine_mem (n : Nat) (x : Engine) : (s.setEngine n x).mem = s.mem := rfl
@[simp] theorem State.setEngine_mram (n : Nat) (x : Engine) : (s.setEngine n x).mram = s.mram := rfl
@[simp] theorem State.setEngine_hostMem (n : Nat) (x : Engine) : (s.setEngine n x).hostMem = s.hostMem := rfl
@[simp] theorem State.setEngine_lanes (n : Nat) (x : Engine) : (s.setEngine n x).lanes = s.lanes := rfl
@[simp] theorem State.setEngine_faults (n : Nat) (x : Engine) : (s.setEngine n x).faults = s.faults := rfl
@[simp] theorem State.setEngine_safe (n : Nat) (x : Engine) : (s.setEngine n x).safe = s.safe := rfl
@[simp] theorem State.setEngine_skipAt (n : Nat) (x : Engine) : (s.setEngine n x).skipAt = s.skipAt := rfl
@[simp] theorem State.setEngine_island (n : Nat) (x : Engine) : (s.setEngine n x).island = s.island := rfl
@[simp] theorem State.setEngine_rings (n : Nat) (x : Engine) : (s.setEngine n x).rings = s.rings := rfl
@[simp] theorem State.setEngine_hosts (n : Nat) (x : Engine) : (s.setEngine n x).hosts = s.hosts := rfl
@[simp] theorem State.setEngine_slotHosts (n : Nat) (x : Engine) : (s.setEngine n x).slotHosts = s.slotHosts := rfl
@[simp] theorem State.setEngine_served (n : Nat) (x : Engine) : (s.setEngine n x).served = s.served := rfl
@[simp] theorem State.setEngine_bulk (n : Nat) (x : Engine) : (s.setEngine n x).bulk = s.bulk := rfl
@[simp] theorem State.setEngine_prot (n : Nat) (x : Engine) : (s.setEngine n x).prot = s.prot := rfl
@[simp] theorem State.setEngine_msix (n : Nat) (x : Engine) : (s.setEngine n x).msix = s.msix := rfl
@[simp] theorem State.setEngine_irqLines (n : Nat) (x : Engine) : (s.setEngine n x).irqLines = s.irqLines := rfl
@[simp] theorem State.setEngine_clocks (n : Nat) (x : Engine) : (s.setEngine n x).clocks = s.clocks := rfl
@[simp] theorem State.setEngine_power (n : Nat) (x : Engine) : (s.setEngine n x).power = s.power := rfl
@[simp] theorem State.setEngine_rst (n : Nat) (x : Engine) : (s.setEngine n x).rst = s.rst := rfl
@[simp] theorem State.setEngine_domains (n : Nat) (x : Engine) : (s.setEngine n x).domains = s.domains := rfl
@[simp] theorem State.setEngine_pwms (n : Nat) (x : Engine) : (s.setEngine n x).pwms = s.pwms := rfl
@[simp] theorem State.setEngine_sats (n : Nat) (x : Engine) : (s.setEngine n x).sats = s.sats := rfl
@[simp] theorem State.setEngine_adcs (n : Nat) (x : Engine) : (s.setEngine n x).adcs = s.adcs := rfl
@[simp] theorem State.setEngine_sensing (n : Nat) (x : Engine) : (s.setEngine n x).sensing = s.sensing := rfl
@[simp] theorem State.setEngine_sense (n : Nat) (x : Engine) : (s.setEngine n x).sense = s.sense := rfl
@[simp] theorem State.setEngine_slots (n : Nat) (x : Engine) : (s.setEngine n x).slots = s.slots := rfl
@[simp] theorem State.setEngine_posIfs (n : Nat) (x : Engine) : (s.setEngine n x).posIfs = s.posIfs := rfl
@[simp] theorem State.setEngine_posCmps (n : Nat) (x : Engine) : (s.setEngine n x).posCmps = s.posCmps := rfl
@[simp] theorem State.setEngine_capHi (n : Nat) (x : Engine) : (s.setEngine n x).capHi = s.capHi := rfl
@[simp] theorem State.setEngine_atlasNv (n : Nat) (x : Engine) : (s.setEngine n x).atlasNv = s.atlasNv := rfl
@[simp] theorem State.setEngine_atlas (n : Nat) (x : Engine) : (s.setEngine n x).atlas = s.atlas := rfl
@[simp] theorem State.setEngine_atlasC (n : Nat) (x : Engine) : (s.setEngine n x).atlasC = s.atlasC := rfl
@[simp] theorem State.setEngine_cans (n : Nat) (x : Engine) : (s.setEngine n x).cans = s.cans := rfl
@[simp] theorem State.setEngine_aqs (n : Nat) (x : Engine) : (s.setEngine n x).aqs = s.aqs := rfl
@[simp] theorem State.setEngine_time (n : Nat) (x : Engine) : (s.setEngine n x).time = s.time := rfl
@[simp] theorem State.setEngine_sn (n : Nat) (x : Engine) : (s.setEngine n x).sn = s.sn := rfl
@[simp] theorem State.setEngine_memc (n : Nat) (x : Engine) : (s.setEngine n x).memc = s.memc := rfl
@[simp] theorem State.setEngine_hk (n : Nat) (x : Engine) : (s.setEngine n x).hk = s.hk := rfl
@[simp] theorem State.setEngine_life (n : Nat) (x : Engine) : (s.setEngine n x).life = s.life := rfl

/-! ### setPwm -/

@[simp] theorem State.setPwm_pending (n : Nat) (x : Pwm) : (s.setPwm n x).pending = s.pending := rfl
@[simp] theorem State.setPwm_now (n : Nat) (x : Pwm) : (s.setPwm n x).now = s.now := rfl
@[simp] theorem State.setPwm_lpo (n : Nat) (x : Pwm) : (s.setPwm n x).lpo = s.lpo := rfl
@[simp] theorem State.setPwm_dev (n : Nat) (x : Pwm) : (s.setPwm n x).dev = s.dev := rfl
@[simp] theorem State.setPwm_fresh (n : Nat) (x : Pwm) : (s.setPwm n x).fresh = s.fresh := rfl
@[simp] theorem State.setPwm_regs (n : Nat) (x : Pwm) : (s.setPwm n x).regs = s.regs := rfl
@[simp] theorem State.setPwm_params (n : Nat) (x : Pwm) : (s.setPwm n x).params = s.params := rfl
@[simp] theorem State.setPwm_stored (n : Nat) (x : Pwm) : (s.setPwm n x).stored = s.stored := rfl
@[simp] theorem State.setPwm_lcs (n : Nat) (x : Pwm) : (s.setPwm n x).lcs = s.lcs := rfl
@[simp] theorem State.setPwm_mem (n : Nat) (x : Pwm) : (s.setPwm n x).mem = s.mem := rfl
@[simp] theorem State.setPwm_mram (n : Nat) (x : Pwm) : (s.setPwm n x).mram = s.mram := rfl
@[simp] theorem State.setPwm_hostMem (n : Nat) (x : Pwm) : (s.setPwm n x).hostMem = s.hostMem := rfl
@[simp] theorem State.setPwm_lanes (n : Nat) (x : Pwm) : (s.setPwm n x).lanes = s.lanes := rfl
@[simp] theorem State.setPwm_faults (n : Nat) (x : Pwm) : (s.setPwm n x).faults = s.faults := rfl
@[simp] theorem State.setPwm_safe (n : Nat) (x : Pwm) : (s.setPwm n x).safe = s.safe := rfl
@[simp] theorem State.setPwm_skipAt (n : Nat) (x : Pwm) : (s.setPwm n x).skipAt = s.skipAt := rfl
@[simp] theorem State.setPwm_island (n : Nat) (x : Pwm) : (s.setPwm n x).island = s.island := rfl
@[simp] theorem State.setPwm_rings (n : Nat) (x : Pwm) : (s.setPwm n x).rings = s.rings := rfl
@[simp] theorem State.setPwm_hosts (n : Nat) (x : Pwm) : (s.setPwm n x).hosts = s.hosts := rfl
@[simp] theorem State.setPwm_slotHosts (n : Nat) (x : Pwm) : (s.setPwm n x).slotHosts = s.slotHosts := rfl
@[simp] theorem State.setPwm_served (n : Nat) (x : Pwm) : (s.setPwm n x).served = s.served := rfl
@[simp] theorem State.setPwm_bulk (n : Nat) (x : Pwm) : (s.setPwm n x).bulk = s.bulk := rfl
@[simp] theorem State.setPwm_prot (n : Nat) (x : Pwm) : (s.setPwm n x).prot = s.prot := rfl
@[simp] theorem State.setPwm_msix (n : Nat) (x : Pwm) : (s.setPwm n x).msix = s.msix := rfl
@[simp] theorem State.setPwm_irqLines (n : Nat) (x : Pwm) : (s.setPwm n x).irqLines = s.irqLines := rfl
@[simp] theorem State.setPwm_clocks (n : Nat) (x : Pwm) : (s.setPwm n x).clocks = s.clocks := rfl
@[simp] theorem State.setPwm_power (n : Nat) (x : Pwm) : (s.setPwm n x).power = s.power := rfl
@[simp] theorem State.setPwm_rst (n : Nat) (x : Pwm) : (s.setPwm n x).rst = s.rst := rfl
@[simp] theorem State.setPwm_domains (n : Nat) (x : Pwm) : (s.setPwm n x).domains = s.domains := rfl
@[simp] theorem State.setPwm_engines (n : Nat) (x : Pwm) : (s.setPwm n x).engines = s.engines := rfl
@[simp] theorem State.setPwm_sats (n : Nat) (x : Pwm) : (s.setPwm n x).sats = s.sats := rfl
@[simp] theorem State.setPwm_adcs (n : Nat) (x : Pwm) : (s.setPwm n x).adcs = s.adcs := rfl
@[simp] theorem State.setPwm_sensing (n : Nat) (x : Pwm) : (s.setPwm n x).sensing = s.sensing := rfl
@[simp] theorem State.setPwm_sense (n : Nat) (x : Pwm) : (s.setPwm n x).sense = s.sense := rfl
@[simp] theorem State.setPwm_slots (n : Nat) (x : Pwm) : (s.setPwm n x).slots = s.slots := rfl
@[simp] theorem State.setPwm_posIfs (n : Nat) (x : Pwm) : (s.setPwm n x).posIfs = s.posIfs := rfl
@[simp] theorem State.setPwm_posCmps (n : Nat) (x : Pwm) : (s.setPwm n x).posCmps = s.posCmps := rfl
@[simp] theorem State.setPwm_capHi (n : Nat) (x : Pwm) : (s.setPwm n x).capHi = s.capHi := rfl
@[simp] theorem State.setPwm_atlasNv (n : Nat) (x : Pwm) : (s.setPwm n x).atlasNv = s.atlasNv := rfl
@[simp] theorem State.setPwm_atlas (n : Nat) (x : Pwm) : (s.setPwm n x).atlas = s.atlas := rfl
@[simp] theorem State.setPwm_atlasC (n : Nat) (x : Pwm) : (s.setPwm n x).atlasC = s.atlasC := rfl
@[simp] theorem State.setPwm_cans (n : Nat) (x : Pwm) : (s.setPwm n x).cans = s.cans := rfl
@[simp] theorem State.setPwm_aqs (n : Nat) (x : Pwm) : (s.setPwm n x).aqs = s.aqs := rfl
@[simp] theorem State.setPwm_time (n : Nat) (x : Pwm) : (s.setPwm n x).time = s.time := rfl
@[simp] theorem State.setPwm_sn (n : Nat) (x : Pwm) : (s.setPwm n x).sn = s.sn := rfl
@[simp] theorem State.setPwm_memc (n : Nat) (x : Pwm) : (s.setPwm n x).memc = s.memc := rfl
@[simp] theorem State.setPwm_hk (n : Nat) (x : Pwm) : (s.setPwm n x).hk = s.hk := rfl
@[simp] theorem State.setPwm_life (n : Nat) (x : Pwm) : (s.setPwm n x).life = s.life := rfl

/-! ### setSat -/

@[simp] theorem State.setSat_pending (n : Nat) (x : Sat) : (s.setSat n x).pending = s.pending := rfl
@[simp] theorem State.setSat_now (n : Nat) (x : Sat) : (s.setSat n x).now = s.now := rfl
@[simp] theorem State.setSat_lpo (n : Nat) (x : Sat) : (s.setSat n x).lpo = s.lpo := rfl
@[simp] theorem State.setSat_dev (n : Nat) (x : Sat) : (s.setSat n x).dev = s.dev := rfl
@[simp] theorem State.setSat_fresh (n : Nat) (x : Sat) : (s.setSat n x).fresh = s.fresh := rfl
@[simp] theorem State.setSat_regs (n : Nat) (x : Sat) : (s.setSat n x).regs = s.regs := rfl
@[simp] theorem State.setSat_params (n : Nat) (x : Sat) : (s.setSat n x).params = s.params := rfl
@[simp] theorem State.setSat_stored (n : Nat) (x : Sat) : (s.setSat n x).stored = s.stored := rfl
@[simp] theorem State.setSat_lcs (n : Nat) (x : Sat) : (s.setSat n x).lcs = s.lcs := rfl
@[simp] theorem State.setSat_mem (n : Nat) (x : Sat) : (s.setSat n x).mem = s.mem := rfl
@[simp] theorem State.setSat_mram (n : Nat) (x : Sat) : (s.setSat n x).mram = s.mram := rfl
@[simp] theorem State.setSat_hostMem (n : Nat) (x : Sat) : (s.setSat n x).hostMem = s.hostMem := rfl
@[simp] theorem State.setSat_lanes (n : Nat) (x : Sat) : (s.setSat n x).lanes = s.lanes := rfl
@[simp] theorem State.setSat_faults (n : Nat) (x : Sat) : (s.setSat n x).faults = s.faults := rfl
@[simp] theorem State.setSat_safe (n : Nat) (x : Sat) : (s.setSat n x).safe = s.safe := rfl
@[simp] theorem State.setSat_skipAt (n : Nat) (x : Sat) : (s.setSat n x).skipAt = s.skipAt := rfl
@[simp] theorem State.setSat_island (n : Nat) (x : Sat) : (s.setSat n x).island = s.island := rfl
@[simp] theorem State.setSat_rings (n : Nat) (x : Sat) : (s.setSat n x).rings = s.rings := rfl
@[simp] theorem State.setSat_hosts (n : Nat) (x : Sat) : (s.setSat n x).hosts = s.hosts := rfl
@[simp] theorem State.setSat_slotHosts (n : Nat) (x : Sat) : (s.setSat n x).slotHosts = s.slotHosts := rfl
@[simp] theorem State.setSat_served (n : Nat) (x : Sat) : (s.setSat n x).served = s.served := rfl
@[simp] theorem State.setSat_bulk (n : Nat) (x : Sat) : (s.setSat n x).bulk = s.bulk := rfl
@[simp] theorem State.setSat_prot (n : Nat) (x : Sat) : (s.setSat n x).prot = s.prot := rfl
@[simp] theorem State.setSat_msix (n : Nat) (x : Sat) : (s.setSat n x).msix = s.msix := rfl
@[simp] theorem State.setSat_irqLines (n : Nat) (x : Sat) : (s.setSat n x).irqLines = s.irqLines := rfl
@[simp] theorem State.setSat_clocks (n : Nat) (x : Sat) : (s.setSat n x).clocks = s.clocks := rfl
@[simp] theorem State.setSat_power (n : Nat) (x : Sat) : (s.setSat n x).power = s.power := rfl
@[simp] theorem State.setSat_rst (n : Nat) (x : Sat) : (s.setSat n x).rst = s.rst := rfl
@[simp] theorem State.setSat_domains (n : Nat) (x : Sat) : (s.setSat n x).domains = s.domains := rfl
@[simp] theorem State.setSat_engines (n : Nat) (x : Sat) : (s.setSat n x).engines = s.engines := rfl
@[simp] theorem State.setSat_pwms (n : Nat) (x : Sat) : (s.setSat n x).pwms = s.pwms := rfl
@[simp] theorem State.setSat_adcs (n : Nat) (x : Sat) : (s.setSat n x).adcs = s.adcs := rfl
@[simp] theorem State.setSat_sensing (n : Nat) (x : Sat) : (s.setSat n x).sensing = s.sensing := rfl
@[simp] theorem State.setSat_sense (n : Nat) (x : Sat) : (s.setSat n x).sense = s.sense := rfl
@[simp] theorem State.setSat_slots (n : Nat) (x : Sat) : (s.setSat n x).slots = s.slots := rfl
@[simp] theorem State.setSat_posIfs (n : Nat) (x : Sat) : (s.setSat n x).posIfs = s.posIfs := rfl
@[simp] theorem State.setSat_posCmps (n : Nat) (x : Sat) : (s.setSat n x).posCmps = s.posCmps := rfl
@[simp] theorem State.setSat_capHi (n : Nat) (x : Sat) : (s.setSat n x).capHi = s.capHi := rfl
@[simp] theorem State.setSat_atlasNv (n : Nat) (x : Sat) : (s.setSat n x).atlasNv = s.atlasNv := rfl
@[simp] theorem State.setSat_atlas (n : Nat) (x : Sat) : (s.setSat n x).atlas = s.atlas := rfl
@[simp] theorem State.setSat_atlasC (n : Nat) (x : Sat) : (s.setSat n x).atlasC = s.atlasC := rfl
@[simp] theorem State.setSat_cans (n : Nat) (x : Sat) : (s.setSat n x).cans = s.cans := rfl
@[simp] theorem State.setSat_aqs (n : Nat) (x : Sat) : (s.setSat n x).aqs = s.aqs := rfl
@[simp] theorem State.setSat_time (n : Nat) (x : Sat) : (s.setSat n x).time = s.time := rfl
@[simp] theorem State.setSat_sn (n : Nat) (x : Sat) : (s.setSat n x).sn = s.sn := rfl
@[simp] theorem State.setSat_memc (n : Nat) (x : Sat) : (s.setSat n x).memc = s.memc := rfl
@[simp] theorem State.setSat_hk (n : Nat) (x : Sat) : (s.setSat n x).hk = s.hk := rfl
@[simp] theorem State.setSat_life (n : Nat) (x : Sat) : (s.setSat n x).life = s.life := rfl

/-! ### setAdc -/

@[simp] theorem State.setAdc_pending (n : Nat) (x : AdcUnit) : (s.setAdc n x).pending = s.pending := rfl
@[simp] theorem State.setAdc_now (n : Nat) (x : AdcUnit) : (s.setAdc n x).now = s.now := rfl
@[simp] theorem State.setAdc_lpo (n : Nat) (x : AdcUnit) : (s.setAdc n x).lpo = s.lpo := rfl
@[simp] theorem State.setAdc_dev (n : Nat) (x : AdcUnit) : (s.setAdc n x).dev = s.dev := rfl
@[simp] theorem State.setAdc_fresh (n : Nat) (x : AdcUnit) : (s.setAdc n x).fresh = s.fresh := rfl
@[simp] theorem State.setAdc_regs (n : Nat) (x : AdcUnit) : (s.setAdc n x).regs = s.regs := rfl
@[simp] theorem State.setAdc_params (n : Nat) (x : AdcUnit) : (s.setAdc n x).params = s.params := rfl
@[simp] theorem State.setAdc_stored (n : Nat) (x : AdcUnit) : (s.setAdc n x).stored = s.stored := rfl
@[simp] theorem State.setAdc_lcs (n : Nat) (x : AdcUnit) : (s.setAdc n x).lcs = s.lcs := rfl
@[simp] theorem State.setAdc_mem (n : Nat) (x : AdcUnit) : (s.setAdc n x).mem = s.mem := rfl
@[simp] theorem State.setAdc_mram (n : Nat) (x : AdcUnit) : (s.setAdc n x).mram = s.mram := rfl
@[simp] theorem State.setAdc_hostMem (n : Nat) (x : AdcUnit) : (s.setAdc n x).hostMem = s.hostMem := rfl
@[simp] theorem State.setAdc_lanes (n : Nat) (x : AdcUnit) : (s.setAdc n x).lanes = s.lanes := rfl
@[simp] theorem State.setAdc_faults (n : Nat) (x : AdcUnit) : (s.setAdc n x).faults = s.faults := rfl
@[simp] theorem State.setAdc_safe (n : Nat) (x : AdcUnit) : (s.setAdc n x).safe = s.safe := rfl
@[simp] theorem State.setAdc_skipAt (n : Nat) (x : AdcUnit) : (s.setAdc n x).skipAt = s.skipAt := rfl
@[simp] theorem State.setAdc_island (n : Nat) (x : AdcUnit) : (s.setAdc n x).island = s.island := rfl
@[simp] theorem State.setAdc_rings (n : Nat) (x : AdcUnit) : (s.setAdc n x).rings = s.rings := rfl
@[simp] theorem State.setAdc_hosts (n : Nat) (x : AdcUnit) : (s.setAdc n x).hosts = s.hosts := rfl
@[simp] theorem State.setAdc_slotHosts (n : Nat) (x : AdcUnit) : (s.setAdc n x).slotHosts = s.slotHosts := rfl
@[simp] theorem State.setAdc_served (n : Nat) (x : AdcUnit) : (s.setAdc n x).served = s.served := rfl
@[simp] theorem State.setAdc_bulk (n : Nat) (x : AdcUnit) : (s.setAdc n x).bulk = s.bulk := rfl
@[simp] theorem State.setAdc_prot (n : Nat) (x : AdcUnit) : (s.setAdc n x).prot = s.prot := rfl
@[simp] theorem State.setAdc_msix (n : Nat) (x : AdcUnit) : (s.setAdc n x).msix = s.msix := rfl
@[simp] theorem State.setAdc_irqLines (n : Nat) (x : AdcUnit) : (s.setAdc n x).irqLines = s.irqLines := rfl
@[simp] theorem State.setAdc_clocks (n : Nat) (x : AdcUnit) : (s.setAdc n x).clocks = s.clocks := rfl
@[simp] theorem State.setAdc_power (n : Nat) (x : AdcUnit) : (s.setAdc n x).power = s.power := rfl
@[simp] theorem State.setAdc_rst (n : Nat) (x : AdcUnit) : (s.setAdc n x).rst = s.rst := rfl
@[simp] theorem State.setAdc_domains (n : Nat) (x : AdcUnit) : (s.setAdc n x).domains = s.domains := rfl
@[simp] theorem State.setAdc_engines (n : Nat) (x : AdcUnit) : (s.setAdc n x).engines = s.engines := rfl
@[simp] theorem State.setAdc_pwms (n : Nat) (x : AdcUnit) : (s.setAdc n x).pwms = s.pwms := rfl
@[simp] theorem State.setAdc_sats (n : Nat) (x : AdcUnit) : (s.setAdc n x).sats = s.sats := rfl
@[simp] theorem State.setAdc_sensing (n : Nat) (x : AdcUnit) : (s.setAdc n x).sensing = s.sensing := rfl
@[simp] theorem State.setAdc_sense (n : Nat) (x : AdcUnit) : (s.setAdc n x).sense = s.sense := rfl
@[simp] theorem State.setAdc_slots (n : Nat) (x : AdcUnit) : (s.setAdc n x).slots = s.slots := rfl
@[simp] theorem State.setAdc_posIfs (n : Nat) (x : AdcUnit) : (s.setAdc n x).posIfs = s.posIfs := rfl
@[simp] theorem State.setAdc_posCmps (n : Nat) (x : AdcUnit) : (s.setAdc n x).posCmps = s.posCmps := rfl
@[simp] theorem State.setAdc_capHi (n : Nat) (x : AdcUnit) : (s.setAdc n x).capHi = s.capHi := rfl
@[simp] theorem State.setAdc_atlasNv (n : Nat) (x : AdcUnit) : (s.setAdc n x).atlasNv = s.atlasNv := rfl
@[simp] theorem State.setAdc_atlas (n : Nat) (x : AdcUnit) : (s.setAdc n x).atlas = s.atlas := rfl
@[simp] theorem State.setAdc_atlasC (n : Nat) (x : AdcUnit) : (s.setAdc n x).atlasC = s.atlasC := rfl
@[simp] theorem State.setAdc_cans (n : Nat) (x : AdcUnit) : (s.setAdc n x).cans = s.cans := rfl
@[simp] theorem State.setAdc_aqs (n : Nat) (x : AdcUnit) : (s.setAdc n x).aqs = s.aqs := rfl
@[simp] theorem State.setAdc_time (n : Nat) (x : AdcUnit) : (s.setAdc n x).time = s.time := rfl
@[simp] theorem State.setAdc_sn (n : Nat) (x : AdcUnit) : (s.setAdc n x).sn = s.sn := rfl
@[simp] theorem State.setAdc_memc (n : Nat) (x : AdcUnit) : (s.setAdc n x).memc = s.memc := rfl
@[simp] theorem State.setAdc_hk (n : Nat) (x : AdcUnit) : (s.setAdc n x).hk = s.hk := rfl
@[simp] theorem State.setAdc_life (n : Nat) (x : AdcUnit) : (s.setAdc n x).life = s.life := rfl

/-! ### setSens -/

@[simp] theorem State.setSens_pending (n : Nat) (x : BridgeSensing) : (s.setSens n x).pending = s.pending := rfl
@[simp] theorem State.setSens_now (n : Nat) (x : BridgeSensing) : (s.setSens n x).now = s.now := rfl
@[simp] theorem State.setSens_lpo (n : Nat) (x : BridgeSensing) : (s.setSens n x).lpo = s.lpo := rfl
@[simp] theorem State.setSens_dev (n : Nat) (x : BridgeSensing) : (s.setSens n x).dev = s.dev := rfl
@[simp] theorem State.setSens_fresh (n : Nat) (x : BridgeSensing) : (s.setSens n x).fresh = s.fresh := rfl
@[simp] theorem State.setSens_regs (n : Nat) (x : BridgeSensing) : (s.setSens n x).regs = s.regs := rfl
@[simp] theorem State.setSens_params (n : Nat) (x : BridgeSensing) : (s.setSens n x).params = s.params := rfl
@[simp] theorem State.setSens_stored (n : Nat) (x : BridgeSensing) : (s.setSens n x).stored = s.stored := rfl
@[simp] theorem State.setSens_lcs (n : Nat) (x : BridgeSensing) : (s.setSens n x).lcs = s.lcs := rfl
@[simp] theorem State.setSens_mem (n : Nat) (x : BridgeSensing) : (s.setSens n x).mem = s.mem := rfl
@[simp] theorem State.setSens_mram (n : Nat) (x : BridgeSensing) : (s.setSens n x).mram = s.mram := rfl
@[simp] theorem State.setSens_hostMem (n : Nat) (x : BridgeSensing) : (s.setSens n x).hostMem = s.hostMem := rfl
@[simp] theorem State.setSens_lanes (n : Nat) (x : BridgeSensing) : (s.setSens n x).lanes = s.lanes := rfl
@[simp] theorem State.setSens_faults (n : Nat) (x : BridgeSensing) : (s.setSens n x).faults = s.faults := rfl
@[simp] theorem State.setSens_safe (n : Nat) (x : BridgeSensing) : (s.setSens n x).safe = s.safe := rfl
@[simp] theorem State.setSens_skipAt (n : Nat) (x : BridgeSensing) : (s.setSens n x).skipAt = s.skipAt := rfl
@[simp] theorem State.setSens_island (n : Nat) (x : BridgeSensing) : (s.setSens n x).island = s.island := rfl
@[simp] theorem State.setSens_rings (n : Nat) (x : BridgeSensing) : (s.setSens n x).rings = s.rings := rfl
@[simp] theorem State.setSens_hosts (n : Nat) (x : BridgeSensing) : (s.setSens n x).hosts = s.hosts := rfl
@[simp] theorem State.setSens_slotHosts (n : Nat) (x : BridgeSensing) : (s.setSens n x).slotHosts = s.slotHosts := rfl
@[simp] theorem State.setSens_served (n : Nat) (x : BridgeSensing) : (s.setSens n x).served = s.served := rfl
@[simp] theorem State.setSens_bulk (n : Nat) (x : BridgeSensing) : (s.setSens n x).bulk = s.bulk := rfl
@[simp] theorem State.setSens_prot (n : Nat) (x : BridgeSensing) : (s.setSens n x).prot = s.prot := rfl
@[simp] theorem State.setSens_msix (n : Nat) (x : BridgeSensing) : (s.setSens n x).msix = s.msix := rfl
@[simp] theorem State.setSens_irqLines (n : Nat) (x : BridgeSensing) : (s.setSens n x).irqLines = s.irqLines := rfl
@[simp] theorem State.setSens_clocks (n : Nat) (x : BridgeSensing) : (s.setSens n x).clocks = s.clocks := rfl
@[simp] theorem State.setSens_power (n : Nat) (x : BridgeSensing) : (s.setSens n x).power = s.power := rfl
@[simp] theorem State.setSens_rst (n : Nat) (x : BridgeSensing) : (s.setSens n x).rst = s.rst := rfl
@[simp] theorem State.setSens_domains (n : Nat) (x : BridgeSensing) : (s.setSens n x).domains = s.domains := rfl
@[simp] theorem State.setSens_engines (n : Nat) (x : BridgeSensing) : (s.setSens n x).engines = s.engines := rfl
@[simp] theorem State.setSens_pwms (n : Nat) (x : BridgeSensing) : (s.setSens n x).pwms = s.pwms := rfl
@[simp] theorem State.setSens_sats (n : Nat) (x : BridgeSensing) : (s.setSens n x).sats = s.sats := rfl
@[simp] theorem State.setSens_adcs (n : Nat) (x : BridgeSensing) : (s.setSens n x).adcs = s.adcs := rfl
@[simp] theorem State.setSens_sense (n : Nat) (x : BridgeSensing) : (s.setSens n x).sense = s.sense := rfl
@[simp] theorem State.setSens_slots (n : Nat) (x : BridgeSensing) : (s.setSens n x).slots = s.slots := rfl
@[simp] theorem State.setSens_posIfs (n : Nat) (x : BridgeSensing) : (s.setSens n x).posIfs = s.posIfs := rfl
@[simp] theorem State.setSens_posCmps (n : Nat) (x : BridgeSensing) : (s.setSens n x).posCmps = s.posCmps := rfl
@[simp] theorem State.setSens_capHi (n : Nat) (x : BridgeSensing) : (s.setSens n x).capHi = s.capHi := rfl
@[simp] theorem State.setSens_atlasNv (n : Nat) (x : BridgeSensing) : (s.setSens n x).atlasNv = s.atlasNv := rfl
@[simp] theorem State.setSens_atlas (n : Nat) (x : BridgeSensing) : (s.setSens n x).atlas = s.atlas := rfl
@[simp] theorem State.setSens_atlasC (n : Nat) (x : BridgeSensing) : (s.setSens n x).atlasC = s.atlasC := rfl
@[simp] theorem State.setSens_cans (n : Nat) (x : BridgeSensing) : (s.setSens n x).cans = s.cans := rfl
@[simp] theorem State.setSens_aqs (n : Nat) (x : BridgeSensing) : (s.setSens n x).aqs = s.aqs := rfl
@[simp] theorem State.setSens_time (n : Nat) (x : BridgeSensing) : (s.setSens n x).time = s.time := rfl
@[simp] theorem State.setSens_sn (n : Nat) (x : BridgeSensing) : (s.setSens n x).sn = s.sn := rfl
@[simp] theorem State.setSens_memc (n : Nat) (x : BridgeSensing) : (s.setSens n x).memc = s.memc := rfl
@[simp] theorem State.setSens_hk (n : Nat) (x : BridgeSensing) : (s.setSens n x).hk = s.hk := rfl
@[simp] theorem State.setSens_life (n : Nat) (x : BridgeSensing) : (s.setSens n x).life = s.life := rfl

/-! ### setPosIf -/

@[simp] theorem State.setPosIf_pending (n : Nat) (x : PosIf) : (s.setPosIf n x).pending = s.pending := rfl
@[simp] theorem State.setPosIf_now (n : Nat) (x : PosIf) : (s.setPosIf n x).now = s.now := rfl
@[simp] theorem State.setPosIf_lpo (n : Nat) (x : PosIf) : (s.setPosIf n x).lpo = s.lpo := rfl
@[simp] theorem State.setPosIf_dev (n : Nat) (x : PosIf) : (s.setPosIf n x).dev = s.dev := rfl
@[simp] theorem State.setPosIf_fresh (n : Nat) (x : PosIf) : (s.setPosIf n x).fresh = s.fresh := rfl
@[simp] theorem State.setPosIf_regs (n : Nat) (x : PosIf) : (s.setPosIf n x).regs = s.regs := rfl
@[simp] theorem State.setPosIf_params (n : Nat) (x : PosIf) : (s.setPosIf n x).params = s.params := rfl
@[simp] theorem State.setPosIf_stored (n : Nat) (x : PosIf) : (s.setPosIf n x).stored = s.stored := rfl
@[simp] theorem State.setPosIf_lcs (n : Nat) (x : PosIf) : (s.setPosIf n x).lcs = s.lcs := rfl
@[simp] theorem State.setPosIf_mem (n : Nat) (x : PosIf) : (s.setPosIf n x).mem = s.mem := rfl
@[simp] theorem State.setPosIf_mram (n : Nat) (x : PosIf) : (s.setPosIf n x).mram = s.mram := rfl
@[simp] theorem State.setPosIf_hostMem (n : Nat) (x : PosIf) : (s.setPosIf n x).hostMem = s.hostMem := rfl
@[simp] theorem State.setPosIf_lanes (n : Nat) (x : PosIf) : (s.setPosIf n x).lanes = s.lanes := rfl
@[simp] theorem State.setPosIf_faults (n : Nat) (x : PosIf) : (s.setPosIf n x).faults = s.faults := rfl
@[simp] theorem State.setPosIf_safe (n : Nat) (x : PosIf) : (s.setPosIf n x).safe = s.safe := rfl
@[simp] theorem State.setPosIf_skipAt (n : Nat) (x : PosIf) : (s.setPosIf n x).skipAt = s.skipAt := rfl
@[simp] theorem State.setPosIf_island (n : Nat) (x : PosIf) : (s.setPosIf n x).island = s.island := rfl
@[simp] theorem State.setPosIf_rings (n : Nat) (x : PosIf) : (s.setPosIf n x).rings = s.rings := rfl
@[simp] theorem State.setPosIf_hosts (n : Nat) (x : PosIf) : (s.setPosIf n x).hosts = s.hosts := rfl
@[simp] theorem State.setPosIf_slotHosts (n : Nat) (x : PosIf) : (s.setPosIf n x).slotHosts = s.slotHosts := rfl
@[simp] theorem State.setPosIf_served (n : Nat) (x : PosIf) : (s.setPosIf n x).served = s.served := rfl
@[simp] theorem State.setPosIf_bulk (n : Nat) (x : PosIf) : (s.setPosIf n x).bulk = s.bulk := rfl
@[simp] theorem State.setPosIf_prot (n : Nat) (x : PosIf) : (s.setPosIf n x).prot = s.prot := rfl
@[simp] theorem State.setPosIf_msix (n : Nat) (x : PosIf) : (s.setPosIf n x).msix = s.msix := rfl
@[simp] theorem State.setPosIf_irqLines (n : Nat) (x : PosIf) : (s.setPosIf n x).irqLines = s.irqLines := rfl
@[simp] theorem State.setPosIf_clocks (n : Nat) (x : PosIf) : (s.setPosIf n x).clocks = s.clocks := rfl
@[simp] theorem State.setPosIf_power (n : Nat) (x : PosIf) : (s.setPosIf n x).power = s.power := rfl
@[simp] theorem State.setPosIf_rst (n : Nat) (x : PosIf) : (s.setPosIf n x).rst = s.rst := rfl
@[simp] theorem State.setPosIf_domains (n : Nat) (x : PosIf) : (s.setPosIf n x).domains = s.domains := rfl
@[simp] theorem State.setPosIf_engines (n : Nat) (x : PosIf) : (s.setPosIf n x).engines = s.engines := rfl
@[simp] theorem State.setPosIf_pwms (n : Nat) (x : PosIf) : (s.setPosIf n x).pwms = s.pwms := rfl
@[simp] theorem State.setPosIf_sats (n : Nat) (x : PosIf) : (s.setPosIf n x).sats = s.sats := rfl
@[simp] theorem State.setPosIf_adcs (n : Nat) (x : PosIf) : (s.setPosIf n x).adcs = s.adcs := rfl
@[simp] theorem State.setPosIf_sensing (n : Nat) (x : PosIf) : (s.setPosIf n x).sensing = s.sensing := rfl
@[simp] theorem State.setPosIf_sense (n : Nat) (x : PosIf) : (s.setPosIf n x).sense = s.sense := rfl
@[simp] theorem State.setPosIf_slots (n : Nat) (x : PosIf) : (s.setPosIf n x).slots = s.slots := rfl
@[simp] theorem State.setPosIf_posCmps (n : Nat) (x : PosIf) : (s.setPosIf n x).posCmps = s.posCmps := rfl
@[simp] theorem State.setPosIf_capHi (n : Nat) (x : PosIf) : (s.setPosIf n x).capHi = s.capHi := rfl
@[simp] theorem State.setPosIf_atlasNv (n : Nat) (x : PosIf) : (s.setPosIf n x).atlasNv = s.atlasNv := rfl
@[simp] theorem State.setPosIf_atlas (n : Nat) (x : PosIf) : (s.setPosIf n x).atlas = s.atlas := rfl
@[simp] theorem State.setPosIf_atlasC (n : Nat) (x : PosIf) : (s.setPosIf n x).atlasC = s.atlasC := rfl
@[simp] theorem State.setPosIf_cans (n : Nat) (x : PosIf) : (s.setPosIf n x).cans = s.cans := rfl
@[simp] theorem State.setPosIf_aqs (n : Nat) (x : PosIf) : (s.setPosIf n x).aqs = s.aqs := rfl
@[simp] theorem State.setPosIf_time (n : Nat) (x : PosIf) : (s.setPosIf n x).time = s.time := rfl
@[simp] theorem State.setPosIf_sn (n : Nat) (x : PosIf) : (s.setPosIf n x).sn = s.sn := rfl
@[simp] theorem State.setPosIf_memc (n : Nat) (x : PosIf) : (s.setPosIf n x).memc = s.memc := rfl
@[simp] theorem State.setPosIf_hk (n : Nat) (x : PosIf) : (s.setPosIf n x).hk = s.hk := rfl
@[simp] theorem State.setPosIf_life (n : Nat) (x : PosIf) : (s.setPosIf n x).life = s.life := rfl

/-! ### setPosCmp -/

@[simp] theorem State.setPosCmp_pending (n : Nat) (x : PosCmp) : (s.setPosCmp n x).pending = s.pending := rfl
@[simp] theorem State.setPosCmp_now (n : Nat) (x : PosCmp) : (s.setPosCmp n x).now = s.now := rfl
@[simp] theorem State.setPosCmp_lpo (n : Nat) (x : PosCmp) : (s.setPosCmp n x).lpo = s.lpo := rfl
@[simp] theorem State.setPosCmp_dev (n : Nat) (x : PosCmp) : (s.setPosCmp n x).dev = s.dev := rfl
@[simp] theorem State.setPosCmp_fresh (n : Nat) (x : PosCmp) : (s.setPosCmp n x).fresh = s.fresh := rfl
@[simp] theorem State.setPosCmp_regs (n : Nat) (x : PosCmp) : (s.setPosCmp n x).regs = s.regs := rfl
@[simp] theorem State.setPosCmp_params (n : Nat) (x : PosCmp) : (s.setPosCmp n x).params = s.params := rfl
@[simp] theorem State.setPosCmp_stored (n : Nat) (x : PosCmp) : (s.setPosCmp n x).stored = s.stored := rfl
@[simp] theorem State.setPosCmp_lcs (n : Nat) (x : PosCmp) : (s.setPosCmp n x).lcs = s.lcs := rfl
@[simp] theorem State.setPosCmp_mem (n : Nat) (x : PosCmp) : (s.setPosCmp n x).mem = s.mem := rfl
@[simp] theorem State.setPosCmp_mram (n : Nat) (x : PosCmp) : (s.setPosCmp n x).mram = s.mram := rfl
@[simp] theorem State.setPosCmp_hostMem (n : Nat) (x : PosCmp) : (s.setPosCmp n x).hostMem = s.hostMem := rfl
@[simp] theorem State.setPosCmp_lanes (n : Nat) (x : PosCmp) : (s.setPosCmp n x).lanes = s.lanes := rfl
@[simp] theorem State.setPosCmp_faults (n : Nat) (x : PosCmp) : (s.setPosCmp n x).faults = s.faults := rfl
@[simp] theorem State.setPosCmp_safe (n : Nat) (x : PosCmp) : (s.setPosCmp n x).safe = s.safe := rfl
@[simp] theorem State.setPosCmp_skipAt (n : Nat) (x : PosCmp) : (s.setPosCmp n x).skipAt = s.skipAt := rfl
@[simp] theorem State.setPosCmp_island (n : Nat) (x : PosCmp) : (s.setPosCmp n x).island = s.island := rfl
@[simp] theorem State.setPosCmp_rings (n : Nat) (x : PosCmp) : (s.setPosCmp n x).rings = s.rings := rfl
@[simp] theorem State.setPosCmp_hosts (n : Nat) (x : PosCmp) : (s.setPosCmp n x).hosts = s.hosts := rfl
@[simp] theorem State.setPosCmp_slotHosts (n : Nat) (x : PosCmp) : (s.setPosCmp n x).slotHosts = s.slotHosts := rfl
@[simp] theorem State.setPosCmp_served (n : Nat) (x : PosCmp) : (s.setPosCmp n x).served = s.served := rfl
@[simp] theorem State.setPosCmp_bulk (n : Nat) (x : PosCmp) : (s.setPosCmp n x).bulk = s.bulk := rfl
@[simp] theorem State.setPosCmp_prot (n : Nat) (x : PosCmp) : (s.setPosCmp n x).prot = s.prot := rfl
@[simp] theorem State.setPosCmp_msix (n : Nat) (x : PosCmp) : (s.setPosCmp n x).msix = s.msix := rfl
@[simp] theorem State.setPosCmp_irqLines (n : Nat) (x : PosCmp) : (s.setPosCmp n x).irqLines = s.irqLines := rfl
@[simp] theorem State.setPosCmp_clocks (n : Nat) (x : PosCmp) : (s.setPosCmp n x).clocks = s.clocks := rfl
@[simp] theorem State.setPosCmp_power (n : Nat) (x : PosCmp) : (s.setPosCmp n x).power = s.power := rfl
@[simp] theorem State.setPosCmp_rst (n : Nat) (x : PosCmp) : (s.setPosCmp n x).rst = s.rst := rfl
@[simp] theorem State.setPosCmp_domains (n : Nat) (x : PosCmp) : (s.setPosCmp n x).domains = s.domains := rfl
@[simp] theorem State.setPosCmp_engines (n : Nat) (x : PosCmp) : (s.setPosCmp n x).engines = s.engines := rfl
@[simp] theorem State.setPosCmp_pwms (n : Nat) (x : PosCmp) : (s.setPosCmp n x).pwms = s.pwms := rfl
@[simp] theorem State.setPosCmp_sats (n : Nat) (x : PosCmp) : (s.setPosCmp n x).sats = s.sats := rfl
@[simp] theorem State.setPosCmp_adcs (n : Nat) (x : PosCmp) : (s.setPosCmp n x).adcs = s.adcs := rfl
@[simp] theorem State.setPosCmp_sensing (n : Nat) (x : PosCmp) : (s.setPosCmp n x).sensing = s.sensing := rfl
@[simp] theorem State.setPosCmp_sense (n : Nat) (x : PosCmp) : (s.setPosCmp n x).sense = s.sense := rfl
@[simp] theorem State.setPosCmp_slots (n : Nat) (x : PosCmp) : (s.setPosCmp n x).slots = s.slots := rfl
@[simp] theorem State.setPosCmp_posIfs (n : Nat) (x : PosCmp) : (s.setPosCmp n x).posIfs = s.posIfs := rfl
@[simp] theorem State.setPosCmp_capHi (n : Nat) (x : PosCmp) : (s.setPosCmp n x).capHi = s.capHi := rfl
@[simp] theorem State.setPosCmp_atlasNv (n : Nat) (x : PosCmp) : (s.setPosCmp n x).atlasNv = s.atlasNv := rfl
@[simp] theorem State.setPosCmp_atlas (n : Nat) (x : PosCmp) : (s.setPosCmp n x).atlas = s.atlas := rfl
@[simp] theorem State.setPosCmp_atlasC (n : Nat) (x : PosCmp) : (s.setPosCmp n x).atlasC = s.atlasC := rfl
@[simp] theorem State.setPosCmp_cans (n : Nat) (x : PosCmp) : (s.setPosCmp n x).cans = s.cans := rfl
@[simp] theorem State.setPosCmp_aqs (n : Nat) (x : PosCmp) : (s.setPosCmp n x).aqs = s.aqs := rfl
@[simp] theorem State.setPosCmp_time (n : Nat) (x : PosCmp) : (s.setPosCmp n x).time = s.time := rfl
@[simp] theorem State.setPosCmp_sn (n : Nat) (x : PosCmp) : (s.setPosCmp n x).sn = s.sn := rfl
@[simp] theorem State.setPosCmp_memc (n : Nat) (x : PosCmp) : (s.setPosCmp n x).memc = s.memc := rfl
@[simp] theorem State.setPosCmp_hk (n : Nat) (x : PosCmp) : (s.setPosCmp n x).hk = s.hk := rfl
@[simp] theorem State.setPosCmp_life (n : Nat) (x : PosCmp) : (s.setPosCmp n x).life = s.life := rfl

/-! ### setSlot -/

@[simp] theorem State.setSlot_pending (n : Nat) (x : Slot) : (s.setSlot n x).pending = s.pending := rfl
@[simp] theorem State.setSlot_now (n : Nat) (x : Slot) : (s.setSlot n x).now = s.now := rfl
@[simp] theorem State.setSlot_lpo (n : Nat) (x : Slot) : (s.setSlot n x).lpo = s.lpo := rfl
@[simp] theorem State.setSlot_dev (n : Nat) (x : Slot) : (s.setSlot n x).dev = s.dev := rfl
@[simp] theorem State.setSlot_fresh (n : Nat) (x : Slot) : (s.setSlot n x).fresh = s.fresh := rfl
@[simp] theorem State.setSlot_regs (n : Nat) (x : Slot) : (s.setSlot n x).regs = s.regs := rfl
@[simp] theorem State.setSlot_params (n : Nat) (x : Slot) : (s.setSlot n x).params = s.params := rfl
@[simp] theorem State.setSlot_stored (n : Nat) (x : Slot) : (s.setSlot n x).stored = s.stored := rfl
@[simp] theorem State.setSlot_lcs (n : Nat) (x : Slot) : (s.setSlot n x).lcs = s.lcs := rfl
@[simp] theorem State.setSlot_mem (n : Nat) (x : Slot) : (s.setSlot n x).mem = s.mem := rfl
@[simp] theorem State.setSlot_mram (n : Nat) (x : Slot) : (s.setSlot n x).mram = s.mram := rfl
@[simp] theorem State.setSlot_hostMem (n : Nat) (x : Slot) : (s.setSlot n x).hostMem = s.hostMem := rfl
@[simp] theorem State.setSlot_lanes (n : Nat) (x : Slot) : (s.setSlot n x).lanes = s.lanes := rfl
@[simp] theorem State.setSlot_faults (n : Nat) (x : Slot) : (s.setSlot n x).faults = s.faults := rfl
@[simp] theorem State.setSlot_safe (n : Nat) (x : Slot) : (s.setSlot n x).safe = s.safe := rfl
@[simp] theorem State.setSlot_skipAt (n : Nat) (x : Slot) : (s.setSlot n x).skipAt = s.skipAt := rfl
@[simp] theorem State.setSlot_island (n : Nat) (x : Slot) : (s.setSlot n x).island = s.island := rfl
@[simp] theorem State.setSlot_rings (n : Nat) (x : Slot) : (s.setSlot n x).rings = s.rings := rfl
@[simp] theorem State.setSlot_hosts (n : Nat) (x : Slot) : (s.setSlot n x).hosts = s.hosts := rfl
@[simp] theorem State.setSlot_slotHosts (n : Nat) (x : Slot) : (s.setSlot n x).slotHosts = s.slotHosts := rfl
@[simp] theorem State.setSlot_served (n : Nat) (x : Slot) : (s.setSlot n x).served = s.served := rfl
@[simp] theorem State.setSlot_bulk (n : Nat) (x : Slot) : (s.setSlot n x).bulk = s.bulk := rfl
@[simp] theorem State.setSlot_prot (n : Nat) (x : Slot) : (s.setSlot n x).prot = s.prot := rfl
@[simp] theorem State.setSlot_msix (n : Nat) (x : Slot) : (s.setSlot n x).msix = s.msix := rfl
@[simp] theorem State.setSlot_irqLines (n : Nat) (x : Slot) : (s.setSlot n x).irqLines = s.irqLines := rfl
@[simp] theorem State.setSlot_clocks (n : Nat) (x : Slot) : (s.setSlot n x).clocks = s.clocks := rfl
@[simp] theorem State.setSlot_power (n : Nat) (x : Slot) : (s.setSlot n x).power = s.power := rfl
@[simp] theorem State.setSlot_rst (n : Nat) (x : Slot) : (s.setSlot n x).rst = s.rst := rfl
@[simp] theorem State.setSlot_domains (n : Nat) (x : Slot) : (s.setSlot n x).domains = s.domains := rfl
@[simp] theorem State.setSlot_engines (n : Nat) (x : Slot) : (s.setSlot n x).engines = s.engines := rfl
@[simp] theorem State.setSlot_pwms (n : Nat) (x : Slot) : (s.setSlot n x).pwms = s.pwms := rfl
@[simp] theorem State.setSlot_sats (n : Nat) (x : Slot) : (s.setSlot n x).sats = s.sats := rfl
@[simp] theorem State.setSlot_adcs (n : Nat) (x : Slot) : (s.setSlot n x).adcs = s.adcs := rfl
@[simp] theorem State.setSlot_sensing (n : Nat) (x : Slot) : (s.setSlot n x).sensing = s.sensing := rfl
@[simp] theorem State.setSlot_sense (n : Nat) (x : Slot) : (s.setSlot n x).sense = s.sense := rfl
@[simp] theorem State.setSlot_posIfs (n : Nat) (x : Slot) : (s.setSlot n x).posIfs = s.posIfs := rfl
@[simp] theorem State.setSlot_posCmps (n : Nat) (x : Slot) : (s.setSlot n x).posCmps = s.posCmps := rfl
@[simp] theorem State.setSlot_capHi (n : Nat) (x : Slot) : (s.setSlot n x).capHi = s.capHi := rfl
@[simp] theorem State.setSlot_atlasNv (n : Nat) (x : Slot) : (s.setSlot n x).atlasNv = s.atlasNv := rfl
@[simp] theorem State.setSlot_atlas (n : Nat) (x : Slot) : (s.setSlot n x).atlas = s.atlas := rfl
@[simp] theorem State.setSlot_atlasC (n : Nat) (x : Slot) : (s.setSlot n x).atlasC = s.atlasC := rfl
@[simp] theorem State.setSlot_cans (n : Nat) (x : Slot) : (s.setSlot n x).cans = s.cans := rfl
@[simp] theorem State.setSlot_aqs (n : Nat) (x : Slot) : (s.setSlot n x).aqs = s.aqs := rfl
@[simp] theorem State.setSlot_time (n : Nat) (x : Slot) : (s.setSlot n x).time = s.time := rfl
@[simp] theorem State.setSlot_sn (n : Nat) (x : Slot) : (s.setSlot n x).sn = s.sn := rfl
@[simp] theorem State.setSlot_memc (n : Nat) (x : Slot) : (s.setSlot n x).memc = s.memc := rfl
@[simp] theorem State.setSlot_hk (n : Nat) (x : Slot) : (s.setSlot n x).hk = s.hk := rfl
@[simp] theorem State.setSlot_life (n : Nat) (x : Slot) : (s.setSlot n x).life = s.life := rfl

/-! ### setAtl -/

@[simp] theorem State.setAtl_pending (n : Nat) (x : AtlasSlot) : (s.setAtl n x).pending = s.pending := rfl
@[simp] theorem State.setAtl_now (n : Nat) (x : AtlasSlot) : (s.setAtl n x).now = s.now := rfl
@[simp] theorem State.setAtl_lpo (n : Nat) (x : AtlasSlot) : (s.setAtl n x).lpo = s.lpo := rfl
@[simp] theorem State.setAtl_dev (n : Nat) (x : AtlasSlot) : (s.setAtl n x).dev = s.dev := rfl
@[simp] theorem State.setAtl_fresh (n : Nat) (x : AtlasSlot) : (s.setAtl n x).fresh = s.fresh := rfl
@[simp] theorem State.setAtl_regs (n : Nat) (x : AtlasSlot) : (s.setAtl n x).regs = s.regs := rfl
@[simp] theorem State.setAtl_params (n : Nat) (x : AtlasSlot) : (s.setAtl n x).params = s.params := rfl
@[simp] theorem State.setAtl_stored (n : Nat) (x : AtlasSlot) : (s.setAtl n x).stored = s.stored := rfl
@[simp] theorem State.setAtl_lcs (n : Nat) (x : AtlasSlot) : (s.setAtl n x).lcs = s.lcs := rfl
@[simp] theorem State.setAtl_mem (n : Nat) (x : AtlasSlot) : (s.setAtl n x).mem = s.mem := rfl
@[simp] theorem State.setAtl_mram (n : Nat) (x : AtlasSlot) : (s.setAtl n x).mram = s.mram := rfl
@[simp] theorem State.setAtl_hostMem (n : Nat) (x : AtlasSlot) : (s.setAtl n x).hostMem = s.hostMem := rfl
@[simp] theorem State.setAtl_lanes (n : Nat) (x : AtlasSlot) : (s.setAtl n x).lanes = s.lanes := rfl
@[simp] theorem State.setAtl_faults (n : Nat) (x : AtlasSlot) : (s.setAtl n x).faults = s.faults := rfl
@[simp] theorem State.setAtl_safe (n : Nat) (x : AtlasSlot) : (s.setAtl n x).safe = s.safe := rfl
@[simp] theorem State.setAtl_skipAt (n : Nat) (x : AtlasSlot) : (s.setAtl n x).skipAt = s.skipAt := rfl
@[simp] theorem State.setAtl_island (n : Nat) (x : AtlasSlot) : (s.setAtl n x).island = s.island := rfl
@[simp] theorem State.setAtl_rings (n : Nat) (x : AtlasSlot) : (s.setAtl n x).rings = s.rings := rfl
@[simp] theorem State.setAtl_hosts (n : Nat) (x : AtlasSlot) : (s.setAtl n x).hosts = s.hosts := rfl
@[simp] theorem State.setAtl_slotHosts (n : Nat) (x : AtlasSlot) : (s.setAtl n x).slotHosts = s.slotHosts := rfl
@[simp] theorem State.setAtl_served (n : Nat) (x : AtlasSlot) : (s.setAtl n x).served = s.served := rfl
@[simp] theorem State.setAtl_bulk (n : Nat) (x : AtlasSlot) : (s.setAtl n x).bulk = s.bulk := rfl
@[simp] theorem State.setAtl_prot (n : Nat) (x : AtlasSlot) : (s.setAtl n x).prot = s.prot := rfl
@[simp] theorem State.setAtl_msix (n : Nat) (x : AtlasSlot) : (s.setAtl n x).msix = s.msix := rfl
@[simp] theorem State.setAtl_irqLines (n : Nat) (x : AtlasSlot) : (s.setAtl n x).irqLines = s.irqLines := rfl
@[simp] theorem State.setAtl_clocks (n : Nat) (x : AtlasSlot) : (s.setAtl n x).clocks = s.clocks := rfl
@[simp] theorem State.setAtl_power (n : Nat) (x : AtlasSlot) : (s.setAtl n x).power = s.power := rfl
@[simp] theorem State.setAtl_rst (n : Nat) (x : AtlasSlot) : (s.setAtl n x).rst = s.rst := rfl
@[simp] theorem State.setAtl_domains (n : Nat) (x : AtlasSlot) : (s.setAtl n x).domains = s.domains := rfl
@[simp] theorem State.setAtl_engines (n : Nat) (x : AtlasSlot) : (s.setAtl n x).engines = s.engines := rfl
@[simp] theorem State.setAtl_pwms (n : Nat) (x : AtlasSlot) : (s.setAtl n x).pwms = s.pwms := rfl
@[simp] theorem State.setAtl_sats (n : Nat) (x : AtlasSlot) : (s.setAtl n x).sats = s.sats := rfl
@[simp] theorem State.setAtl_adcs (n : Nat) (x : AtlasSlot) : (s.setAtl n x).adcs = s.adcs := rfl
@[simp] theorem State.setAtl_sensing (n : Nat) (x : AtlasSlot) : (s.setAtl n x).sensing = s.sensing := rfl
@[simp] theorem State.setAtl_sense (n : Nat) (x : AtlasSlot) : (s.setAtl n x).sense = s.sense := rfl
@[simp] theorem State.setAtl_slots (n : Nat) (x : AtlasSlot) : (s.setAtl n x).slots = s.slots := rfl
@[simp] theorem State.setAtl_posIfs (n : Nat) (x : AtlasSlot) : (s.setAtl n x).posIfs = s.posIfs := rfl
@[simp] theorem State.setAtl_posCmps (n : Nat) (x : AtlasSlot) : (s.setAtl n x).posCmps = s.posCmps := rfl
@[simp] theorem State.setAtl_capHi (n : Nat) (x : AtlasSlot) : (s.setAtl n x).capHi = s.capHi := rfl
@[simp] theorem State.setAtl_atlasNv (n : Nat) (x : AtlasSlot) : (s.setAtl n x).atlasNv = s.atlasNv := rfl
@[simp] theorem State.setAtl_atlasC (n : Nat) (x : AtlasSlot) : (s.setAtl n x).atlasC = s.atlasC := rfl
@[simp] theorem State.setAtl_cans (n : Nat) (x : AtlasSlot) : (s.setAtl n x).cans = s.cans := rfl
@[simp] theorem State.setAtl_aqs (n : Nat) (x : AtlasSlot) : (s.setAtl n x).aqs = s.aqs := rfl
@[simp] theorem State.setAtl_time (n : Nat) (x : AtlasSlot) : (s.setAtl n x).time = s.time := rfl
@[simp] theorem State.setAtl_sn (n : Nat) (x : AtlasSlot) : (s.setAtl n x).sn = s.sn := rfl
@[simp] theorem State.setAtl_memc (n : Nat) (x : AtlasSlot) : (s.setAtl n x).memc = s.memc := rfl
@[simp] theorem State.setAtl_hk (n : Nat) (x : AtlasSlot) : (s.setAtl n x).hk = s.hk := rfl
@[simp] theorem State.setAtl_life (n : Nat) (x : AtlasSlot) : (s.setAtl n x).life = s.life := rfl

/-! ### setCan -/

@[simp] theorem State.setCan_pending (n : Nat) (x : CanUnit) : (s.setCan n x).pending = s.pending := rfl
@[simp] theorem State.setCan_now (n : Nat) (x : CanUnit) : (s.setCan n x).now = s.now := rfl
@[simp] theorem State.setCan_lpo (n : Nat) (x : CanUnit) : (s.setCan n x).lpo = s.lpo := rfl
@[simp] theorem State.setCan_dev (n : Nat) (x : CanUnit) : (s.setCan n x).dev = s.dev := rfl
@[simp] theorem State.setCan_fresh (n : Nat) (x : CanUnit) : (s.setCan n x).fresh = s.fresh := rfl
@[simp] theorem State.setCan_regs (n : Nat) (x : CanUnit) : (s.setCan n x).regs = s.regs := rfl
@[simp] theorem State.setCan_params (n : Nat) (x : CanUnit) : (s.setCan n x).params = s.params := rfl
@[simp] theorem State.setCan_stored (n : Nat) (x : CanUnit) : (s.setCan n x).stored = s.stored := rfl
@[simp] theorem State.setCan_lcs (n : Nat) (x : CanUnit) : (s.setCan n x).lcs = s.lcs := rfl
@[simp] theorem State.setCan_mem (n : Nat) (x : CanUnit) : (s.setCan n x).mem = s.mem := rfl
@[simp] theorem State.setCan_mram (n : Nat) (x : CanUnit) : (s.setCan n x).mram = s.mram := rfl
@[simp] theorem State.setCan_hostMem (n : Nat) (x : CanUnit) : (s.setCan n x).hostMem = s.hostMem := rfl
@[simp] theorem State.setCan_lanes (n : Nat) (x : CanUnit) : (s.setCan n x).lanes = s.lanes := rfl
@[simp] theorem State.setCan_faults (n : Nat) (x : CanUnit) : (s.setCan n x).faults = s.faults := rfl
@[simp] theorem State.setCan_safe (n : Nat) (x : CanUnit) : (s.setCan n x).safe = s.safe := rfl
@[simp] theorem State.setCan_skipAt (n : Nat) (x : CanUnit) : (s.setCan n x).skipAt = s.skipAt := rfl
@[simp] theorem State.setCan_island (n : Nat) (x : CanUnit) : (s.setCan n x).island = s.island := rfl
@[simp] theorem State.setCan_rings (n : Nat) (x : CanUnit) : (s.setCan n x).rings = s.rings := rfl
@[simp] theorem State.setCan_hosts (n : Nat) (x : CanUnit) : (s.setCan n x).hosts = s.hosts := rfl
@[simp] theorem State.setCan_slotHosts (n : Nat) (x : CanUnit) : (s.setCan n x).slotHosts = s.slotHosts := rfl
@[simp] theorem State.setCan_served (n : Nat) (x : CanUnit) : (s.setCan n x).served = s.served := rfl
@[simp] theorem State.setCan_bulk (n : Nat) (x : CanUnit) : (s.setCan n x).bulk = s.bulk := rfl
@[simp] theorem State.setCan_prot (n : Nat) (x : CanUnit) : (s.setCan n x).prot = s.prot := rfl
@[simp] theorem State.setCan_msix (n : Nat) (x : CanUnit) : (s.setCan n x).msix = s.msix := rfl
@[simp] theorem State.setCan_irqLines (n : Nat) (x : CanUnit) : (s.setCan n x).irqLines = s.irqLines := rfl
@[simp] theorem State.setCan_clocks (n : Nat) (x : CanUnit) : (s.setCan n x).clocks = s.clocks := rfl
@[simp] theorem State.setCan_power (n : Nat) (x : CanUnit) : (s.setCan n x).power = s.power := rfl
@[simp] theorem State.setCan_rst (n : Nat) (x : CanUnit) : (s.setCan n x).rst = s.rst := rfl
@[simp] theorem State.setCan_domains (n : Nat) (x : CanUnit) : (s.setCan n x).domains = s.domains := rfl
@[simp] theorem State.setCan_engines (n : Nat) (x : CanUnit) : (s.setCan n x).engines = s.engines := rfl
@[simp] theorem State.setCan_pwms (n : Nat) (x : CanUnit) : (s.setCan n x).pwms = s.pwms := rfl
@[simp] theorem State.setCan_sats (n : Nat) (x : CanUnit) : (s.setCan n x).sats = s.sats := rfl
@[simp] theorem State.setCan_adcs (n : Nat) (x : CanUnit) : (s.setCan n x).adcs = s.adcs := rfl
@[simp] theorem State.setCan_sensing (n : Nat) (x : CanUnit) : (s.setCan n x).sensing = s.sensing := rfl
@[simp] theorem State.setCan_sense (n : Nat) (x : CanUnit) : (s.setCan n x).sense = s.sense := rfl
@[simp] theorem State.setCan_slots (n : Nat) (x : CanUnit) : (s.setCan n x).slots = s.slots := rfl
@[simp] theorem State.setCan_posIfs (n : Nat) (x : CanUnit) : (s.setCan n x).posIfs = s.posIfs := rfl
@[simp] theorem State.setCan_posCmps (n : Nat) (x : CanUnit) : (s.setCan n x).posCmps = s.posCmps := rfl
@[simp] theorem State.setCan_capHi (n : Nat) (x : CanUnit) : (s.setCan n x).capHi = s.capHi := rfl
@[simp] theorem State.setCan_atlasNv (n : Nat) (x : CanUnit) : (s.setCan n x).atlasNv = s.atlasNv := rfl
@[simp] theorem State.setCan_atlas (n : Nat) (x : CanUnit) : (s.setCan n x).atlas = s.atlas := rfl
@[simp] theorem State.setCan_atlasC (n : Nat) (x : CanUnit) : (s.setCan n x).atlasC = s.atlasC := rfl
@[simp] theorem State.setCan_aqs (n : Nat) (x : CanUnit) : (s.setCan n x).aqs = s.aqs := rfl
@[simp] theorem State.setCan_time (n : Nat) (x : CanUnit) : (s.setCan n x).time = s.time := rfl
@[simp] theorem State.setCan_sn (n : Nat) (x : CanUnit) : (s.setCan n x).sn = s.sn := rfl
@[simp] theorem State.setCan_memc (n : Nat) (x : CanUnit) : (s.setCan n x).memc = s.memc := rfl
@[simp] theorem State.setCan_hk (n : Nat) (x : CanUnit) : (s.setCan n x).hk = s.hk := rfl
@[simp] theorem State.setCan_life (n : Nat) (x : CanUnit) : (s.setCan n x).life = s.life := rfl

/-! ### setAq -/

@[simp] theorem State.setAq_pending (n : Nat) (x : AqConn) : (s.setAq n x).pending = s.pending := rfl
@[simp] theorem State.setAq_now (n : Nat) (x : AqConn) : (s.setAq n x).now = s.now := rfl
@[simp] theorem State.setAq_lpo (n : Nat) (x : AqConn) : (s.setAq n x).lpo = s.lpo := rfl
@[simp] theorem State.setAq_dev (n : Nat) (x : AqConn) : (s.setAq n x).dev = s.dev := rfl
@[simp] theorem State.setAq_fresh (n : Nat) (x : AqConn) : (s.setAq n x).fresh = s.fresh := rfl
@[simp] theorem State.setAq_regs (n : Nat) (x : AqConn) : (s.setAq n x).regs = s.regs := rfl
@[simp] theorem State.setAq_params (n : Nat) (x : AqConn) : (s.setAq n x).params = s.params := rfl
@[simp] theorem State.setAq_stored (n : Nat) (x : AqConn) : (s.setAq n x).stored = s.stored := rfl
@[simp] theorem State.setAq_lcs (n : Nat) (x : AqConn) : (s.setAq n x).lcs = s.lcs := rfl
@[simp] theorem State.setAq_mem (n : Nat) (x : AqConn) : (s.setAq n x).mem = s.mem := rfl
@[simp] theorem State.setAq_mram (n : Nat) (x : AqConn) : (s.setAq n x).mram = s.mram := rfl
@[simp] theorem State.setAq_hostMem (n : Nat) (x : AqConn) : (s.setAq n x).hostMem = s.hostMem := rfl
@[simp] theorem State.setAq_lanes (n : Nat) (x : AqConn) : (s.setAq n x).lanes = s.lanes := rfl
@[simp] theorem State.setAq_faults (n : Nat) (x : AqConn) : (s.setAq n x).faults = s.faults := rfl
@[simp] theorem State.setAq_safe (n : Nat) (x : AqConn) : (s.setAq n x).safe = s.safe := rfl
@[simp] theorem State.setAq_skipAt (n : Nat) (x : AqConn) : (s.setAq n x).skipAt = s.skipAt := rfl
@[simp] theorem State.setAq_island (n : Nat) (x : AqConn) : (s.setAq n x).island = s.island := rfl
@[simp] theorem State.setAq_rings (n : Nat) (x : AqConn) : (s.setAq n x).rings = s.rings := rfl
@[simp] theorem State.setAq_hosts (n : Nat) (x : AqConn) : (s.setAq n x).hosts = s.hosts := rfl
@[simp] theorem State.setAq_slotHosts (n : Nat) (x : AqConn) : (s.setAq n x).slotHosts = s.slotHosts := rfl
@[simp] theorem State.setAq_served (n : Nat) (x : AqConn) : (s.setAq n x).served = s.served := rfl
@[simp] theorem State.setAq_bulk (n : Nat) (x : AqConn) : (s.setAq n x).bulk = s.bulk := rfl
@[simp] theorem State.setAq_prot (n : Nat) (x : AqConn) : (s.setAq n x).prot = s.prot := rfl
@[simp] theorem State.setAq_msix (n : Nat) (x : AqConn) : (s.setAq n x).msix = s.msix := rfl
@[simp] theorem State.setAq_irqLines (n : Nat) (x : AqConn) : (s.setAq n x).irqLines = s.irqLines := rfl
@[simp] theorem State.setAq_clocks (n : Nat) (x : AqConn) : (s.setAq n x).clocks = s.clocks := rfl
@[simp] theorem State.setAq_power (n : Nat) (x : AqConn) : (s.setAq n x).power = s.power := rfl
@[simp] theorem State.setAq_rst (n : Nat) (x : AqConn) : (s.setAq n x).rst = s.rst := rfl
@[simp] theorem State.setAq_domains (n : Nat) (x : AqConn) : (s.setAq n x).domains = s.domains := rfl
@[simp] theorem State.setAq_engines (n : Nat) (x : AqConn) : (s.setAq n x).engines = s.engines := rfl
@[simp] theorem State.setAq_pwms (n : Nat) (x : AqConn) : (s.setAq n x).pwms = s.pwms := rfl
@[simp] theorem State.setAq_sats (n : Nat) (x : AqConn) : (s.setAq n x).sats = s.sats := rfl
@[simp] theorem State.setAq_adcs (n : Nat) (x : AqConn) : (s.setAq n x).adcs = s.adcs := rfl
@[simp] theorem State.setAq_sensing (n : Nat) (x : AqConn) : (s.setAq n x).sensing = s.sensing := rfl
@[simp] theorem State.setAq_sense (n : Nat) (x : AqConn) : (s.setAq n x).sense = s.sense := rfl
@[simp] theorem State.setAq_slots (n : Nat) (x : AqConn) : (s.setAq n x).slots = s.slots := rfl
@[simp] theorem State.setAq_posIfs (n : Nat) (x : AqConn) : (s.setAq n x).posIfs = s.posIfs := rfl
@[simp] theorem State.setAq_posCmps (n : Nat) (x : AqConn) : (s.setAq n x).posCmps = s.posCmps := rfl
@[simp] theorem State.setAq_capHi (n : Nat) (x : AqConn) : (s.setAq n x).capHi = s.capHi := rfl
@[simp] theorem State.setAq_atlasNv (n : Nat) (x : AqConn) : (s.setAq n x).atlasNv = s.atlasNv := rfl
@[simp] theorem State.setAq_atlas (n : Nat) (x : AqConn) : (s.setAq n x).atlas = s.atlas := rfl
@[simp] theorem State.setAq_atlasC (n : Nat) (x : AqConn) : (s.setAq n x).atlasC = s.atlasC := rfl
@[simp] theorem State.setAq_cans (n : Nat) (x : AqConn) : (s.setAq n x).cans = s.cans := rfl
@[simp] theorem State.setAq_time (n : Nat) (x : AqConn) : (s.setAq n x).time = s.time := rfl
@[simp] theorem State.setAq_sn (n : Nat) (x : AqConn) : (s.setAq n x).sn = s.sn := rfl
@[simp] theorem State.setAq_memc (n : Nat) (x : AqConn) : (s.setAq n x).memc = s.memc := rfl
@[simp] theorem State.setAq_hk (n : Nat) (x : AqConn) : (s.setAq n x).hk = s.hk := rfl
@[simp] theorem State.setAq_life (n : Nat) (x : AqConn) : (s.setAq n x).life = s.life := rfl

/-! ### setTime -/

@[simp] theorem State.setTime_pending (x : TimeUnit) : (s.setTime x).pending = s.pending := rfl
@[simp] theorem State.setTime_now (x : TimeUnit) : (s.setTime x).now = s.now := rfl
@[simp] theorem State.setTime_lpo (x : TimeUnit) : (s.setTime x).lpo = s.lpo := rfl
@[simp] theorem State.setTime_dev (x : TimeUnit) : (s.setTime x).dev = s.dev := rfl
@[simp] theorem State.setTime_fresh (x : TimeUnit) : (s.setTime x).fresh = s.fresh := rfl
@[simp] theorem State.setTime_regs (x : TimeUnit) : (s.setTime x).regs = s.regs := rfl
@[simp] theorem State.setTime_params (x : TimeUnit) : (s.setTime x).params = s.params := rfl
@[simp] theorem State.setTime_stored (x : TimeUnit) : (s.setTime x).stored = s.stored := rfl
@[simp] theorem State.setTime_lcs (x : TimeUnit) : (s.setTime x).lcs = s.lcs := rfl
@[simp] theorem State.setTime_mem (x : TimeUnit) : (s.setTime x).mem = s.mem := rfl
@[simp] theorem State.setTime_mram (x : TimeUnit) : (s.setTime x).mram = s.mram := rfl
@[simp] theorem State.setTime_hostMem (x : TimeUnit) : (s.setTime x).hostMem = s.hostMem := rfl
@[simp] theorem State.setTime_lanes (x : TimeUnit) : (s.setTime x).lanes = s.lanes := rfl
@[simp] theorem State.setTime_faults (x : TimeUnit) : (s.setTime x).faults = s.faults := rfl
@[simp] theorem State.setTime_safe (x : TimeUnit) : (s.setTime x).safe = s.safe := rfl
@[simp] theorem State.setTime_skipAt (x : TimeUnit) : (s.setTime x).skipAt = s.skipAt := rfl
@[simp] theorem State.setTime_island (x : TimeUnit) : (s.setTime x).island = s.island := rfl
@[simp] theorem State.setTime_rings (x : TimeUnit) : (s.setTime x).rings = s.rings := rfl
@[simp] theorem State.setTime_hosts (x : TimeUnit) : (s.setTime x).hosts = s.hosts := rfl
@[simp] theorem State.setTime_slotHosts (x : TimeUnit) : (s.setTime x).slotHosts = s.slotHosts := rfl
@[simp] theorem State.setTime_served (x : TimeUnit) : (s.setTime x).served = s.served := rfl
@[simp] theorem State.setTime_bulk (x : TimeUnit) : (s.setTime x).bulk = s.bulk := rfl
@[simp] theorem State.setTime_prot (x : TimeUnit) : (s.setTime x).prot = s.prot := rfl
@[simp] theorem State.setTime_msix (x : TimeUnit) : (s.setTime x).msix = s.msix := rfl
@[simp] theorem State.setTime_irqLines (x : TimeUnit) : (s.setTime x).irqLines = s.irqLines := rfl
@[simp] theorem State.setTime_clocks (x : TimeUnit) : (s.setTime x).clocks = s.clocks := rfl
@[simp] theorem State.setTime_power (x : TimeUnit) : (s.setTime x).power = s.power := rfl
@[simp] theorem State.setTime_rst (x : TimeUnit) : (s.setTime x).rst = s.rst := rfl
@[simp] theorem State.setTime_domains (x : TimeUnit) : (s.setTime x).domains = s.domains := rfl
@[simp] theorem State.setTime_engines (x : TimeUnit) : (s.setTime x).engines = s.engines := rfl
@[simp] theorem State.setTime_pwms (x : TimeUnit) : (s.setTime x).pwms = s.pwms := rfl
@[simp] theorem State.setTime_sats (x : TimeUnit) : (s.setTime x).sats = s.sats := rfl
@[simp] theorem State.setTime_adcs (x : TimeUnit) : (s.setTime x).adcs = s.adcs := rfl
@[simp] theorem State.setTime_sensing (x : TimeUnit) : (s.setTime x).sensing = s.sensing := rfl
@[simp] theorem State.setTime_sense (x : TimeUnit) : (s.setTime x).sense = s.sense := rfl
@[simp] theorem State.setTime_slots (x : TimeUnit) : (s.setTime x).slots = s.slots := rfl
@[simp] theorem State.setTime_posIfs (x : TimeUnit) : (s.setTime x).posIfs = s.posIfs := rfl
@[simp] theorem State.setTime_posCmps (x : TimeUnit) : (s.setTime x).posCmps = s.posCmps := rfl
@[simp] theorem State.setTime_capHi (x : TimeUnit) : (s.setTime x).capHi = s.capHi := rfl
@[simp] theorem State.setTime_atlasNv (x : TimeUnit) : (s.setTime x).atlasNv = s.atlasNv := rfl
@[simp] theorem State.setTime_atlas (x : TimeUnit) : (s.setTime x).atlas = s.atlas := rfl
@[simp] theorem State.setTime_atlasC (x : TimeUnit) : (s.setTime x).atlasC = s.atlasC := rfl
@[simp] theorem State.setTime_cans (x : TimeUnit) : (s.setTime x).cans = s.cans := rfl
@[simp] theorem State.setTime_aqs (x : TimeUnit) : (s.setTime x).aqs = s.aqs := rfl
@[simp] theorem State.setTime_sn (x : TimeUnit) : (s.setTime x).sn = s.sn := rfl
@[simp] theorem State.setTime_memc (x : TimeUnit) : (s.setTime x).memc = s.memc := rfl
@[simp] theorem State.setTime_hk (x : TimeUnit) : (s.setTime x).hk = s.hk := rfl
@[simp] theorem State.setTime_life (x : TimeUnit) : (s.setTime x).life = s.life := rfl

/-! ### A record of a unit after its update, and the records of the other units -/

@[simp] theorem State.safeOf_setSafe (n : Nat) (x : BridgeSafe) : (s.setSafe n x).safeOf n = x := Table.at_setAt_same _ s.safe n x
theorem State.safeOf_setSafe_other (n m : Nat) (x : BridgeSafe) (h : m ≠ n) : (s.setSafe n x).safeOf m = s.safeOf m := Table.at_setAt_other _ s.safe x h
@[simp] theorem State.ring_setRing (n : Nat) (x : RingPair) : (s.setRing n x).ring n = x := Table.at_setAt_same _ s.rings n x
theorem State.ring_setRing_other (n m : Nat) (x : RingPair) (h : m ≠ n) : (s.setRing n x).ring m = s.ring m := Table.at_setAt_other _ s.rings x h
@[simp] theorem State.hostOf_setHost (n : Nat) (x : HostState) : (s.setHost n x).hostOf n = x := Table.at_setAt_same _ s.hosts n x
theorem State.hostOf_setHost_other (n m : Nat) (x : HostState) (h : m ≠ n) : (s.setHost n x).hostOf m = s.hostOf m := Table.at_setAt_other _ s.hosts x h
@[simp] theorem State.domainOf_setDomain (n : Nat) (x : DomainPower) : (s.setDomain n x).domainOf n = x := Table.at_setAt_same _ s.domains n x
theorem State.domainOf_setDomain_other (n m : Nat) (x : DomainPower) (h : m ≠ n) : (s.setDomain n x).domainOf m = s.domainOf m := Table.at_setAt_other _ s.domains x h
@[simp] theorem State.lane_setLane (n : Nat) (x : Bool) : (s.setLane n x).lane n = x := Table.at_setAt_same _ s.lanes n x
theorem State.lane_setLane_other (n m : Nat) (x : Bool) (h : m ≠ n) : (s.setLane n x).lane m = s.lane m := Table.at_setAt_other _ s.lanes x h
@[simp] theorem State.engine_setEngine (n : Nat) (x : Engine) : (s.setEngine n x).engine n = x := Table.at_setAt_same _ s.engines n x
theorem State.engine_setEngine_other (n m : Nat) (x : Engine) (h : m ≠ n) : (s.setEngine n x).engine m = s.engine m := Table.at_setAt_other _ s.engines x h
@[simp] theorem State.pwm_setPwm (n : Nat) (x : Pwm) : (s.setPwm n x).pwm n = x := Table.at_setAt_same _ s.pwms n x
theorem State.pwm_setPwm_other (n m : Nat) (x : Pwm) (h : m ≠ n) : (s.setPwm n x).pwm m = s.pwm m := Table.at_setAt_other _ s.pwms x h
@[simp] theorem State.sat_setSat (n : Nat) (x : Sat) : (s.setSat n x).sat n = x := Table.at_setAt_same _ s.sats n x
theorem State.sat_setSat_other (n m : Nat) (x : Sat) (h : m ≠ n) : (s.setSat n x).sat m = s.sat m := Table.at_setAt_other _ s.sats x h
@[simp] theorem State.adc_setAdc (n : Nat) (x : AdcUnit) : (s.setAdc n x).adc n = x := Table.at_setAt_same _ s.adcs n x
theorem State.adc_setAdc_other (n m : Nat) (x : AdcUnit) (h : m ≠ n) : (s.setAdc n x).adc m = s.adc m := Table.at_setAt_other _ s.adcs x h
@[simp] theorem State.sens_setSens (n : Nat) (x : BridgeSensing) : (s.setSens n x).sens n = x := Table.at_setAt_same _ s.sensing n x
theorem State.sens_setSens_other (n m : Nat) (x : BridgeSensing) (h : m ≠ n) : (s.setSens n x).sens m = s.sens m := Table.at_setAt_other _ s.sensing x h
@[simp] theorem State.posIf_setPosIf (n : Nat) (x : PosIf) : (s.setPosIf n x).posIf n = x := Table.at_setAt_same _ s.posIfs n x
theorem State.posIf_setPosIf_other (n m : Nat) (x : PosIf) (h : m ≠ n) : (s.setPosIf n x).posIf m = s.posIf m := Table.at_setAt_other _ s.posIfs x h
@[simp] theorem State.posCmp_setPosCmp (n : Nat) (x : PosCmp) : (s.setPosCmp n x).posCmp n = x := Table.at_setAt_same _ s.posCmps n x
theorem State.posCmp_setPosCmp_other (n m : Nat) (x : PosCmp) (h : m ≠ n) : (s.setPosCmp n x).posCmp m = s.posCmp m := Table.at_setAt_other _ s.posCmps x h
@[simp] theorem State.slot_setSlot (n : Nat) (x : Slot) : (s.setSlot n x).slot n = x := Table.at_setAt_same _ s.slots n x
theorem State.slot_setSlot_other (n m : Nat) (x : Slot) (h : m ≠ n) : (s.setSlot n x).slot m = s.slot m := Table.at_setAt_other _ s.slots x h
@[simp] theorem State.atl_setAtl (n : Nat) (x : AtlasSlot) : (s.setAtl n x).atl n = x := Table.at_setAt_same _ s.atlas n x
theorem State.atl_setAtl_other (n m : Nat) (x : AtlasSlot) (h : m ≠ n) : (s.setAtl n x).atl m = s.atl m := Table.at_setAt_other _ s.atlas x h
@[simp] theorem State.can_setCan (n : Nat) (x : CanUnit) : (s.setCan n x).can n = x := Table.at_setAt_same _ s.cans n x
theorem State.can_setCan_other (n m : Nat) (x : CanUnit) (h : m ≠ n) : (s.setCan n x).can m = s.can m := Table.at_setAt_other _ s.cans x h
@[simp] theorem State.aq_setAq (n : Nat) (x : AqConn) : (s.setAq n x).aq n = x := Table.at_setAt_same _ s.aqs n x
theorem State.aq_setAq_other (n m : Nat) (x : AqConn) (h : m ≠ n) : (s.setAq n x).aq m = s.aq m := Table.at_setAt_other _ s.aqs x h

@[simp] theorem State.setTime_time (x : TimeUnit) : (s.setTime x).time = x := rfl

/-! ### Registers, parameters and lifecycles -/

@[simp] theorem State.reg_setReg (k : RKey) (w : Word) : (s.setReg k w).reg k = w := Table.get_set_same k w

theorem State.reg_setReg_other (k k' : RKey) (w : Word) (h : k' ≠ k) : (s.setReg k w).reg k' = s.reg k' := Table.get_set_other w h

theorem State.reg_setFld_other (f : Fld) (v i j : Nat) (k : RKey) (h : k ≠ ⟨f.reg, i, j⟩) : (s.setFld f v i j).reg k = s.reg k :=
  State.reg_setReg_other s _ k _ h

@[simp] theorem State.parStored_setStored (a b c : Nat) (v : Int) : (s.setStored a b c v).parStored a b c = v := Table.get_set_same _ v

@[simp] theorem State.lc_setLc (k : FuncKind) (n : Nat) (l : Lc) : (s.setLc k n l).lc k n = l := Table.get_set_same _ l

theorem State.lc_setLc_other (k k' : FuncKind) (n n' : Nat) (l : Lc) (h : (⟨k', n'⟩ : Func) ≠ ⟨k, n⟩) : (s.setLc k n l).lc k' n' = s.lc k' n' :=
  Table.get_set_other l h

@[simp] theorem State.lc_updLc (k : FuncKind) (n : Nat) (f : Lc → Nat → Lc) : (s.updLc k n f).lc k n = f (s.lc k n) s.now :=
  State.lc_setLc s k n _

theorem bits_le (n hi lo : Nat) : bits n hi lo * 2 ^ lo ≤ n :=
  calc bits n hi lo * 2 ^ lo ≤ n / 2 ^ lo * 2 ^ lo := Nat.mul_le_mul_right _ (Nat.mod_le _ _)
    _ ≤ n := Nat.div_mul_le_self n _

theorem bits_lt (n hi lo : Nat) : bits n hi lo < 2 ^ (hi + 1 - lo) := Nat.mod_lt _ (Nat.two_pow_pos _)

end Sys2Proof.Machine
end

