-- ==== Sys2Proof/Laws/Fields.lean ====
section
/-! SUPPORT. Laws of register fields: a field read after a write of it, and the fields a write leaves as they were. -/

namespace Sys2Proof.Machine

/-- A number split at a field: the part above it, the field, the part below. -/
theorem split_field (w hi lo : Nat) :
    w = (w / 2 ^ lo / 2 ^ (hi + 1 - lo)) * (2 ^ (hi + 1 - lo) * 2 ^ lo) + bits w hi lo * 2 ^ lo + w % 2 ^ lo := by
  have h1 := Nat.div_add_mod w (2 ^ lo)
  have h2 := Nat.div_add_mod (w / 2 ^ lo) (2 ^ (hi + 1 - lo))
  unfold bits
  generalize 2 ^ lo = L at *
  generalize 2 ^ (hi + 1 - lo) = K at *
  generalize w / L = q at *
  rw [← h1]
  conv => lhs; rw [← h2]
  rw [Nat.mul_comm (q / K) (K * L), Nat.mul_comm L, Nat.add_mul, Nat.mul_right_comm]
  simp [Nat.mul_comm]

theorem putBits_eq (w hi lo v : Nat) :
    putBits w hi lo v = (w / 2 ^ lo / 2 ^ (hi + 1 - lo)) * (2 ^ (hi + 1 - lo) * 2 ^ lo) + v % 2 ^ (hi + 1 - lo) * 2 ^ lo + w % 2 ^ lo := by
  have h := split_field w hi lo
  unfold putBits
  omega

/-- A field written reads as the value written, cut to its width. -/
theorem bits_putBits (w hi lo v : Nat) : bits (putBits w hi lo v) hi lo = v % 2 ^ (hi + 1 - lo) := by
  rw [putBits_eq]
  unfold bits
  have hL : 0 < 2 ^ lo := Nat.two_pow_pos _
  have hr : w % 2 ^ lo < 2 ^ lo := Nat.mod_lt _ hL
  generalize w / 2 ^ lo / 2 ^ (hi + 1 - lo) = q
  generalize w % 2 ^ lo = r at *
  generalize 2 ^ (hi + 1 - lo) = K
  generalize 2 ^ lo = L at *
  rw [← Nat.mul_assoc, ← Nat.add_mul, Nat.add_comm, Nat.add_mul_div_right _ _ hL, Nat.div_eq_of_lt hr, Nat.zero_add]
  simp

theorem putBits_high (w hi lo v : Nat) (h : lo ≤ hi + 1) : putBits w hi lo v / 2 ^ (hi + 1) = w / 2 ^ (hi + 1) := by
  have hp : (2:Nat) ^ (hi + 1) = 2 ^ (hi + 1 - lo) * 2 ^ lo := by
    rw [← Nat.pow_add]; congr 1; omega
  rw [putBits_eq, hp]
  have hL : 0 < 2 ^ lo := Nat.two_pow_pos _
  have hK : 0 < 2 ^ (hi + 1 - lo) := Nat.two_pow_pos _
  have hr : w % 2 ^ lo < 2 ^ lo := Nat.mod_lt _ hL
  have hv : v % 2 ^ (hi + 1 - lo) < 2 ^ (hi + 1 - lo) := Nat.mod_lt _ hK
  rw [Nat.div_div_eq_div_mul, Nat.mul_comm (2 ^ lo)]
  generalize w % 2 ^ lo = r at *
  generalize v % 2 ^ (hi + 1 - lo) = u at *
  generalize 2 ^ (hi + 1 - lo) = K at *
  generalize 2 ^ lo = L at *
  have hsmall : u * L + r < K * L := by
    have : (u + 1) * L ≤ K * L := Nat.mul_le_mul_right _ hv
    rw [Nat.succ_mul] at this; omega
  rw [Nat.add_assoc, Nat.add_comm, Nat.add_mul_div_right _ _ (Nat.mul_pos hK hL), Nat.div_eq_of_lt hsmall, Nat.zero_add]

theorem putBits_low (w hi lo v : Nat) : putBits w hi lo v % 2 ^ lo = w % 2 ^ lo := by
  rw [putBits_eq, ← Nat.mul_assoc, ← Nat.add_mul, Nat.add_comm, Nat.add_mul_mod_self_right, Nat.mod_mod]

/-- A field above a written one is as before. -/
theorem bits_putBits_above (w hi lo v hi' lo' : Nat) (h : lo ≤ hi + 1) (h' : hi < lo') :
    bits (putBits w hi lo v) hi' lo' = bits w hi' lo' := by
  have hp : (2:Nat) ^ lo' = 2 ^ (hi + 1) * 2 ^ (lo' - (hi + 1)) := by
    rw [← Nat.pow_add]; congr 1; omega
  unfold bits
  rw [hp, ← Nat.div_div_eq_div_mul, ← Nat.div_div_eq_div_mul, putBits_high w hi lo v h]

theorem bits_mod (n m hi lo : Nat) (h : hi < m) (h' : lo ≤ hi + 1) : bits (n % 2 ^ m) hi lo = bits n hi lo := by
  unfold bits
  have hd : (2:Nat) ^ lo * 2 ^ (hi + 1 - lo) ∣ 2 ^ m := by
    rw [← Nat.pow_add]; exact Nat.pow_dvd_pow 2 (by omega)
  rw [← Nat.mod_mul_right_div_self, ← Nat.mod_mul_right_div_self, Nat.mod_mod_of_dvd _ hd]

/-- A field below a written one is as before. -/
theorem bits_putBits_below (w hi lo v hi' lo' : Nat) (h : lo' ≤ hi' + 1) (h' : hi' < lo) :
    bits (putBits w hi lo v) hi' lo' = bits w hi' lo' := by
  rw [← bits_mod _ lo hi' lo' h' h, putBits_low, bits_mod _ lo hi' lo' h' h]

theorem putBits_lt (w hi lo v n : Nat) (h : lo ≤ hi + 1) (hn : hi < n) (hw : w < 2 ^ n) : putBits w hi lo v < 2 ^ n := by
  have hp : (2:Nat) ^ n = 2 ^ (hi + 1) * 2 ^ (n - (hi + 1)) := by
    rw [← Nat.pow_add]; congr 1; omega
  have h1 : w / 2 ^ (hi + 1) < 2 ^ (n - (hi + 1)) := Nat.div_lt_of_lt_mul (hp ▸ hw)
  rw [← putBits_high w hi lo v h] at h1
  rw [hp]
  rw [Nat.mul_comm]
  exact (Nat.div_lt_iff_lt_mul (Nat.two_pow_pos _)).mp h1

/-- A field whose place is inside the 32-bit word. -/
def Fld.inWord (f : Fld) : Prop := f.lo ≤ f.hi + 1 ∧ f.hi < 32

variable (s : State)

theorem State.reg_setFld (f : Fld) (v i j : Nat) (h : f.inWord) :
    ((s.setFld f v i j).reg ⟨f.reg, i, j⟩).toNat = putBits (s.reg ⟨f.reg, i, j⟩).toNat f.hi f.lo v := by
  unfold State.setFld
  rw [State.reg_setReg, BitVec.toNat_ofNat]
  exact Nat.mod_eq_of_lt (putBits_lt _ _ _ _ _ h.1 h.2 (s.reg ⟨f.reg, i, j⟩).isLt)

/-- A field written reads as the value written, cut to its width. -/
theorem State.fld_setFld (f : Fld) (v i j : Nat) (h : f.inWord) : (s.setFld f v i j).fld f i j = v % 2 ^ (f.hi + 1 - f.lo) := by
  unfold State.fld
  rw [State.reg_setFld s f v i j h, bits_putBits]

/-- Another field of the same register instance is as before. -/
theorem State.fld_setFld_sameReg (f g : Fld) (v i j : Nat) (h : f.inWord) (hg : g.inWord) (hr : g.reg = f.reg) (hd : f.hi < g.lo ∨ g.hi < f.lo) :
    (s.setFld f v i j).fld g i j = s.fld g i j := by
  unfold State.fld
  rw [hr, State.reg_setFld s f v i j h]
  rcases hd with hd | hd
  · exact bits_putBits_above _ _ _ _ _ _ h.1 hd
  · exact bits_putBits_below _ _ _ _ _ _ hg.1 hd

/-- A field of another register instance is as before. -/
theorem State.fld_setFld_otherReg (f g : Fld) (v i j i' j' : Nat) (h : (⟨g.reg, i', j'⟩ : RKey) ≠ ⟨f.reg, i, j⟩) :
    (s.setFld f v i j).fld g i' j' = s.fld g i' j' := by
  unfold State.fld
  rw [State.reg_setFld_other s f v i j _ h]

end Sys2Proof.Machine
end

