-- ==== Sys2Proof/Laws/Memory.lean ====
section
/-! SUPPORT. Laws of the memories: every memory operation keeps the canonical form, a read after a write, and the bytes a write leaves alone. -/

namespace Sys2Proof.Machine

theorem Memory.putByte_wf (m : Memory) (a : Nat) (v : Byte) (h : m.wf = true) : (m.putByte a v).wf = true :=
  Table.wf_set ltNat_order a v h

@[simp] theorem Memory.byte_putByte (m : Memory) (a : Nat) (v : Byte) : (m.putByte a v).byte a = v := Table.get_set_same a v

theorem Memory.byte_putByte_other (m : Memory) {a b : Nat} (v : Byte) (h : b ≠ a) : (m.putByte a v).byte b = m.byte b :=
  Table.get_set_other v h

/-- A write of bytes keeps the canonical form. -/
theorem Memory.write_wf (l : List Byte) : ∀ (m : Memory) (a : Nat), m.wf = true → (m.write a l).wf = true := by
  induction l with
  | nil => intro m a h; exact h
  | cons b t ih => intro m a h; exact ih _ _ (Memory.putByte_wf m a b h)

/-- Every byte outside a write reads as before. -/
theorem Memory.byte_write_outside (l : List Byte) : ∀ (m : Memory) (a b : Nat), (b < a ∨ a + l.length ≤ b) → (m.write a l).byte b = m.byte b := by
  induction l with
  | nil => intro m a b _; rfl
  | cons v t ih =>
    intro m a b h
    have hb : b ≠ a := by simp only [List.length_cons] at h; omega
    have ht : b < a + 1 ∨ a + 1 + t.length ≤ b := by simp only [List.length_cons] at h; omega
    exact (ih (m.putByte a v) (a + 1) b ht).trans (Memory.byte_putByte_other m v hb)

/-- A byte inside a write reads as the byte written. -/
theorem Memory.byte_write_inside (l : List Byte) : ∀ (m : Memory) (a k : Nat) (h : k < l.length), (m.write a l).byte (a + k) = l[k] := by
  induction l with
  | nil => intro m a k h; exact absurd h (Nat.not_lt_zero _)
  | cons v t ih =>
    intro m a k h
    cases k with
    | zero =>
      have h1 := Memory.byte_write_outside t (m.putByte a v) (a + 1) a (Or.inl (Nat.lt_succ_self a))
      exact h1.trans (Memory.byte_putByte m a v)
    | succ k =>
      have h1 := ih (m.putByte a v) (a + 1) k (Nat.lt_of_succ_lt_succ h)
      rw [show a + (k + 1) = a + 1 + k by omega]
      exact h1

/-- The bytes written are the bytes read back. -/
theorem Memory.read_write (l : List Byte) : ∀ (m : Memory) (a : Nat), (m.write a l).read a l.length = l := by
  induction l with
  | nil => intro m a; rfl
  | cons v t ih =>
    intro m a
    have h1 := Memory.byte_write_outside t (m.putByte a v) (a + 1) a (Or.inl (Nat.lt_succ_self a))
    have h2 := ih (m.putByte a v) (a + 1)
    simp only [Memory.write, List.length_cons, Memory.read, h2, h1, Memory.byte_putByte]

theorem leBytes_length (k v : Nat) : (leBytes k v).length = k := by
  induction k generalizing v with
  | zero => rfl
  | succ k ih => simp [leBytes, ih]

/-- A number of `k` bytes read back from its bytes is itself. -/
theorem leNat_leBytes (k v : Nat) (h : v < 256 ^ k) : leNat (leBytes k v) = v := by
  induction k generalizing v with
  | zero => simp at h; simp [leBytes, leNat, h]
  | succ k ih =>
    have h1 : v / 256 < 256 ^ k := by
      rw [Nat.pow_succ] at h; exact Nat.div_lt_of_lt_mul (by omega)
    have h2 := ih _ h1
    simp only [leBytes, leNat, h2, BitVec.toNat_ofNat]
    omega

end Sys2Proof.Machine
end

