-- ==== Sys2Proof/WellFormed.lean ====
section
/-! DEFINITION. Which commands are well formed: the operands whose types are wider than what the spec lets a command carry. -/

namespace Sys2Proof

open Machine

/-- A number that a 32-bit bus word holds. -/
def isWord (n : Nat) : Bool := decide (n < 2 ^ 32)

/-- A power mask names domains 0 to 11 (R466). -/
def isMask (n : Nat) : Bool := decide (n < 4096)

def optAll (x : Option Nat) (p : Nat → Bool) : Bool :=
  match x with
  | some n => p n
  | none => true

/-- The lengths a CAN FD frame can have. -/
def fdLengths : List Nat := [0, 1, 2, 3, 4, 5, 6, 7, 8, 12, 16, 20, 24, 32, 48, 64]

/-- A frame of CAN or CAN FD: an identifier of 11 or 29 bits; a length of its format; remote frames in the classic format only and without data;
BRS and ESI in FD frames only. -/
def canForm (xtd rtr fdf brs esi : Bool) (id : Nat) (data : List Byte) : Bool :=
  decide (id < (if xtd then 2 ^ 29 else 2 ^ 11)) &&
    (if fdf then !rtr && decide (data.length ∈ fdLengths) else !brs && !esi && decide (data.length ≤ 8)) && (!rtr || data.isEmpty)

/-- A frame as the decoder of the sentinel sees it (R550): the data bytes are those its DLC announces. -/
def snForm (id : Nat) (xtd fdf : Bool) (dlc : Nat) (data : List Byte) : Bool :=
  decide (id < (if xtd then 2 ^ 29 else 2 ^ 11)) && (fdf || decide (data.length ≤ min dlc 8))

/-- An Announce: priorities of 8 bits, a clock quality of 32 bits, an identity of 64 bits, 16 bits of steps removed, a port identity of 80 bits. -/
def announceForm (a : Announce) : Bool :=
  decide (a.priority1 < 256 ∧ a.quality < 2 ^ 32 ∧ a.priority2 < 256 ∧ a.gmId < 2 ^ 64 ∧ a.stepsRemoved < 65536 ∧ a.sourcePort < 2 ^ 80)

/-- A failing address of a march is a word's. -/
def marchForm (o : MarchOutcome) : Bool :=
  match o with
  | .fail a => decide (a < 2 ^ 32 ∧ a % 4 = 0)
  | .pass => true
  | .preempt => true

/-- Amplitudes and rates of a safe-state choice are what 32 bits hold. -/
def senseForm (x : BridgeSense) : Bool := isWord x.iAmp && isWord x.iRate && isWord x.eAmp && isWord x.eRate

/-- Whether a command is well formed. -/
def Instr.wf (i : Instr) : Bool :=
  match i with
  | .heartbeatWrite _ word => isWord word
  | .heartbeatLoss _ => true
  | .lockstepMismatch _ _ => true
  | .lockstepSelftestDone _ _ => true
  | .pairRestartTimeout _ => true
  | .resetGuardWithdraw _ => true
  | .safeStateChoice x y => senseForm x && senseForm y
  | .safeDtExpiry _ => true
  | .safeTurnOnRetry _ => true
  | .faultActiveExpiry k => decide (k < 65536)
  | .stoAssert _ => true
  | .stoRelease _ => true
  | .stoDiscrepancyTimer => true
  | .stoPathCheckTimer _ _ _ => true
  | .stoTestBothAsserted => true
  | .safeResetEdge _ => true
  | .peerBroadcastRx => true
  | .peerBroadcastEnd => true
  | .dchgCheckExpiry _ => true
  | .dischargeComplete => true
  | .dischargeFailTimer _ => true
  | .dchgReleaseAfterRestart => true
  | .bootlockWrite _ value => isWord value
  | .bootConfirm _ value => isWord value
  | .bootConfirmTimeout => true
  | .authChallenge _ => true
  | .authResponse _ _ => true
  | .authClose _ => true
  | .authLockoutExpiry _ => true
  | .driveToken _ _ => true
  | .tokenExpiry => true
  | .tokenNotBefore => true
  | .tokenResumeExpiry => true
  | .immobStandstillExpiry _ => true
  | .fwUpdate _ _ => true
  | .fwUpdateDone => true
  | .discharge _ => true
  | .resetLatch _ => true
  | .benchMode _ => true
  | .auditAck _ => true
  | .rpEnable _ _ => true
  | .rpDisable _ _ => true
  | .dbSqWrite _ _ _ => true
  | .dbCqWrite _ _ _ => true
  | .descriptorFetch _ host => decide (host.length = 64 ∨ host = [])
  | .reservedDescriptorOpcode _ => true
  | .nopDescriptor _ => true
  | .irqTimerExpiry _ => true
  | .recvBuf _ => true
  | .flushTExpiry _ => true
  | .logExport _ => true
  | .logExportDone => true
  | .hbTimeoutExpiry _ => true
  | .holdTExpiry _ => true
  | .pcieLinkUp _ _ _ _ => true
  | .pcieLinkDown => true
  | .bmeCleared => true
  | .pcieCompletionTimeout _ => true
  | .pwmMidPoint _ => true
  | .commitArrival _ => true
  | .immediateUpdate _ => true
  | .lsCmpWrite _ _ _ value => isWord value
  | .pwmCompareEdge _ _ _ => true
  | .deadTimeExpiry _ _ => true
  | .minPulseGuardExpiry _ _ => true
  | .tripAssert _ _ => true
  | .blankClose _ _ => true
  | .pwmFreeze _ _ => true
  | .pwmRelease _ _ => true
  | .capTsLoRead _ _ _ => true
  | .capInfoRead _ _ _ => true
  | .syncInEdge _ _ => true
  | .syncLinkTimeout _ => true
  | .satTurnOnEdge _ => true
  | .satTurnOffEdge _ => true
  | .handshakeRelease _ => true
  | .handshakeTimeout _ => true
  | .minOnTimeExpiry _ => true
  | .gateStateChange _ _ => true
  | .gateStuckTimer _ => true
  | .satEdgeMeasured _ _ _ _ _ _ => true
  | .ch0RangeSwitch _ => true
  | .keepaliveSend _ => true
  | .cfgKeepalive _ => true
  | .cfgWrite _ _ _ => true
  | .cfgDesatClear _ => true
  | .cfgResume _ => true
  | .cfgStop _ => true
  | .retStatus _ => true
  | .retEdge _ => true
  | .retCond _ _ => true
  | .retTemp _ _ => true
  | .retRails _ _ _ => true
  | .retHs _ => true
  | .retHintAck _ => true
  | .returnFrameBad _ _ => true
  | .returnCarrierLoss _ => true
  | .hintAckTimeout _ => true
  | .faultBreak _ => true
  | .desatDetect _ => true
  | .desatConfirm _ => true
  | .softOffLevel2 _ => true
  | .desatClearPoint _ => true
  | .satOtShut _ => true
  | .uvloEngage _ _ _ => true
  | .uvloRelease _ _ _ => true
  | .satRailsReady _ _ _ => true
  | .txDutyAdjust _ => true
  | .supplyRegTimer _ => true
  | .crossCarrierLoss _ => true
  | .satLinkLoss _ _ => true
  | .adcConversionDone _ _ => true
  | .adcSwStart _ _ _ => true
  | .adcUrgentRequest _ => true
  | .adcRefCheck _ _ => true
  | .resultRead _ _ => true
  | .tripCap1Read _ _ => true
  | .ctAssert _ _ => true
  | .dsOutput _ window => decide (window.length ≤ 3 * 256 - 2)
  | .vdcMismatchTimer => true
  | .posQualifyingEdge _ _ => true
  | .spdStandstillExpiry _ => true
  | .rsvCarrierPeriod _ _ _ _ _ angle => isWord angle
  | .rsvExcLimitTimer _ => true
  | .encIllegalTransition _ => true
  | .encIndex _ => true
  | .hallTransition _ _ => true
  | .hallInvalidState _ _ => true
  | .serRequestSend _ => true
  | .serResponse _ bytes _ _ => decide (1 ≤ bytes.length ∧ bytes.length ≤ 8)
  | .serResponseTimeout _ => true
  | .pcmpResolverEval _ => true
  | .pcmpPulseEnd _ => true
  | .pwmWrap _ => true
  | .tlAdcStart _ _ => true
  | .tlDsMark _ _ stream => decide (stream.length ≤ 1024)
  | .tlCapture _ _ => true
  | .tlEngineEvent _ _ => true
  | .seamCheck => true
  | .windowStarvedTimer _ => true
  | .tileFillDone _ errs => errs.all (fun e => decide (e.1 < 0x8000000 ∧ 1 ≤ e.2))
  | .strataReloadDone _ errs => errs.all (fun e => decide (e.1 < 0x8000000 ∧ 1 ≤ e.2))
  | .dressCreditWindow _ => true
  | .dressPublication _ => true
  | .commitBlock _ => true
  | .mramAddressParityError => true
  | .mramScrubBlock errs => errs.all (fun e => decide (e.1 < 512 ∧ 1 ≤ e.2))
  | .bedrockSigCheck _ => true
  | .bedrockImport _ _ => true
  | .bedrockImageChecked => true
  | .importInstallDone => true
  | .atlasExport _ => true
  | .atlasExportDone => true
  | .driveCmd _ => true
  | .driveCmdDischarge _ => true
  | .claimSource _ => true
  | .debugGuardHalt => true
  | .ceHaltReq _ _ => true
  | .ceResume _ _ => true
  | .ceBreakpoint _ => true
  | .debugHaltRequest _ => true
  | .coreHaltEnd _ => true
  | .nop _ => true
  | .ldi _ => true
  | .ldip _ => true
  | .move _ => true
  | .mac _ => true
  | .dmac _ => true
  | .accop _ => true
  | .rnd _ => true
  | .aluh _ => true
  | .aluw _ => true
  | .shh _ => true
  | .sincos _ => true
  | .recip _ => true
  | .rsqrt _ => true
  | .atlas _ => true
  | .atlasLookupDone _ => true
  | .waitev _ => true
  | .waitevResume _ => true
  | .wpwm _ => true
  | .publ _ => true
  | .b _ => true
  | .call _ => true
  | .ret _ => true
  | .loop _ => true
  | .bkpt _ => true
  | .movsr _ => true
  | .reservedOpcode _ => true
  | .ceTimerWrite _ => true
  | .cmdAck _ => true
  | .nowLoRead _ => true
  | .ceHangExpiry _ => true
  | .ld _ _ => true
  | .st _ _ => true
  | .publDrainDone _ _ => true
  | .ceTimerExpiry _ _ => true
  | .currentCycle _ => true
  | .missingPhaseCheck _ _ _ => true
  | .injectStart _ => true
  | .injConditionsMet _ => true
  | .referenceStep _ => true
  | .speedLoopStep _ => true
  | .flyBemfRest _ _ => true
  | .anglePulseEnd _ _ _ => true
  | .anglePulseDecay _ => true
  | .flySync _ _ _ => true
  | .flySyncTimeout _ => true
  | .flyBemfOverDc _ _ => true
  | .flyOnDelay _ => true
  | .stopRampDone _ => true
  | .zeroCurrentHoldExpiry _ => true
  | .monitorWindowEnd _ => true
  | .monitorStaleTimer _ => true
  | .canFrameRx _ xtd rtr fdf brs esi id data => canForm xtd rtr fdf brs esi id data
  | .rxoStatusRead _ _ _ => true
  | .canTx _ _ => true
  | .canTxStart _ _ => true
  | .canFrameTxDone _ _ => true
  | .canError _ _ => true
  | .canBusOffRecovery _ => true
  | .canWindowOpen _ _ => true
  | .canWindowEnd _ => true
  | .aqTimeoutExpiry _ => true
  | .aqSkewExpiry _ => true
  | .tlTpoEdge _ _ => true
  | .timeStepAccept _ => true
  | .ethTx _ _ => true
  | .ptpSyncRx domain port seq _ _ _ => decide (domain < 256 ∧ port < 2 ^ 80 ∧ seq < 65536)
  | .ptpFollowUpRx domain port seq _ => decide (domain < 256 ∧ port < 2 ^ 80 ∧ seq < 65536)
  | .ptpAnnounceRx domain _ a => decide (domain < 256) && announceForm a
  | .pdelayReqSend => true
  | .ptpPdelayReqRx requester seq _ => decide (requester < 2 ^ 80 ∧ seq < 65536)
  | .ptpPdelayRespRx seq _ _ _ => decide (seq < 65536)
  | .syncReceiptTimeout => true
  | .holdoverExpiry => true
  | .timeStepTimeout => true
  | .ethLinkChange _ _ => true
  | .ethFrameRx _ frame _ => decide (14 ≤ frame.length ∧ frame.length ≤ 2048)
  | .ethFrameTxDone _ => true
  | .timeNowRead _ => true
  | .tpoArm _ _ width => isWord width
  | .tpoDisarm _ _ => true
  | .tpoEdge _ => true
  | .evcapEdge _ _ => true
  | .evcapInfoRead _ _ => true
  | .mdioGo _ _ => true
  | .mdioDone _ => true
  | .announceReceiptTimeout => true
  | .startSequenceDone _ _ => true
  | .stopSequenceDone _ _ _ => true
  | .startingBoundExpiry _ _ => true
  | .stoppingBoundExpiry _ _ => true
  | .setStateEnable _ => true
  | .setStateDisable _ => true
  | .progLoad _ => true
  | .unitReset _ => true
  | .clusterReset _ => true
  | .domainReset _ _ _ => true
  | .pdOn _ mask => isMask mask
  | .pdOff _ mask => isMask mask
  | .domainLost _ _ => true
  | .resetAssert => true
  | .latchRecordWriteDone => true
  | .powerOnReset => true
  | .porstPin => true
  | .resetReq _ _ => true
  | .supplyLevelChange _ _ => true
  | .clockGateWrite _ _ _ _ => true
  | .rampStep => true
  | .refMonitorWindow _ => true
  | .pllRelock => true
  | .pllLockTimeout => true
  | .lpoCheck _ => true
  | .requestRun _ => true
  | .requestIdle _ => true
  | .requestSleep _ => true
  | .requestDeepSleep _ => true
  | .requestOff _ => true
  | .idleWake => true
  | .sleepWake => true
  | .wdtKick _ _ => true
  | .watchdogExpiry => true
  | .snRound vbat ntc0 ntc1 => decide (vbat.length = 5) && decide (ntc0.length ≤ 5) && decide (ntc1.length ≤ 5)
  | .snBurstEnd _ _ _ => true
  | .wakePinEdge _ _ => true
  | .snCanFrame error id xtd fdf dlc data => error || snForm id.val xtd fdf dlc.val data
  | .parkVdcCompare _ => true
  | .wakeOutExpiry => true
  | .snHangTimer => true
  | .ptimeSave => true
  | .eccWriteback _ a => decide (a < 2 ^ 32 ∧ a % 4 = 0)
  | .sramScrubStep _ _ _ => true
  | .marchGo _ _ => true
  | .marchAbort _ => true
  | .marchSegmentDone outcome => marchForm outcome
  | .arbiterRecoveryExpiry _ => true
  | .hkRound codes dies _ => decide (codes.length = 24) && codes.all (fun c => decide (c ≤ 4096)) && decide (dies.length = 16)
  | .paramWrite _ _ => true
  | .paramRead _ => true
  | .registerWrite _ addr _ => isWord addr
  | .fld _ => true
  | .fldDone _ _ => true
  | .fst _ => true
  | .ceStep _ _ => true
  | .snapshot _ => true
  | .startUp _ _ marchFail _ _ _ => optAll marchFail isWord

end Sys2Proof
end

