-- ==== Sys2Proof/Tests/Slice0.lean ====
section
/-! SUPPORT. Tests: small states, checks against the spec's worked values, ill-formed commands, and states that meet the statements' hypotheses. -/

set_option linter.unusedVariables false
set_option Elab.async false

namespace Sys2Proof.Tests

open Machine

/-! ### Small states -/

/-- A state in which domain `d` is on. -/
def withPd (s : State) (d : Nat) : State := s.setLc .domain d { state := .on }

/-- The reset state with PD1, or with every domain, on. -/
def pd1 : State := withPd {} 1
def pdAll : State := [1, 2, 3, 4, 5, 6, 7, 8, 9, 10, 11].foldl withPd {}

/-- A state with another value of a parameter in force. -/
def withPar (s : State) (id inst idx : Nat) (v : Int) : State :=
  { s with params := Table.set PKey.lt paramDefault s.params ⟨id, inst, idx⟩ v }

/-- A state in which the tables of masters 8 and 20 and of the engines grant the whole map. -/
def openMpu (s : State) : State :=
  [0, 7, 8, 9, 11, 12, 15, 16, 18, 20].foldl (fun s m =>
    ((((((s.setFlag F.PROT_MPU_RBASE_EN true m).setFlag F.PROT_MPU_RBASE_R true m).setFlag F.PROT_MPU_RBASE_W true m).setFlag F.PROT_MPU_RBASE_X true m).setFld
      F.PROT_MPU_RLIMIT_LIMIT 0xFFFFF m).setFlag F.PROT_MPU_CTRL_VALID true m)) s

/-- Bridge `b` runs, and slot `k` of its timeline, at the start of the period, holds an action. -/
def slotState (b k type arg : Nat) : State :=
  let s := pdAll.setPwm b { running := true }
  ((s.setFlag F.PWM_TL_TIME_EN true b k).setFld F.PWM_TL_ACT_TYPE type b k).setFld F.PWM_TL_ACT_ARG arg b k

/-- Satellite `n` is ON with live lanes; its link is up in `upSat`. -/
def onSat (n : Nat) (x : Sat) : State :=
  (pdAll.setLc .satellite n { state := .on }).setSat n { x with carriers := true, resumed := x.resumed || x.startStep == 0 }
def upSat (n : Nat) (x : Sat) : State := (onSat n x).setFlag F.GDS_STATUS_LINK_UP true n

/-- A descriptor of R413: its opcode, target, buffer and body. -/
def desc (op target addr len : Nat) (body : List Byte) : List Byte :=
  leBytes 1 op ++ leBytes 3 0x123400 ++ leBytes 4 target ++ leBytes 8 addr ++ leBytes 4 len ++ leBytes 4 0 ++ (body ++ List.replicate 40 0#8).take 40

/-- Pair `n` is LOCAL, ON and of a class, with DRIVE, a role session and one fetched descriptor. -/
def rpState (n cls role : Nat) (raw : List Byte) (s : State := pdAll) : State :=
  let s := ((((((openMpu s).setFld F.DERRICK_RP_BIND_CLASS cls n).setFlag F.DERRICK_RP_BIND_DRIVE true n).setFld F.DERRICK_RP_BIND_ROLE role n).setFld
    F.DERRICK_RP_CFG_LOG2_SIZE 4 n).setFld F.DERRICK_RP_BASE_LO_ADDR (0x10000000 / 64) n).setLc .ring n { state := .on }
  s.setRing n { work := [⟨0, raw, false, none⟩], nextWid := 1, head := 1, tail := 1, session := some n }

/-- The MRAM die is trained. -/
def mramUp (s : State := pdAll) : State := s.setFlag F.ATLAS_MRAM_STATUS_TRAINED true

/-- Slot 0 has a geometry record of 8 × 8 points, 8 angles and 2 strata, whose window is loaded. -/
def atlasUp (x : AtlasSlot) : State :=
  let s := [(P.N_D, 8), (P.N_Q, 8), (P.N_TH, 8), (P.N_S, 2), (P.D_STEP, 256), (P.Q_STEP, 256)].foldl (fun s p => withPar s p.1 0 0 p.2) (mramUp)
  ((withPar s P.T_STRATA 0 1 1000).setNv { geom := [(0, true)] }).setAtl 0 { x with coarse := true, window := true, bedrock := true, resolved := true }

/-- The header of a bedrock image for `atlasUp`, and the state in which it makes the atlas ready. -/
def bedrockHead (s : State) : List Byte :=
  let z (n : Nat) : List Byte := List.replicate n 0#8
  (z 24 ++ leBytes 2 8 ++ leBytes 2 8 ++ leBytes 2 8 ++ leBytes 2 2 ++ leBytes 2 (ofSigned 16 (s.par P.D_MIN 0)) ++ leBytes 2 256 ++ leBytes 2 (ofSigned 16 (s.par P.Q_MIN 0)) ++ leBytes 2 256 ++
    leBytes 2 (ofSigned 16 (s.par P.T_STRATA 0 0)) ++ leBytes 2 (ofSigned 16 (s.par P.T_STRATA 0 1)) ++ leBytes 2 (ofSigned 16 (s.par P.T_STRATA 0 2)) ++
    leBytes 2 (ofSigned 16 (s.par P.T_STRATA 0 3)) ++ leBytes 4 (s.parN P.PSI_BASE 0) ++ leBytes 4 (s.parN P.I_BASE 0) ++ z 50 ++
    leBytes 2 (s.parN P.POLE_PAIRS 0) ++ z 148)
def atlasReadyState : State :=
  let s := atlasUp {}
  (s.setNv { geom := [(0, true)], hdr := [(0, bedrockHead s)] }).setAtlC { sig := [(0, some true)] }

/-- A pair that is bound and OFF. -/
def rpOff (n cls : Nat) : State := ((rpState n cls 1 []).setLc .ring n {}).setRing n { nextWid := 9 }

/-- Engine `c` is ON and stands at instruction word `w`. -/
def ceState (c w : Nat) (x : Engine) : State :=
  (pdAll.setLc .engine c { state := .on }).setEngine c { x with prog := [(0, BitVec.ofNat 32 w)], pc := 0 }

/-- The opcode field of an instruction word. -/
def op (x : Nat) : Nat := x * 2 ^ 26

/-- INJECT_START for slot `k`: a step of amplitude 0 captured on pair 9. -/
def injDesc (k : Nat) : List Byte := desc 0x15 k 0 0 ([0#8, 0#8, 9#8, 0#8] ++ leBytes 4 0 ++ leBytes 4 10 ++ leBytes 8 0 ++ [1#8, 7#8, 1#8, 0#8] ++ leBytes 2 1 ++ leBytes 2 1)

/-- Controller `n` is ON, with one receive object of identifier 0x123. -/
def canState (n : Nat) : State := withPar (withPar (pdAll.setLc .can n { state := .on }) P.CAN_RXOBJ n P.lenIdx 1) P.CAN_RXOBJ n 0 0x123

/-- The schedule of controller 3 has slot 0 open at the start of every cycle. -/
def schedState : State :=
  withPar (withPar (withPar (withPar (canState 3) P.CAN_SCHED_EN 3 0 1) P.CAN_SCHED 3 1 100) P.CAN_SCHED 3 2 1) P.CAN_SCHED 3 4 0xFFFF

/-- The MAC runs on a link that is up; a grandmaster is known. -/
def ethState : State := ((withPar pdAll P.ETH_EN 0 0 1).setFlag F.ETH_STATUS_LINK_UP true).setFlag F.TIME_STATUS_LINK_UP true
def gmState : State :=
  { ((ethState.setFlag F.TIME_STATUS_AS_CAPABLE true).setFlag F.TIME_STATUS_GM_KNOWN true) with time := { gm := some ⟨1, 2, 3, 4, 5, 7⟩ } }

/-- An image of one word stands in the system memory at 0x10000100, and pair 63 loads it into engine 7. -/
def imageState (s : State) : State :=
  (rpState 63 1 1 (desc 0x14 7 0x10000100 0 [0#8, 0#8, 255#8]) s).sysWrite 0x10000100 (leBytes 4 0x43455049 ++ leBytes 2 1 ++ leBytes 2 0 ++ leBytes 4 0 ++ leBytes 2 1 ++ leBytes 2 0 ++ leBytes 16 0)

/-- Pair 63, with an installer's session, writes TPO_MODE of output 7; MRAM is ready. -/
def paramState : State :=
  (rpState 63 1 2 (desc 0x12 7 0x10000200 8 [1#8]) mramUp).sysWrite 0x10000200 (leBytes 4 0x00040D20 ++ leBytes 4 3)

/-- Pair 63 writes the machine record of slot `n`. -/
def machineState (n : Nat) : State :=
  (rpState 63 1 2 (desc 0x12 n 0x10000200 8 [1#8]) mramUp).sysWrite 0x10000200 (leBytes 4 0x00040200 ++ leBytes 4 0)

/-! ### The spec's worked values -/

/-- R172, worked case "convergent rounding": 0.5, 1.5, 0.50003, −0.5 and 32,767.5 LSB. -/
theorem test_convergent_rounding : [0x4000, 0xC000, 0x4001, -0x4000, 0x3FFFC000].map rnd15 = [0, 2, 1, 0, 32767] ∧ rnd15w 0x3FFFC000 = 32768 := by decide

/-- Chapter 4, "the inner loop of a current controller": the words of the Park DMAC and of the WAITEV. -/
theorem test_engine_words : decodeCe 0x25151518 = some (.dmac 4 5 4 5 0 true false false false true true false) ∧ decodeCe 0x50000001 = some (.waitev 0 1) := by decide

/-- R497, worked case: 500 kbit/s at 800 ‰ and 8 Mbit/s at 750 ‰. -/
theorem test_bit_timing : bitTimingOf nominalLimits 500 800 = some ⟨2, 159, 40, 40⟩ ∧ bitTimingOf dataLimits 8000 750 = some ⟨1, 18, 6, 6⟩ := by decide +kernel

/-- R535, worked case: the fine phases of five edges of a train with a period of 1,000,001 ns. -/
theorem test_fine_phases : (List.range 5).map (fun k => tpoFine (8000000000 + 1000001 * k)) = [0, 6, 4, 3, 1] := by decide +kernel

/-- R511, worked case: the window of check 5 is half-open. -/
theorem test_receive_window : [19998099999, 19998100000, 20000099999, 20000100000].map (fun t => aqInTime t 20000100 2000) = [false, true, true, false] := by decide +kernel

/-- R583 at the reference point of the curve: a ratio of 1/2 with NTC_RPU = NTC_R25 is 25.00 °C. -/
theorem test_ntc_reference : ntcTemp 10000 3435 10000 1 2 = some 2500 := by decide +kernel

/-- R14: the check value of CRC-32C over "123456789" is 0xE3069283 (the polynomial's published check value). -/
theorem test_crc32c : crc32c [0x31#8, 0x32#8, 0x33#8, 0x34#8, 0x35#8, 0x36#8, 0x37#8, 0x38#8, 0x39#8] = 0xE3069283 := by decide +kernel

/-- Chapter 10, worked case: the sixteen bytes of the completion of a torque command, read back from the completion ring. -/
theorem test_completion_bytes :
    let s := (rpState 63 1 1 (desc 0x10 0 0 0 [])).setRing 63 { work := [⟨0, leBytes 1 0x10 ++ leBytes 1 1 ++ leBytes 2 7 ++ List.replicate 60 0#8, false, none⟩], head := 6, compl := 5, phase := true }
    let t := s.finish 63 0 0 (0x0123 + 0x0400 * 2 ^ 16 + 150000 * 2 ^ 32)
    Memory.read t.mem (0x10000000 + 16 * 64 + 80) 16 = [0x23#8, 0x01#8, 0x00#8, 0x04#8, 0xF0#8, 0x49#8, 0x02#8, 0x00#8, 0x07#8, 0x00#8, 0x06#8, 0x00#8, 0x00#8, 0x00#8, 0x10#8, 0x80#8] := by
  decide +kernel

/-! ### Commands that are not well formed: one for each check -/

theorem wf_words : (Instr.wf (.heartbeatWrite 0 (2 ^ 32)) || Instr.wf (.bootlockWrite 8 (2 ^ 32)) || Instr.wf (.bootConfirm 8 (2 ^ 32)) || Instr.wf (.lsCmpWrite 0 0 0 (2 ^ 32)) ||
    Instr.wf (.tpoArm 8 0 (2 ^ 32)) || Instr.wf (.registerWrite 8 (2 ^ 32) 0) || Instr.wf (.rsvCarrierPeriod 0 0 0 0 0 (2 ^ 32)) ||
    Instr.wf (.startUp false true (some (2 ^ 32)) 0 true true)) = false := by decide
theorem wf_senses : (Instr.wf (.safeStateChoice ⟨2 ^ 32, 0, 0, 0⟩ ⟨0, 0, 0, 0⟩) || Instr.wf (.safeStateChoice ⟨0, 0, 0, 0⟩ ⟨0, 2 ^ 32, 0, 0⟩) ||
    Instr.wf (.safeStateChoice ⟨0, 0, 2 ^ 32, 0⟩ ⟨0, 0, 0, 0⟩) || Instr.wf (.safeStateChoice ⟨0, 0, 0, 0⟩ ⟨0, 0, 0, 2 ^ 32⟩)) = false := by decide
theorem wf_masks : (Instr.wf (.pdOn 8 4096) || Instr.wf (.pdOff 8 4096) || Instr.wf (.faultActiveExpiry 65536)) = false := by decide
theorem wf_descriptor : Instr.wf (.descriptorFetch 0 [0#8]) = false := by decide
theorem wf_can_identifier : Instr.wf (.canFrameRx 0 false false false false false 2048 []) = false := by decide
theorem wf_can_length : (Instr.wf (.canFrameRx 0 false false true false false 5 (List.replicate 9 0#8)) || Instr.wf (.canFrameRx 0 false false false false false 5 (List.replicate 9 0#8))) = false := by decide
theorem wf_can_remote : (Instr.wf (.canFrameRx 0 false true true false false 5 []) || Instr.wf (.canFrameRx 0 false true false false false 5 [0#8])) = false := by decide
theorem wf_can_flags : (Instr.wf (.canFrameRx 0 false false false true false 5 []) || Instr.wf (.canFrameRx 0 false false false false true 5 [])) = false := by decide
theorem wf_wake_frame : (Instr.wf (.snCanFrame false 2048 false false 0 []) || Instr.wf (.snCanFrame false 5 false false 1 [0#8, 0#8])) = false := by decide
theorem wf_streams : (Instr.wf (.dsOutput 0 (List.replicate 767 true)) || Instr.wf (.tlDsMark 0 0 (List.replicate 1025 true))) = false := by decide +kernel
theorem wf_serial : (Instr.wf (.serResponse 0 [] false 0) || Instr.wf (.serResponse 0 (List.replicate 9 0#8) false 0)) = false := by decide
theorem wf_atlas_errors : (Instr.wf (.tileFillDone 0 [(0x8000000, 1)]) || Instr.wf (.tileFillDone 0 [(0, 0)]) || Instr.wf (.strataReloadDone 0 [(0x8000000, 1)]) ||
    Instr.wf (.strataReloadDone 0 [(0, 0)]) || Instr.wf (.mramScrubBlock [(512, 1)]) || Instr.wf (.mramScrubBlock [(0, 0)])) = false := by decide
theorem wf_frames : (Instr.wf (.ethFrameRx true (List.replicate 13 0#8) 0) || Instr.wf (.ethFrameRx true (List.replicate 2049 0#8) 0)) = false := by decide +kernel
theorem wf_ptp : (Instr.wf (.ptpSyncRx 256 0 0 0 0 none) || Instr.wf (.ptpSyncRx 0 (2 ^ 80) 0 0 0 none) || Instr.wf (.ptpFollowUpRx 0 0 65536 ⟨0, 0, 0⟩) ||
    Instr.wf (.ptpAnnounceRx 256 0 ⟨0, 0, 0, 0, 0, 0⟩) || Instr.wf (.ptpPdelayReqRx (2 ^ 80) 0 0) || Instr.wf (.ptpPdelayReqRx 0 65536 0) || Instr.wf (.ptpPdelayRespRx 65536 0 0 0)) = false := by decide
theorem wf_announce : ([⟨256, 0, 0, 0, 0, 0⟩, ⟨0, 2 ^ 32, 0, 0, 0, 0⟩, ⟨0, 0, 256, 0, 0, 0⟩, ⟨0, 0, 0, 2 ^ 64, 0, 0⟩, ⟨0, 0, 0, 0, 65536, 0⟩, ⟨0, 0, 0, 0, 0, 2 ^ 80⟩].any
    (fun a => Instr.wf (.ptpAnnounceRx 0 0 a))) = false := by decide
theorem wf_rounds : (Instr.wf (.snRound [1] [] []) || Instr.wf (.snRound [1, 2, 3, 4, 5] [1, 2, 3, 4, 5, 6] []) || Instr.wf (.snRound [1, 2, 3, 4, 5] [] [1, 2, 3, 4, 5, 6])) = false := by decide
theorem wf_housekeeping : (Instr.wf (.hkRound [] (List.replicate 16 none) none) || Instr.wf (.hkRound (List.replicate 24 4097) (List.replicate 16 none) none) ||
    Instr.wf (.hkRound (List.replicate 24 0) [] none)) = false := by decide
theorem wf_memory_words : (Instr.wf (.eccWriteback 0 2) || Instr.wf (.eccWriteback 0 (2 ^ 32)) || Instr.wf (.marchSegmentDone (.fail 2)) || Instr.wf (.marchSegmentDone (.fail (2 ^ 32)))) = false := by decide
theorem wf_accepts : (Instr.wf (.ethFrameRx true (List.replicate 14 0#8) 0) && Instr.wf (.descriptorFetch 0 []) && Instr.wf (.canFrameRx 0 true false true true true 0x1FFFFFFF (List.replicate 64 0#8))) = true := by decide



/-! ### States and operands that meet the hypotheses of the statements -/

theorem witness_StepRunsTheFrontCommand_1 : ∃ (s : State) (c : Instr) (l : List Instr), (s.pending = c :: l) :=
  ⟨{ pdAll with pending := [.rampStep, .idleWake] }, .rampStep, [.idleWake], by decide +kernel⟩

theorem witness_AnEmptyQueueLetsOneTickPass_1 : ∃ (s : State), (s.pending = []) :=
  ⟨State.reset, by decide +kernel⟩

theorem witness_AnEmptyQueueLetsOneTickPass_2 : ∃ (s : State), (s.pending = []) ∧ ((s.now + 1) % 8 ≠ 0) :=
  ⟨{ State.reset with now := 6 }, by decide +kernel⟩

theorem witness_AnEmptyQueueLetsOneTickPass_3 : ∃ (s : State), (s.coasting = true) :=
  ⟨pdAll.setFlag F.SYSCTL_CLK_STATUS_COAST true, by decide +kernel⟩

theorem witness_AnEmptyQueueLetsOneTickPass_4 : ∃ (s : State) (k : FuncKind) (n : Nat) (l : Lc), (s.pending = []) ∧ ((s.now + 1) % 8 = 0) ∧ (s.lcs = [(⟨k, n⟩, l)]) ∧ (k ∈ [FuncKind.bridge, .posIf, .posCmp, .dressing, .rule, .ring]) ∧ (l.state = .off) ∧ (l.pending = .enable) :=
  ⟨{ State.reset.setLc .ring 5 { state := .off, pending := .enable } with now := 7 }, .ring, 5, { state := .off, pending := .enable }, by decide +kernel⟩

theorem witness_AnEmptyQueueLetsOneTickPass_4b : ∃ (s : State) (k : FuncKind) (n : Nat) (l : Lc), (s.pending = []) ∧ ((s.now + 1) % 8 = 0) ∧ (s.lcs = [(⟨k, n⟩, l)]) ∧ (k ∈ [FuncKind.bridge, .posIf, .posCmp, .dressing, .rule, .ring]) ∧ (l.state = .off) ∧ (l.pending = .enable) :=
  ⟨{ State.reset.setLc .bridge 1 { state := .off, pending := .enable } with now := 15 }, .bridge, 1, { state := .off, pending := .enable }, by decide +kernel⟩

theorem witness_AnEmptyQueueLetsOneTickPass_5 : ∃ (s : State) (k : FuncKind) (n : Nat) (l : Lc), (s.pending = []) ∧ ((s.now + 1) % 8 = 0) ∧ (s.lcs = [(⟨k, n⟩, l)]) ∧ (k ∈ [FuncKind.dressing, .rule, .ring]) ∧ (l.state = .on) ∧ (l.pending = .disable) :=
  ⟨{ State.reset.setLc .rule 15 { state := .on, pending := .disable } with now := 7 }, .rule, 15, { state := .on, pending := .disable }, by decide +kernel⟩

theorem witness_SafetyPairCommandsAct_1 : ∃ (s : State) (p : Fin 2) (w : Nat), (s.pdOn 1 = true) ∧ ((s.pair p).running = true) ∧ ((s.pair p).selftest = true) ∧ ((s.pair p).halted = false) :=
  ⟨pd1.setPair 0 { running := true, selftest := true }, 0, 7, by decide +kernel⟩

theorem witness_SafetyPairCommandsAct_1b : ∃ (s : State) (p : Fin 2) (w : Nat), (s.pdOn 1 = true) ∧ ((s.pair p).running = true) ∧ ((s.pair p).selftest = true) ∧ ((s.pair p).halted = false) :=
  ⟨pd1.setPair 1 { running := true, selftest := true, restarting := true, word := 7 }, 1, 7, by decide +kernel⟩

theorem witness_SafetyPairCommandsAct_2 : ∃ (s : State) (p : Fin 2), (s.pdOn 1 = true) ∧ ((s.pair p).running = true) ∧ ((s.pair p).restarting = false) ∧ (s.elapsed (s.pair p).lastChange (30 * usT) = true) :=
  ⟨{ pd1.setPair 1 { running := true, selftest := true } with now := 24000 }, 1, by decide +kernel⟩

theorem witness_SafetyPairCommandsAct_3 : ∃ (s : State) (p : Fin 2) (g : Fin 12), (s.pdOn 1 = true) ∧ ((s.pair p).running = true) ∧ ((s.pair p).broken = false) :=
  ⟨pd1.setPair 1 { running := true }, 1, 11, by decide +kernel⟩

theorem witness_SafetyPairCommandsAct_4 : ∃ (s : State) (p : Fin 2) (g : Fin 4096), (s.pdOn 1 = true) ∧ ((s.pair p).selftest = false) :=
  ⟨pd1, 0, 4095, by decide +kernel⟩

theorem witness_SafetyPairCommandsAct_4b : ∃ (s : State) (p : Fin 2) (g : Fin 4096), (s.pdOn 1 = true) ∧ ((s.pair p).selftest = false) :=
  ⟨pd1, 1, 4094, by decide +kernel⟩

theorem witness_SafetyPairCommandsAct_5 : ∃ (s : State) (p : Fin 2), ((s.pair p).restarting = true) ∧ ((s.pair p).failCode ≠ 0) ∧ (s.elapsed (s.pair p).resetAt (10 * msT) = true) :=
  ⟨{ pd1.setPair 1 { restarting := true, failCode := 5 } with now := 8000000 }, 1, by decide +kernel⟩

theorem witness_SafetyPairCommandsAct_6 : ∃ (s : State) (a b : BridgeSense), ((s.pairOk 0 = true ∨ s.pairOk 1 = true)) :=
  ⟨pd1.setPair 0 { running := true }, ⟨0, 0, 0, 0⟩, ⟨0, 0, 0, 0⟩, by decide +kernel⟩

theorem witness_SafetyPairCommandsAct_6b : ∃ (s : State) (a b : BridgeSense), ((s.pairOk 0 = true ∨ s.pairOk 1 = true)) :=
  ⟨pd1.setPair 1 { running := true }, ⟨300000, 9, 0, 0⟩, ⟨0, 0, 0, 0⟩, by decide +kernel⟩

theorem witness_SafeStateRequestsAct_1 : ∃ (s : State) (b : Fin 2), ((s.safeOf b).guard = true) ∧ (s.guardMayEnd b = true) :=
  ⟨(((pd1.setPair 0 { running := true }).setPair 1 { running := true }).setSafe 1 { guard := true }), 1, by decide +kernel⟩

theorem witness_SafeStateRequestsAct_2 : ∃ (s : State) (b : Fin 2), ((s.safeOf b).dtPending = true) ∧ ((s.safeOf b).state.isAsc = true) ∧ (s.elapsed (s.safeOf b).decided (nsToTicks (s.parN P.SAFE_DT (s.slotOfBridge b))) = true) :=
  ⟨{ pd1.setSafe 1 { state := .ascLow, dtPending := true } with now := 1000000 }, 1, by decide +kernel⟩

theorem witness_SafeStateRequestsAct_3 : ∃ (s : State) (n : Fin 12) (t0 : Nat), (s.skipAt.at none n.val = some t0) ∧ (s.elapsed t0 usT = true) ∧ ((s.safeOf (bridgeOfSat n)).state.gateOn n = true) ∧ ((s.safeOf (bridgeOfSat n)).dtPending = false) :=
  ⟨{ pd1.setSafe 1 { state := .ascLow } with now := 800, skipAt := [(11, some 0)] }, 11, 0, by decide +kernel⟩

theorem witness_SafeStateRequestsAct_4 : ∃ (s : State) (i : Fin 2), (s.island.sto.asserted i = false) :=
  ⟨pd1.setSto {}, 0, by decide +kernel⟩

theorem witness_SafeStateRequestsAct_4b : ∃ (s : State) (i : Fin 2), (s.island.sto.asserted i = false) :=
  ⟨pd1.setSto { a := true }, 1, by decide +kernel⟩

theorem witness_SafeStateRequestsAct_5 : ∃ (s : State) (i : Fin 2), (s.island.sto.asserted i = true) :=
  ⟨pd1.setSto { a := true, b := true }, 0, by decide +kernel⟩

theorem witness_SafeStateRequestsAct_5b : ∃ (s : State) (i : Fin 2), (s.island.sto.asserted i = true) :=
  ⟨(pd1.setSto { b := true }).raise .STO_STOP 1 scopeModule 0 none true, 1, by decide +kernel⟩

theorem witness_SafeStateRequestsAct_6 : ∃ (s : State) (t0 : Nat), (s.island.sto.discSince = some t0) ∧ (s.elapsed t0 (s.parN P.STO_DISC_T * msT) = true) :=
  ⟨{ pd1.setSto { discSince := some 0 } with now := 800000000 }, 0, by decide +kernel⟩

theorem witness_SafeStateRequestsAct_7 : ∃ (s : State) (i : Fin 2) (bankA bankB : Bool), (s.island.sto.asserted i = true) ∧ (s.elapsed (if i = 0 then s.island.sto.aSince else s.island.sto.bSince) (10 * usT) = true) :=
  ⟨{ pd1.setSto { a := true } with now := 8000 }, 0, true, false, by decide +kernel⟩

theorem witness_SafeStateRequestsAct_7b : ∃ (s : State) (i : Fin 2) (bankA bankB : Bool), (s.island.sto.asserted i = true) ∧ (s.elapsed (if i = 0 then s.island.sto.aSince else s.island.sto.bSince) (10 * usT) = true) :=
  ⟨{ pd1.setSto { b := true } with now := 8000 }, 1, true, true, by decide +kernel⟩

theorem witness_SafeStateRequestsAct_8 : ∃ (s : State) (t0 : Nat), (s.island.sto.bothSince = some t0) ∧ (s.island.sto.test = .pending) ∧ (s.elapsed t0 msT = true) ∧ (s.island.sto.pathA = true) ∧ (s.island.sto.pathB = true) :=
  ⟨{ pd1.setSto { bothSince := some 0, test := .pending, pathA := true, pathB := true } with now := 800000 }, 0, by decide +kernel⟩

theorem witness_SafeStateRequestsAct_9 : ∃ (s : State), (s.par P.PEER_EN = 1) ∧ (s.pdOn 9 = true) :=
  ⟨(withPar pdAll P.PEER_EN 0 0 1), by decide +kernel⟩

theorem witness_SafeStateRequestsAct_10 : ∃ (s : State), (s.flag F.TIME_PEER_SAFE = true) :=
  ⟨pdAll.setFlag F.TIME_PEER_SAFE true, by decide +kernel⟩

theorem witness_FaultEndsAndDischargeAct_1 : ∃ (s : State) (k : Nat) (e : ActiveFault), (s.faults.active[k]? = some e) ∧ (e.active = true) ∧ (e.single = true) ∧ (s.elapsed e.last secT = true) :=
  ⟨{ pd1 with now := 800000000, faults := { active := [⟨.PEER_SAFE, 0, scopeModule, 3, true, true, 0⟩] } }, 0, ⟨.PEER_SAFE, 0, scopeModule, 3, true, true, 0⟩, by decide +kernel⟩

theorem witness_FaultEndsAndDischargeAct_2 : ∃ (s : State) (low : Nat), (s.pdOn 1 = true) ∧ (msT ≤ low) ∧ (s.faults.latched ≠ []) ∧ (s.releasedThisMs = false) :=
  ⟨{ pd1 with faults := { latched := [⟨.PEER_SAFE, 0, scopeModule⟩] } }, 800000, by decide +kernel⟩

theorem witness_FaultEndsAndDischargeAct_3 : ∃ (s : State) (b : Fin 2), (s.dchgHolds b = true) ∧ (s.elapsed (if b = 0 then s.island.dchg.startA else s.island.dchg.startB) (s.parN P.DCHG_CHECK_T (s.slotOfBridge b) * msT) = true) ∧ (s.island.dchg.backup = false) ∧ ((if b = 0 then s.island.dchg.vStartA else s.island.dchg.vStartB) ≤ 2 * s.vdcQ b) :=
  ⟨{ (pd1.setDchg { bridgeB := true }).setLc .discharge 0 { state := .on } with now := 800000000 }, 1, by decide +kernel⟩

theorem witness_FaultEndsAndDischargeAct_4 : ∃ (s : State), (s.isOn .discharge 0 = true) ∧ (s.dchgBridges.all s.vdcLow10 = true) :=
  ⟨{ (pd1.setDchg {}).setLc .discharge 0 { state := .on } with now := 8 }, by decide +kernel⟩

theorem witness_FaultEndsAndDischargeAct_5 : ∃ (s : State) (b : Fin 2), (s.dchgHolds b = true) ∧ (s.elapsed (if b = 0 then s.island.dchg.startA else s.island.dchg.startB) (2 * secT) = true) ∧ (s.island.dchg.failed = false) ∧ (s.vdcLow10 b = false) :=
  ⟨{ (pd1.setDchg { bridgeB := true }).setLc .discharge 0 { state := .on } with now := 1600000000 }, 1, by decide +kernel⟩

theorem witness_FaultEndsAndDischargeAct_6 : ∃ (s : State), (s.island.dchg.out = true) ∧ (s.isOff .discharge 0 = true) ∧ (s.pairOk 1 = true) ∧ (s.vdcLow10 0 = true) ∧ (s.vdcLow10 1 = true) :=
  ⟨{ (((pd1.setDchg { out := true }).setPair 1 { running := true, lastChange := 8000000 }).setSafe 0 { vdcLow := some 0 }).setSafe 1 { vdcLow := some 0 } with now := 8000000 }, by decide +kernel⟩

theorem witness_PwmEdgesAct_1 : ∃ (s : State) (b : Fin 2) (c : Fin 6), ((s.pwm b).live = true) ∧ ((s.pwmChans b).contains c.val = true) ∧ (((s.pwm b).ch c).isFloat = false) ∧ (((s.pwm b).ch c).effOn < s.p8 b) ∧ (((s.pwm b).ch c).onMade = false) ∧ (s.reached b ((s.pwm b).ch c).effOn = true) ∧ ((((s.pwm b).ch c).effOn ≤ ((s.pwm b).ch c).effOff ∨ ((s.pwm b).ch c).offMade = true)) :=
  ⟨pdAll.setPwm 1 (({ running := true } : Pwm).setCh 4 { on := 8, off := 80, effOn := 8, effOff := 80, floats := false }) |> fun s => { s with now := 1 }, 1, 4, by decide +kernel⟩

theorem witness_PwmEdgesAct_2 : ∃ (s : State) (b : Fin 2) (c : Fin 6), ((s.pwm b).live = true) ∧ ((s.pwmChans b).contains c.val = true) ∧ (((s.pwm b).ch c).isFloat = false) ∧ (((s.pwm b).ch c).effOff < s.p8 b) ∧ (((s.pwm b).ch c).effOn < s.p8 b) ∧ (((s.pwm b).ch c).offMade = false) ∧ (s.reached b ((s.pwm b).ch c).effOff = true) ∧ ((((s.pwm b).ch c).effOff ≤ ((s.pwm b).ch c).effOn ∨ ((s.pwm b).ch c).onMade = true)) :=
  ⟨pdAll.setPwm 0 (({ running := true } : Pwm).setCh 0 { on := 8, off := 80, effOn := 8, effOff := 80, floats := false, onMade := true, demand := true }) |> fun s => { s with now := 10 }, 0, 0, by decide +kernel⟩

theorem witness_PwmEdgesAct_3 : ∃ (s : State) (b : Fin 2) (c : Fin 6), ((s.pwm b).live = true) ∧ ((s.pwmChans b).contains c.val = true) ∧ (((s.pwm b).ch c).isFloat = false) ∧ (((s.pwm b).leg (c.val / 2)).refreshDue = true) ∧ (s.reached b (s.p8 b - 8 * s.parN P.BOOT_T b * 4 / 5 - s.dtLH b (c.val / 2)) = true) :=
  ⟨pdAll.setPwm 0 ((({ running := true, length := 1000000 } : Pwm).setCh 2 { on := 8, off := 80, effOn := 8, effOff := 80 }).setLeg 1 { refreshDue := true }) |> fun s => { s with now := 900000 }, 0, 2, by decide +kernel⟩

theorem witness_PwmEdgesAct_4 : ∃ (s : State) (b : Fin 2) (g : Fin 6) (t0 : Nat), (((s.pwm b).gate g).turnOn = some t0) ∧ ((s.pwm b).live = true) ∧ (t0 / 8 ≤ s.now) ∧ (s.pwmDrives b = true) ∧ ((s.pwm b).resync = false) :=
  ⟨pdAll.setPwm 1 (({ running := true } : Pwm).setGate 5 { turnOn := some 0 }), 1, 5, 0, by decide +kernel⟩

theorem witness_PwmEdgesAct_5 : ∃ (s : State) (b : Fin 2) (g : Fin 6) (t0 : Nat), (((s.pwm b).gate g).turnOff = some t0) ∧ ((s.pwm b).live = true) ∧ (t0 / 8 ≤ s.now) ∧ (s.pwmDrives b = true) ∧ ((s.pwm b).resync = false) :=
  ⟨pdAll.setPwm 1 (({ running := true } : Pwm).setGate 5 { out := true, turnOff := some 0 }), 1, 5, 0, by decide +kernel⟩

theorem witness_PwmEdgesAct_6 : ∃ (s : State) (b : Fin 2), ((s.pwm b).live = true) ∧ ((s.pwm b).midDone = false) ∧ (s.par P.UPD_MODE b = 1) ∧ ((s.pwm b).wrapAt + s.period b / 2 ≤ s.now) :=
  ⟨(withPar pdAll P.UPD_MODE 1 0 1).setPwm 1 { running := true, pending := some {} } |> fun s => { s with now := 900000 }, 1, by decide +kernel⟩

theorem witness_PwmEdgesAct_7 : ∃ (s : State) (b : Fin 2) (t0 : Nat) (g : PwmSet), ((s.pwm b).immediate = some t0) ∧ ((s.pwm b).pending = some g) ∧ ((s.pwm b).live = true) ∧ (s.elapsed t0 2 = true) :=
  ⟨pdAll.setPwm 0 { running := true, pending := some {}, immediate := some 0 } |> fun s => { s with now := 2 }, 0, 0, {}, by decide +kernel⟩

theorem witness_PwmWritesAndTripsAct_1 : ∃ (s : State) (b : Fin 2) (w : PwmFlight) (l : List PwmFlight), ((s.pwm b).flight = w :: l) ∧ (s.elapsed w.issued 8 = true) :=
  ⟨{ pdAll.setPwm 1 { running := true, flight := [⟨0, 5, 0, true, 3, 0⟩] } with now := 8 }, 1, ⟨0, 5, 0, true, 3, 0⟩, [], by decide +kernel⟩

theorem witness_PwmWritesAndTripsAct_1b : ∃ (s : State) (b : Fin 2) (w : PwmFlight) (l : List PwmFlight), ((s.pwm b).flight = w :: l) ∧ (s.elapsed w.issued 8 = true) :=
  ⟨{ pdAll.setPwm 1 { running := true, flight := [⟨0, 5, 9, true, 3, 0⟩] } with now := 8 }, 1, ⟨0, 5, 9, true, 3, 0⟩, [], by decide +kernel⟩

theorem witness_PwmWritesAndTripsAct_2 : ∃ (s : State) (m : Fin 21) (b : Fin 2) (j : Fin 6) (v : Nat), ((s.mayWrite m .PWM_LS_CMP b j).2 = true) ∧ (m.val < 8) ∧ ((s.engine m).writes.contains b.val = true) ∧ (s.indep b = true) :=
  ⟨(openMpu (withPar pdAll P.LEG_MODE 1 0 1)).setEngine 7 { writes := [1] }, 7, 1, 5, 0x7FFFFF, by decide +kernel⟩

theorem witness_PwmWritesAndTripsAct_3 : ∃ (s : State) (b : Fin 2) (src : Fin 18), (s.pdOn 7 = true) ∧ ((src.val < 6 → s.satReport b src = true)) ∧ ((s.pwm b).running = true) ∧ (s.tripEnabled b src = true) :=
  ⟨(withPar pdAll P.TRIP_MASK 1 0 0x3FFFF).setPwm 1 { running := true }, 1, 17, by decide +kernel⟩

theorem witness_PwmWritesAndTripsAct_3b : ∃ (s : State) (b : Fin 2) (src : Fin 18), (s.pdOn 7 = true) ∧ ((src.val < 6 → s.satReport b src = true)) ∧ ((s.pwm b).running = true) ∧ (s.tripEnabled b src = true) :=
  ⟨((withPar pdAll P.TRIP_MASK 1 0 0x3FFFF).setPwm 1 { running := true, blankUntil := 1 }).setSat 11 { report := true }, 1, 5, by decide +kernel⟩

theorem witness_PwmWritesAndTripsAct_4 : ∃ (s : State) (b : Fin 2) (lv : Fin 4096), ((s.pwm b).live = true) ∧ ((s.pwm b).blankOpen = true) ∧ ((s.pwm b).blankUntil ≤ s.now) :=
  ⟨(withPar pdAll P.TRIP_MASK 1 0 0x3FFFF).setPwm 1 { running := true, blankOpen := true, levels := [17] }, 1, 2048, by decide +kernel⟩

theorem witness_PwmWritesAndTripsAct_5 : ∃ (s : State) (m : Fin 21) (b : Fin 2), ((s.debugAccess m .pwmFreeze .PWM_DEBUG_CTRL b).2 = true) :=
  ⟨openMpu pdAll, 20, 1, by decide +kernel⟩

theorem witness_PwmWritesAndTripsAct_6 : ∃ (s : State) (m : Fin 21) (b : Fin 2), ((s.debugAccess m .pwmFreeze .PWM_DEBUG_CTRL b).2 = true) :=
  ⟨((openMpu pdAll).setPwm 1 { running := true, frozenSince := some 0 }).setFlag F.PWM_DEBUG_CTRL_FREEZE true 1, 20, 1, by decide +kernel⟩

theorem witness_PwmWritesAndTripsAct_7 : ∃ (s : State) (low high : Nat) (b : Fin 2), (s.pdOn 7 = true) ∧ (16 ≤ low) ∧ (high ≤ 32) ∧ (s.par P.SYNC_MODE b = 2) ∧ ((s.pwm b).frozenSince = none) ∧ (s.isOff .bridge b = false) ∧ (((s.pwm b).running = true ∨ s.isStarting .bridge b = true)) :=
  ⟨(withPar pdAll P.SYNC_MODE 1 0 2).setLc .bridge 1 { state := .starting }, 16, 32, 1, by decide +kernel⟩

theorem witness_PwmWritesAndTripsAct_7b : ∃ (s : State) (low high : Nat) (b : Fin 2), (s.pdOn 7 = true) ∧ (16 ≤ low) ∧ (high ≤ 32) ∧ (s.par P.SYNC_MODE b = 2) ∧ ((s.pwm b).frozenSince = none) ∧ (s.isOff .bridge b = false) ∧ (((s.pwm b).running = true ∨ s.isStarting .bridge b = true)) :=
  ⟨((withPar pdAll P.SYNC_MODE 0 0 2).setLc .bridge 0 { state := .on }).setPwm 0 { running := true }, 16, 0, 0, by decide +kernel⟩

theorem witness_PwmWritesAndTripsAct_8 : ∃ (s : State) (b : Fin 2) (t0 : Nat), ((s.pwm b).lastSync = some t0) ∧ (s.isOn .bridge b = true) ∧ (s.par P.SYNC_MODE b = 2) ∧ ((s.pwm b).frozenSince = none) ∧ (s.elapsed t0 (2 * s.period b) = true) :=
  ⟨{ ((withPar pdAll P.SYNC_MODE 1 0 2).setLc .bridge 1 { state := .on }).setPwm 1 { running := true, lastSync := some 0 } with now := 4000000 }, 1, 0, by decide +kernel⟩

theorem witness_PwmWritesAndTripsAct_9 : ∃ (s : State) (m : Fin 21) (b : Fin 2) (n : Fin 8), ((s.mayRead m .PWM_CAP_TS_LO b n).2 = true) :=
  ⟨openMpu pdAll, 8, 1, 7, by decide +kernel⟩

theorem witness_PwmWritesAndTripsAct_10 : ∃ (s : State) (m : Fin 21) (b : Fin 2) (n : Fin 8), ((s.mayRead m .PWM_CAP_INFO b n).2 = true) :=
  ⟨openMpu pdAll, 8, 1, 7, by decide +kernel⟩

theorem witness_TimelineAndWrapAct_1 : ∃ (s : State) (b : Fin 2) (k : Fin 32) (t0 : Nat), ((s.pwm b).live = true) ∧ ((s.pwm b).fired.contains k.val = false) ∧ (s.fld F.PWM_TL_ACT_TYPE b k = 1) ∧ (s.slotActive b k = true) ∧ (s.slotTime b k = some t0) ∧ (t0 / 8 ≤ s.counter b) :=
  ⟨slotState 1 31 1 0x307, 1, 31, 0, by decide +kernel⟩

theorem witness_TimelineAndWrapAct_2 : ∃ (s : State) (b : Fin 2) (k : Fin 32) (t0 : Nat) (st : List Bool), ((s.pwm b).live = true) ∧ ((s.pwm b).fired.contains k.val = false) ∧ (s.fld F.PWM_TL_ACT_TYPE b k = 2) ∧ (s.slotActive b k = true) ∧ (s.slotTime b k = some t0) ∧ (t0 / 8 ≤ s.counter b) :=
  ⟨slotState 1 31 2 0x27, 1, 31, 0, [], by decide +kernel⟩

theorem witness_TimelineAndWrapAct_3 : ∃ (s : State) (b : Fin 2) (k : Fin 32) (t0 : Nat), ((s.pwm b).live = true) ∧ ((s.pwm b).fired.contains k.val = false) ∧ (s.fld F.PWM_TL_ACT_TYPE b k = 3) ∧ (s.slotActive b k = true) ∧ (s.slotTime b k = some t0) ∧ (t0 / 8 ≤ s.counter b) :=
  ⟨slotState 0 0 3 0x107, 0, 0, 0, by decide +kernel⟩

theorem witness_TimelineAndWrapAct_4 : ∃ (s : State) (b : Fin 2) (k : Fin 32) (t0 : Nat), ((s.pwm b).live = true) ∧ ((s.pwm b).fired.contains k.val = false) ∧ (s.fld F.PWM_TL_ACT_TYPE b k = 4) ∧ (s.slotActive b k = true) ∧ (s.slotTime b k = some t0) ∧ (t0 / 8 ≤ s.counter b) :=
  ⟨(slotState 1 31 4 0x80).setLc .engine 7 { state := .on }, 1, 31, 0, by decide +kernel⟩

theorem witness_TimelineAndWrapAct_5 : ∃ (s : State) (b : Fin 2) (t0 : Nat), (s.wrapDue b = some t0) :=
  ⟨{ pdAll.setPwm 1 { running := true, length := 20000 } with now := 20000 }, 1, 20000, by decide +kernel⟩

theorem witness_TimelineAndWrapAct_5b : ∃ (s : State) (b : Fin 2) (t0 : Nat), (s.wrapDue b = some t0) :=
  ⟨{ pdAll.setPwm 0 { running := true, length := 20000, stopPhase := 2 } with now := 20000 }, 0, 20000, by decide +kernel⟩

theorem witness_SatelliteGateCommandsAct_1 : ∃ (s : State) (n : Fin 12), (s.lane n = true) ∧ ((s.sat n).edge = false) ∧ (s.linkLive n = true) ∧ (s.satRuns n = true) ∧ ((s.sat n).latched = false) ∧ ((s.sat n).soft = 0) ∧ ((s.sat n).otShut = false) ∧ ((s.sat n).uvloPos = false) ∧ ((s.sat n).uvloNeg = false) ∧ ((s.sat n).supplyMode ≠ 2) ∧ ((s.sat (partnerSat n)).req = none) :=
  ⟨(onSat 11 {}).setLane 11 true, 11, by decide +kernel⟩

theorem witness_SatelliteGateCommandsAct_2 : ∃ (s : State) (n : Fin 12), (s.lane n = false) ∧ ((s.sat n).edge = true) ∧ (s.linkLive n = true) ∧ (s.satRuns n = true) ∧ ((s.sat n).soft = 0) :=
  ⟨onSat 11 { edge := true, driven := true, releasedAt := some 0 }, 11, by decide +kernel⟩

theorem witness_SatelliteGateCommandsAct_2b : ∃ (s : State) (n : Fin 12), (s.lane n = false) ∧ ((s.sat n).edge = true) ∧ (s.linkLive n = true) ∧ (s.satRuns n = true) ∧ ((s.sat n).soft = 0) :=
  ⟨{ onSat 0 { edge := true, driven := true, releasedAt := some 0 } with now := 32 }, 0, by decide +kernel⟩

theorem witness_SatelliteGateCommandsAct_3 : ∃ (s : State) (n : Fin 12), (s.mayRelease n = true) :=
  ⟨{ onSat 11 { edge := true, req := some 0, confSince := some 0 } with now := 8000 }, 11, by decide +kernel⟩

theorem witness_SatelliteGateCommandsAct_4 : ∃ (s : State) (n : Fin 12), ((s.sat n).req.isSome = true) ∧ ((s.sat n).hintReq = false) ∧ (s.elapsedNs (s.sat n).edgeAt (s.satSetN n P.HANDSHAKE_TIMEOUT) = true) :=
  ⟨{ onSat 11 { edge := true, req := some 0, skipRun := 2 } with now := 8000000 }, 11, by decide +kernel⟩

theorem witness_SatelliteGateCommandsAct_5 : ∃ (s : State) (n : Fin 12), ((s.sat n).offDelayed = true) ∧ ((s.sat n).driven = true) ∧ (s.elapsedNs ((s.sat n).releasedAt.getD 0) 40 = true) :=
  ⟨{ onSat 11 { offDelayed := true, driven := true } with now := 32 }, 11, by decide +kernel⟩

theorem witness_SatelliteGateCommandsAct_6 : ∃ (s : State) (n : Fin 12) (on : Bool), ((s.sat n).gateOn ≠ on) :=
  ⟨onSat 11 { gateOn := true, soft := 2 }, 11, false, by decide +kernel⟩

theorem witness_SatelliteGateCommandsAct_7 : ∃ (s : State) (n : Fin 12), ((s.sat n).resumed = true) ∧ ((s.sat n).driven ≠ (s.sat n).gateOn) ∧ ((s.sat n).stuckTold = false) ∧ (s.elapsedNs (s.sat n).changedAt (s.satSetN n P.T_GOFF_MAX) = true) :=
  ⟨{ onSat 11 { driven := true } with now := 8000000 }, 11, by decide +kernel⟩

theorem witness_SatelliteGateCommandsAct_8 : ∃ (s : State) (n : Fin 12) (off : Bool) (v : Nat) (crossed soft : Bool) (half : Nat), ((s.sat n).resumed = true) :=
  ⟨onSat 11 {}, 11, true, 400000, true, false, 70, by decide +kernel⟩

theorem witness_SatelliteGateCommandsAct_9 : ∃ (s : State) (n : Fin 12), ((s.sat n).driven = true) ∧ ((s.sat n).ch0Mode = 0) ∧ ((s.sat n).conduction = false) ∧ (s.elapsedNs ((s.sat n).releasedAt.getD 0) 20 = true) :=
  ⟨{ onSat 11 { driven := true } with now := 16 }, 11, by decide +kernel⟩

theorem witness_SatelliteFramesAct_1 : ∃ (s : State) (n : Fin 12), (s.linkLive n = true) ∧ ((s.elapsed (s.sat n).hintSentAt (10 * usT) = true ∨ s.bridgeHint (bridgeOfSat n) ≠ (s.sat n).hintSent)) :=
  ⟨onSat 11 { hintSent := 1 }, 11, by decide +kernel⟩

theorem witness_SatelliteFramesAct_2 : ∃ (s : State) (n : Fin 12), (s.linkLive n = true) :=
  ⟨onSat 11 { hintSent := 1 }, 11, by decide +kernel⟩

theorem witness_SatelliteFramesAct_3 : ∃ (s : State) (n : Fin 12) (i : Fin 256) (v : Word), (s.linkLive n = true) :=
  ⟨onSat 11 {}, 11, 0x40, 1, by decide +kernel⟩

theorem witness_SatelliteFramesAct_3b : ∃ (s : State) (n : Fin 12) (i : Fin 256) (v : Word), (s.linkLive n = true) :=
  ⟨onSat 11 {}, 11, 0x3F, 1, by decide +kernel⟩

theorem witness_SatelliteFramesAct_3c : ∃ (s : State) (n : Fin 12) (i : Fin 256) (v : Word), (s.linkLive n = true) :=
  ⟨onSat 11 {}, 11, 0x0C, 33, by decide +kernel⟩

theorem witness_SatelliteFramesAct_4 : ∃ (s : State) (n : Fin 12), (s.linkLive n = true) ∧ ((s.sat n).clearDue = true) :=
  ⟨onSat 11 { clearDue := true, latched := true }, 11, by decide +kernel⟩

theorem witness_SatelliteFramesAct_5 : ∃ (s : State) (n : Fin 12), (s.linkLive n = true) ∧ ((s.sat n).startStep = 6) ∧ (s.isStarting .satellite n = true) :=
  ⟨(onSat 11 { startStep := 6, resumed := false }).setLc .satellite 11 { state := .starting }, 11, by decide +kernel⟩

theorem witness_SatelliteFramesAct_6 : ∃ (s : State) (n : Fin 12), (s.linkLive n = true) ∧ (s.isStopping .satellite n = true) :=
  ⟨(onSat 11 { driven := true, releasedAt := some 0, req := some 4 }).setLc .satellite 11 { state := .stopping }, 11, by decide +kernel⟩

theorem witness_SatelliteFramesAct_7 : ∃ (s : State) (n : Fin 12), ((s.goodFrame n).2 = true) :=
  ⟨upSat 11 { gateOn := true, crossOk := false }, 11, by decide +kernel⟩

theorem witness_SatelliteFramesAct_8 : ∃ (s : State) (n : Fin 12) (m : EdgeMsg) (l : List EdgeMsg), ((s.goodFrame n).2 = true) ∧ ((s.sat n).edges = m :: l) :=
  ⟨upSat 11 { edges := [⟨true, true, false, 3, 90⟩] }, 11, ⟨true, true, false, 3, 90⟩, [], by decide +kernel⟩

theorem witness_SatelliteFramesAct_9 : ∃ (s : State) (n : Fin 12) (mv : Int), ((s.goodFrame n).2 = true) ∧ (-32768 ≤ mv) ∧ (mv ≤ 32767) :=
  ⟨upSat 11 {}, 11, -32768, by decide +kernel⟩

theorem witness_SatelliteFramesAct_10 : ∃ (s : State) (n : Fin 12) (c : Int), ((s.goodFrame n).2 = true) :=
  ⟨upSat 11 {}, 11, 17000, by decide +kernel⟩

theorem witness_SatelliteFramesAct_11 : ∃ (s : State) (n : Fin 12) (vee : Bool) (mv : Int), ((s.goodFrame n).2 = true) ∧ (-32768 ≤ mv) ∧ (mv ≤ 32767) :=
  ⟨upSat 11 {}, 11, true, -4000, by decide +kernel⟩

theorem witness_SatelliteFramesAct_11b : ∃ (s : State) (n : Fin 12) (vee : Bool) (mv : Int), ((s.goodFrame n).2 = true) ∧ (-32768 ≤ mv) ∧ (mv ≤ 32767) :=
  ⟨upSat 11 {}, 11, false, 15000, by decide +kernel⟩

theorem witness_SatelliteFramesAct_12 : ∃ (s : State) (n : Fin 12) (skipped : Bool) (wait : Nat) (l : List (Bool × Nat)), ((s.goodFrame n).2 = true) ∧ ((s.sat n).hs = (skipped, wait) :: l) :=
  ⟨upSat 11 { hs := [(false, 65536)] }, 11, false, 65536, [], by decide +kernel⟩

theorem witness_SatelliteFramesAct_13 : ∃ (s : State) (n : Fin 12), ((s.goodFrame n).2 = true) ∧ ((s.sat n).ackDue = true) :=
  ⟨upSat 11 { ackDue := true, hint := 2 }, 11, by decide +kernel⟩

theorem witness_SatelliteFaultsAct_1 : ∃ (s : State) (n : Fin 12) (crc : Bool), (s.linkLive n = true) :=
  ⟨upSat 11 { badRun := 3 }, 11, true, by decide +kernel⟩

theorem witness_SatelliteFaultsAct_2 : ∃ (s : State) (n : Fin 12), (s.linkLive n = true) :=
  ⟨upSat 11 {}, 11, by decide +kernel⟩

theorem witness_SatelliteFaultsAct_3 : ∃ (s : State) (n : Fin 12) (t0 : Nat), ((s.sat n).ackMissing = some t0) ∧ (s.linkLive n = true) ∧ (s.elapsed t0 (25 * usT) = true) :=
  ⟨{ upSat 11 { ackMissing := some 0 } with now := 20000 }, 11, 0, by decide +kernel⟩

theorem witness_SatelliteFaultsAct_4 : ∃ (s : State) (n : Fin 12), (s.linkLive n = true) ∧ ((s.sat n).breakDue = true) :=
  ⟨upSat 11 { breakDue := true }, 11, by decide +kernel⟩

theorem witness_SatelliteFaultsAct_5 : ∃ (s : State) (n : Fin 12), ((s.sat n).driven = true) ∧ ((s.sat n).gateOn = true) ∧ ((s.sat n).soft = 0) ∧ (s.elapsedNs ((s.sat n).releasedAt.getD 0) (s.satSetN n P.DESAT_BLANK) = true) :=
  ⟨{ upSat 11 { driven := true, gateOn := true } with now := 8000000 }, 11, by decide +kernel⟩

theorem witness_SatelliteFaultsAct_6 : ∃ (s : State) (n : Fin 12) (t0 : Nat), ((s.sat n).detectAt = some t0) ∧ ((s.sat n).driven = true) ∧ ((s.sat n).soft = 0) ∧ (s.elapsedNs t0 (s.satSetN n P.DESAT_FILT) = true) :=
  ⟨{ upSat 11 { driven := true, gateOn := true, detectAt := some 0 } with now := 8000000 }, 11, 0, by decide +kernel⟩

theorem witness_SatelliteFaultsAct_7 : ∃ (s : State) (n : Fin 12), ((s.sat n).soft = 1) ∧ (s.elapsedNs (s.sat n).softAt (s.satSetN n P.SOFT_T1) = true) :=
  ⟨{ upSat 11 { soft := 1, gateOn := true } with now := 8000000 }, 11, by decide +kernel⟩

theorem witness_SatelliteFaultsAct_8 : ∃ (s : State) (b : Fin 2), ((s.pwm b).live = true) ∧ ((s.pwm b).clearDone = false) ∧ (s.period b ≤ s.counter b + 800) :=
  ⟨{ (upSat 11 { latched := true }).setPwm 1 { running := true, length := 900000 } with now := 899999 }, 1, by decide +kernel⟩

theorem witness_SatelliteFaultsAct_9 : ∃ (s : State) (n : Fin 12), ((s.sat n).resumed = true) ∧ ((s.sat n).otShut = false) :=
  ⟨upSat 11 { driven := true }, 11, by decide +kernel⟩

theorem witness_SatelliteFaultsAct_10 : ∃ (s : State) (n : Fin 12) (mv : Int), ((s.sat n).resumed = true) ∧ (mv < s.satSet n P.UVLO_POS) ∧ ((s.sat n).uvloPos = false) ∧ (((s.sat n).supplyMode ≠ 2 ∨ (s.sat n).driven = true)) :=
  ⟨upSat 11 { driven := true }, 11, 100, by decide +kernel⟩

theorem witness_SatelliteFaultsAct_11 : ∃ (s : State) (n : Fin 12) (mv : Int), ((s.sat n).resumed = true) ∧ (s.satSet n P.UVLO_NEG ≠ 0) ∧ (s.satSet n P.UVLO_NEG < mv) ∧ ((s.sat n).uvloNeg = false) :=
  ⟨withPar (upSat 11 { driven := true }) P.UVLO_NEG 11 0 (-3000), 11, -100, by decide +kernel⟩

theorem witness_SatelliteFaultsAct_12 : ∃ (s : State) (n : Fin 12) (neg : Bool) (mv : Int), ((if neg then (s.sat n).uvloNeg else (s.sat n).uvloPos) = true) ∧ ((if neg then decide (mv ≤ s.satSet n P.UVLO_NEG - s.satSet n P.UVLO_HYST) else decide (s.satSet n P.UVLO_POS + s.satSet n P.UVLO_HYST ≤ mv)) = true) :=
  ⟨upSat 11 { uvloPos := true }, 11, false, 30000, by decide +kernel⟩

theorem witness_SatelliteFaultsAct_12b : ∃ (s : State) (n : Fin 12) (neg : Bool) (mv : Int), ((if neg then (s.sat n).uvloNeg else (s.sat n).uvloPos) = true) ∧ ((if neg then decide (mv ≤ s.satSet n P.UVLO_NEG - s.satSet n P.UVLO_HYST) else decide (s.satSet n P.UVLO_POS + s.satSet n P.UVLO_HYST ≤ mv)) = true) :=
  ⟨upSat 11 { uvloNeg := true }, 11, true, -30000, by decide +kernel⟩

theorem witness_SatelliteFaultsAct_13 : ∃ (s : State) (n : Fin 12) (vcc vee : Int), (s.isStarting .satellite n = true) ∧ ((s.sat n).startStep = 5) ∧ (s.linkLive n = true) ∧ (((s.sat n).supplyMode = 2 ∨ s.satSet n P.UVLO_POS + s.satSet n P.UVLO_HYST ≤ vcc ∧ (s.satSet n P.UVLO_NEG = 0 ∨ vee ≤ s.satSet n P.UVLO_NEG - s.satSet n P.UVLO_HYST))) :=
  ⟨(upSat 11 { startStep := 5 }).setLc .satellite 11 { state := .starting }, 11, 30000, -30000, by decide +kernel⟩

theorem witness_SatelliteFaultsAct_14 : ∃ (s : State) (n : Fin 12), ((s.sat n).supplyMode = 1) ∧ (s.linkLive n = true) ∧ (s.elapsed (s.sat n).txAt (10 * usT) = true) :=
  ⟨{ upSat 11 { supplyMode := 1, txDuty := 300000 } with now := 8000 }, 11, by decide +kernel⟩

theorem witness_SatelliteFaultsAct_15 : ∃ (s : State) (n : Fin 12) (t0 : Nat), ((s.sat n).regSince = some t0) ∧ ((s.sat n).supplyMode = 1) ∧ (s.isOn .satellite n = true) ∧ (s.elapsed t0 msT = true) :=
  ⟨{ upSat 11 { supplyMode := 1, regSince := some 0 } with now := 800000 }, 11, 0, by decide +kernel⟩

theorem witness_SatelliteFaultsAct_16 : ∃ (s : State) (n : Fin 12) (c : Bool), ((s.sat n).listening = true) ∧ ((s.sat n).applying = false) ∧ ((s.elapsed (s.sat n).cfgAt (25 * usT) = true ∨ c = true ∨ (s.sat n).carriers = false ∨ s.pdOn (satDomain n) = false)) :=
  ⟨{ upSat 11 { listening := true } with now := 20000 }, 11, false, by decide +kernel⟩

theorem witness_SatelliteFaultsAct_16b : ∃ (s : State) (n : Fin 12) (c : Bool), ((s.sat n).listening = true) ∧ ((s.sat n).applying = false) ∧ ((s.elapsed (s.sat n).cfgAt (25 * usT) = true ∨ c = true ∨ (s.sat n).carriers = false ∨ s.pdOn (satDomain n) = false)) :=
  ⟨upSat 11 { listening := true }, 11, true, by decide +kernel⟩

theorem witness_CurrentSensingCommandsAct_1 : ∃ (s : State) (m : Fin 21) (n : Fin 6) (i : Fin 8), ((s.mayWrite m .ADC_SW_START n).2 = true) :=
  ⟨openMpu pdAll, 8, 5, 7, by decide +kernel⟩

theorem witness_CurrentSensingCommandsAct_1b : ∃ (s : State) (m : Fin 21) (n : Fin 6) (i : Fin 8), ((s.mayWrite m .ADC_SW_START n).2 = true) :=
  ⟨(openMpu pdAll).setAdc 5 { run := some { src := .software, input := 2, at_ := 0 } }, 8, 5, 7, by decide +kernel⟩

theorem witness_CurrentSensingCommandsAct_1c : ∃ (s : State) (m : Fin 21) (n : Fin 6) (i : Fin 8), ((s.mayWrite m .ADC_SW_START n).2 = true) :=
  ⟨(openMpu pdAll).setAdc 5 { run := some { src := .software, input := 2, at_ := 0 }, heldSw := some 3 }, 8, 5, 7, by decide +kernel⟩

theorem witness_CurrentSensingCommandsAct_2 : ∃ (s : State) (n : Fin 6) (i : Fin 8), (s.pdOn 8 = true) ∧ (s.par P.ADC_MODE n ≠ 2) ∧ ((s.adc n).run = none) ∧ ((s.adc n).aborted = none) :=
  ⟨pdAll, 5, 7, by decide +kernel⟩

theorem witness_CurrentSensingCommandsAct_3 : ∃ (s : State) (b : Fin 2), (s.pdOn 8 = true) ∧ ((s.sens b).tripCapDue = true) :=
  ⟨pdAll.setSens 1 { tripCapDue := true }, 1, by decide +kernel⟩

theorem witness_CurrentSensingCommandsAct_4 : ∃ (s : State) (n : Fin 6) (raw : Int) (c : Conv), ((s.adc n).run = some c) ∧ (s.pdOn 8 = true) ∧ (s.elapsed c.at_ (s.convTime n) = true) :=
  ⟨{ pdAll.setAdc 5 { run := some { src := .timeline, input := 2, at_ := 0 } } with now := 80000 }, 5, -8192, { src := .timeline, input := 2, at_ := 0 }, by decide +kernel⟩

theorem witness_CurrentSensingCommandsAct_4b : ∃ (s : State) (n : Fin 6) (raw : Int) (c : Conv), ((s.adc n).run = some c) ∧ (s.pdOn 8 = true) ∧ (s.elapsed c.at_ (s.convTime n) = true) :=
  ⟨{ pdAll.setAdc 5 { run := some { src := .safety, input := 7, at_ := 0 } } with now := 80000 }, 5, 8191, { src := .safety, input := 7, at_ := 0 }, by decide +kernel⟩

theorem witness_CurrentSensingCommandsAct_5 : ∃ (s : State) (n : Fin 6) (raw : Int), ((s.adc n).run = none) ∧ ((s.adc n).aborted = none) ∧ (s.pdOn 8 = true) :=
  ⟨pdAll.setAdc 5 { refBad := 2 }, 5, 4137, by decide +kernel⟩

theorem witness_CurrentSensingCommandsAct_6 : ∃ (s : State) (m : Fin 21) (n : Fin 6), ((s.mayRead m .ADC_RESULT n).2 = true) :=
  ⟨(openMpu pdAll).setFlag F.ADC_RESULT_VALID true 5, 8, 5, by decide +kernel⟩

theorem witness_CurrentSensingCommandsAct_7 : ∃ (s : State) (m : Fin 21) (b : Fin 2), ((s.mayRead m .ADC_TRIP_CAP1 b).2 = true) :=
  ⟨(openMpu pdAll).setFlag F.ADC_TRIP_CAP1_VALID true 1, 8, 1, by decide +kernel⟩

theorem witness_CurrentSensingCommandsAct_8 : ∃ (s : State) (k : Fin 8) (mv : Int), (s.pdOn 8 = true) ∧ (bits (s.fld F.ADC_CT_STATUS_LEVEL) k k = 0) ∧ (s.ctTrue k mv 0 = true) :=
  ⟨withPar (withPar pdAll P.CT_MODE 7 0 3) P.CT_LEVEL 7 0 1000, 7, -1001, by decide +kernel⟩

theorem witness_CurrentSensingCommandsAct_9 : ∃ (s : State) (k : Fin 8) (mv : Int), (s.pdOn 8 = true) ∧ (bits (s.fld F.ADC_CT_STATUS_LEVEL) k k = 1) ∧ (s.ctTrue k mv 50 = false) :=
  ⟨(withPar (withPar pdAll P.CT_MODE 7 0 3) P.CT_LEVEL 7 0 1000).setFld F.ADC_CT_STATUS_LEVEL 0x80, 7, -950, by decide +kernel⟩

theorem witness_CurrentSensingCommandsAct_10 : ∃ (s : State) (c : Fin 24) (w : List Bool), (s.pdOn 8 = true) ∧ (s.linkLive (c.val / 2) = true) ∧ (w.length = 3 * s.parN P.DS_OSR c - 2) ∧ (s.elapsed (s.sense.outAt.at 0 c.val) (40 * s.parN P.DS_OSR c) = true) :=
  ⟨{ upSat 11 {} with now := 80000, sense := { since := [(23, some 0)] } }, 23, List.replicate 94 true, by decide +kernel⟩

theorem witness_CurrentSensingCommandsAct_11 : ∃ (s : State) (t0 : Nat), (s.sense.mismatchSince = some t0) ∧ (s.elapsed t0 msT = true) :=
  ⟨{ pdAll with now := 800000, sense := { mismatchSince := some 0 } }, 0, by decide +kernel⟩

theorem witness_PositionCommandsAct_1 : ∃ (s : State) (k : Fin 4), (s.parN P.PCMP_SRC k < 2) ∧ (s.isOn .posCmp k = true) :=
  ⟨(withPar pdAll P.PCMP_SRC 3 0 1).setLc .posCmp 3 { state := .on }, 3, by decide +kernel⟩

theorem witness_PositionCommandsAct_2 : ∃ (s : State) (k : Fin 4) (t0 : Nat), ((s.posCmp k).pulseAt = some t0) ∧ (s.elapsedNs t0 (s.parN P.PCMP_WIDTH k) = true) :=
  ⟨{ pdAll.setPosCmp 3 { pulseAt := some 0 } with now := 8000000000 }, 3, 0, by decide +kernel⟩

theorem witness_PositionCommandsAct_3 : ∃ (s : State) (i : Fin 8), (s.isOn .posIf i = true) ∧ ((s.posIf i).standstill = false) ∧ (s.elapsed (s.posIf i).lastEdge (s.parN P.SPD_STANDSTILL i * msT) = true) :=
  ⟨{ (pdAll.setLc .posIf 7 { state := .on }).setPosIf 7 { standstill := false } with now := 80000000000 }, 7, by decide +kernel⟩

theorem witness_PositionCommandsAct_4 : ∃ (s : State) (n : Fin 2), (s.isOn .posIf (n.val + 2) = true) ∧ (s.par P.INDEX_EN (n.val + 2) = 1) ∧ (s.par P.ENC_MODE (n.val + 2) = 0) :=
  ⟨(withPar (withPar pdAll P.INDEX_EN 3 0 1) P.ENC_MODE 3 0 0).setLc .posIf 3 { state := .on }, 1, by decide +kernel⟩

theorem witness_PositionCommandsAct_5 : ∃ (s : State) (n : Fin 2), (s.isOn .posIf (n.val + 2) = true) :=
  ⟨pdAll.setLc .posIf 3 { state := .on }, 1, by decide +kernel⟩

theorem witness_PositionCommandsAct_6 : ∃ (s : State) (i : Fin 4) (back : Bool), ((s.isOn .posIf i = true ∨ (2 ≤ i.val ∧ s.isStarting .posIf i = true))) :=
  ⟨{ pdAll.setLc .posIf 3 { state := .starting } with now := 77 }, 3, true, by decide +kernel⟩

theorem witness_PositionCommandsAct_6b : ∃ (s : State) (i : Fin 4) (back : Bool), ((s.isOn .posIf i = true ∨ (2 ≤ i.val ∧ s.isStarting .posIf i = true))) :=
  ⟨{ pdAll.setLc .posIf 0 { state := .on } with now := 77 }, 0, false, by decide +kernel⟩

theorem witness_PositionCommandsAct_7 : ∃ (s : State) (n : Fin 2) (sin cos lag err : Int) (angle : Nat), ((s.isOn .posIf n = true ∨ s.isStarting .posIf n = true)) :=
  ⟨pdAll.setLc .posIf 1 { state := .on }, 1, 3000, -4000, 20, -70000, 4294967295, by decide +kernel⟩

theorem witness_PositionCommandsAct_8 : ∃ (s : State) (n : Fin 2), ((s.isOn .posIf n = true ∨ s.isStarting .posIf n = true)) :=
  ⟨pdAll.setLc .posIf 1 { state := .starting }, 1, by decide +kernel⟩

theorem witness_PositionCommandsAct_9 : ∃ (s : State) (n : Fin 2) (st : Fin 8) (sec : Nat), (hallSector st = some sec) ∧ ((s.isOn .posIf (n.val + 4) = true ∨ s.isStarting .posIf (n.val + 4) = true)) ∧ (st.val ≠ s.fld F.POS_HALL_DIAG_STATE n) :=
  ⟨pdAll.setLc .posIf 5 { state := .on }, 1, 5, 5, by decide +kernel⟩

theorem witness_PositionCommandsAct_10 : ∃ (s : State) (n : Fin 2) (seven : Bool), ((s.isOn .posIf (n.val + 4) = true ∨ s.isStarting .posIf (n.val + 4) = true)) :=
  ⟨pdAll.setLc .posIf 5 { state := .on }, 1, true, by decide +kernel⟩

theorem witness_PositionCommandsAct_11 : ∃ (s : State) (n : Fin 2), ((s.isOn .posIf (n.val + 6) = true ∨ s.isStarting .posIf (n.val + 6) = true)) ∧ (s.par P.SER_ROLE (n.val + 6) = 0) ∧ (s.elapsed (s.posIf (n.val + 6)).sentAt (s.parN P.SER_PERIOD (n.val + 6) * usT) = true) :=
  ⟨{ (withPar pdAll P.SER_ROLE 7 0 0).setLc .posIf 7 { state := .on } with now := 800000000 }, 1, by decide +kernel⟩

theorem witness_PositionCommandsAct_12 : ∃ (s : State) (n : Fin 2) (bs : List Byte) (framing : Bool) (age : Nat), ((s.isOn .posIf (n.val + 6) = true ∨ s.isStarting .posIf (n.val + 6) = true)) ∧ (((s.posIf (n.val + 6)).asked = true ∨ s.par P.SER_ROLE (n.val + 6) = 1)) :=
  ⟨(pdAll.setLc .posIf 7 { state := .on }).setPosIf 7 { asked := true }, 1, [0, 0, 0, 0, 0, 0], false, 0, by decide +kernel⟩

theorem witness_PositionCommandsAct_12b : ∃ (s : State) (n : Fin 2) (bs : List Byte) (framing : Bool) (age : Nat), ((s.isOn .posIf (n.val + 6) = true ∨ s.isStarting .posIf (n.val + 6) = true)) ∧ (((s.posIf (n.val + 6)).asked = true ∨ s.par P.SER_ROLE (n.val + 6) = 1)) :=
  ⟨(pdAll.setLc .posIf 7 { state := .on }).setPosIf 7 { asked := true }, 1, [], true, 0, by decide +kernel⟩

theorem witness_PositionCommandsAct_13 : ∃ (s : State) (n : Fin 2), ((s.isOn .posIf (n.val + 6) = true ∨ s.isStarting .posIf (n.val + 6) = true)) ∧ ((if s.par P.SER_ROLE (n.val + 6) = 1 then s.elapsed (s.posIf (n.val + 6)).sentAt (2 * s.parN P.SER_PERIOD (n.val + 6) * usT) else (s.posIf (n.val + 6)).asked && s.elapsed (s.posIf (n.val + 6)).sentAt (800000 * 10 * (1 + s.parN P.SER_RESP_BYTES (n.val + 6)) / max 1 (s.parN P.SER_BAUD (n.val + 6)) + 2 * usT)) = true) :=
  ⟨{ (pdAll.setLc .posIf 7 { state := .on }).setPosIf 7 { asked := true } with now := 800000000 }, 1, by decide +kernel⟩

theorem witness_AtlasWindowCommandsAct_2 : ∃ (s : State) (n : Fin 2) (t0 : Nat), ((s.atl n).coarseSince = some t0) ∧ (s.isOn .slot n = true) ∧ (s.elapsed t0 (s.parN P.COARSE_WARN_T n * msT) = true) :=
  ⟨{ (pdAll.setLc .slot 1 { state := .on }).setAtl 1 { coarseSince := some 0 } with now := 8000000000 }, 1, 0, by decide +kernel⟩

theorem witness_AtlasWindowCommandsAct_3 : ∃ (s : State) (n : Fin 2) (errs : List (Nat × Nat)) (td tq : Nat) (rest : List (Nat × Nat)), ((s.atl n).fillQ = (td, tq) :: rest) ∧ (s.mramReady = true) :=
  ⟨atlasUp { fillQ := [(0, 0)] }, 0, [], 0, 0, [], by decide +kernel⟩

theorem witness_AtlasWindowCommandsAct_3b : ∃ (s : State) (n : Fin 2) (errs : List (Nat × Nat)) (td tq : Nat) (rest : List (Nat × Nat)), ((s.atl n).fillQ = (td, tq) :: rest) ∧ (s.mramReady = true) :=
  ⟨atlasUp { fillQ := [(0, 0)] }, 0, [(64, 3)], 0, 0, [], by decide +kernel⟩

theorem witness_AtlasWindowCommandsAct_4 : ∃ (s : State) (n : Fin 2) (errs : List (Nat × Nat)) (td tq st : Nat) (rest : List (Nat × Nat × Nat)), ((s.atl n).halfQ = (td, tq, st) :: rest) ∧ (s.mramReady = true) :=
  ⟨atlasUp { halfQ := [(0, 0, 1)] }, 0, [], 0, 0, 1, [], by decide +kernel⟩

theorem witness_AtlasWindowCommandsAct_5 : ∃ (s : State) (n : Fin 2) (b : Nat), (s.mramReady = true) ∧ ((s.changedBlocks n).filter (s.commitDue n) = [b]) :=
  ⟨(atlasUp { drift := [(3, 65535)] }).setAtlC { ptimeBase := 1000000000 }, 0, 3, by decide +kernel⟩

theorem witness_AtlasWindowCommandsAct_5b : ∃ (s : State) (n : Fin 2) (b : Nat), (s.mramReady = true) ∧ ((s.changedBlocks n).filter (s.commitDue n) = [b]) :=
  ⟨atlasUp { rewrite := [3] }, 0, 3, by decide +kernel⟩

theorem witness_DressingAndMramCommandsAct_1 : ∃ (s : State) (n : Fin 2), (s.isOn .dressing n = true) ∧ (s.ts / 1000000 + 1 ≠ (s.atl n).creditAt) :=
  ⟨(pdAll.setLc .dressing 1 { state := .on }).setAtl 1 { credit := 900 }, 1, by decide +kernel⟩

theorem witness_DressingAndMramCommandsAct_2 : ∃ (s : State) (n : Fin 2) (r : List Byte) (rest : List (List Byte)), ((s.atl n).fifo = r :: rest) ∧ (s.pdOn 5 = true) :=
  ⟨pdAll.setAtl 1 { fifo := [List.replicate 32 0#8] }, 1, List.replicate 32 0#8, [], by decide +kernel⟩

theorem witness_DressingAndMramCommandsAct_2b : ∃ (s : State) (n : Fin 2) (r : List Byte) (rest : List (List Byte)), ((s.atl n).fifo = r :: rest) ∧ (s.pdOn 5 = true) :=
  ⟨pdAll.setAtl 1 { fifo := [List.replicate 32 255#8] }, 1, List.replicate 32 255#8, [], by decide +kernel⟩

theorem witness_DressingAndMramCommandsAct_3 : ∃ (s : State), (s.pdOn 5 = true) ∧ (s.flag F.ATLAS_MRAM_STATUS_TRAINED = true) ∧ (s.fenced = false) :=
  ⟨mramUp, by decide +kernel⟩

theorem witness_DressingAndMramCommandsAct_3b : ∃ (s : State), (s.pdOn 5 = true) ∧ (s.flag F.ATLAS_MRAM_STATUS_TRAINED = true) ∧ (s.fenced = false) :=
  ⟨(mramUp).setAtlC { parity := [0, 0, 0] }, by decide +kernel⟩

theorem witness_DressingAndMramCommandsAct_4 : ∃ (s : State) (errs : List (Nat × Nat)), (s.mramReady = true) ∧ (s.atlasNv.nextBlock * (s.parN P.SCRUB_PASS_H * 3600) ≤ (s.ptime - s.atlasNv.passStart) * 32768) ∧ (s.atlasNv.nextBlock < 32768) :=
  ⟨mramUp, [(0, 1), (511, 3)], by decide +kernel⟩

theorem witness_DressingAndMramCommandsAct_4b : ∃ (s : State) (errs : List (Nat × Nat)), (s.mramReady = true) ∧ (s.atlasNv.nextBlock * (s.parN P.SCRUB_PASS_H * 3600) ≤ (s.ptime - s.atlasNv.passStart) * 32768) ∧ (s.atlasNv.nextBlock < 32768) :=
  ⟨{ (mramUp).setNv { nextBlock := 32767 } with atlasC := { ptimeBase := 1000000000 } }, [], by decide +kernel⟩

theorem witness_DressingAndMramCommandsAct_5 : ∃ (s : State) (n : Fin 2), (s.pdOn 1 = true) ∧ (s.island.sp0.selftest = true) ∧ (s.island.sp1.selftest = true) ∧ (s.pdOn 5 = true) ∧ ((s.atl n).resolved = true) ∧ ((s.atl n).bedrock = true) ∧ (s.atlasC.sig.at none n = none) :=
  ⟨{ atlasUp {} with island := { sp0 := { selftest := true }, sp1 := { selftest := true } } }, 0, by decide +kernel⟩

theorem witness_DressingAndMramCommandsAct_6 : ∃ (s : State) (n : Fin 64) (w : WorkItem) (d : List Byte), (s.mayRun n 0x31 (.roles [2]) true 2 [(24, 1)] w = true) ∧ (rawField w.raw 24 1 ≤ 1) ∧ (256 ≤ rawLen w.raw) ∧ (rawLen w.raw ≤ 0x200000) ∧ (s.bulk = none) ∧ (s.isOff .slot (rawTarget w.raw) = true) ∧ (s.isOff .dressing (rawTarget w.raw) = true) ∧ (s.mramReady = true) ∧ (s.rpPcie n = true) ∧ (s.hostOk n (rawAddr w.raw) (rawLen w.raw) false = true) ∧ (d.length = rawLen w.raw) :=
  ⟨(((rpState 63 6 2 (desc 0x31 1 0x1000 256 [1#8]) (mramUp)).setFlag F.DERRICK_RP_BIND_HOST true 63).setFlag F.PCIE_STATUS_DL_ACTIVE true).setFlag F.PCIE_STATUS_BME true, 63, ⟨0, desc 0x31 1 0x1000 256 [1#8], false, none⟩, List.replicate 256 7#8, by decide +kernel⟩

theorem witness_DressingAndMramCommandsAct_7 : ∃ (s : State) (b : Bulk), (s.bulk = some b) ∧ (b.kind = .bedrockImport) ∧ (b.checked = false) :=
  ⟨{ atlasUp {} with bulk := some ⟨.bedrockImport, 63, 0, 0, [], 256, false, 0⟩ }, ⟨.bedrockImport, 63, 0, 0, [], 256, false, 0⟩, by decide +kernel⟩

theorem witness_DressingAndMramCommandsAct_8 : ∃ (s : State) (n : Fin 2), (s.policySlot = some n.val) ∧ (s.mramReady = true) :=
  ⟨(atlasUp {}).setNv { geom := [(0, true)], policy := [(0, some 0)] }, 0, by decide +kernel⟩

theorem witness_DressingAndMramCommandsAct_9 : ∃ (s : State) (n : Fin 64) (w : WorkItem), (s.mayRun n 0x30 (.roles [1, 2]) false 2 [] w = true) ∧ (s.bulk = none) ∧ (s.atlasReady (rawTarget w.raw) = true) :=
  ⟨rpState 63 6 2 (desc 0x30 0 0 0 []) (atlasReadyState), 63, ⟨0, desc 0x30 0 0 0 [], false, none⟩, by decide +kernel⟩

theorem witness_DressingAndMramCommandsAct_10 : ∃ (s : State) (b : Bulk), (s.bulk = some b) ∧ (b.kind = .atlasExport) ∧ (b.queue = []) :=
  ⟨{ rpState 63 6 2 (desc 0x30 0 0 0 []) with bulk := some ⟨.atlasExport, 63, 0, 0, [], 256, false, 0⟩ }, ⟨.atlasExport, 63, 0, 0, [], 256, false, 0⟩, by decide +kernel⟩

theorem witness_RingPairCommandsAct_1 : ∃ (s : State) (master : Fin 21) (n : Fin 64), ((s.mayWrite master .DERRICK_RP_CTRL n).2 = true) ∧ ((master.val = 16 → s.rpPcie n = true)) ∧ (s.rpRefusal n = 0) :=
  ⟨rpOff 63 1, 8, 63, by decide +kernel⟩

theorem witness_RingPairCommandsAct_2 : ∃ (s : State) (master : Fin 21) (n : Fin 64), ((s.mayWrite master .DERRICK_RP_CTRL n).2 = true) ∧ ((master.val = 16 → s.rpPcie n = true)) ∧ (s.isOn .ring n = true) :=
  ⟨rpState 63 1 1 (desc 0 0 0 0 []), 8, 63, by decide +kernel⟩

theorem witness_RingPairCommandsAct_3 : ∃ (s : State) (master : Fin 21) (n : Fin 64) (tail : Fin 4096), ((s.mayWrite master .DERRICK_DB_SQ n).2 = true) ∧ (s.doorbellMaster master n = true) :=
  ⟨rpState 63 1 1 (desc 0 0 0 0 []), 8, 63, 15, by decide +kernel⟩

theorem witness_RingPairCommandsAct_3b : ∃ (s : State) (master : Fin 21) (n : Fin 64) (tail : Fin 4096), ((s.mayWrite master .DERRICK_DB_SQ n).2 = true) ∧ (s.doorbellMaster master n = true) :=
  ⟨rpState 63 1 1 (desc 0 0 0 0 []), 11, 63, 16, by decide +kernel⟩

theorem witness_RingPairCommandsAct_3c : ∃ (s : State) (master : Fin 21) (n : Fin 64) (tail : Fin 4096), ((s.mayWrite master .DERRICK_DB_SQ n).2 = true) ∧ (s.doorbellMaster master n = true) :=
  ⟨(rpState 63 1 1 (desc 0 0 0 0 [])).setLc .ring 63 { state := .starting }, 8, 63, 15, by decide +kernel⟩

theorem witness_RingPairCommandsAct_4 : ∃ (s : State) (master : Fin 21) (n : Fin 64) (head : Fin 4096), ((s.mayWrite master .DERRICK_DB_CQ n).2 = true) ∧ (s.doorbellMaster master n = true) ∧ (s.isOn .ring n = true) ∧ (head.val < s.rpSize n) ∧ (ringDist (s.rpSize n) (s.ring n).released head ≤ (s.ring n).outstanding) :=
  ⟨(rpState 63 1 1 (desc 0 0 0 0 [])).setRing 63 { outstanding := 15 }, 8, 63, 15, by decide +kernel⟩

theorem witness_RingPairCommandsAct_5 : ∃ (s : State) (n : Fin 64) (host : List Byte), (s.canFetch n = true) ∧ (s.myTurn n = true) ∧ (s.hostOk n (s.rpBase n + 64 * (s.ring n).head) 64 false = true) :=
  ⟨(rpState 63 1 1 (desc 0 0 0 0 [])).setRing 63 { head := 15, tail := 0 }, 63, [], by decide +kernel⟩

theorem witness_RingPairCommandsAct_6 : ∃ (s : State) (n : Fin 64) (w : WorkItem), (s.isOn .ring n = true) ∧ ((s.ring n).nextItem = some w) ∧ ((s.ring n).fenceOk w = true) ∧ (s.opAllowed n (rawOpcode w.raw) = false) :=
  ⟨rpState 63 1 1 (desc 0x02 0 0 0 []), 63, ⟨0, desc 0x02 0 0 0 [], false, none⟩, by decide +kernel⟩

theorem witness_RingPairCommandsAct_7 : ∃ (s : State) (n : Fin 64) (w : WorkItem), (s.mayRun n 0x00 .any false 1 [] w = true) :=
  ⟨rpState 63 1 1 (desc 0 0 0 0 []), 63, ⟨0, desc 0 0 0 0 [], false, none⟩, by decide +kernel⟩

theorem witness_RingPairCommandsAct_8 : ∃ (s : State) (n : Fin 64) (t0 : Nat), ((s.ring n).unsigSince = some t0) ∧ (s.fld F.DERRICK_RP_CFG_IRQ_TIME n ≠ 0) ∧ (s.elapsed t0 (s.fld F.DERRICK_RP_CFG_IRQ_TIME n * usT) = true) :=
  ⟨{ (pdAll.setFld F.DERRICK_RP_CFG_IRQ_TIME 5 63).setRing 63 { unsig := 1, unsigSince := some 0 } with now := 8000000 }, 63, 0, by decide +kernel⟩

theorem witness_RingPairCommandsAct_9 : ∃ (s : State) (n : Fin 64) (w : WorkItem), (s.mayRun n 0x01 .any true 1 [] w = true) ∧ (64 ≤ rawLen w.raw) ∧ (rawLen w.raw ≤ 65536) ∧ (rawLen w.raw % 16 = 0) ∧ (s.hostOk n (rawAddr w.raw) (rawLen w.raw) true = true) ∧ (s.bulk = none) :=
  ⟨rpState 63 2 1 (desc 1 0 0x10004000 65536 []), 63, ⟨0, desc 1 0 0x10004000 65536 [], false, none⟩, by decide +kernel⟩

theorem witness_RingPairCommandsAct_10 : ∃ (s : State) (n : Fin 64) (b : RecvBuf) (rest : List RecvBuf) (t0 : Nat), ((s.ring n).bufs = b :: rest) ∧ (b.firstAt = some t0) ∧ (s.elapsed t0 (s.parN P.FLUSH_T * usT) = true) ∧ (s.bulk = none) :=
  ⟨{ (rpState 63 2 1 (desc 0 0 0 0 [])).setRing 63 { bufs := [⟨0, 0x10004000, 64, 16, 1, some 0, 5, 0⟩] } with now := 800000000 }, 63, ⟨0, 0x10004000, 64, 16, 1, some 0, 5, 0⟩, [], 0, by decide +kernel⟩

theorem witness_HostLinkCommandsAct_1 : ∃ (s : State) (n : Fin 64) (w : WorkItem), (s.mayRun n 0x32 (.roles [1, 2, 3]) false 1 [(24, 1), (28, 4), (32, 4)] w = true) ∧ (rawField w.raw 24 1 ≤ 1) ∧ (s.bulk = none) ∧ (s.mramReady = true) :=
  ⟨rpState 63 6 1 (desc 0x32 0 0 0 [1#8]) mramUp, 63, ⟨0, desc 0x32 0 0 0 [1#8], false, none⟩, by decide +kernel⟩

theorem witness_HostLinkCommandsAct_2 : ∃ (s : State) (b : Bulk), (s.bulk = some b) ∧ (b.kind = .logExport) ∧ (b.queue = []) :=
  ⟨{ rpState 63 6 1 (desc 0x32 0 0 0 [1#8]) mramUp with bulk := some ⟨.logExport, 63, 0, 1, [], 2, false, 9⟩, prot := { audit := { index := [(7, 0), (8, 1)] } } }, ⟨.logExport, 63, 0, 1, [], 2, false, 9⟩, by decide +kernel⟩

theorem witness_HostLinkCommandsAct_3 : ∃ (s : State) (h : Fin 2), (s.hostPresent h = true) ∧ (s.elapsed (s.hostOf h).lastDb (s.parN P.HB_TIMEOUT h * msT) = true) :=
  ⟨{ rpState 63 1 1 (desc 0 0 0 0 []) with now := 800000000000 }, 0, by decide +kernel⟩

theorem witness_HostLinkCommandsAct_4 : ∃ (s : State) (n : Fin 2), (s.elapsed (s.slotHost n).lossAt ((s.slotHost n).holdT * msT) = true) ∧ ((s.slotHost n).ramped = false) ∧ ((s.slotHost n).due = false) ∧ (((s.slotHost n).policy = 3 ∨ (s.slotHost n).policy = 2 ∧ (s.slotHost n).firstCan = false)) :=
  ⟨{ pdAll.setSlotHost 1 { policy := 2, holdT := 10 } with now := 8000000 }, 1, by decide +kernel⟩

theorem witness_HostLinkCommandsAct_4b : ∃ (s : State) (n : Fin 2), (s.elapsed (s.slotHost n).lossAt ((s.slotHost n).holdT * msT) = true) ∧ ((s.slotHost n).ramped = false) ∧ ((s.slotHost n).due = false) ∧ (((s.slotHost n).policy = 3 ∨ (s.slotHost n).policy = 2 ∧ (s.slotHost n).firstCan = false)) :=
  ⟨{ pdAll.setSlotHost 1 { policy := 3, holdT := 10 } with now := 8000000 }, 1, by decide +kernel⟩

theorem witness_HostLinkCommandsAct_5 : ∃ (s : State) (speed : Fin 4) (wide bme memEn : Bool), (s.pdOn 9 = true) ∧ (s.flag F.PCIE_CTRL_LINK_EN = true) :=
  ⟨pdAll.setFlag F.PCIE_CTRL_LINK_EN true, 3, true, true, false, by decide +kernel⟩

theorem witness_HostLinkCommandsAct_6 : ∃ (s : State), (s.flag F.PCIE_STATUS_DL_ACTIVE = true) :=
  ⟨((rpState 63 1 1 (desc 0 0 0 0 [])).setFlag F.DERRICK_RP_BIND_HOST true 63).setFlag F.PCIE_STATUS_DL_ACTIVE true, by decide +kernel⟩

theorem witness_HostLinkCommandsAct_6b : ∃ (s : State), (s.flag F.PCIE_STATUS_DL_ACTIVE = true) :=
  ⟨pdAll.setFlag F.PCIE_STATUS_DL_ACTIVE true, by decide +kernel⟩

theorem witness_HostLinkCommandsAct_7 : ∃ (s : State), (s.flag F.PCIE_STATUS_BME = true) :=
  ⟨((rpState 63 1 1 (desc 0 0 0 0 [])).setFlag F.DERRICK_RP_BIND_HOST true 63).setFlag F.PCIE_STATUS_BME true, by decide +kernel⟩

theorem witness_HostLinkCommandsAct_8 : ∃ (s : State) (n : Fin 64), (s.rpPcie n = true) ∧ (s.isOff .ring n = false) :=
  ⟨(rpState 63 1 1 (desc 0 0 0 0 [])).setFlag F.DERRICK_RP_BIND_HOST true 63, 63, by decide +kernel⟩

theorem witness_DriveCommandsAct_1 : ∃ (s : State) (n : Fin 64) (w : WorkItem) (k : Fin 2), (s.mayRun n 0x10 .drive false 2 driveCmdUsed w = true) ∧ (rawTarget w.raw = k.val) ∧ (rawField w.raw 24 1 < 3) ∧ (rawField w.raw 25 1 = 0) ∧ (0 ≤ rawFieldS w.raw 36 4) ∧ (s.cmdSourceOf k = 0) ∧ ((s.isOn .slot k = true ∧ (rawField w.raw 24 1 = 2 → (s.slot k).expert = true) ∨ s.isStarting .slot k = true)) :=
  ⟨(rpState 63 1 1 (desc 0x10 1 0 0 [0#8])).setLc .slot 1 { state := .on }, 63, ⟨0, desc 0x10 1 0 0 [0#8], false, none⟩, 1, by decide +kernel⟩

theorem witness_DriveCommandsAct_1b : ∃ (s : State) (n : Fin 64) (w : WorkItem) (k : Fin 2), (s.mayRun n 0x10 .drive false 2 driveCmdUsed w = true) ∧ (rawTarget w.raw = k.val) ∧ (rawField w.raw 24 1 < 3) ∧ (rawField w.raw 25 1 = 0) ∧ (0 ≤ rawFieldS w.raw 36 4) ∧ (s.cmdSourceOf k = 0) ∧ ((s.isOn .slot k = true ∧ (rawField w.raw 24 1 = 2 → (s.slot k).expert = true) ∨ s.isStarting .slot k = true)) :=
  ⟨(rpState 63 1 1 (desc 0x10 1 0 0 [2#8])).setLc .slot 1 { state := .starting }, 63, ⟨0, desc 0x10 1 0 0 [2#8], false, none⟩, 1, by decide +kernel⟩

theorem witness_DriveCommandsAct_2 : ∃ (s : State) (n : Fin 64) (w : WorkItem), (s.mayRun n 0x10 .drive false 2 driveCmdUsed w = true) ∧ (rawField w.raw 24 1 = 3) ∧ (rawField w.raw 25 1 ≤ 1) ∧ (s.cmdSourceOf (rawTarget w.raw) = 0) ∧ (s.pdOn 1 = true) ∧ ((rawField w.raw 25 1 = 1 ∨ s.isOn .slot 0 = false ∧ s.isOn .slot 1 = false)) :=
  ⟨rpState 63 1 1 (desc 0x10 1 0 0 [3#8]), 63, ⟨0, desc 0x10 1 0 0 [3#8], false, none⟩, by decide +kernel⟩

theorem witness_DriveCommandsAct_2b : ∃ (s : State) (n : Fin 64) (w : WorkItem), (s.mayRun n 0x10 .drive false 2 driveCmdUsed w = true) ∧ (rawField w.raw 24 1 = 3) ∧ (rawField w.raw 25 1 ≤ 1) ∧ (s.cmdSourceOf (rawTarget w.raw) = 0) ∧ (s.pdOn 1 = true) ∧ ((rawField w.raw 25 1 = 1 ∨ s.isOn .slot 0 = false ∧ s.isOn .slot 1 = false)) :=
  ⟨(rpState 63 1 1 (desc 0x10 0 0 0 [3#8, 1#8])).setLc .slot 0 { state := .on }, 63, ⟨0, desc 0x10 0 0 0 [3#8, 1#8], false, none⟩, by decide +kernel⟩

theorem witness_DriveCommandsAct_3 : ∃ (s : State) (n : Fin 64) (w : WorkItem), (s.mayRun n 0x1A .drive false 2 [] w = true) ∧ (s.isOn .slot (rawTarget w.raw) = true) ∧ (((s.slotHost (rawTarget w.raw)).policy = 2 ∨ (s.slotHost (rawTarget w.raw)).source = true)) :=
  ⟨((rpState 63 1 1 (desc 0x1A 1 0 0 [])).setLc .slot 1 { state := .on }).setSlotHost 1 { policy := 2, source := true }, 63, ⟨0, desc 0x1A 1 0 0 [], false, none⟩, by decide +kernel⟩

theorem witness_BootAndSessionCommandsAct_1 : ∃ (s : State) (master : Fin 21) (value : Nat), ((s.mayWrite master .PROT_BOOTLOCK 0).2 = true) :=
  ⟨openMpu pdAll, 8, 1, by decide +kernel⟩

theorem witness_BootAndSessionCommandsAct_1b : ∃ (s : State) (master : Fin 21) (value : Nat), ((s.mayWrite master .PROT_BOOTLOCK 0).2 = true) :=
  ⟨openMpu pdAll, 8, 0, by decide +kernel⟩

theorem witness_BootAndSessionCommandsAct_1c : ∃ (s : State) (master : Fin 21) (value : Nat), ((s.mayWrite master .PROT_BOOTLOCK 0).2 = true) :=
  ⟨(openMpu pdAll).setFlag F.PROT_BOOTLOCK_LOCK true, 8, 0, by decide +kernel⟩

theorem witness_BootAndSessionCommandsAct_2 : ∃ (s : State) (value r : Nat), ((s.mayWrite 8 .PROT_BOOT_CONFIRM 0).2 = true) ∧ (value % 2 = 1) ∧ (s.flag F.PROT_STATUS_CONFIRMED = false) ∧ (s.prot.running = some r) :=
  ⟨{ openMpu pdAll with prot := { running := some 1, pendingSlot := some 1, runRollback := 5 } }, 1, 1, by decide +kernel⟩

theorem witness_BootAndSessionCommandsAct_3 : ∃ (s : State) (t0 : Nat), (s.prot.lockSince = some t0) ∧ (s.elapsed t0 (5 * secT) = true) ∧ (s.flag F.PROT_STATUS_CONFIRMED = false) ∧ (s.rst.guard = none) :=
  ⟨{ pdAll with prot := { lockSince := some 0 }, now := 8000000000 }, 0, by decide +kernel⟩

theorem witness_BootAndSessionCommandsAct_4 : ∃ (s : State) (n : Fin 64) (w : WorkItem), (s.mayRun n 0x20 .bound true 1 [] w = true) ∧ (s.prot.lockout.at none (s.rpRole n) = none) ∧ (rawLen w.raw = 16) ∧ (s.hostOk n (rawAddr w.raw) 16 true = true) :=
  ⟨rpState 63 1 1 (desc 0x20 0 0x10004000 16 []), 63, ⟨0, desc 0x20 0 0x10004000 16 [], false, none⟩, by decide +kernel⟩

theorem witness_BootAndSessionCommandsAct_5 : ∃ (s : State) (n : Fin 64) (w : WorkItem) (sig : List Byte) (k t0 : Nat), (s.mayRun n 0x21 .bound true 1 [] w = true) ∧ (rawLen w.raw = 64) ∧ (s.rpPcie n = true) ∧ (s.hostOk n (rawAddr w.raw) 64 false = true) ∧ (sig.length = 64) ∧ (s.nonceOf n = some (k, t0)) ∧ (s.elapsed t0 (60 * secT) = false) ∧ ((s.roleKey (s.rpRole n)).all (fun b => b == 0#8) = false) ∧ (s.mramReady = true) :=
  ⟨{ withPar (((rpState 63 1 1 (desc 0x21 0 0x1000 64 []) (mramUp)).setFlag F.DERRICK_RP_BIND_HOST true 63).setFlag F.PCIE_STATUS_DL_ACTIVE true |>.setFlag F.PCIE_STATUS_BME true) P.OPERATOR_KEY 0 0 5 with prot := { nonces := [(63, some (0, 0))] } }, 63, ⟨0, desc 0x21 0 0x1000 64 [], false, none⟩, List.replicate 64 1#8, 0, 0, by decide +kernel⟩

theorem witness_BootAndSessionCommandsAct_6 : ∃ (s : State) (n : Fin 64) (w : WorkItem) (k : Nat), (s.mayRun n 0x22 .bound false 1 [] w = true) ∧ ((s.ring n).session = some k) :=
  ⟨rpState 63 1 1 (desc 0x22 0 0 0 []), 63, ⟨0, desc 0x22 0 0 0 [], false, none⟩, 63, by decide +kernel⟩

theorem witness_BootAndSessionCommandsAct_7 : ∃ (s : State) (role : Fin 3) (t0 : Nat), (s.prot.lockout.at none (role.val + 1) = some t0) ∧ (s.elapsed t0 (s.parN P.AUTH_LOCKOUT_T * secT) = true) :=
  ⟨{ pdAll with prot := { lockout := [(3, some 0)] }, now := 800000000000000 }, 2, 0, by decide +kernel⟩

theorem witness_BootAndSessionCommandsAct_8 : ∃ (s : State) (n : Fin 64) (w : WorkItem) (d : List Byte), (s.mayRun n 0x23 .any true 1 [] w = true) ∧ (rawLen w.raw = 128) ∧ (s.rpPcie n = true) ∧ (s.hostOk n (rawAddr w.raw) 128 false = true) ∧ (d.length = 128) ∧ (s.mramReady = true) ∧ (s.prot.audit.unacked.length < 8192) :=
  ⟨((rpState 63 1 1 (desc 0x23 0 0x1000 128 []) (mramUp)).setFlag F.DERRICK_RP_BIND_HOST true 63).setFlag F.PCIE_STATUS_DL_ACTIVE true |>.setFlag F.PCIE_STATUS_BME true, 63, ⟨0, desc 0x23 0 0x1000 128 [], false, none⟩, List.replicate 128 1#8, by decide +kernel⟩

theorem witness_BootAndSessionCommandsAct_9 : ∃ (s : State) (k : Token), (s.prot.token = some k) ∧ (k.expiry ≤ s.ts) ∧ (s.prot.everSynced = true) ∧ (s.par P.IMMOB_POLICY = 1) ∧ (s.isOff .slot 0 = true) ∧ (s.isOff .slot 1 = true) :=
  ⟨{ withPar pdAll P.IMMOB_POLICY 0 0 1 with prot := { token := some ⟨false, 3, 1, 0, 0⟩, everSynced := true } }, ⟨false, 3, 1, 0, 0⟩, by decide +kernel⟩

theorem witness_BootAndSessionCommandsAct_10 : ∃ (s : State) (k : Token), (s.prot.token = some k) ∧ (k.notBefore ≤ s.ts) ∧ (s.ts < k.expiry) ∧ (k.revoke = false) ∧ (k.slots = 3) ∧ (s.prot.everSynced = true) ∧ (s.isOff .slot 0 = true) ∧ (s.isOff .slot 1 = true) :=
  ⟨{ withPar pdAll P.IMMOB_POLICY 0 0 1 with prot := { token := some ⟨false, 3, 1, 0, 9⟩, everSynced := true, immob := [(0, { on := true })] } }, ⟨false, 3, 1, 0, 9⟩, by decide +kernel⟩

theorem witness_BootAndSessionCommandsAct_11 : ∃ (s : State), (s.prot.resume = true) ∧ (s.elapsed s.prot.resumeSince (s.parN P.TOKEN_RESUME_T * secT) = true) ∧ (s.prot.everSynced = false) ∧ (s.par P.IMMOB_POLICY = 1) ∧ (s.isOff .slot 0 = true) :=
  ⟨{ withPar pdAll P.IMMOB_POLICY 0 0 1 with prot := { resume := true }, now := 8000000000000000 }, by decide +kernel⟩

theorem witness_BootAndSessionCommandsAct_12 : ∃ (s : State) (n : Fin 2) (t0 : Nat), ((s.immobOf n).lowSince = some t0) ∧ ((s.immobOf n).pending = true) ∧ (s.elapsed t0 (s.parN P.IMMOB_STANDSTILL_T * msT) = true) :=
  ⟨{ pdAll with prot := { immob := [(1, { pending := true, lowSince := some 0 })] }, now := 8000000000000 }, 1, 0, by decide +kernel⟩

theorem witness_ServiceDescriptorsAct_1 : ∃ (s : State) (n : Fin 64) (w : WorkItem) (d : List Byte), (s.mayRun n 0x24 (.roles [3]) true 2 [] w = true) ∧ (s.bulk = none) ∧ (s.prot.running ≠ some (rawTarget w.raw)) ∧ (512 ≤ rawLen w.raw) ∧ (rawLen w.raw ≤ 0x800000) ∧ (s.rpPcie n = true) ∧ (s.hostOk n (rawAddr w.raw) (rawLen w.raw) false = true) ∧ (d.length = rawLen w.raw) ∧ (s.mramReady = true) ∧ (s.prot.audit.unacked.length < 8192) :=
  ⟨((rpState 63 6 3 (desc 0x24 1 0x1000 512 []) (mramUp)).setFlag F.DERRICK_RP_BIND_HOST true 63).setFlag F.PCIE_STATUS_DL_ACTIVE true |>.setFlag F.PCIE_STATUS_BME true, 63, ⟨0, desc 0x24 1 0x1000 512 [], false, none⟩, List.replicate 512 7#8, by decide +kernel⟩

theorem witness_ServiceDescriptorsAct_2 : ∃ (s : State) (b : Bulk), (s.bulk = some b) ∧ (b.kind = .fwUpdate) :=
  ⟨{ mramUp with bulk := some ⟨.fwUpdate, 63, 0, 1, [], 0, false, 512⟩ }, ⟨.fwUpdate, 63, 0, 1, [], 0, false, 512⟩, by decide +kernel⟩

theorem witness_ServiceDescriptorsAct_3 : ∃ (s : State) (n : Fin 64) (w : WorkItem), (s.mayRun n 0x16 .drive false 1 [(24, 1), (25, 1)] w = true) ∧ (1 ≤ rawField w.raw 24 1) ∧ (rawField w.raw 24 1 ≤ 3) ∧ (rawField w.raw 25 1 ≤ 1) ∧ (s.pdOn 1 = true) ∧ ((rawField w.raw 25 1 = 1 ∨ s.isOn .slot 0 = false ∧ s.isOn .slot 1 = false)) :=
  ⟨rpState 63 1 1 (desc 0x16 0 0 0 [3#8]), 63, ⟨0, desc 0x16 0 0 0 [3#8], false, none⟩, by decide +kernel⟩

theorem witness_ServiceDescriptorsAct_3b : ∃ (s : State) (n : Fin 64) (w : WorkItem), (s.mayRun n 0x16 .drive false 1 [(24, 1), (25, 1)] w = true) ∧ (1 ≤ rawField w.raw 24 1) ∧ (rawField w.raw 24 1 ≤ 3) ∧ (rawField w.raw 25 1 ≤ 1) ∧ (s.pdOn 1 = true) ∧ ((rawField w.raw 25 1 = 1 ∨ s.isOn .slot 0 = false ∧ s.isOn .slot 1 = false)) :=
  ⟨(rpState 63 1 1 (desc 0x16 0 0 0 [2#8, 1#8])).setLc .slot 1 { state := .on }, 63, ⟨0, desc 0x16 0 0 0 [2#8, 1#8], false, none⟩, by decide +kernel⟩

theorem witness_ServiceDescriptorsAct_4 : ∃ (s : State) (n : Fin 64) (w : WorkItem), (s.mayRun n 0x17 (.roles [1, 2]) false 1 [(24, 4)] w = true) ∧ (s.pdOn 1 = true) ∧ (rawField w.raw 24 4 = (s.island.resetCount + 1) % 2 ^ 32) ∧ (s.mramReady = true) ∧ (s.prot.audit.unacked.length < 8192) :=
  ⟨{ rpState 63 1 2 (desc 0x17 0 0 0 [1#8]) (mramUp) with faults := { latched := [⟨.HOST_LOST, 1, scopeModule⟩] } }, 63, ⟨0, desc 0x17 0 0 0 [1#8], false, none⟩, by decide +kernel⟩

theorem witness_ServiceDescriptorsAct_5 : ∃ (s : State) (n : Fin 64) (w : WorkItem), (s.mayRun n 0x18 (.roles [2]) false 1 [(24, 1)] w = true) ∧ (s.pdOn 1 = true) ∧ (rawField w.raw 24 1 ≤ 1) ∧ ((rawField w.raw 24 1 = 1 → s.benchAllowed = true)) ∧ (s.mramReady = true) ∧ (s.prot.audit.unacked.length < 8192) :=
  ⟨(rpState 63 1 2 (desc 0x18 0 0 0 [1#8]) (mramUp)).setFlag F.HKEEP_VDC_VALID true 0 |>.setFlag F.HKEEP_VDC_VALID true 1, 63, ⟨0, desc 0x18 0 0 0 [1#8], false, none⟩, by decide +kernel⟩

theorem witness_ServiceDescriptorsAct_6 : ∃ (s : State) (n : Fin 64) (w : WorkItem) (e : Nat), (s.mayRun n 0x33 (.roles [1, 2, 3]) false 1 [(24, 4)] w = true) ∧ (s.prot.audit.exported = some e) ∧ (rawField w.raw 24 4 ≤ e) ∧ (s.mramReady = true) :=
  ⟨{ rpState 63 6 1 (desc 0x33 0 0 0 [4#8]) (mramUp) with prot := { audit := { seq := 9, unacked := [3, 4, 5], exported := some 8 } } }, 63, ⟨0, desc 0x33 0 0 0 [4#8], false, none⟩, 8, by decide +kernel⟩

theorem witness_EngineMovesAct_1 : ∃ (s : State) (c : Fin 8), (s.ceNext c = some .nop) :=
  ⟨ceState 7 0 {}, 7, by decide +kernel⟩

theorem witness_EngineMovesAct_1b : ∃ (s : State) (c : Fin 8), (s.ceNext c = some .nop) :=
  ⟨ceState 7 0 { loops := [(0, 0, 5)] }, 7, by decide +kernel⟩

theorem witness_EngineMovesAct_2 : ∃ (s : State) (c : Fin 8) (d imm : Nat) (h : Bool), (s.ceNext c = some (.ldi d h imm)) :=
  ⟨ceState 7 (op 0x01 + 15 * 2 ^ 22 + 2 ^ 21 + 0x8000) { d := [(15, 0x1234FFFF#32)] }, 7, 15, 0x8000, true, by decide +kernel⟩

theorem witness_EngineMovesAct_2b : ∃ (s : State) (c : Fin 8) (d imm : Nat) (h : Bool), (s.ceNext c = some (.ldi d h imm)) :=
  ⟨ceState 0 (op 0x01 + 0xFFFF) { d := [(0, 0x80001234#32)] }, 0, 0, 0xFFFF, false, by decide +kernel⟩

theorem witness_EngineMovesAct_3 : ∃ (s : State) (c : Fin 8) (p v : Nat), (s.ceNext c = some (.ldip p v)) :=
  ⟨ceState 7 (op 0x02 + 7 * 2 ^ 22 + 0xFFFFF) {}, 7, 7, 0xFFFFF, by decide +kernel⟩

theorem witness_EngineMovesAct_4 : ∃ (s : State) (c : Fin 8) (dst src sub : Nat), (s.ceNext c = some (.move dst src sub)) ∧ ((sub = 7 → (s.engine c).dReg src / 65536 % 16 ≠ 1)) :=
  ⟨ceState 7 (op 0x03 + 15 * 2 ^ 22 + 2 ^ 18) { d := [(1, 0x80017FFF#32)] }, 7, 15, 1, 0, by decide +kernel⟩

theorem witness_EngineMovesAct_4b : ∃ (s : State) (c : Fin 8) (dst src sub : Nat), (s.ceNext c = some (.move dst src sub)) ∧ ((sub = 7 → (s.engine c).dReg src / 65536 % 16 ≠ 1)) :=
  ⟨ceState 7 (op 0x03 + 15 * 2 ^ 22 + 2 ^ 18 + 2 * 2 ^ 15) { d := [(1, 0x80017FFF#32)] }, 7, 15, 1, 2, by decide +kernel⟩

theorem witness_EngineMovesAct_4c : ∃ (s : State) (c : Fin 8) (dst src sub : Nat), (s.ceNext c = some (.move dst src sub)) ∧ ((sub = 7 → (s.engine c).dReg src / 65536 % 16 ≠ 1)) :=
  ⟨ceState 7 (op 0x03 + 15 * 2 ^ 22 + 2 ^ 18 + 3 * 2 ^ 15) { d := [(1, 0x80017FFF#32)] }, 7, 15, 1, 3, by decide +kernel⟩

theorem witness_EngineMovesAct_4d : ∃ (s : State) (c : Fin 8) (dst src sub : Nat), (s.ceNext c = some (.move dst src sub)) ∧ ((sub = 7 → (s.engine c).dReg src / 65536 % 16 ≠ 1)) :=
  ⟨ceState 7 (op 0x03 + 15 * 2 ^ 22 + 15 * 2 ^ 18 + 5 * 2 ^ 15) { d := [(15, 0x80017FFF#32)] }, 7, 15, 15, 5, by decide +kernel⟩

theorem witness_EngineMovesAct_4e : ∃ (s : State) (c : Fin 8) (dst src sub : Nat), (s.ceNext c = some (.move dst src sub)) ∧ ((sub = 7 → (s.engine c).dReg src / 65536 % 16 ≠ 1)) :=
  ⟨ceState 7 (op 0x03 + 15 * 2 ^ 22 + 7 * 2 ^ 18 + 6 * 2 ^ 15) { p := [(7, 0xFFFFF)] }, 7, 15, 7, 6, by decide +kernel⟩

theorem witness_EngineMovesAct_4f : ∃ (s : State) (c : Fin 8) (dst src sub : Nat), (s.ceNext c = some (.move dst src sub)) ∧ ((sub = 7 → (s.engine c).dReg src / 65536 % 16 ≠ 1)) :=
  ⟨ceState 7 (op 0x03 + 7 * 2 ^ 22 + 15 * 2 ^ 18 + 7 * 2 ^ 15) { d := [(15, 0xFFF2FFFF#32)] }, 7, 7, 15, 7, by decide +kernel⟩

theorem witness_EngineMovesAct_5 : ∃ (s : State) (c : Fin 8) (d : Nat) (write : Bool), (s.ceNext c = some (.movsr d write)) :=
  ⟨ceState 7 (op 0x1C + 15 * 2 ^ 22 + 2 ^ 21) { d := [(15, 0x0000440A#32)], srHigh := 0xCC00 }, 7, 15, true, by decide +kernel⟩

theorem witness_EngineMovesAct_5b : ∃ (s : State) (c : Fin 8) (d : Nat) (write : Bool), (s.ceNext c = some (.movsr d write)) :=
  ⟨ceState 7 (op 0x1C + 15 * 2 ^ 22) { srHigh := 0xCC00, loops := [(0, 9, 5)], flags := { n := true, v := true } }, 7, 15, false, by decide +kernel⟩

theorem witness_EngineMultiplyInstructionsAct_1 : ∃ (s : State) (c : Fin 8) (a b acc : Nat) (ha hb neg clr : Bool) (x : Int), (s.ceNext c = some (.mac a b acc ha hb neg clr)) ∧ (x = (if clr then 0 else (s.engine c).accum acc) + (if neg then -1 else 1) * ((s.engine c).half a ha * (s.engine c).half b hb)) :=
  ⟨ceState 7 (op 0x08 + 15 * 2 ^ 22 + 3 * 2 ^ 16 + 2 ^ 15) { d := [(0, 0x7FFF#32), (15, 0x80000000#32)], acc := [(3, 5#40)] }, 7, 15, 0, 3, true, false, false, false, -1073709051, by decide +kernel⟩

theorem witness_EngineMultiplyInstructionsAct_1b : ∃ (s : State) (c : Fin 8) (a b acc : Nat) (ha hb neg clr : Bool) (x : Int), (s.ceNext c = some (.mac a b acc ha hb neg clr)) ∧ (x = (if clr then 0 else (s.engine c).accum acc) + (if neg then -1 else 1) * ((s.engine c).half a ha * (s.engine c).half b hb)) :=
  ⟨ceState 7 (op 0x08 + 15 * 2 ^ 22 + 15 * 2 ^ 18 + 3 * 2 ^ 16 + 2 ^ 15 + 2 ^ 14) { d := [(15, 0x80000000#32)], acc := [(3, 0x7FFFFFFFFF#40)] }, 7, 15, 15, 3, true, true, false, false, 550829555711, by decide +kernel⟩

theorem witness_EngineMultiplyInstructionsAct_2 : ∃ (s : State) (c : Fin 8) (a b k d pair : Nat) (clr x0 n0a n0b x1 n1a n1b : Bool), (s.ceNext c = some (.dmac a b k d pair clr x0 n0a n0b x1 n1a n1b)) :=
  ⟨ceState 7 (op 0x09 + 2 ^ 22 + 2 * 2 ^ 18 + 3 * 2 ^ 14 + 4 * 2 ^ 10 + 2 ^ 9 + 2 ^ 7 + 2 ^ 2) { d := [(1, 0x00010002#32), (2, 0x00030004#32), (3, 0x00050006#32), (4, 0x00070008#32)] }, 7, 1, 2, 3, 4, 1, false, true, false, false, false, false, true, by decide +kernel⟩

theorem witness_EngineMultiplyInstructionsAct_3 : ∃ (s : State) (c : Fin 8) (a b d sub : Nat) (h : Bool) (sh : Int), (s.ceNext c = some (.accop a b d h sub sh)) :=
  ⟨ceState 7 (op 0x0A + 3 * 2 ^ 24 + 2 * 2 ^ 22 + 2 ^ 14) { acc := [(2, 0x7FFFFFFFFF#40), (3, 1#40)] }, 7, 3, 2, 0, 1, false, 0, by decide +kernel⟩

theorem witness_EngineMultiplyInstructionsAct_3b : ∃ (s : State) (c : Fin 8) (a b d sub : Nat) (h : Bool) (sh : Int), (s.ceNext c = some (.accop a b d h sub sh)) :=
  ⟨ceState 7 (op 0x0A + 3 * 2 ^ 24 + 4 * 2 ^ 14 + 32 * 2 ^ 8) { acc := [(3, 0x8000000000#40)] }, 7, 3, 0, 0, 4, false, -32, by decide +kernel⟩

theorem witness_EngineMultiplyInstructionsAct_3c : ∃ (s : State) (c : Fin 8) (a b d sub : Nat) (h : Bool) (sh : Int), (s.ceNext c = some (.accop a b d h sub sh)) :=
  ⟨ceState 7 (op 0x0A + 3 * 2 ^ 24 + 15 * 2 ^ 18 + 5 * 2 ^ 14) { acc := [(3, 0xFFFFFFFFFF#40)] }, 7, 3, 0, 15, 5, false, 0, by decide +kernel⟩

theorem witness_EngineMultiplyInstructionsAct_3d : ∃ (s : State) (c : Fin 8) (a b d sub : Nat) (h : Bool) (sh : Int), (s.ceNext c = some (.accop a b d h sub sh)) :=
  ⟨ceState 7 (op 0x0A + 3 * 2 ^ 24 + 15 * 2 ^ 18 + 2 ^ 17 + 6 * 2 ^ 14) { d := [(15, 0x80000000#32)] }, 7, 3, 0, 15, 6, true, 0, by decide +kernel⟩

theorem witness_EngineMultiplyInstructionsAct_3e : ∃ (s : State) (c : Fin 8) (a b d sub : Nat) (h : Bool) (sh : Int), (s.ceNext c = some (.accop a b d h sub sh)) :=
  ⟨ceState 7 (op 0x0A + 3 * 2 ^ 24 + 15 * 2 ^ 18 + 7 * 2 ^ 14) { d := [(15, 0x80000000#32)] }, 7, 3, 0, 15, 7, false, 0, by decide +kernel⟩

theorem witness_EngineMultiplyInstructionsAct_4 : ∃ (s : State) (c : Fin 8) (d acc : Nat) (h : Bool) (pre x : Int), (s.ceNext c = some (.rnd d h acc pre)) ∧ (x = clampI (-(2 ^ 39)) (2 ^ 39 - 1) (if 0 ≤ pre then (s.engine c).accum acc * 2 ^ pre.toNat else (s.engine c).accum acc / 2 ^ (-pre).toNat)) :=
  ⟨ceState 7 (op 0x0B + 15 * 2 ^ 22 + 3 * 2 ^ 19) { acc := [(3, 0x18000#40)] }, 7, 15, 3, false, 0, 98304, by decide +kernel⟩

theorem witness_EngineMultiplyInstructionsAct_4b : ∃ (s : State) (c : Fin 8) (d acc : Nat) (h : Bool) (pre x : Int), (s.ceNext c = some (.rnd d h acc pre)) ∧ (x = clampI (-(2 ^ 39)) (2 ^ 39 - 1) (if 0 ≤ pre then (s.engine c).accum acc * 2 ^ pre.toNat else (s.engine c).accum acc / 2 ^ (-pre).toNat)) :=
  ⟨ceState 7 (op 0x0B + 15 * 2 ^ 22 + 2 ^ 21 + 3 * 2 ^ 19 + 15 * 2 ^ 14) { acc := [(3, 0x7FFFFFFFFF#40)] }, 7, 15, 3, true, 15, 549755813887, by decide +kernel⟩

theorem witness_EngineArithmeticInstructionsAct_1 : ∃ (s : State) (c : Fin 8) (d a b sub : Nat), (s.ceNext c = some (.aluh d a b sub)) :=
  ⟨ceState 7 (op 0x0C + 15 * 2 ^ 22 + 1 * 2 ^ 18 + 2 * 2 ^ 14 + 3 * 2 ^ 11) { d := [(1, 0x80007FFF#32)] }, 7, 15, 1, 2, 3, by decide +kernel⟩

theorem witness_EngineArithmeticInstructionsAct_1b : ∃ (s : State) (c : Fin 8) (d a b sub : Nat), (s.ceNext c = some (.aluh d a b sub)) :=
  ⟨ceState 7 (op 0x0C + 1 * 2 ^ 22 + 1 * 2 ^ 18 + 2 * 2 ^ 14 + 1 * 2 ^ 11) { d := [(1, 0x80007FFF#32), (2, 0x0001FFFF#32)] }, 7, 1, 1, 2, 1, by decide +kernel⟩

theorem witness_EngineArithmeticInstructionsAct_1c : ∃ (s : State) (c : Fin 8) (d a b sub : Nat), (s.ceNext c = some (.aluh d a b sub)) :=
  ⟨ceState 7 (op 0x0C + 2 * 2 ^ 22 + 1 * 2 ^ 18 + 2 * 2 ^ 14 + 5 * 2 ^ 11) { d := [(1, 0x80007FFF#32), (2, 0x0001FFFF#32)] }, 7, 2, 1, 2, 5, by decide +kernel⟩

theorem witness_EngineArithmeticInstructionsAct_2 : ∃ (s : State) (c : Fin 8) (d a b sub y : Nat) (imm : Option Int), (s.ceNext c = some (.aluw d a b sub imm)) ∧ (y = (match imm with | some i => ofSigned 32 i | none => (s.engine c).dReg b)) :=
  ⟨ceState 7 (op 0x0D + 15 * 2 ^ 22 + 1 * 2 ^ 18 + 2 * 2 ^ 14) { d := [(1, 0x80000000#32), (2, 0x80000000#32)] }, 7, 15, 1, 2, 0, 0x80000000, none, by decide +kernel⟩

theorem witness_EngineArithmeticInstructionsAct_2b : ∃ (s : State) (c : Fin 8) (d a b sub y : Nat) (imm : Option Int), (s.ceNext c = some (.aluw d a b sub imm)) ∧ (y = (match imm with | some i => ofSigned 32 i | none => (s.engine c).dReg b)) :=
  ⟨ceState 7 (op 0x0D + 15 * 2 ^ 22 + 1 * 2 ^ 18 + 1 * 2 ^ 10 + 2 ^ 9 + 256) { d := [(1, 5#32)] }, 7, 15, 1, 0, 1, 0xFFFFFF00, some (-256), by decide +kernel⟩

theorem witness_EngineArithmeticInstructionsAct_2c : ∃ (s : State) (c : Fin 8) (d a b sub y : Nat) (imm : Option Int), (s.ceNext c = some (.aluw d a b sub imm)) ∧ (y = (match imm with | some i => ofSigned 32 i | none => (s.engine c).dReg b)) :=
  ⟨ceState 7 (op 0x0D + 15 * 2 ^ 22 + 1 * 2 ^ 18 + 7 * 2 ^ 10 + 2 ^ 9 + 31) { d := [(1, 0x80000000#32)] }, 7, 15, 1, 0, 7, 31, some 31, by decide +kernel⟩

theorem witness_EngineArithmeticInstructionsAct_2d : ∃ (s : State) (c : Fin 8) (d a b sub y : Nat) (imm : Option Int), (s.ceNext c = some (.aluw d a b sub imm)) ∧ (y = (match imm with | some i => ofSigned 32 i | none => (s.engine c).dReg b)) :=
  ⟨ceState 7 (op 0x0D + 15 * 2 ^ 22 + 1 * 2 ^ 18 + 2 * 2 ^ 14 + 8 * 2 ^ 10) { d := [(1, 5#32), (2, 6#32)] }, 7, 15, 1, 2, 8, 6, none, by decide +kernel⟩

theorem witness_EngineArithmeticInstructionsAct_3 : ∃ (s : State) (c : Fin 8) (d a b : Nat) (amt : Option Int) (n : Int), (s.ceNext c = some (.shh d a b amt)) ∧ (n = amt.getD (toSigned 5 ((s.engine c).dReg b % 32))) :=
  ⟨ceState 7 (op 0x0E + 15 * 2 ^ 22 + 1 * 2 ^ 18 + 2 ^ 13 + 16 * 2 ^ 8) { d := [(1, 0x80007FFF#32)] }, 7, 15, 1, 0, some (-16), -16, by decide +kernel⟩

theorem witness_EngineArithmeticInstructionsAct_3b : ∃ (s : State) (c : Fin 8) (d a b : Nat) (amt : Option Int) (n : Int), (s.ceNext c = some (.shh d a b amt)) ∧ (n = amt.getD (toSigned 5 ((s.engine c).dReg b % 32))) :=
  ⟨ceState 7 (op 0x0E + 1 * 2 ^ 22 + 1 * 2 ^ 18 + 2 * 2 ^ 14) { d := [(1, 0xC0007FFF#32), (2, 33#32)] }, 7, 1, 1, 2, none, 1, by decide +kernel⟩

theorem witness_EngineArithmeticInstructionsAct_4 : ∃ (s : State) (c : Fin 8) (d a : Nat) (h : Bool) (th : Nat), (s.ceNext c = some (.sincos d a h)) ∧ (th = ofSigned 16 ((s.engine c).half a h)) :=
  ⟨ceState 7 (op 0x10 + 15 * 2 ^ 22 + 15 * 2 ^ 18 + 2 ^ 17) { d := [(15, 0x40000000#32)] }, 7, 15, 15, true, 16384, by decide +kernel⟩

theorem witness_EngineArithmeticInstructionsAct_5 : ∃ (s : State) (c : Fin 8) (d a : Nat) (h : Bool) (x : Int), (s.ceNext c = some (.recip d a h)) ∧ (x = (s.engine c).half a h) :=
  ⟨ceState 7 (op 0x11 + 15 * 2 ^ 22 + 1 * 2 ^ 18) { d := [(1, 0xFFFF#32)] }, 7, 15, 1, false, -1, by decide +kernel⟩

theorem witness_EngineArithmeticInstructionsAct_5b : ∃ (s : State) (c : Fin 8) (d a : Nat) (h : Bool) (x : Int), (s.ceNext c = some (.recip d a h)) ∧ (x = (s.engine c).half a h) :=
  ⟨ceState 7 (op 0x11 + 15 * 2 ^ 22 + 1 * 2 ^ 18) {}, 7, 15, 1, false, 0, by decide +kernel⟩

theorem witness_EngineArithmeticInstructionsAct_6 : ∃ (s : State) (c : Fin 8) (d a : Nat) (h : Bool) (x : Int), (s.ceNext c = some (.rsqrt d a h)) ∧ (x = (s.engine c).half a h) :=
  ⟨ceState 7 (op 0x12 + 15 * 2 ^ 22 + 1 * 2 ^ 18 + 2 ^ 17) { d := [(1, 0x7FFF0000#32)] }, 7, 15, 1, true, 32767, by decide +kernel⟩

theorem witness_EngineArithmeticInstructionsAct_6b : ∃ (s : State) (c : Fin 8) (d a : Nat) (h : Bool) (x : Int), (s.ceNext c = some (.rsqrt d a h)) ∧ (x = (s.engine c).half a h) :=
  ⟨ceState 7 (op 0x12 + 15 * 2 ^ 22 + 1 * 2 ^ 18 + 2 ^ 17) { d := [(1, 0x80000000#32)] }, 7, 15, 1, true, -32768, by decide +kernel⟩

theorem witness_EngineMemoryInstructionsAct_1 : ∃ (s : State) (c : Fin 8) (d p am sz a : Nat) (off : Int), (s.ceNext c = some (.ld d p am sz off)) ∧ (a = ((s.engine c).address p am off).1) ∧ (a % (if sz = 2 then 4 else 2) = 0) ∧ (isLocalIo a = false) :=
  ⟨ceState 7 (op 0x04 + 15 * 2 ^ 22 + 7 * 2 ^ 19 + 2 * 2 ^ 17 + 2 * 2 ^ 15 + 0x7FFC) { p := [(7, 0x4DFF0)], mem := [(0xDFF0, 5#8), (0xDFF3, 7#8)] }, 7, 15, 7, 2, 2, 0xDFF0, -4, by decide +kernel⟩

theorem witness_EngineMemoryInstructionsAct_1b : ∃ (s : State) (c : Fin 8) (d p am sz a : Nat) (off : Int), (s.ceNext c = some (.ld d p am sz off)) ∧ (a = ((s.engine c).address p am off).1) ∧ (a % (if sz = 2 then 4 else 2) = 0) ∧ (isLocalIo a = false) :=
  ⟨ceState 7 (op 0x04 + 15 * 2 ^ 22 + 7 * 2 ^ 19 + 2 ^ 15 + 2) { p := [(7, 0xFFFE)], mem := [(0, 5#8), (1, 128#8)] }, 7, 15, 7, 0, 1, 0, 2, by decide +kernel⟩

theorem witness_EngineMemoryInstructionsAct_2 : ∃ (s : State) (c : Fin 8) (d p am sz a : Nat) (off : Int), (s.ceNext c = some (.st d p am sz off)) ∧ (a = ((s.engine c).address p am off).1) ∧ (a % (if sz = 2 then 4 else 2) = 0) ∧ (isLocalIo a = false) :=
  ⟨ceState 7 (op 0x05 + 15 * 2 ^ 22 + 7 * 2 ^ 19 + 2 ^ 17 + 2 * 2 ^ 15 + 4) { p := [(7, 0xDFFC)], d := [(15, 0x12345678#32)] }, 7, 15, 7, 1, 2, 0xDFFC, 4, by decide +kernel⟩

theorem witness_EngineMemoryInstructionsAct_2b : ∃ (s : State) (c : Fin 8) (d p am sz a : Nat) (off : Int), (s.ceNext c = some (.st d p am sz off)) ∧ (a = ((s.engine c).address p am off).1) ∧ (a % (if sz = 2 then 4 else 2) = 0) ∧ (isLocalIo a = false) :=
  ⟨ceState 7 (op 0x05 + 15 * 2 ^ 22 + 7 * 2 ^ 19 + 2 ^ 15) { p := [(7, 0xFFFE)], d := [(15, 0x12345678#32)] }, 7, 15, 7, 0, 1, 0xFFFE, 0, by decide +kernel⟩

theorem witness_EngineMemoryInstructionsAct_3 : ∃ (s : State) (c : Fin 8) (d p am : Nat) (off : Int), (s.ceNext c = some (.ld d p am 2 off)) ∧ (((s.engine c).address p am off).1 = 0xFC0C) :=
  ⟨{ ceState 7 (op 0x04 + 15 * 2 ^ 22 + 7 * 2 ^ 19 + 2 * 2 ^ 15) { p := [(7, 0xFC0C)] } with dev := 5000000000000000000000000000 }, 7, 15, 7, 0, 0, by decide +kernel⟩

theorem witness_EngineMemoryInstructionsAct_4 : ∃ (s : State) (c : Fin 8) (d p am : Nat) (n : Fin 2) (off : Int), (s.ceNext c = some (.st d p am 2 off)) ∧ (((s.engine c).address p am off).1 = 0xFC14 + 4 * n.val) :=
  ⟨{ ceState 7 (op 0x05 + 15 * 2 ^ 22 + 7 * 2 ^ 19 + 2 * 2 ^ 15) { p := [(7, 0xFC18)], d := [(15, 0xFFFFFFFF#32)] } with now := 9 }, 7, 15, 7, 0, 1, 0, by decide +kernel⟩

theorem witness_EngineMemoryInstructionsAct_5 : ∃ (s : State) (c : Fin 8) (d p am seq : Nat) (off : Int), (s.ceNext c = some (.st d p am 2 off)) ∧ (((s.engine c).address p am off).1 = 0xFC28) ∧ ((s.engine c).task = 1) ∧ (seq = (s.engine c).dReg d / 65536) :=
  ⟨(ceState 7 (op 0x05 + 15 * 2 ^ 22 + 7 * 2 ^ 19 + 2 * 2 ^ 15) { p := [(7, 0xFC28)], d := [(15, 0x00050000#32)], task := 1, slot := 1 }).setSlot 1 { mail := [{ seq := 5, torque := 9 }] }, 7, 15, 7, 0, 5, 0, by decide +kernel⟩

theorem witness_EngineMemoryInstructionsAct_6 : ∃ (s : State) (c : Fin 8) (dx dy o1 o2 : Nat), (s.ceNext c = some (.atlas dx dy o1 o2)) ∧ ((s.engine c).task ≠ 0) :=
  ⟨ceState 7 (op 0x13 + 1 * 2 ^ 22 + 2 * 2 ^ 18 + 3 * 2 ^ 14 + 4 * 2 ^ 10) { task := 1 }, 7, 1, 2, 3, 4, by decide +kernel⟩

theorem witness_EngineMemoryInstructionsAct_7 : ∃ (s : State) (c : Fin 8) (o1 o2 x y : Nat), ((s.engine c).wait = .atlas o1 o2 x y) ∧ (o1 ≠ o2) :=
  ⟨ceState 7 0 { task := 1, slot := 1, wait := .atlas 3 4 0 0 }, 7, 3, 4, 0, 0, by decide +kernel⟩

theorem witness_EngineMemoryInstructionsAct_7b : ∃ (s : State) (c : Fin 8) (o1 o2 x y : Nat), ((s.engine c).wait = .atlas o1 o2 x y) ∧ (o1 ≠ o2) :=
  ⟨(atlasReadyState).setEngine 7 { task := 1, slot := 0, wait := .atlas 3 4 0x00100020 500 }, 7, 3, 4, 0x00100020, 500, by decide +kernel⟩

theorem witness_EngineMemoryInstructionsAct_8 : ∃ (s : State) (c : Fin 8) (d br sel idx : Nat) (commit : Bool), (s.ceNext c = some (.wpwm d br sel commit)) ∧ ((s.engine c).task ≠ 0) ∧ ((s.engine c).writes.contains br = true) ∧ (s.pdOn (Reg.PWM_STATUS.domain br) = true) ∧ ((commit = true ∨ (s.pwm br).flight ≠ [])) ∧ (idx = (if sel = 6 then 12 else sel)) :=
  ⟨ceState 7 (op 0x15 + 15 * 2 ^ 22 + 2 ^ 21 + 6 * 2 ^ 18 + 2 ^ 17) { task := 1, writes := [1], genB := 255 }, 7, 15, 1, 6, 12, true, by decide +kernel⟩

theorem witness_EngineMemoryInstructionsAct_9 : ∃ (s : State) (c : Fin 8) (box p : Nat), (s.ceNext c = some (.publ box p)) ∧ ((s.engine c).pAddr p % 8 = 0) :=
  ⟨ceState 7 (op 0x16 + 4 * 2 ^ 23 + 7 * 2 ^ 20) { p := [(7, 0xFFF8)] }, 7, 4, 7, by decide +kernel⟩

theorem witness_EngineMemoryInstructionsAct_9b : ∃ (s : State) (c : Fin 8) (box p : Nat), (s.ceNext c = some (.publ box p)) ∧ ((s.engine c).pAddr p % 8 = 0) :=
  ⟨ceState 7 (op 0x16 + 4 * 2 ^ 23 + 7 * 2 ^ 20) { p := [(7, 0xFFF8)], staged := [(4, [1#8])] }, 7, 4, 7, by decide +kernel⟩

theorem witness_EngineMemoryInstructionsAct_10 : ∃ (s : State) (c : Fin 8) (box : Fin 5), ((s.engine c).staged.at [] box ≠ []) ∧ ((s.engine c).wait = .none) :=
  ⟨ceState 7 0 { task := 1, slot := 1, staged := [(0, List.replicate 32 1#8)] }, 7, 0, by decide +kernel⟩

theorem witness_EngineMemoryInstructionsAct_10b : ∃ (s : State) (c : Fin 8) (box : Fin 5), ((s.engine c).staged.at [] box ≠ []) ∧ ((s.engine c).wait = .none) :=
  ⟨ceState 7 0 { task := 1, slot := 1, pair := 9, staged := [(2, List.replicate 32 1#8)] }, 7, 2, by decide +kernel⟩

theorem witness_EngineControlInstructionsAct_1 : ∃ (s : State) (c : Fin 8) (d mask : Nat), (s.ceNext c = some (.waitev d mask)) ∧ ((s.engine c).stopReturned = false) ∧ (bitAt (s.engine c).evPend Ev.stop = false) :=
  ⟨{ ceState 7 (op 0x14 + 15 * 2 ^ 22 + 0xFFF) { evPend := 0x42, evInfo := [(1, 1)] } with now := 9 }, 7, 15, 0xFFF, by decide +kernel⟩

theorem witness_EngineControlInstructionsAct_1b : ∃ (s : State) (c : Fin 8) (d mask : Nat), (s.ceNext c = some (.waitev d mask)) ∧ ((s.engine c).stopReturned = false) ∧ (bitAt (s.engine c).evPend Ev.stop = false) :=
  ⟨ceState 7 (op 0x14 + 15 * 2 ^ 22 + 0x1) { evPend := 0x42 }, 7, 15, 1, by decide +kernel⟩

theorem witness_EngineControlInstructionsAct_2 : ∃ (s : State) (c : Fin 8) (mask d : Nat) (k : Fin 12), ((s.engine c).wait = .event mask d) ∧ ((s.engine c).halted = false) ∧ (s.pdOn (ceDomain c) = true) ∧ ((s.engine c).stopReturned = false) ∧ (bitAt (s.engine c).evPend Ev.stop = false) ∧ ((s.engine c).pendingIn mask = some k.val) :=
  ⟨ceState 7 0 { wait := .event 0xFFF 15, evPend := 0x40, evInfo := [(6, 1)] }, 7, 0xFFF, 15, 6, by decide +kernel⟩

theorem witness_EngineControlInstructionsAct_3 : ∃ (s : State) (c : Fin 8) (cond target : Nat), (s.ceNext c = some (.b cond target)) :=
  ⟨ceState 7 (op 0x17 + 8191) {}, 7, 0, 8191, by decide +kernel⟩

theorem witness_EngineControlInstructionsAct_3b : ∃ (s : State) (c : Fin 8) (cond target : Nat), (s.ceNext c = some (.b cond target)) :=
  ⟨ceState 7 (op 0x17 + 10 * 2 ^ 22 + 8191) { srHigh := 0x4000 }, 7, 10, 8191, by decide +kernel⟩

theorem witness_EngineControlInstructionsAct_4 : ∃ (s : State) (c : Fin 8) (target : Nat), (s.ceNext c = some (.call target)) ∧ ((s.engine c).stack.length < 4) :=
  ⟨ceState 7 (op 0x18 + 8191) { stack := [1, 2, 3] }, 7, 8191, by decide +kernel⟩

theorem witness_EngineControlInstructionsAct_5 : ∃ (s : State) (c : Fin 8) (r : Nat) (rest : List Nat), (s.ceNext c = some .ret) ∧ ((s.engine c).stack = r :: rest) :=
  ⟨ceState 7 (op 0x19) { stack := [7, 9] }, 7, 7, [9], by decide +kernel⟩

theorem witness_EngineControlInstructionsAct_6 : ∃ (s : State) (c : Fin 8) (imm : Bool) (count last k : Nat), (s.ceNext c = some (.loop imm count last)) ∧ ((s.engine c).pc < last) ∧ ((s.engine c).loops.length < 2) ∧ (k = (if imm then count else (s.engine c).dReg count % 65536)) :=
  ⟨ceState 7 (op 0x1A + 2 ^ 25 + 4095 * 2 ^ 13 + 8) { loops := [(0, 20, 3)] }, 7, true, 4095, 8, 4095, by decide +kernel⟩

theorem witness_EngineControlInstructionsAct_6b : ∃ (s : State) (c : Fin 8) (imm : Bool) (count last k : Nat), (s.ceNext c = some (.loop imm count last)) ∧ ((s.engine c).pc < last) ∧ ((s.engine c).loops.length < 2) ∧ (k = (if imm then count else (s.engine c).dReg count % 65536)) :=
  ⟨ceState 7 (op 0x1A + 5 * 2 ^ 21 + 8) { d := [(5, 0x10000#32)] }, 7, false, 5, 8, 0, by decide +kernel⟩

theorem witness_EngineControlInstructionsAct_7 : ∃ (s : State) (c : Fin 8), (s.ceNext c = some .bkpt) :=
  ⟨ceState 7 (op 0x1B) {}, 7, by decide +kernel⟩

theorem witness_EngineControlInstructionsAct_7b : ∃ (s : State) (c : Fin 8), (s.ceNext c = some .bkpt) :=
  ⟨{ ceState 7 (op 0x1B) {} with prot := { lifecycle := 1 } }, 7, by decide +kernel⟩

theorem witness_EngineControlInstructionsAct_8 : ∃ (s : State) (c : Fin 8), (s.ceReady c = true) ∧ ((s.engine c).fetch = none) :=
  ⟨ceState 7 (op 0x0F) {}, 7, by decide +kernel⟩

theorem witness_EngineControlInstructionsAct_9 : ∃ (s : State) (c : Fin 8) (n : Fin 2), (s.isOn .engine c = true) ∧ (((s.engine c).timer n).word % 2 ^ 24 ≠ 0) ∧ (s.elapsed ((s.engine c).timer n).start (2 * (((s.engine c).timer n).word % 2 ^ 24)) = true) :=
  ⟨{ ceState 7 0 { timer1 := ⟨0x800000FF, 0⟩ } with now := 600 }, 7, 1, by decide +kernel⟩

theorem witness_EngineControlInstructionsAct_9b : ∃ (s : State) (c : Fin 8) (n : Fin 2), (s.isOn .engine c = true) ∧ (((s.engine c).timer n).word % 2 ^ 24 ≠ 0) ∧ (s.elapsed ((s.engine c).timer n).start (2 * (((s.engine c).timer n).word % 2 ^ 24)) = true) :=
  ⟨{ ceState 7 0 { timer0 := ⟨0xFF, 0⟩ } with now := 600 }, 7, 0, by decide +kernel⟩

theorem witness_EngineControlInstructionsAct_10 : ∃ (s : State) (c : Fin 8), (s.isOn .engine c = true) ∧ ((s.engine c).faulted = false) ∧ ((s.engine c).halted = false) ∧ ((s.engine c).wait = .none) ∧ (s.parN P.WDG_CYCLES c < (s.now - (s.engine c).lastReturn) / 2) :=
  ⟨{ ceState 7 0 {} with now := 8000000000 }, 7, by decide +kernel⟩

theorem witness_FieldControlStepsAct_1 : ∃ (s : State) (n : Fin 2) (c : Fin 8), (s.ownerOf n = some c.val) ∧ ((s.bridgesOfSlot n).contains n.val = true) ∧ (s.cycleReady c (s.mainBridge n) = true) :=
  ⟨((ceState 3 0 { task := 1, slot := 1, writes := [1], frames := [1], evPend := 2 }).setLc .slot 1 { state := .on }), 1, 3, by decide +kernel⟩

theorem witness_FieldControlStepsAct_1b : ∃ (s : State) (n : Fin 2) (c : Fin 8), (s.ownerOf n = some c.val) ∧ ((s.bridgesOfSlot n).contains n.val = true) ∧ (s.cycleReady c (s.mainBridge n) = true) :=
  ⟨ceState 3 0 { task := 1, slot := 0, writes := [0], frames := [0], evPend := 1 }, 0, 3, by decide +kernel⟩

theorem witness_FieldControlStepsAct_2 : ∃ (s : State) (n : Fin 2) (c : Fin 8), (s.ownerOf n = some c.val) ∧ (s.slotSteps n c = true) ∧ (s.refDiv n ≤ (s.slot n).refCount) ∧ (s.isOn .slot n = true) :=
  ⟨((ceState 3 0 { task := 1, slot := 1, writes := [1], frames := [1] }).setLc .slot 1 { state := .on }).setSlot 1 { refCount := 100, telSeq := 255, mail := [{ seq := 4, torque := 5000 }, { seq := 5, torque := 7000 }], cmdSeq := 6 }, 1, 3, by decide +kernel⟩

theorem witness_FieldControlStepsAct_2b : ∃ (s : State) (n : Fin 2) (c : Fin 8), (s.ownerOf n = some c.val) ∧ (s.slotSteps n c = true) ∧ (s.refDiv n ≤ (s.slot n).refCount) ∧ (s.isOn .slot n = true) :=
  ⟨((ceState 3 0 { task := 1, slot := 1, writes := [1], frames := [1] }).setLc .slot 1 { state := .on }).setSlot 1 { refCount := 100, cmd := { mode := 2, iD := -30, iQ := 40 } }, 1, 3, by decide +kernel⟩

theorem witness_FieldControlStepsAct_3 : ∃ (s : State) (n : Fin 2) (c : Fin 8), (s.ownerOf n = some c.val) ∧ (s.slotSteps n c = true) ∧ (s.isOn .slot n = true) ∧ ((s.slot n).cmd.mode = 1) ∧ (s.parN P.SPD_DIV n ≤ (s.slot n).spdCount) :=
  ⟨((ceState 3 0 { task := 1, slot := 1, writes := [1], frames := [1] }).setLc .slot 1 { state := .on }).setSlot 1 { spdCount := 1000, cmd := { mode := 1, speed := 500 } }, 1, 3, by decide +kernel⟩

theorem witness_FieldControlStepsAct_4 : ∃ (s : State) (n : Fin 2) (a b : Nat), (s.isOn .slot n = true) ∧ ((s.slot n).squares.length = 6) :=
  ⟨((pdAll).setLc .slot 1 { state := .on }).setSlot 1 { squares := [9, 9, 0, 900, 900, 0], seenSpeed := 5000 }, 1, 0, 0, by decide +kernel⟩

theorem witness_FieldControlStepsAct_5 : ∃ (s : State) (n : Fin 64) (w : WorkItem), (s.mayRun n 0x15 (.roles [1, 2]) false 2 injectUsed w = true) ∧ (s.injFields (rawTarget w.raw) w.raw = true) ∧ (s.injLimits (rawTarget w.raw) w.raw = true) ∧ (s.rpClass (rawField w.raw 26 1) = 3) ∧ ((rawTarget w.raw = 1 → s.dual3 = false)) ∧ (s.pdOn 7 = true) ∧ (s.stillFaulted .injector (rawTarget w.raw) = false) ∧ (s.isOff .injector (rawTarget w.raw) = true) :=
  ⟨((rpState 63 1 1 (injDesc 1) ((((pdAll.setLc .slot 1 { state := .on }).setLc .ring 9 { state := .on }).setFld F.DERRICK_RP_BIND_CLASS 3 9)))), 63, ⟨0, injDesc 1, false, none⟩, by decide +kernel⟩

theorem witness_FieldControlStepsAct_6 : ∃ (s : State) (n : Fin 2), (s.isStarting .injector n = true) ∧ (s.isOn .slot n = true) ∧ (s.injOk n = true) :=
  ⟨{ (((withPar pdAll P.INJ_MARGIN 1 0 0).setLc .slot 1 { state := .on }).setLc .injector 1 { state := .starting }).setSlot 1 { inj := { replies := [(63, 0)] } } with now := 8000000000 }, 1, by decide +kernel⟩

theorem witness_FieldControlStepsAct_7 : ∃ (s : State) (n : Fin 2), (s.monOn n = true) ∧ ((s.slot n).monWin < s.ts / 50000) :=
  ⟨{ (pdAll.setLc .slot 1 { state := .on }) with island := { sp0 := { running := true } }, dev := 256000000000000000000 }, 1, by decide +kernel⟩

theorem witness_FieldControlStepsAct_8 : ∃ (s : State) (n : Fin 2), (s.isOn .slot n = true) ∧ ((s.pairOk 0 = true ∨ s.pairOk 1 = true)) ∧ (s.elapsed (s.slot n).monAt (max (200 * usT) ((s.cycleTime n 4).1 / (s.cycleTime n 4).2)) = true) :=
  ⟨{ (pdAll.setLc .slot 1 { state := .on }) with island := { sp1 := { running := true, lastChange := 800000000 } }, now := 800000000 }, 1, by decide +kernel⟩

theorem witness_FlyingStartAndStopAct_1 : ∃ (s : State) (n : Fin 2) (amp : Nat), (s.isStarting .slot n = true) ∧ ((s.slot n).fly = .observe) ∧ (s.elapsed (s.lc .slot n).since msT = true) ∧ (s.bemfLow n amp = true) :=
  ⟨{ withPar ((pdAll.setLc .slot 1 { state := .starting }).setSlot 1 { fly := .observe }) P.POS_MODE 1 0 1 with now := 800000 }, 1, 0, by decide +kernel⟩

theorem witness_FlyingStartAndStopAct_1b : ∃ (s : State) (n : Fin 2) (amp : Nat), (s.isStarting .slot n = true) ∧ ((s.slot n).fly = .observe) ∧ (s.elapsed (s.lc .slot n).since msT = true) ∧ (s.bemfLow n amp = true) :=
  ⟨{ withPar ((pdAll.setLc .slot 1 { state := .starting }).setSlot 1 { fly := .observe }) P.POS_MODE 1 0 0 with now := 800000 }, 1, 0, by decide +kernel⟩

theorem witness_FlyingStartAndStopAct_2 : ∃ (s : State) (n : Fin 2) (peak ticks k : Nat), (s.isStarting .slot n = true) ∧ ((s.slot n).fly = .pulse k) ∧ (0 < ticks) ∧ (ticks ≤ 16000) ∧ ((s.parN P.I_RATED n ≤ 10 * peak ∨ ticks = 16000)) :=
  ⟨(pdAll.setLc .slot 1 { state := .starting }).setSlot 1 { fly := .pulse 5 }, 1, 3, 16000, 5, by decide +kernel⟩

theorem witness_FlyingStartAndStopAct_3 : ∃ (s : State) (n : Fin 2) (k : Nat), (s.isStarting .slot n = true) ∧ ((s.slot n).fly = .decay k) :=
  ⟨(pdAll.setLc .slot 1 { state := .starting }).setSlot 1 { fly := .decay 4 }, 1, 4, by decide +kernel⟩

theorem witness_FlyingStartAndStopAct_3b : ∃ (s : State) (n : Fin 2) (k : Nat), (s.isStarting .slot n = true) ∧ ((s.slot n).fly = .decay k) :=
  ⟨(pdAll.setLc .slot 1 { state := .starting }).setSlot 1 { fly := .decay 5, rates := [(100, 9), (110, 9), (100, 9), (100, 9), (100, 9), (100, 9)] }, 1, 5, by decide +kernel⟩

theorem witness_FlyingStartAndStopAct_3c : ∃ (s : State) (n : Fin 2) (k : Nat), (s.isStarting .slot n = true) ∧ ((s.slot n).fly = .decay k) :=
  ⟨(pdAll.setLc .slot 1 { state := .starting }).setSlot 1 { fly := .decay 5, rates := [(100, 9), (100, 9), (100, 9), (100, 9), (100, 9), (100, 9)] }, 1, 5, by decide +kernel⟩

theorem witness_FlyingStartAndStopAct_4 : ∃ (s : State) (n : Fin 2) (amp : Nat), (s.isStarting .slot n = true) ∧ ((s.slot n).fly = .observe) ∧ (s.elapsed (s.lc .slot n).since msT = true) ∧ (s.now ≤ (s.lc .slot n).since + 5 * msT) ∧ (s.elapsed (s.slot n).steadyAt msT = true) ∧ (s.bemfLow n amp = false) :=
  ⟨{ (pdAll.setLc .slot 1 { state := .starting }).setSlot 1 { fly := .observe } with now := 800000 }, 1, 100000000, by decide +kernel⟩

theorem witness_FlyingStartAndStopAct_5 : ∃ (s : State) (n : Fin 2), (s.isStarting .slot n = true) ∧ (s.elapsed (s.lc .slot n).since (5 * msT) = true) ∧ ((s.slot n).fly = .observe) :=
  ⟨{ (pdAll.setLc .slot 1 { state := .starting }).setSlot 1 { fly := .observe } with now := 4000000 }, 1, by decide +kernel⟩

theorem witness_FlyingStartAndStopAct_6 : ∃ (s : State) (n : Fin 2) (amp : Nat), (s.isStarting .slot n = true) ∧ ((s.slot n).fly = .observe) ∧ (s.slotVdc n * s.slotVdc n ≤ (3 * amp * amp : Nat)) :=
  ⟨(pdAll.setLc .slot 1 { state := .starting }).setSlot 1 { fly := .observe }, 1, 500000, by decide +kernel⟩

theorem witness_FlyingStartAndStopAct_7 : ∃ (s : State) (n : Fin 2) (t0 : Nat), (s.isStarting .slot n = true) ∧ ((s.slot n).fly = .synced t0) ∧ (s.elapsed t0 msT = true) ∧ ((s.lc .slot n).pending = .none) ∧ ((s.slot n).held = none) :=
  ⟨{ (pdAll.setLc .slot 1 { state := .starting }).setSlot 1 { fly := .synced 0 } with now := 800000 }, 1, 0, by decide +kernel⟩

theorem witness_FlyingStartAndStopAct_8 : ∃ (s : State) (n : Fin 2), (s.isStopping .slot n = true) ∧ ((s.lc .slot n).fault = false) ∧ ((s.slot n).fly = .idle) ∧ ((s.slot n).tRef = 0) ∧ ((s.slot n).stopHold = none) :=
  ⟨pdAll.setLc .slot 1 { state := .stopping }, 1, by decide +kernel⟩

theorem witness_FlyingStartAndStopAct_9 : ∃ (s : State) (n : Fin 2) (t0 : Nat), ((s.slot n).stopHold = some t0) ∧ (s.isStopping .slot n = true) ∧ (s.elapsed t0 msT = true) ∧ ((s.lc .slot n).pending = .none) :=
  ⟨{ (pdAll.setLc .slot 1 { state := .stopping }).setSlot 1 { stopHold := some 0, mail := [{ seq := 1 }] } with now := 800000 }, 1, 0, by decide +kernel⟩

theorem witness_DebugCommandsAct_1 : ∃ (s : State) (m : Fin 21) (c : Fin 8), ((s.debugAccess m .ceHalt .CE_DEBUG_CTRL c).2 = true) ∧ ((s.engine c).halted = false) ∧ ((s.engine c).wait = .none) ∧ (((s.engine c).writes = [] ∨ s.island.bench = true)) :=
  ⟨openMpu (ceState 7 0 {}), 20, 7, by decide +kernel⟩

theorem witness_DebugCommandsAct_2 : ∃ (s : State) (m : Fin 21) (c : Fin 8), ((s.debugAccess m .ceHalt .CE_DEBUG_CTRL c).2 = true) ∧ ((s.engine c).halted = true) :=
  ⟨openMpu (ceState 7 0 { halted := true }), 20, 7, by decide +kernel⟩

theorem witness_DebugCommandsAct_3 : ∃ (s : State) (c : Fin 8), (s.isOn .engine c = true) ∧ ((s.engine c).halted = false) ∧ ((s.engine c).faulted = false) ∧ ((s.engine c).wait = .none) ∧ (s.atBreak c = true) ∧ (s.debugOpen .ceHalt = true) ∧ ((s.engine c).writes = []) :=
  ⟨(ceState 7 0 {}).setFld F.CE_DEBUG_CTRL_BP_EN 1 7, 7, by decide +kernel⟩

theorem witness_DebugCommandsAct_4 : ∃ (s : State) (m : Fin 21), (8 ≤ m.val) ∧ (m.val ≤ 13) ∧ (s.debugOpen (if m.val = 12 ∨ m.val = 13 then DebugArea.safetyHalt else .appHalt) = true) ∧ (s.island.halted.contains m.val = false) ∧ (s.island.bench = true) :=
  ⟨{ pdAll with island := { bench := true } }, 13, by decide +kernel⟩

theorem witness_DebugCommandsAct_4b : ∃ (s : State) (m : Fin 21), (8 ≤ m.val) ∧ (m.val ≤ 13) ∧ (s.debugOpen (if m.val = 12 ∨ m.val = 13 then DebugArea.safetyHalt else .appHalt) = true) ∧ (s.island.halted.contains m.val = false) ∧ (s.island.bench = true) :=
  ⟨{ pdAll with island := { bench := true } }, 8, by decide +kernel⟩

theorem witness_DebugCommandsAct_5 : ∃ (s : State) (m : Fin 21), (s.island.halted.contains m.val = true) :=
  ⟨{ pdAll with island := { halted := [8, 12] } }, 12, by decide +kernel⟩

theorem witness_DebugCommandsAct_5b : ∃ (s : State) (m : Fin 21), (s.island.halted.contains m.val = true) :=
  ⟨{ pdAll with island := { halted := [8, 12] } }, 8, by decide +kernel⟩

theorem witness_DebugCommandsAct_6 : ∃ (s : State) (m : Nat), (s.island.haltPending = some m) ∧ (m ≤ 13) ∧ (8 ≤ m) :=
  ⟨{ pdAll with island := { haltPending := some 13 }, now := 100 }, 13, by decide +kernel⟩

theorem witness_CanCommandsAct_1 : ∃ (s : State) (n : Fin 4) (j : Fin 512) (e id : Nat) (xtd fdf brs esi : Bool) (data : List Byte), (s.canLive n = true) ∧ (s.flag F.CAN_STATUS_INTEGRATING n = false) ∧ (id < 2 ^ (if xtd then 29 else 11)) ∧ (s.objOf n id xtd = some (j.val, e)) ∧ (rxoPass e ≠ 2) ∧ (data.length ≤ (if fdf then 64 else 8)) :=
  ⟨canState 3, 3, 0, 0x123, 0x123, false, false, false, false, [1, 2, 3, 4, 5, 6, 7, 8], by decide +kernel⟩

theorem witness_CanCommandsAct_1b : ∃ (s : State) (n : Fin 4) (j : Fin 512) (e id : Nat) (xtd fdf brs esi : Bool) (data : List Byte), (s.canLive n = true) ∧ (s.flag F.CAN_STATUS_INTEGRATING n = false) ∧ (id < 2 ^ (if xtd then 29 else 11)) ∧ (s.objOf n id xtd = some (j.val, e)) ∧ (rxoPass e ≠ 2) ∧ (data.length ≤ (if fdf then 64 else 8)) :=
  ⟨(canState 3).setFlag F.CAN_RXO_STATUS_NEW true 3 0 |>.setFld F.CAN_RXO_STATUS_COUNT 65535 3 0, 3, 0, 0x123, 0x123, false, true, true, true, List.replicate 64 9, by decide +kernel⟩

theorem witness_CanCommandsAct_2 : ∃ (s : State) (m : Fin 21) (n : Fin 4) (j : Fin 512), ((s.mayRead m .CAN_RXO_STATUS n j).2 = true) :=
  ⟨openMpu ((canState 3).setFlag F.CAN_RXO_STATUS_NEW true 3 0), 8, 3, 0, by decide +kernel⟩

theorem witness_CanCommandsAct_3 : ∃ (s : State) (n : Fin 64) (w : WorkItem) (c : Fin 4), (s.mayRun n 0x40 .any true 4 [(24, 4), (28, 1), (29, 1), (32, 32)] w = true) ∧ (rawTarget w.raw = c.val) ∧ (bits (rawField w.raw 24 4) 30 29 = 0) ∧ (rawField w.raw 28 1 = 0) ∧ (rawField w.raw 29 1 ≤ 8) ∧ (((canTxId w.raw).2 = true ∨ (canTxId w.raw).1 < 2 ^ 11)) ∧ (rawAddr w.raw = 0) ∧ (rawLen w.raw = 0) ∧ (s.isOn .can c = true) ∧ (s.parN P.CAN_MODE c = 0) ∧ (s.bufOf c (canTxId w.raw).1 (canTxId w.raw).2 = none) ∧ ((s.can c).queue.length < 32) :=
  ⟨rpState 63 5 1 (desc 0x40 3 0 0 (leBytes 4 0x123 ++ [0#8, 2#8, 0#8, 0#8, 7#8, 9#8])) (canState 3), 63, ⟨0, desc 0x40 3 0 0 (leBytes 4 0x123 ++ [0#8, 2#8, 0#8, 0#8, 7#8, 9#8]), false, none⟩, 3, by decide +kernel⟩

theorem witness_CanCommandsAct_4 : ∃ (s : State) (n : Fin 4) (k : CanTx) (won : Bool), (s.isOn .can n = true) ∧ (s.canLive n = true) ∧ (s.flag F.CAN_STATUS_INTEGRATING n = false) ∧ (s.parN P.CAN_MODE n = 0) ∧ ((s.can n).onBus = none) ∧ (s.candidate n = some (64, k)) ∧ ((s.can n).queue.head? = some k) :=
  ⟨(canState 3).setCan 3 { queue := [{ frame := { id := 5 } }] }, 3, { frame := { id := 5 } }, true, by decide +kernel⟩

theorem witness_CanCommandsAct_4b : ∃ (s : State) (n : Fin 4) (k : CanTx) (won : Bool), (s.isOn .can n = true) ∧ (s.canLive n = true) ∧ (s.flag F.CAN_STATUS_INTEGRATING n = false) ∧ (s.parN P.CAN_MODE n = 0) ∧ ((s.can n).onBus = none) ∧ (s.candidate n = some (64, k)) ∧ ((s.can n).queue.head? = some k) :=
  ⟨(canState 3).setCan 3 { queue := [{ frame := { id := 5 } }] }, 3, { frame := { id := 5 } }, false, by decide +kernel⟩

theorem witness_CanCommandsAct_5 : ∃ (s : State) (n : Fin 4) (o : OnBus) (tdcv : Nat), ((s.can n).onBus = some o) ∧ (s.canLive n = true) ∧ (s.fld F.CAN_ERR_COUNT_TEC n < 128) ∧ (s.fld F.CAN_ERR_COUNT_REC n < 128) :=
  ⟨((canState 3).setCan 3 { onBus := some ⟨none, {}, 0⟩ }).setFld F.CAN_ERR_COUNT_TEC 9 3, 3, ⟨none, {}, 0⟩, 300, by decide +kernel⟩

theorem witness_CanCommandsAct_6 : ∃ (s : State) (n : Fin 4) (k : Fin 64), (s.isOn .can n = true) ∧ (s.schedOn n = true) ∧ (s.inWindow n k = true) ∧ ((s.can n).window ≠ some k.val) :=
  ⟨schedState, 3, 0, by decide +kernel⟩

theorem witness_CanCommandsAct_7 : ∃ (s : State) (n : Fin 4) (k : Nat), ((s.can n).window = some k) ∧ (s.inWindow n k = false) :=
  ⟨(canState 3).setCan 3 { window := some 0 }, 3, 0, by decide +kernel⟩

theorem witness_CanCommandsAct_8 : ∃ (s : State) (n : Fin 4) (kind : CanErr), (s.canLive n = true) :=
  ⟨((canState 3).setCan 3 { onBus := some ⟨none, {}, 0⟩ }).setFld F.CAN_ERR_COUNT_TEC 255 3, 3, .transmit, by decide +kernel⟩

theorem witness_CanCommandsAct_8b : ∃ (s : State) (n : Fin 4) (kind : CanErr), (s.canLive n = true) :=
  ⟨((canState 3).setCan 3 { onBus := some ⟨none, {}, 0⟩ }), 3, .protocolException, by decide +kernel⟩

theorem witness_CanCommandsAct_9 : ∃ (s : State) (n : Fin 4), (s.flag F.CAN_STATUS_BUS_OFF n = true) ∧ (s.flag F.CAN_STATUS_SUSPENDED n = false) ∧ (s.isOn .can n = true) ∧ (s.elapsed (s.can n).offSince (128 * 11 * s.canBit n) = true) :=
  ⟨{ (canState 3).setFlag F.CAN_STATUS_BUS_OFF true 3 with now := 800000000 }, 3, by decide +kernel⟩

theorem witness_CanCommandsAct_10 : ∃ (s : State) (c : Fin 32) (e : AqFirst), ((s.aq (s.aqHome c)).firsts = [e]) ∧ (s.elapsed e.at_ (s.parN P.AQ_SKEW e.from_ * usT) = true) ∧ (e.from_ < 32) :=
  ⟨{ (canState 3).setAq 31 { firsts := [⟨5, 31, [], 0, 0⟩] } with now := 800000000 }, 31, ⟨5, 31, [], 0, 0⟩, by decide +kernel⟩

theorem witness_CanCommandsAct_11 : ∃ (s : State) (c : Fin 32), (s.aqActive c = true) ∧ (s.parN P.AQ_DIR c = 1) ∧ (s.flag F.CAN_AQ_STATUS_TIMED_OUT c = false) ∧ (s.elapsed (s.aq c).lastAcc (s.parN P.AQ_TIMEOUT c * usT) = true) :=
  ⟨{ (withPar (canState 3) P.AQ_DIR 31 0 1).setFlag F.CAN_AQ_STATUS_ACTIVE true 31 with now := 8000000000 }, 31, by decide +kernel⟩

theorem witness_NetworkTimeCommandsAct_1 : ∃ (s : State) (up : Bool) (speed : Fin 3), (s.macRuns = true) ∧ (s.flag F.ETH_STATUS_LINK_UP = !up) :=
  ⟨withPar pdAll P.ETH_EN 0 0 1, true, 2, by decide +kernel⟩

theorem witness_NetworkTimeCommandsAct_1b : ∃ (s : State) (up : Bool) (speed : Fin 3), (s.macRuns = true) ∧ (s.flag F.ETH_STATUS_LINK_UP = !up) :=
  ⟨{ (ethState).setFlag F.TIME_STATUS_AS_CAPABLE true with time := { ethQueue := [.pdelayReq 1] } }, false, 0, by decide +kernel⟩

theorem witness_NetworkTimeCommandsAct_2 : ∃ (s : State) (domain port seq age : Nat) (li : Int) (g : Announce), (s.ptpHears domain = true) ∧ (s.flag F.TIME_STATUS_AS_CAPABLE = true) ∧ (s.flag F.TIME_STATUS_GM_KNOWN = true) ∧ (s.time.gm = some g) ∧ (g.sourcePort = port) :=
  ⟨gmState, 0, 7, 5, 100, -3, ⟨1, 2, 3, 4, 5, 7⟩, by decide +kernel⟩

theorem witness_NetworkTimeCommandsAct_3 : ∃ (s : State) (domain port seq : Nat) (x : PtpTime) (p : SyncRx), (s.time.pendingSync = some p) ∧ (s.ptpHears domain = true) ∧ (p.port = port) ∧ (p.seq = seq) ∧ (s.time.accept = []) :=
  ⟨{ gmState with time := { gm := some ⟨1, 2, 3, 4, 5, 7⟩, pendingSync := some ⟨7, 5, 0⟩ } }, 0, 7, 5, ⟨1000, 0, 0⟩, ⟨7, 5, 0⟩, by decide +kernel⟩

theorem witness_NetworkTimeCommandsAct_3b : ∃ (s : State) (domain port seq : Nat) (x : PtpTime) (p : SyncRx), (s.time.pendingSync = some p) ∧ (s.ptpHears domain = true) ∧ (p.port = port) ∧ (p.seq = seq) ∧ (s.time.accept = []) :=
  ⟨{ gmState.setFld F.TIME_STATUS_STATE 1 with time := { gm := some ⟨1, 2, 3, 4, 5, 7⟩, pendingSync := some ⟨7, 5, 0⟩ } }, 0, 7, 5, ⟨10000000000000, 0, 0⟩, ⟨7, 5, 0⟩, by decide +kernel⟩

theorem witness_NetworkTimeCommandsAct_4 : ∃ (s : State) (domain : Nat) (li : Int) (a : Announce), (s.ptpHears domain = true) ∧ (s.flag F.TIME_STATUS_AS_CAPABLE = true) ∧ (a.stepsRemoved < 255) ∧ (s.time.gm = none) :=
  ⟨{ gmState with time := {} }, 0, 0, ⟨1, 2, 3, 0x123456789A, 254, 7⟩, by decide +kernel⟩

theorem witness_NetworkTimeCommandsAct_5 : ∃ (s : State) (g : Announce), (s.time.gm = some g) ∧ (s.elapsed s.time.announceAt (3 * s.time.announceInterval) = true) :=
  ⟨gmState, ⟨1, 2, 3, 4, 5, 7⟩, by decide +kernel⟩

theorem witness_NetworkTimeCommandsAct_6 : ∃ (s : State), (s.clockState = 1) ∧ (s.elapsed s.time.syncAt (3 * s.time.syncInterval) = true) :=
  ⟨pdAll.setFld F.TIME_STATUS_STATE 1, by decide +kernel⟩

theorem witness_NetworkTimeCommandsAct_7 : ∃ (s : State), (s.clockState = 2) ∧ (s.elapsed s.time.holdSince (s.parN P.HOLDOVER_T * secT) = true) :=
  ⟨{ pdAll.setFld F.TIME_STATUS_STATE 2 with now := 8000000000000000 }, by decide +kernel⟩

theorem witness_NetworkTimeCommandsAct_8 : ∃ (s : State), (s.linkIsUp = true) ∧ (s.elapsed s.time.pdelayAt (logTicks (s.par P.PDELAY_LOG_INT)) = true) :=
  ⟨{ gmState with time := { pdelaySeq := 65535, pdelaySent := some (65535, 0), pdelayLost := 9 }, now := 8000000000 }, by decide +kernel⟩

theorem witness_NetworkTimeCommandsAct_9 : ∃ (s : State) (r seq age : Nat), (s.linkIsUp = true) :=
  ⟨gmState, 3, 4, 5, by decide +kernel⟩

theorem witness_NetworkTimeCommandsAct_10 : ∃ (s : State) (seq t1 t2 t3 age : Nat), (s.time.pdelaySent = some (seq, t1)) ∧ (s.linkIsUp = true) :=
  ⟨{ gmState with time := { pdelaySent := some (5, 1000000) } }, 5, 1000000, 100, 200, 0, by decide +kernel⟩

theorem witness_NetworkTimeCommandsAct_11 : ∃ (s : State) (n : Fin 64) (w : WorkItem), (s.mayRun n 0x1B (.roles [1, 2]) false 1 [(24, 4)] w = true) ∧ (s.flag F.TIME_STATUS_JUMP_PENDING = true) ∧ (rawField w.raw 24 4 = s.fld F.TIME_JUMP_SEQ_SEQ) ∧ (s.mramReady = true) ∧ (s.prot.audit.unacked.length < 8192) :=
  ⟨(rpState 63 1 2 (desc 0x1B 0 0 0 []) (mramUp)).setFlag F.TIME_STATUS_JUMP_PENDING true, 63, ⟨0, desc 0x1B 0 0 0 [], false, none⟩, by decide +kernel⟩

theorem witness_NetworkTimeCommandsAct_12 : ∃ (s : State) (n : Fin 64) (wid t0 : Nat), (s.time.accept = [(n.val, wid, t0)]) ∧ (s.elapsed t0 (2 * secT) = true) :=
  ⟨{ rpState 63 1 2 (desc 0x1B 0 0 0 []) with time := { accept := [(63, 0, 0)] }, now := 1600000000 }, 63, 0, 0, by decide +kernel⟩

theorem witness_EthernetAndPulseCommandsAct_1 : ∃ (s : State) (frame : List Byte) (age : Nat), (s.linkIsUp = true) ∧ (60 ≤ frame.length) ∧ (frame.length ≤ 1514) ∧ (beNat (frame.take 6) = 2 ^ 48 - 1) ∧ ((etherType frame).1 ≠ 0x88F7) ∧ ((etherType frame).1 ≠ s.parN P.AQ_ETHERTYPE) :=
  ⟨ethState, List.replicate 60 255, 0, by decide +kernel⟩

theorem witness_EthernetAndPulseCommandsAct_2 : ∃ (s : State) (n : Fin 64) (w : WorkItem) (f : List Byte), (s.mayRun n 0x41 .any true 1 [(24, 1)] w = true) ∧ (60 ≤ rawLen w.raw) ∧ (rawLen w.raw ≤ 1518) ∧ (rawField w.raw 24 1 ≤ 1) ∧ (s.linkIsUp = true) ∧ (s.rpPcie n = true) ∧ (s.hostOk n (rawAddr w.raw) (rawLen w.raw) false = true) ∧ (f.length = rawLen w.raw) ∧ ((etherType f).1 ≠ 0x88F7) ∧ ((etherType f).1 ≠ s.parN P.AQ_ETHERTYPE) :=
  ⟨((rpState 63 5 1 (desc 0x41 0 0x1000 60 [1#8]) (ethState)).setFlag F.DERRICK_RP_BIND_HOST true 63).setFlag F.PCIE_STATUS_DL_ACTIVE true |>.setFlag F.PCIE_STATUS_BME true, 63, ⟨0, desc 0x41 0 0x1000 60 [1#8], false, none⟩, List.replicate 60 1, by decide +kernel⟩

theorem witness_EthernetAndPulseCommandsAct_3 : ∃ (s : State) (age : Nat) (x : EthTx) (rest : List EthTx), (s.linkIsUp = true) ∧ (s.coasting = false) ∧ (s.time.ethQueue = x :: rest) ∧ ((∀ y ∈ rest, x.prio ≤ y.prio)) :=
  ⟨{ ethState with time := { ethQueue := [.pdelayReq 5, .aqosh []] } }, 9, .pdelayReq 5, [.aqosh []], by decide +kernel⟩

theorem witness_EthernetAndPulseCommandsAct_3b : ∃ (s : State) (age : Nat) (x : EthTx) (rest : List EthTx), (s.linkIsUp = true) ∧ (s.coasting = false) ∧ (s.time.ethQueue = x :: rest) ∧ ((∀ y ∈ rest, x.prio ≤ y.prio)) :=
  ⟨{ ethState with time := { ethQueue := [.aqosh [], .host 63 0 [] true] } }, 9, .aqosh [], [.host 63 0 [] true], by decide +kernel⟩

theorem witness_EthernetAndPulseCommandsAct_4 : ∃ (s : State) (m : Fin 21), ((s.mayRead m .TIME_NOW_NS).2 = true) :=
  ⟨{ openMpu pdAll with dev := 5000000000000000000000000000000000 }, 8, by decide +kernel⟩

theorem witness_EthernetAndPulseCommandsAct_5 : ∃ (s : State) (m : Fin 21) (k : Fin 8) (width : Nat), ((s.mayWrite m .TIME_TPO_CTRL k).2 = true) ∧ (8 ≤ m.val) ∧ (m.val ≤ 13) ∧ (s.par P.TPO_MODE k = 1) ∧ (10 ≤ width) ∧ (width < 2 ^ 20) ∧ ((s.fld F.TIME_TPO_PERIOD_PERIOD k = 0 ∨ width < s.fld F.TIME_TPO_PERIOD_PERIOD k)) :=
  ⟨openMpu (withPar pdAll P.TPO_MODE 7 0 1), 8, 7, 10, by decide +kernel⟩

theorem witness_EthernetAndPulseCommandsAct_6 : ∃ (s : State) (m : Fin 21) (k : Fin 8), ((s.mayWrite m .TIME_TPO_CTRL k).2 = true) ∧ (8 ≤ m.val) ∧ (m.val ≤ 13) :=
  ⟨(openMpu pdAll).setTpo 7 { armed := true }, 8, 7, by decide +kernel⟩

theorem witness_EthernetAndPulseCommandsAct_7 : ∃ (s : State) (k : Fin 8), ((s.tpo k).armed = true) ∧ (s.pdOn 9 = true) ∧ (tsDiff (s.tpo k).edge s.ts ≤ 0) :=
  ⟨pdAll.setTpo 7 { armed := true }, 7, by decide +kernel⟩

theorem witness_EthernetAndPulseCommandsAct_7b : ∃ (s : State) (k : Fin 8), ((s.tpo k).armed = true) ∧ (s.pdOn 9 = true) ∧ (tsDiff (s.tpo k).edge s.ts ≤ 0) :=
  ⟨{ pdAll.setTpo 7 { armed := true, active := true, period := 20, width := 10 } with dev := 100000000000000 }, 7, by decide +kernel⟩

theorem witness_EthernetAndPulseCommandsAct_8 : ∃ (s : State) (b : Fin 2) (k : Fin 32) (o : Fin 8) (t0 : Nat), ((s.pwm b).live = true) ∧ ((s.pwm b).fired.contains k.val = false) ∧ (s.fld F.PWM_TL_ACT_TYPE b k = 5) ∧ (s.slotActive b k = true) ∧ (s.slotTime b k = some t0) ∧ (t0 / 8 ≤ s.counter b) ∧ (bits (s.fld F.PWM_TL_ACT_ARG b k) 2 0 = o.val) ∧ (bits (s.fld F.PWM_TL_ACT_ARG b k) 5 4 ≤ 2) ∧ (s.parN P.TPO_MODE o = 2 + b.val) ∧ (s.pdOn 9 = true) :=
  ⟨withPar (slotState 1 31 5 0x27) P.TPO_MODE 7 0 3, 1, 31, 7, 0, by decide +kernel⟩

theorem witness_EthernetAndPulseCommandsAct_9 : ∃ (s : State) (c : Fin 5) (falling : Bool), (s.pdOn 9 = true) ∧ ((s.parN P.CAPT_EDGE c = 3 ∨ s.parN P.CAPT_EDGE c = (if falling then 2 else 1))) ∧ ((s.caps c).length < 4) :=
  ⟨withPar pdAll P.CAPT_EDGE 4 0 2, 4, true, by decide +kernel⟩

theorem witness_EthernetAndPulseCommandsAct_10 : ∃ (s : State) (m : Fin 21) (c : Fin 5), ((s.mayRead m .TIME_EVCAP_INFO c).2 = true) :=
  ⟨{ openMpu pdAll with time := { caps := [(4, [⟨5, false, true, 0⟩])] } }, 8, 4, by decide +kernel⟩

theorem witness_EthernetAndPulseCommandsAct_11 : ∃ (s : State) (m : Fin 21) (value : Word), ((s.mayWrite m .ETH_MDIO 0).2 = true) ∧ (8 ≤ m.val) ∧ (m.val ≤ 13) ∧ (s.flag F.ETH_MDIO_GO = false) :=
  ⟨openMpu pdAll, 8, 0x12345678, by decide +kernel⟩

theorem witness_EthernetAndPulseCommandsAct_12 : ∃ (s : State) (data : Fin 65536), (s.flag F.ETH_MDIO_GO = true) ∧ (s.macRuns = true) :=
  ⟨(ethState).setFlag F.ETH_MDIO_GO true |>.setFld F.ETH_MDIO_OP 2, 65535, by decide +kernel⟩

theorem witness_LifecycleSequencesAct_1 : ∃ (s : State) (k : FuncKind) (n : Fin 64), (n.val < k.count) ∧ (s.isStarting k n = true) ∧ (s.startReady k n = true) :=
  ⟨pdAll.setLc .posCmp 3 { state := .starting }, .posCmp, 3, by decide +kernel⟩

theorem witness_LifecycleSequencesAct_1b : ∃ (s : State) (k : FuncKind) (n : Fin 64), (n.val < k.count) ∧ (s.isStarting k n = true) ∧ (s.startReady k n = true) :=
  ⟨pdAll.setLc .rule 15 { state := .starting, pending := .disable }, .rule, 15, by decide +kernel⟩

theorem witness_LifecycleSequencesAct_1c : ∃ (s : State) (k : FuncKind) (n : Fin 64), (n.val < k.count) ∧ (s.isStarting k n = true) ∧ (s.startReady k n = true) :=
  ⟨pdAll.setLc .ring 63 { state := .starting }, .ring, 63, by decide +kernel⟩

theorem witness_LifecycleSequencesAct_1d : ∃ (s : State) (k : FuncKind) (n : Fin 64), (n.val < k.count) ∧ (s.isStarting k n = true) ∧ (s.startReady k n = true) :=
  ⟨pdAll.setLc .discharge 0 { state := .starting }, .discharge, 0, by decide +kernel⟩

theorem witness_LifecycleSequencesAct_2 : ∃ (s : State) (k : FuncKind) (n : Fin 64) (clampsOk : Bool), (n.val < k.count) ∧ (s.isStopping k n = true) ∧ (s.stopReady k n = true) ∧ (s.quiet = true) ∧ (k ∈ [FuncKind.bridge, .posIf, .posCmp, .injector, .discharge, .can, .rule]) :=
  ⟨pdAll.setLc .bridge 1 { state := .stopping }, .bridge, 1, true, by decide +kernel⟩

theorem witness_LifecycleSequencesAct_2b : ∃ (s : State) (k : FuncKind) (n : Fin 64) (clampsOk : Bool), (n.val < k.count) ∧ (s.isStopping k n = true) ∧ (s.stopReady k n = true) ∧ (s.quiet = true) ∧ (k ∈ [FuncKind.bridge, .posIf, .posCmp, .injector, .discharge, .can, .rule]) :=
  ⟨pdAll.setLc .rule 15 { state := .stopping, pending := .enable }, .rule, 15, true, by decide +kernel⟩

theorem witness_LifecycleSequencesAct_3 : ∃ (s : State) (k : FuncKind) (n : Fin 64) (b : Nat), (n.val < k.count) ∧ (s.isStarting k n = true) ∧ (s.startBound k n = some b) ∧ (s.elapsed (s.lc k n).since b = true) :=
  ⟨{ pdAll.setLc .ring 63 { state := .starting } with now := 16000 }, .ring, 63, 16000, by decide +kernel⟩

theorem witness_LifecycleSequencesAct_3b : ∃ (s : State) (k : FuncKind) (n : Fin 64) (b : Nat), (n.val < k.count) ∧ (s.isStarting k n = true) ∧ (s.startBound k n = some b) ∧ (s.elapsed (s.lc k n).since b = true) :=
  ⟨{ withPar (pdAll.setLc .bridge 1 { state := .starting }) P.SYNC_MODE 1 0 2 with now := 4000000 }, .bridge, 1, 4000000, by decide +kernel⟩

theorem witness_LifecycleSequencesAct_3c : ∃ (s : State) (k : FuncKind) (n : Fin 64) (b : Nat), (n.val < k.count) ∧ (s.isStarting k n = true) ∧ (s.startBound k n = some b) ∧ (s.elapsed (s.lc k n).since b = true) :=
  ⟨{ pdAll.setLc .engine 7 { state := .starting } with now := 4000000 }, .engine, 7, 4000000, by decide +kernel⟩

theorem witness_LifecycleSequencesAct_3d : ∃ (s : State) (k : FuncKind) (n : Fin 64) (b : Nat), (n.val < k.count) ∧ (s.isStarting k n = true) ∧ (s.startBound k n = some b) ∧ (s.elapsed (s.lc k n).since b = true) :=
  ⟨{ pdAll.setLc .satellite 11 { state := .starting } with now := 1600000 }, .satellite, 11, 1600000, by decide +kernel⟩

theorem witness_LifecycleSequencesAct_4 : ∃ (s : State) (k : FuncKind) (n : Fin 64), (n.val < k.count) ∧ (k ≠ .posCmp) ∧ (s.isStopping k n = true) ∧ (s.elapsed (s.lc k n).since (s.stopBound k n) = true) ∧ (s.quiet = true) ∧ (k ∈ [FuncKind.bridge, .posIf, .dressing, .can, .discharge]) :=
  ⟨{ pdAll.setLc .posIf 7 { state := .stopping } with now := 8000 }, .posIf, 7, by decide +kernel⟩

theorem witness_LifecycleSequencesAct_4b : ∃ (s : State) (k : FuncKind) (n : Fin 64), (n.val < k.count) ∧ (k ≠ .posCmp) ∧ (s.isStopping k n = true) ∧ (s.elapsed (s.lc k n).since (s.stopBound k n) = true) ∧ (s.quiet = true) ∧ (k ∈ [FuncKind.bridge, .posIf, .dressing, .can, .discharge]) :=
  ⟨{ pdAll.setLc .can 3 { state := .stopping } with now := 1600000 }, .can, 3, by decide +kernel⟩

theorem witness_LifecycleSequencesAct_5 : ∃ (s : State) (k : FuncKind) (n : Fin 64), (n.val < k.count) ∧ (s.isStopping k n = true) ∧ (s.elapsed (s.lc k n).since (s.stopBound k n) = true) ∧ (s.quiet = true) ∧ (k = .ring) :=
  ⟨{ pdAll.setLc .ring 63 { state := .stopping } with now := 800000 }, .ring, 63, by decide +kernel⟩

theorem witness_SetStateAndLoadsAct_1 : ∃ (s : State) (n : Fin 64) (w : WorkItem) (k : FuncKind) (r : Right) (x : Bool), (s.mayRun n 0x11 .any false 16 [(24, 1), (25, 1)] w = true) ∧ (rawField w.raw 25 1 = 1) ∧ (setStateKind (rawField w.raw 24 1) = some (k, r, false)) ∧ (s.holds n r = true) ∧ (rawTarget w.raw < k.count) ∧ (s.enableStatus k (rawTarget w.raw) = 0) ∧ (s.isOff k (rawTarget w.raw) = x) :=
  ⟨rpState 63 1 1 (desc 0x11 15 0 0 [10#8, 1#8]), 63, ⟨0, desc 0x11 15 0 0 [10#8, 1#8], false, none⟩, .rule, .roles [1, 2], true, by decide +kernel⟩

theorem witness_SetStateAndLoadsAct_1b : ∃ (s : State) (n : Fin 64) (w : WorkItem) (k : FuncKind) (r : Right) (x : Bool), (s.mayRun n 0x11 .any false 16 [(24, 1), (25, 1)] w = true) ∧ (rawField w.raw 25 1 = 1) ∧ (setStateKind (rawField w.raw 24 1) = some (k, r, false)) ∧ (s.holds n r = true) ∧ (rawTarget w.raw < k.count) ∧ (s.enableStatus k (rawTarget w.raw) = 0) ∧ (s.isOff k (rawTarget w.raw) = x) :=
  ⟨(rpState 63 1 1 (desc 0x11 3 0 0 [4#8, 1#8])).setLc .posCmp 3 { state := .stopping, discard := true }, 63, ⟨0, desc 0x11 3 0 0 [4#8, 1#8], false, none⟩, .posCmp, .drive, false, by decide +kernel⟩

theorem witness_SetStateAndLoadsAct_2 : ∃ (s : State) (n : Fin 64) (w : WorkItem) (k : FuncKind) (r : Right) (x : Bool), (s.mayRun n 0x11 .any false 16 [(24, 1), (25, 1)] w = true) ∧ (rawField w.raw 25 1 = 2) ∧ (setStateKind (rawField w.raw 24 1) = some (k, r, x)) ∧ (s.holds n r = true) ∧ (rawTarget w.raw < k.count) ∧ (s.pdOn (funcDomain k (rawTarget w.raw)) = true) ∧ (s.disableRefused k (rawTarget w.raw) = false) ∧ (s.isStarting k (rawTarget w.raw) = false) :=
  ⟨(rpState 63 1 1 (desc 0x11 7 0 0 [7#8, 2#8])).setLc .engine 7 { state := .on }, 63, ⟨0, desc 0x11 7 0 0 [7#8, 2#8], false, none⟩, .engine, .driveOr [2], true, by decide +kernel⟩

theorem witness_SetStateAndLoadsAct_2b : ∃ (s : State) (n : Fin 64) (w : WorkItem) (k : FuncKind) (r : Right) (x : Bool), (s.mayRun n 0x11 .any false 16 [(24, 1), (25, 1)] w = true) ∧ (rawField w.raw 25 1 = 2) ∧ (setStateKind (rawField w.raw 24 1) = some (k, r, x)) ∧ (s.holds n r = true) ∧ (rawTarget w.raw < k.count) ∧ (s.pdOn (funcDomain k (rawTarget w.raw)) = true) ∧ (s.disableRefused k (rawTarget w.raw) = false) ∧ (s.isStarting k (rawTarget w.raw) = false) :=
  ⟨(rpState 63 1 1 (desc 0x11 3 0 0 [4#8, 2#8])).setLc .posCmp 3 { state := .stopping, pending := .enable }, 63, ⟨0, desc 0x11 3 0 0 [4#8, 2#8], false, none⟩, .posCmp, .drive, false, by decide +kernel⟩

theorem witness_SetStateAndLoadsAct_3 : ∃ (s : State) (n : Fin 64) (w : WorkItem) (h : ImageHead), (s.mayRun n 0x14 .any true 8 [(24, 1), (25, 1), (26, 1)] w = true) ∧ (progLoadForm w.raw = true) ∧ (s.rpDrive n = true) ∧ (s.pdOn (ceDomain (rawTarget w.raw)) = true) ∧ (s.stillFaulted .engine (rawTarget w.raw) = false) ∧ (s.loadStatus (rawTarget w.raw) w.raw (s.sessionRole n) true = 0) ∧ (imageHead (s.sysBytes (rawAddr w.raw) 128) = some h) ∧ (h.signer = 0) :=
  ⟨imageState (pdAll), 63, ⟨0, desc 0x14 7 0x10000100 0 [0#8, 0#8, 255#8], false, none⟩, ⟨0, 0, 0, 1, 0, 0⟩, by decide +kernel⟩

theorem witness_SetStateAndLoadsAct_3b : ∃ (s : State) (n : Fin 64) (w : WorkItem) (h : ImageHead), (s.mayRun n 0x14 .any true 8 [(24, 1), (25, 1), (26, 1)] w = true) ∧ (progLoadForm w.raw = true) ∧ (s.rpDrive n = true) ∧ (s.pdOn (ceDomain (rawTarget w.raw)) = true) ∧ (s.stillFaulted .engine (rawTarget w.raw) = false) ∧ (s.loadStatus (rawTarget w.raw) w.raw (s.sessionRole n) true = 0) ∧ (imageHead (s.sysBytes (rawAddr w.raw) 128) = some h) ∧ (h.signer = 0) :=
  ⟨imageState (pdAll.setLc .engine 7 { state := .stopping }), 63, ⟨0, desc 0x14 7 0x10000100 0 [0#8, 0#8, 255#8], false, none⟩, ⟨0, 0, 0, 1, 0, 0⟩, by decide +kernel⟩

theorem witness_ResetsAndDomainsAct_1 : ∃ (s : State) (u : ResetUnit), (s.pdOn u.domain = true) ∧ (s.quiet = true) :=
  ⟨(pdAll.setLc .engine 7 { state := .on }).setEngine 7 { prog := [(5, 7)], d := [(1, 5)] }, .engine 7, by decide +kernel⟩

theorem witness_ResetsAndDomainsAct_1b : ∃ (s : State) (u : ResetUnit), (s.pdOn u.domain = true) ∧ (s.quiet = true) :=
  ⟨onSat 11 {}, .satellite 11, by decide +kernel⟩

theorem witness_ResetsAndDomainsAct_1c : ∃ (s : State) (u : ResetUnit), (s.pdOn u.domain = true) ∧ (s.quiet = true) :=
  ⟨pdAll.setLc .ring 63 { state := .on }, .ring 63, by decide +kernel⟩

theorem witness_ResetsAndDomainsAct_1d : ∃ (s : State) (u : ResetUnit), (s.pdOn u.domain = true) ∧ (s.quiet = true) :=
  ⟨pdAll, .sentinel, by decide +kernel⟩

theorem witness_ResetsAndDomainsAct_1e : ∃ (s : State) (u : ResetUnit), (s.pdOn u.domain = true) ∧ (s.quiet = true) :=
  ⟨pdAll.setTpo 7 { armed := true }, .tpo 7, by decide +kernel⟩

theorem witness_ResetsAndDomainsAct_2 : ∃ (s : State) (c : Cluster), (s.pdOn c.domain = true) ∧ (s.quiet = true) :=
  ⟨pdAll.setLc .engine 7 { state := .on }, .ceB, by decide +kernel⟩

theorem witness_ResetsAndDomainsAct_2b : ∃ (s : State) (c : Cluster), (s.pdOn c.domain = true) ∧ (s.quiet = true) :=
  ⟨pdAll, .comms, by decide +kernel⟩

theorem witness_ResetsAndDomainsAct_3 : ∃ (s : State) (d : Fin 12) (cause : Fin 3) (fault : Fin 65536), (s.pdOn d = true) ∧ (s.quiet = true) :=
  ⟨pdAll, 11, 2, 0, by decide +kernel⟩

theorem witness_ResetsAndDomainsAct_3b : ∃ (s : State) (d : Fin 12) (cause : Fin 3) (fault : Fin 65536), (s.pdOn d = true) ∧ (s.quiet = true) :=
  ⟨pdAll, 1, 0, 0, by decide +kernel⟩

theorem witness_ResetsAndDomainsAct_3c : ∃ (s : State) (d : Fin 12) (cause : Fin 3) (fault : Fin 65536), (s.pdOn d = true) ∧ (s.quiet = true) :=
  ⟨pdAll, 6, 0, 0x901, by decide +kernel⟩

theorem witness_ResetsAndDomainsAct_4 : ∃ (s : State) (m : Fin 21) (mask : Nat) (d : Fin 12), (8 ≤ m.val) ∧ (m.val ≤ 13) ∧ ((s.mayWrite m .SYSCTL_PD_ON 0).2 = true) ∧ (d.val ∈ domainsIn mask) ∧ (s.isOff .domain d = true) ∧ ((∀ e ∈ domainRequires d, s.pdOn e = true)) :=
  ⟨(openMpu pdAll).setLc .domain 11 {}, 8, 0xFFFFFFFF, 11, by decide +kernel⟩

theorem witness_ResetsAndDomainsAct_5 : ∃ (s : State) (m : Fin 21) (d : Fin 12), (8 ≤ m.val) ∧ (m.val ≤ 13) ∧ ((s.mayWrite m .SYSCTL_PD_OFF 0).2 = true) ∧ (d ≠ 0) ∧ (s.quiet = true) :=
  ⟨openMpu pdAll, 8, 11, by decide +kernel⟩

theorem witness_ResetsAndDomainsAct_5b : ∃ (s : State) (m : Fin 21) (d : Fin 12), (8 ≤ m.val) ∧ (m.val ≤ 13) ∧ ((s.mayWrite m .SYSCTL_PD_OFF 0).2 = true) ∧ (d ≠ 0) ∧ (s.quiet = true) :=
  ⟨openMpu pdAll, 8, 1, by decide +kernel⟩

theorem witness_ResetsAndDomainsAct_6 : ∃ (s : State) (d : Fin 12) (clock : Bool), (d ≠ 0) ∧ (s.isOn .domain d = true) ∧ (s.quiet = true) :=
  ⟨pdAll, 9, true, by decide +kernel⟩

theorem witness_ResetsAndDomainsAct_6b : ∃ (s : State) (d : Fin 12) (clock : Bool), (d ≠ 0) ∧ (s.isOn .domain d = true) ∧ (s.quiet = true) :=
  ⟨pdAll, 1, false, by decide +kernel⟩

theorem witness_ResetsAndDomainsAct_6c : ∃ (s : State) (d : Fin 12) (clock : Bool), (d ≠ 0) ∧ (s.isOn .domain d = true) ∧ (s.quiet = true) :=
  ⟨pdAll, 6, false, by decide +kernel⟩

theorem witness_ResetAndSupplyCommandsAct_1 : ∃ (s : State) (c : Nat), (s.rst.guard = some c) ∧ ((c = 9 ∨ s.elapsedLpo s.rst.guardSince (2 * usT) = true)) ∧ (s.faults.latchWriting = false) ∧ (c < 16) :=
  ⟨{ (pdAll.setFld F.SYSCTL_RESET_CAUSE_PKG_COUNT 255).setFld F.SYSCTL_RESET_CAUSE_CAUSE 6 with rst := { guard := some 4, started := true }, now := 1600, lpo := 1600 }, 4, by decide +kernel⟩

theorem witness_ResetAndSupplyCommandsAct_1b : ∃ (s : State) (c : Nat), (s.rst.guard = some c) ∧ ((c = 9 ∨ s.elapsedLpo s.rst.guardSince (2 * usT) = true)) ∧ (s.faults.latchWriting = false) ∧ (c < 16) :=
  ⟨{ pdAll with rst := { guard := some 9 } }, 9, by decide +kernel⟩

theorem witness_ResetAndSupplyCommandsAct_2 : ∃ (s : State), (s.faults.latchWriting = true) :=
  ⟨{ pdAll with faults := { latchWriting := true } }, by decide +kernel⟩

theorem witness_ResetAndSupplyCommandsAct_4 : ∃ (s : State), ((s.rst.started = true ∨ s.rst.testHeld = true)) ∧ (s.rst.guard = none) :=
  ⟨{ pdAll with rst := { testHeld := true } }, by decide +kernel⟩

theorem witness_ResetAndSupplyCommandsAct_5 : ∃ (s : State) (m : Fin 21) (v : Word), (((8 ≤ m.val ∧ m.val ≤ 13) ∨ (m = 20 ∧ s.lifecycle ≠ 1))) ∧ (bits v.toNat 31 16 = 0x6B1D) ∧ (bits v.toNat 0 0 = 1) ∧ ((s.mayWrite m .SYSCTL_RESET_REQ 0).2 = true) ∧ (s.rst.guard = none) :=
  ⟨openMpu pdAll, 8, 0x6B1D0001, by decide +kernel⟩

theorem witness_ResetAndSupplyCommandsAct_5b : ∃ (s : State) (m : Fin 21) (v : Word), (((8 ≤ m.val ∧ m.val ≤ 13) ∨ (m = 20 ∧ s.lifecycle ≠ 1))) ∧ (bits v.toNat 31 16 = 0x6B1D) ∧ (bits v.toNat 0 0 = 1) ∧ ((s.mayWrite m .SYSCTL_RESET_REQ 0).2 = true) ∧ (s.rst.guard = none) :=
  ⟨openMpu pdAll, 20, 0x6B1D8001, by decide +kernel⟩

theorem witness_ResetAndSupplyCommandsAct_6 : ∃ (s : State) (rail band : Fin 4), (s.power.mode = .run) ∧ ((rail = 3 → band ≠ 3)) :=
  ⟨pdAll, 0, 3, by decide +kernel⟩

theorem witness_ResetAndSupplyCommandsAct_6b : ∃ (s : State) (rail band : Fin 4), (s.power.mode = .run) ∧ ((rail = 3 → band ≠ 3)) :=
  ⟨pdAll, 3, 2, by decide +kernel⟩

theorem witness_ResetAndSupplyCommandsAct_6c : ∃ (s : State) (rail band : Fin 4), (s.power.mode = .run) ∧ ((rail = 3 → band ≠ 3)) :=
  ⟨pdAll.railLevel 1 2, 1, 0, by decide +kernel⟩

theorem witness_ResetAndSupplyCommandsAct_7 : ∃ (s : State) (m : Fin 21) (set k : Fin 3) (v : Word), ((s.mayWrite m (if set = 0 then .SYSCTL_CG_RUN else if set = 1 then .SYSCTL_CG_SLEEP else .SYSCTL_CG_DSLEEP) (if set = 2 then 0 else k)).2 = true) :=
  ⟨(openMpu pdAll).setLc .engine 7 { state := .on }, 8, 0, 0, 0, by decide +kernel⟩

theorem witness_ResetAndSupplyCommandsAct_7b : ∃ (s : State) (m : Fin 21) (set k : Fin 3) (v : Word), ((s.mayWrite m (if set = 0 then .SYSCTL_CG_RUN else if set = 1 then .SYSCTL_CG_SLEEP else .SYSCTL_CG_DSLEEP) (if set = 2 then 0 else k)).2 = true) :=
  ⟨openMpu pdAll, 8, 1, 2, 0xFFFFFFFF, by decide +kernel⟩

theorem witness_ResetAndSupplyCommandsAct_7c : ∃ (s : State) (m : Fin 21) (set k : Fin 3) (v : Word), ((s.mayWrite m (if set = 0 then .SYSCTL_CG_RUN else if set = 1 then .SYSCTL_CG_SLEEP else .SYSCTL_CG_DSLEEP) (if set = 2 then 0 else k)).2 = true) :=
  ⟨openMpu pdAll, 8, 2, 0, 0x4000, by decide +kernel⟩

theorem witness_ResetAndSupplyCommandsAct_8 : ∃ (s : State) (m : Fin 21) (v : Word), (8 ≤ m.val) ∧ (m.val ≤ 11) ∧ ((s.mayWrite m .SYSCTL_WDT_KICK 0).2 = true) :=
  ⟨{ openMpu pdAll with now := 77, lpo := 77 }, 9, 0x5AC3, by decide +kernel⟩

theorem witness_ResetAndSupplyCommandsAct_8b : ∃ (s : State) (m : Fin 21) (v : Word), (8 ≤ m.val) ∧ (m.val ≤ 11) ∧ ((s.mayWrite m .SYSCTL_WDT_KICK 0).2 = true) :=
  ⟨{ openMpu pdAll with now := 77, lpo := 77 }, 11, 0x5AC4, by decide +kernel⟩

theorem witness_ResetAndSupplyCommandsAct_9 : ∃ (s : State), (s.flag F.SYSCTL_WDT_CTRL_EN = true) ∧ (s.elapsedLpo s.power.wdtKick (s.fld F.SYSCTL_WDT_CTRL_TIMEOUT * msT) = true) ∧ ((∀ h ∈ s.island.halted, h < 8 ∨ 11 < h)) ∧ (s.rst.guard = none) :=
  ⟨{ pdAll.setFlag F.SYSCTL_WDT_CTRL_EN true with now := 80000000000, lpo := 80000000000, island := { halted := [7, 12] } }, by decide +kernel⟩

theorem witness_ResetAndSupplyCommandsAct_10 : ∃ (s : State) (lost : Fin 65536) (march : Option Nat) (f l r : Bool), (s.rst.started = false) ∧ (s.rst.guard = none) ∧ (s.rst.testHeld = false) :=
  ⟨State.reset, 0, none, true, true, true, by decide +kernel⟩

theorem witness_ResetAndSupplyCommandsAct_11 : ∃ (s : State) (lost : Fin 65536) (march : Option Nat) (f l r : Bool), (s.rst.started = false) ∧ (s.rst.guard = none) ∧ (s.rst.testHeld = false) :=
  ⟨State.reset, 0, none, false, true, true, by decide +kernel⟩

theorem witness_ResetAndSupplyCommandsAct_11b : ∃ (s : State) (lost : Fin 65536) (march : Option Nat) (f l r : Bool), (s.rst.started = false) ∧ (s.rst.guard = none) ∧ (s.rst.testHeld = false) :=
  ⟨State.reset, 0, none, true, false, false, by decide +kernel⟩

theorem witness_ResetAndSupplyCommandsAct_11c : ∃ (s : State) (lost : Fin 65536) (march : Option Nat) (f l r : Bool), (s.rst.started = false) ∧ (s.rst.guard = none) ∧ (s.rst.testHeld = false) :=
  ⟨State.reset, 0, some 0x10000000, true, true, true, by decide +kernel⟩

theorem witness_ClockAndPowerCommandsAct_1 : ∃ (s : State), (s.flag F.SYSCTL_CLK_STATUS_RAMP_BUSY = true) ∧ (s.elapsed s.clocks.stepSince (s.parN P.RAMP_STEP_T * usT) = true) :=
  ⟨{ pdAll.setFlag F.SYSCTL_CLK_STATUS_RAMP_BUSY true with now := 16000000, lpo := 16000000 }, by decide +kernel⟩

theorem witness_ClockAndPowerCommandsAct_1b : ∃ (s : State), (s.flag F.SYSCTL_CLK_STATUS_RAMP_BUSY = true) ∧ (s.elapsed s.clocks.stepSince (s.parN P.RAMP_STEP_T * usT) = true) :=
  ⟨{ (pdAll.setFlag F.SYSCTL_CLK_STATUS_RAMP_BUSY true).setFld F.SYSCTL_CLK_STATUS_RAMP_STEP 15 with now := 16000000, lpo := 16000000 }, by decide +kernel⟩

theorem witness_ClockAndPowerCommandsAct_2 : ∃ (s : State) (n : Fin 256), (s.refRuns = true) :=
  ⟨{ pdAll.setFlag F.SYSCTL_CLK_STATUS_PLL_LOCK true with rst := { started := true }, clocks := { badRun := 1 } }, 89, by decide +kernel⟩

theorem witness_ClockAndPowerCommandsAct_2b : ∃ (s : State) (n : Fin 256), (s.refRuns = true) :=
  ⟨{ pdAll.setFlag F.SYSCTL_CLK_STATUS_PLL_LOCK true with rst := { started := true }, clocks := { badRun := 1 } }, 110, by decide +kernel⟩

theorem witness_ClockAndPowerCommandsAct_2c : ∃ (s : State) (n : Fin 256), (s.refRuns = true) :=
  ⟨{ pdAll.setFlag F.SYSCTL_CLK_STATUS_PLL_LOCK true with rst := { started := true } }, 255, by decide +kernel⟩

theorem witness_ClockAndPowerCommandsAct_3 : ∃ (s : State) (a : Nat), (s.lockAttempt = some a) ∧ (s.flag F.SYSCTL_CLK_STATUS_PLL_LOCK = false) ∧ (s.refRuns = true) ∧ (a ≤ s.lpo) :=
  ⟨{ pdAll.setFlag F.SYSCTL_CLK_STATUS_COAST true with rst := { started := true }, clocks := { goodSince := some 0 }, now := 800000000, lpo := 800000000 }, 8000000, by decide +kernel⟩

theorem witness_ClockAndPowerCommandsAct_3b : ∃ (s : State) (a : Nat), (s.lockAttempt = some a) ∧ (s.flag F.SYSCTL_CLK_STATUS_PLL_LOCK = false) ∧ (s.refRuns = true) ∧ (a ≤ s.lpo) :=
  ⟨{ pdAll with rst := { started := true }, clocks := { tryingSince := some 5 }, now := 5, lpo := 5 }, 5, by decide +kernel⟩

theorem witness_ClockAndPowerCommandsAct_4 : ∃ (s : State) (a : Nat), (s.lockAttempt = some a) ∧ (s.flag F.SYSCTL_CLK_STATUS_PLL_LOCK = false) ∧ (s.refRuns = true) ∧ (s.elapsedLpo a (5 * msT) = true) :=
  ⟨{ pdAll with rst := { started := true }, clocks := { tryingSince := some 5 }, now := 4000005, lpo := 4000005 }, 5, by decide +kernel⟩

theorem witness_ClockAndPowerCommandsAct_5 : ∃ (s : State) (ppm : Int), (s.flag F.SYSCTL_CLK_STATUS_PLL_LOCK = true) ∧ (30000 < ppm.natAbs) :=
  ⟨pdAll.setFlag F.SYSCTL_CLK_STATUS_PLL_LOCK true, -30001, by decide +kernel⟩

theorem witness_ClockAndPowerCommandsAct_6 : ∃ (s : State) (m : Fin 21), (8 ≤ m.val) ∧ (m.val ≤ 13) ∧ ((s.mayWrite m .SYSCTL_PWR_MODE 0).2 = true) ∧ (s.domainSwitching = false) ∧ (s.power.entering = none) ∧ (s.flag F.SYSCTL_CLK_STATUS_CLK_LOSS = false) ∧ (s.power.mode = .idle) :=
  ⟨{ openMpu pdAll with power := { mode := .idle } }, 8, by decide +kernel⟩

theorem witness_ClockAndPowerCommandsAct_7 : ∃ (s : State) (m : Fin 21), (8 ≤ m.val) ∧ (m.val ≤ 13) ∧ ((s.mayWrite m .SYSCTL_PWR_MODE 0).2 = true) ∧ (s.domainSwitching = false) ∧ (s.power.entering = none) ∧ (s.flag F.SYSCTL_CLK_STATUS_CLK_LOSS = false) ∧ (s.power.mode = .run) ∧ (s.anyBusy [.bridge] = false) :=
  ⟨openMpu pdAll, 8, by decide +kernel⟩

theorem witness_ClockAndPowerCommandsAct_8 : ∃ (s : State) (m : Fin 21), (8 ≤ m.val) ∧ (m.val ≤ 13) ∧ ((s.mayWrite m .SYSCTL_PWR_MODE 0).2 = true) ∧ (s.domainSwitching = false) ∧ (s.power.entering = none) ∧ (s.flag F.SYSCTL_CLK_STATUS_CLK_LOSS = false) ∧ (s.anyBusy [.engine, .slot, .bridge, .satellite, .posIf, .posCmp, .injector, .can] = false) :=
  ⟨openMpu pdAll, 8, by decide +kernel⟩

theorem witness_ClockAndPowerCommandsAct_9 : ∃ (s : State) (m : Fin 21), (8 ≤ m.val) ∧ (m.val ≤ 13) ∧ ((s.mayWrite m .SYSCTL_PWR_MODE 0).2 = true) ∧ (s.domainSwitching = false) ∧ (s.power.entering = none) ∧ (s.flag F.SYSCTL_CLK_STATUS_CLK_LOSS = false) ∧ (s.anyBusy [.slot, .bridge, .satellite, .discharge] = false) ∧ (s.quiet = true) :=
  ⟨openMpu pdAll, 8, by decide +kernel⟩

theorem witness_ClockAndPowerCommandsAct_10 : ∃ (s : State) (m : Fin 21), (8 ≤ m.val) ∧ (m.val ≤ 13) ∧ ((s.mayWrite m .SYSCTL_PWR_MODE 0).2 = true) ∧ (s.domainSwitching = false) ∧ (s.power.entering = none) ∧ (s.flag F.SYSCTL_CLK_STATUS_CLK_LOSS = false) ∧ (s.anyBusy [.slot, .bridge, .satellite, .discharge] = false) ∧ (s.quiet = true) :=
  ⟨openMpu pdAll, 8, by decide +kernel⟩

theorem witness_ClockAndPowerCommandsAct_11 : ∃ (s : State), (s.power.mode = .idle) :=
  ⟨{ pdAll with power := { mode := .idle } }, by decide +kernel⟩

theorem witness_ClockAndPowerCommandsAct_12 : ∃ (s : State), (s.power.mode = .sleep) ∧ (s.power.wakeWaiting = true) :=
  ⟨{ pdAll with power := { mode := .sleep, wakeWaiting := true } }, by decide +kernel⟩

theorem witness_SentinelCommandsAct_1 : ∃ (s : State) (v a b : List Int), (s.snRuns = true) ∧ (s.sn.burstSince = none) ∧ ((∀ t0 ∈ s.sn.roundAt, s.elapsedLpo t0 s.roundMin = true)) :=
  ⟨{ pdAll with sn := { running := true } }, [1, 5, 12000, 9, 12001], [0, 0, 0], [-4000, -40000, -3000], by decide +kernel⟩

theorem witness_SentinelCommandsAct_1b : ∃ (s : State) (v a b : List Int), (s.snRuns = true) ∧ (s.sn.burstSince = none) ∧ ((∀ t0 ∈ s.sn.roundAt, s.elapsedLpo t0 s.roundMin = true)) :=
  ⟨{ (withPd {} 1).setFld F.SENTINEL_ANALOG_VBAT 12000 with sn := { running := true, sampled := true, roundAt := some 0, ntcWait := 5 }, now := 800000000, lpo := 800000000 }, [1, 5, 13001, 14000, 15000], [], [], by decide +kernel⟩

theorem witness_SentinelCommandsAct_2 : ∃ (s : State) (value : Int) (within : Nat) (inv : Bool) (t0 : Nat), (s.holdsPosPins = true) ∧ (s.sn.burstSince = some t0) ∧ (s.elapsedLpo t0 (s.parN P.SN_BURST_T * usT) = true) :=
  ⟨{ (withPd {} 1).setFld F.SENTINEL_ROT_RUN 255 with sn := { running := true, burstSince := some 0, burstFresh := false }, now := 8000000, lpo := 8000000 }, 3, 70000, false, 0, by decide +kernel⟩

theorem witness_SentinelCommandsAct_2b : ∃ (s : State) (value : Int) (within : Nat) (inv : Bool) (t0 : Nat), (s.holdsPosPins = true) ∧ (s.sn.burstSince = some t0) ∧ (s.elapsedLpo t0 (s.parN P.SN_BURST_T * usT) = true) :=
  ⟨{ withPd {} 1 with sn := { running := true, burstSince := some 0, burstFresh := false }, now := 8000000, lpo := 8000000 }, 7, 0, true, 0, by decide +kernel⟩

theorem witness_SentinelCommandsAct_3 : ∃ (s : State) (k : Fin 4) (level : Bool), (bitAt s.sn.wakes k = !level) :=
  ⟨{ withPar pdAll P.SN_OFF_WAKE 0 0 8 with power := { mode := .off, wakeOut := false } }, 3, true, by decide +kernel⟩

theorem witness_SentinelCommandsAct_3b : ∃ (s : State) (k : Fin 4) (level : Bool), (bitAt s.sn.wakes k = !level) :=
  ⟨{ pdAll with sn := { running := true, wakes := 15 } }, 3, false, by decide +kernel⟩

theorem witness_SentinelCommandsAct_4 : ∃ (s : State) (id : Fin 536870912) (xtd fdf : Bool) (dlc : Fin 16) (data : List Byte), (s.holdsCanPin = true) :=
  ⟨{ pdAll with sn := { running := true } }, 0, false, true, 0, [], by decide +kernel⟩

theorem witness_SentinelCommandsAct_4b : ∃ (s : State) (id : Fin 536870912) (xtd fdf : Bool) (dlc : Fin 16) (data : List Byte), (s.holdsCanPin = true) :=
  ⟨{ pdAll.setFld F.SENTINEL_CANWAKE_ERR 255 with sn := { running := true } }, 0, false, false, 0, [], by decide +kernel⟩

theorem witness_SentinelCommandsAct_5 : ∃ (s : State) (id : Fin 536870912) (xtd : Bool) (dlc : Fin 16) (data : List Byte), (s.holdsCanPin = true) :=
  ⟨{ (withPar pdAll P.SN_CAN_FILTER 0 42 0x123).setFld F.SENTINEL_CANWAKE_ERR 3 with sn := { running := true } }, 0x123, false, 0, [], by decide +kernel⟩

theorem witness_SentinelCommandsAct_6 : ∃ (s : State) (t0 : Nat), (s.sn.wakeOutSince = some t0) ∧ (s.elapsedLpo t0 (s.parN P.SN_WAKE_OUT_T * msT) = true) :=
  ⟨{ withPar pdAll P.SN_WAKE_OUT_T 0 0 1 with sn := { wakeOutSince := some 0 }, power := { mode := .deepSleep }, now := 800000, lpo := 800000 }, 0, by decide +kernel⟩

theorem witness_SentinelCommandsAct_7 : ∃ (s : State) (b : Fin 2) (p : Park), (s.sn.park = some p) ∧ (s.rst.started = true) ∧ (p.bridges.contains b.val = true) ∧ (p.compared.contains b.val = false) ∧ (s.pdOn (10 + b) = true) ∧ (s.islandStarted = false) :=
  ⟨{ pdAll with rst := { started := true }, sn := { park := some ⟨0, [1], true, 5, [], [], false, false⟩ } }, 1, ⟨0, [1], true, 5, [], [], false, false⟩, by decide +kernel⟩

theorem witness_SentinelCommandsAct_7b : ∃ (s : State) (b : Fin 2) (p : Park), (s.sn.park = some p) ∧ (s.rst.started = true) ∧ (p.bridges.contains b.val = true) ∧ (p.compared.contains b.val = false) ∧ (s.pdOn (10 + b) = true) ∧ (s.islandStarted = false) :=
  ⟨{ (List.range 6).foldl (fun s n => s.setLc .satellite (6 + n) { state := .on }) pdAll with rst := { started := true }, sn := { park := some ⟨0, [0, 1], true, 5, [0], [], false, false⟩ } }, 1, ⟨0, [0, 1], true, 5, [0], [], false, false⟩, by decide +kernel⟩

theorem witness_SentinelCommandsAct_8 : ∃ (s : State), (s.snRuns = true) ∧ (s.elapsedLpo s.sn.doneAt (4 * s.parN P.SN_ROUND_T * msT) = true) :=
  ⟨{ pdAll with sn := { running := true, burstSince := some 5 }, now := 80000000000, lpo := 80000000000 }, by decide +kernel⟩

theorem witness_MemoryAndHousekeepingAct_2 : ∃ (s : State) (k : Fin 5) (b : Fin 32), (s.pdOn 6 = true) ∧ (b.val < (memGeom k).banks) ∧ (s.bankSkipped k b = false) ∧ (s.memc.scrubNext.at 0 (32 * k.val + b.val) < (memGeom k).bank / 8) :=
  ⟨{ pdAll with memc := { scrubNext := [(0, 5)] } }, 0, 0, by decide +kernel⟩

theorem witness_MemoryAndHousekeepingAct_3 : ∃ (s : State) (k : Fin 5) (b : Fin 32), (s.pdOn 6 = true) ∧ (b.val < (memGeom k).banks) ∧ (s.bankSkipped k b = false) ∧ (s.memc.scrubNext.at 0 (32 * k.val + b.val) < (memGeom k).bank / 8) ∧ (k ≠ 1) ∧ (k ≠ 3) ∧ (s.memc.poison.contains ((memGeom k).base + b * (memGeom k).bank + 8 * s.memc.scrubNext.at 0 (32 * k.val + b.val)) = false) :=
  ⟨pdAll, 0, 15, by decide +kernel⟩

theorem witness_MemoryAndHousekeepingAct_4 : ∃ (s : State) (m : Fin 21) (k : Fin 8), (8 ≤ m.val) ∧ (m.val ≤ 13) ∧ ((s.mayWrite m .MEMCTL_MARCH_CTRL 0).2 = true) :=
  ⟨(openMpu pdAll).setFld F.MEMCTL_MARCH_BANKS_BANKS 0x8001, 8, 0, by decide +kernel⟩

theorem witness_MemoryAndHousekeepingAct_4b : ∃ (s : State) (m : Fin 21) (k : Fin 8), (8 ≤ m.val) ∧ (m.val ≤ 13) ∧ ((s.mayWrite m .MEMCTL_MARCH_CTRL 0).2 = true) :=
  ⟨openMpu pdAll, 8, 7, by decide +kernel⟩

theorem witness_MemoryAndHousekeepingAct_5 : ∃ (s : State) (m : Fin 21), (8 ≤ m.val) ∧ (m.val ≤ 13) ∧ ((s.mayWrite m .MEMCTL_MARCH_CTRL 0).2 = true) ∧ (s.memc.march.isSome = true) :=
  ⟨{ (openMpu pdAll).setFlag F.MEMCTL_STATUS_MARCH_BUSY true with memc := { march := some ⟨0, [1], 3, 0⟩ } }, 8, by decide +kernel⟩

theorem witness_MemoryAndHousekeepingAct_6 : ∃ (s : State) (x : March) (o : MarchOutcome), (s.memc.march = some x) ∧ (s.gateOpen 46 = true) :=
  ⟨{ pdAll with memc := { march := some ⟨0, [1], 511, 0⟩ }, now := 3328, lpo := 3328 }, ⟨0, [1], 511, 0⟩, .pass, by decide +kernel⟩

theorem witness_MemoryAndHousekeepingAct_6b : ∃ (s : State) (x : March) (o : MarchOutcome), (s.memc.march = some x) ∧ (s.gateOpen 46 = true) :=
  ⟨{ pdAll with memc := { march := some ⟨0, [1], 5, 0⟩ }, now := 3328, lpo := 3328 }, ⟨0, [1], 5, 0⟩, .pass, by decide +kernel⟩

theorem witness_MemoryAndHousekeepingAct_6c : ∃ (s : State) (x : March) (o : MarchOutcome), (s.memc.march = some x) ∧ (s.gateOpen 46 = true) :=
  ⟨{ pdAll with memc := { march := some ⟨0, [1], 5, 0⟩ } }, ⟨0, [1], 5, 0⟩, .preempt, by decide +kernel⟩

theorem witness_MemoryAndHousekeepingAct_7 : ∃ (s : State) (x : March) (a : Fin 4194304), (s.memc.march = some x) ∧ (s.gateOpen 46 = true) :=
  ⟨{ pdAll with memc := { march := some ⟨0, [1], 511, 0⟩ } }, ⟨0, [1], 511, 0⟩, 5, by decide +kernel⟩

theorem witness_MemoryAndHousekeepingAct_8 : ∃ (s : State) (a : Fin 13) (t0 : Nat), (s.memc.recover.at none a.val = some t0) ∧ (s.elapsed t0 msT = true) :=
  ⟨{ pdAll with memc := { recover := [(12, some 0)] }, now := 800000, lpo := 800000 }, 12, 0, by decide +kernel⟩

theorem witness_MemoryAndHousekeepingAct_9 : ∃ (s : State), (s.mramReady = true) ∧ (s.atlasC.savedAt + 60 ≤ s.ptime) :=
  ⟨{ mramUp with now := 80000000000, lpo := 80000000000 }, by decide +kernel⟩

theorem witness_MemoryAndHousekeepingAct_10 : ∃ (s : State) (codes : List Nat) (dies : List (Option Int)) (mram : Option Int) (t0 : Nat), (s.hk.roundAt = some t0) ∧ (s.pdOn 8 = true) ∧ (s.gateOpen 22 = true) ∧ (s.gateOpen 23 = true) ∧ (t0 ≤ s.lpo) :=
  ⟨{ pdAll with hk := { roundAt := some 0 }, now := 800000, lpo := 800000 }, List.replicate 24 2048, List.replicate 16 (some 2500), some 2500, 0, by decide +kernel⟩

theorem witness_RecordsAndFabricAct_1 : ∃ (s : State) (n : Fin 64) (w : WorkItem) (data : Option (List Byte)) (d : List Byte) (es : List (Nat × List Byte)) (r : PRecord) (ws : Written), (s.mayRun n 0x12 .any true 0x10000 [(24, 2)] w = true) ∧ (rawField w.raw 24 2 ≠ 0) ∧ (rawField w.raw 24 2 ≤ 64) ∧ ((s.markStarted n w.wid).dataIn n w data = some d) ∧ (cutEntries (rawField w.raw 24 2) d = some es) ∧ (paramRecordOf (es.headD (0, [])).1 = some r) ∧ (rawTarget w.raw < r.insts) ∧ (recordWrites r (rawTarget w.raw) es = some ws) ∧ ((s.markStarted n w.wid).writeStatus r (rawTarget w.raw) (s.sessionRole n) es ws = 0) ∧ (s.mramReady = true) ∧ (s.prot.audit.unacked.length < 8192) :=
  ⟨paramState, 63, ⟨0, desc 0x12 7 0x10000200 8 [1#8], false, none⟩, none, leBytes 4 0x00040D20 ++ leBytes 4 3, [(0x0D20, leBytes 4 3)], ⟨0x0D20, 0x0D21, 8⟩, [((0x0D20, 0), 3)], by decide +kernel⟩

theorem witness_RecordsAndFabricAct_2 : ∃ (s : State) (n : Fin 64) (w : WorkItem) (f : PDef) (r : PRecord) (l : List Byte), (s.mayRun n 0x13 .any true 0x10000 [(24, 2)] w = true) ∧ (paramDef (rawField w.raw 24 2) = some f) ∧ (paramRecordOf (rawField w.raw 24 2) = some r) ∧ (rawTarget w.raw < r.insts) ∧ (idFits (rawField w.raw 24 2) (rawTarget w.raw) = true) ∧ ((r.members (rawTarget w.raw)).flatMap (fun d => d.entry (fun k => s.parStored d.id (rawTarget w.raw) k)) = l) ∧ (l.length ≤ rawLen w.raw) ∧ ((s.markStarted n w.wid).hostOk n (rawAddr w.raw) l.length true = true) :=
  ⟨rpState 63 1 0 (desc 0x13 7 0x10000200 64 [0x20#8, 0x0D#8]), 63, ⟨0, desc 0x13 7 0x10000200 64 [0x20#8, 0x0D#8], false, none⟩, (paramDef 0x0D20).getD ⟨0, [], 0, [], []⟩, ⟨0x0D20, 0x0D21, 8⟩, ((⟨0x0D20, 0x0D21, 8⟩ : PRecord).members 7).flatMap (fun d => d.entry (fun k => State.reset.parStored d.id 7 k)), by decide +kernel⟩

theorem witness_RecordsAndFabricAct_3 : ∃ (s : State) (n : Fin 64) (w : WorkItem), (s.mayRun n 0x19 .any true 1 [] w = true) ∧ (336 ≤ rawLen w.raw) ∧ ((s.markStarted n w.wid).hostOk n (rawAddr w.raw) (s.markStarted n w.wid).snapshot.length true = true) ∧ ((s.markStarted n w.wid).snapshot.length = 336) :=
  ⟨rpState 63 1 0 (desc 0x19 0 0x10000200 336 []), 63, ⟨0, desc 0x19 0 0x10000200 336 [], false, none⟩, by decide +kernel⟩

theorem witness_RecordsAndFabricAct_4 : ∃ (s : State) (m : Fin 21) (a : Nat) (v : Word) (k : RKey), ((s.busAllows m a 1).2 = true) ∧ (regAt a = some k) ∧ (writeActs k.reg = false) ∧ (lcOfReg k = none) ∧ ((k.reg.hasLock = true → s.bootlock = false ∧ m = 8)) :=
  ⟨(openMpu pdAll).setReg ⟨.SYSCTL_INT_STATUS, 0, 0⟩ 0xFFFFFFFF, 8, regAddr .SYSCTL_INT_STATUS 0 0, 5, ⟨.SYSCTL_INT_STATUS, 0, 0⟩, by decide +kernel⟩

theorem witness_RecordsAndFabricAct_4b : ∃ (s : State) (m : Fin 21) (a : Nat) (v : Word) (k : RKey), ((s.busAllows m a 1).2 = true) ∧ (regAt a = some k) ∧ (writeActs k.reg = false) ∧ (lcOfReg k = none) ∧ ((k.reg.hasLock = true → s.bootlock = false ∧ m = 8)) :=
  ⟨openMpu pdAll, 8, regAddr .DERRICK_RP_BIND 63 0, 0xFFFFFFFF, ⟨.DERRICK_RP_BIND, 63, 0⟩, by decide +kernel⟩

theorem witness_RecordsAndFabricAct_5 : ∃ (s : State) (m : Fin 21) (a : Nat) (v : Word), ((s.busAllows m a 1).2 = true) ∧ (regAt a = none) ∧ ((memArea a = some .sram ∨ memArea a = some .tcm)) ∧ (s.partPoisoned a 4 = false) :=
  ⟨openMpu pdAll, 8, 0x10000004, 0x12345678, by decide +kernel⟩

theorem witness_RecordsAndFabricAct_6 : ∃ (s : State) (c : Fin 8) (d a : Nat), (s.ceNext c = some (.fld d a)) ∧ ((s.engine c).dReg a % 4 = 0) ∧ ((s.busAllows c ((s.engine c).dReg a) 0).2 = true) :=
  ⟨openMpu (ceState 7 (op 6 + 15 * 2 ^ 22 + 14 * 2 ^ 18) { d := [(14, 0x10000008)] }), 7, 15, 14, by decide +kernel⟩

theorem witness_RecordsAndFabricAct_7 : ∃ (s : State) (c : Fin 8) (d a : Nat), ((s.engine c).wait = .fld d a false) ∧ (regAt a = none) ∧ (memArea a = some .sram) ∧ (s.pdOn 6 = true) ∧ (s.poisoned a 4 = false) ∧ ((s.engine c).haltAsked = false) ∧ ((s.engine c).halted = false) :=
  ⟨(ceState 7 (op 6) { wait := .fld 15 0x10000008 false }).sysWrite 0x10000008 (leBytes 4 0x12345678), 7, 15, 0x10000008, by decide +kernel⟩

theorem witness_RecordsAndFabricAct_8 : ∃ (s : State) (c : Fin 8) (d a : Nat), (s.ceNext c = some (.fst d a)) ∧ ((s.engine c).dReg a % 4 = 0) ∧ ((s.busAllows c ((s.engine c).dReg a) 1).2 = true) ∧ (regAt ((s.engine c).dReg a) = none) ∧ (memArea ((s.engine c).dReg a) = some .sram) ∧ (s.partPoisoned ((s.engine c).dReg a) 4 = false) :=
  ⟨openMpu (ceState 7 (op 7 + 15 * 2 ^ 22 + 14 * 2 ^ 18) { d := [(14, 0x10000008), (15, 0x12345678)] }), 7, 15, 14, by decide +kernel⟩

theorem witness_RecordsAndFabricAct_9 : ∃ (s : State) (c : Fin 8), ((s.debugAccess 20 .ceHalt .CE_DEBUG_CTRL c).2 = true) ∧ ((s.engine c).halted = true) ∧ ((s.engine c).wait = .none) ∧ ((s.unhalt c).ceNext c = some .nop) :=
  ⟨openMpu (ceState 7 0 { halted := true }), 7, by decide +kernel⟩

theorem witness_OnlyAKeyedWriteRequestsTheSoftwareReset_1 : ∃ (s : State) (m : Fin 21) (v : Word), ((s.mayWrite m .SYSCTL_RESET_REQ 0).2 = true) ∧ (((8 ≤ m.val ∧ m.val ≤ 13) ∨ (m = 20 ∧ (s.lifecycle = 0 ∨ s.lifecycle = 2)))) ∧ (bits v.toNat 31 16 = 0x6B1D) ∧ (bits v.toNat 0 0 = 1) :=
  ⟨openMpu pdAll, 20, 0x6B1DFFFF, by decide +kernel⟩

theorem witness_OnlyAKeyedWriteRequestsTheSoftwareReset_2 : ∃ (s : State) (m : Fin 21) (v : Word), (s.lifecycle ≤ 2) ∧ (¬(((8 ≤ m.val ∧ m.val ≤ 13) ∨ (m = 20 ∧ (s.lifecycle = 0 ∨ s.lifecycle = 2))) ∧ bits v.toNat 31 16 = 0x6B1D ∧ bits v.toNat 0 0 = 1)) :=
  ⟨(openMpu pdAll).setFld F.PROT_STATUS_LIFECYCLE 1, 20, 0x6B1D0001, by decide +kernel⟩

theorem witness_OnlyAKeyedWriteRequestsTheSoftwareReset_2b : ∃ (s : State) (m : Fin 21) (v : Word), (s.lifecycle ≤ 2) ∧ (¬(((8 ≤ m.val ∧ m.val ≤ 13) ∨ (m = 20 ∧ (s.lifecycle = 0 ∨ s.lifecycle = 2))) ∧ bits v.toNat 31 16 = 0x6B1D ∧ bits v.toNat 0 0 = 1)) :=
  ⟨openMpu pdAll, 14, 0x6B1D0001, by decide +kernel⟩

theorem witness_OnlyAKeyedWriteRequestsTheSoftwareReset_2c : ∃ (s : State) (m : Fin 21) (v : Word), (s.lifecycle ≤ 2) ∧ (¬(((8 ≤ m.val ∧ m.val ≤ 13) ∨ (m = 20 ∧ (s.lifecycle = 0 ∨ s.lifecycle = 2))) ∧ bits v.toNat 31 16 = 0x6B1D ∧ bits v.toNat 0 0 = 1)) :=
  ⟨openMpu pdAll, 8, 0x6B1D0002, by decide +kernel⟩

theorem witness_ReferenceDividerIsTheLargest_1 : ∃ (s : State) (n : Fin 2), (0 < s.period (s.mainBridge n)) :=
  ⟨pdAll, 1, by decide +kernel⟩

theorem witness_ReferenceDividerIsTheLargest_2 : ∃ (s : State) (n : Fin 2) (k : Nat), (0 < s.period (s.mainBridge n)) ∧ (k * s.period (s.mainBridge n) ≤ 80000 * s.parN P.LOOP_RATE n) :=
  ⟨pdAll, 0, 1, by decide +kernel⟩

theorem witness_MachineRecordsAreWrittenOnlyWhileOff_1 : ∃ (s : State) (n : Fin 64) (w : WorkItem) (data : Option (List Byte)) (d : List Byte) (es : List (Nat × List Byte)), (s.mayRun n 0x12 .any true 0x10000 [(24, 2)] w = true) ∧ (rawField w.raw 24 2 ≠ 0) ∧ (rawField w.raw 24 2 ≤ 64) ∧ ((s.markStarted n w.wid).dataIn n w data = some d) ∧ (cutEntries (rawField w.raw 24 2) d = some es) ∧ (paramRecordOf (es.headD (0, [])).1 = some ⟨0x0200, 0x020E, 2⟩) ∧ (s.isOff .slot (rawTarget w.raw) = false) :=
  ⟨(machineState 1).setLc .slot 1 { state := .stopping }, 63, ⟨0, desc 0x12 1 0x10000200 8 [1#8], false, none⟩, none, leBytes 4 0x00040200 ++ leBytes 4 0, [(0x0200, leBytes 4 0)], by decide +kernel⟩

theorem witness_PowerDomainOfTheAdcsStaysOnUnderABridge_1 : ∃ (s : State) (b : Fin 2), (s.isOff .bridge b = false) :=
  ⟨pdAll.setLc .bridge 1 { state := .stopping }, 1, by decide +kernel⟩

theorem witness_PowerDomainOfTheAdcsStaysOnUnderABridge_2 : ∃ (s : State) (m : Fin 21) (b : Fin 2), (8 ≤ m.val) ∧ (m.val ≤ 13) ∧ ((s.mayWrite m .SYSCTL_PD_OFF 0).2 = true) ∧ (s.quiet = true) ∧ (s.isOff .bridge b = false) :=
  ⟨(openMpu pdAll).setLc .bridge 1 { state := .starting }, 8, 1, by decide +kernel⟩

theorem witness_CompletionsHaveTheirSixteenBytes_1 : ∃ (s : State) (n : Fin 64) (op tag status result : Nat) (irq : Bool), (s.isOff .ring n = false) ∧ ((s.hostOf (s.rpHost n)).lost = false) ∧ (s.memc.poison = []) ∧ (s.hostOk n (s.rpBase n + s.rpSize n * 64 + 16 * (s.ring n).compl) 16 true = true) :=
  ⟨rpState 63 1 1 [], 63, 0x10, 7, 0, 0x000249F004000123, true, by decide +kernel⟩

theorem witness_ClockGatesOfBusyUnitsStayOpen_1 : ∃ (s : State) (m : Fin 21) (k : Fin 3) (v : Word) (b : Fin 32), ((s.mayWrite m .SYSCTL_CG_RUN k).2 = true) ∧ (s.power.mode = .run) ∧ ((k = 2 → b < 4)) ∧ (bitAt (s.fld F.SYSCTL_CG_RUN_EN k) b = true) ∧ (bitAt v.toNat b = false) ∧ (s.unitBusy (32 * k + b) = true) :=
  ⟨(openMpu pdAll).setLc .engine 7 { state := .on }, 8, 0, 0, 7, by decide +kernel⟩

theorem witness_ClockGatesOfBusyUnitsStayOpen_2 : ∃ (s : State) (m : Fin 21) (k : Fin 3) (v : Word) (b : Fin 32), ((s.mayWrite m .SYSCTL_CG_SLEEP k).2 = true) ∧ (s.power.mode = .idle) ∧ ((k = 2 → b < 4)) ∧ (bitAt (s.fld F.SYSCTL_CG_SLEEP_EN k) b = true) ∧ (bitAt v.toNat b = false) ∧ (s.unitBusy (32 * k + b) = true) :=
  ⟨{ (openMpu pdAll).setLc .can 3 { state := .on } with power := { mode := .idle } }, 8, 1, 0, 9, by decide +kernel⟩

theorem witness_ClockGatesOfBusyUnitsStayOpen_3 : ∃ (s : State) (m : Fin 21) (v : Word), ((s.mayWrite m .SYSCTL_CG_DSLEEP 0).2 = true) :=
  ⟨openMpu pdAll, 8, 0xFFFFFFFF, by decide +kernel⟩

theorem witness_LifecyclesReactToEvents_2 : ∃ (l : Lc) (t : Nat), (l.state = .starting) :=
  ⟨{ state := .starting }, 0, by decide +kernel⟩

theorem witness_LifecyclesReactToEvents_3 : ∃ (l : Lc) (t : Nat), (l.state = .on) :=
  ⟨{ state := .on }, 0, by decide +kernel⟩

theorem witness_LifecyclesReactToEvents_4 : ∃ (l : Lc) (t : Nat), (l.state = .stopping) :=
  ⟨{ state := .stopping, pending := .enable }, 0, by decide +kernel⟩

theorem witness_LifecyclesReactToEvents_5 : ∃ (l : Lc) (t : Nat), (l.state ≠ .off) :=
  ⟨{ state := .on, pending := .disable }, 0, by decide +kernel⟩

theorem witness_LifecyclesReactToEvents_7 : ∃ (l : Lc) (t : Nat), (l.state = .starting) :=
  ⟨{ state := .starting, pending := .disable }, 0, by decide +kernel⟩

theorem witness_LifecyclesReactToEvents_8 : ∃ (l : Lc) (t : Nat), (l.state = .stopping) :=
  ⟨{ state := .stopping, pending := .enable }, 0, by decide +kernel⟩

theorem witness_FieldTypesGovernAWrite_1 : ∃ (r : Reg) (old v b : Nat), (b < 32) ∧ (old < 2 ^ 32) ∧ (v < 2 ^ 32) ∧ ((r.fields.all (fun f => b < f.lo || f.hi < b)) = true) :=
  ⟨.SYSCTL_PWR_MODE, 0xFFFFFFFF, 0, 31, by decide +kernel⟩

theorem witness_FieldTypesGovernAWrite_2 : ∃ (r : Reg) (f : Fld) (old v b : Nat), (f ∈ r.fields) ∧ (f.lo ≤ b) ∧ (b ≤ f.hi) ∧ (old < 2 ^ 32) ∧ (v < 2 ^ 32) :=
  ⟨.SYSCTL_INT_STATUS, F.SYSCTL_INT_STATUS_GATE_REFUSED, 0xFFFFFFFF, 0xFFFFFFFF, F.SYSCTL_INT_STATUS_GATE_REFUSED.lo, by decide +kernel⟩

theorem witness_AnOffDomainTakesNoAccess_1 : ∃ (s : State) (m : Fin 21) (a : Nat) (v : Word) (k : RKey), (regAt a = some k) ∧ (s.pdOn (k.reg.domain k.i) = false) :=
  ⟨pd1, 8, regAddr .CE_STATUS 0 0, 5, ⟨.CE_STATUS, 0, 0⟩, by decide +kernel⟩

theorem witness_AnOffDomainTakesNoAccess_2 : ∃ (s : State) (m : Fin 21) (a : Nat) (v : Word) (x : MemArea), (regAt a = none) ∧ (memArea a = some x) ∧ (s.pdOn x.domain = false) :=
  ⟨pd1, 8, 0x20000000, 5, .window, by decide +kernel⟩

theorem witness_AnOffDomainTakesNoAccess_3 : ∃ (s : State) (c : Fin 8) (e : Fin 3) (d a : Nat) (k : RKey), ((s.engine c).wait = .fld d a false) ∧ (regAt a = some k) ∧ (s.pdOn (k.reg.domain k.i) = false) :=
  ⟨(withPd (withPd {} 6) 3).setEngine 0 { wait := .fld 3 (regAddr .CAN_STATUS 0 0) false }, 0, 0, 3, regAddr .CAN_STATUS 0 0, ⟨.CAN_STATUS, 0, 0⟩, by decide +kernel⟩

theorem witness_DeratingCurvesInterpolate_1 : ∃ (s : State) (id n : Nat) (x : Int), (x ≤ s.par id n 0) :=
  ⟨State.reset, P.DERATE_TEMP, 0, -4000, by decide +kernel⟩

theorem witness_DeratingCurvesInterpolate_2 : ∃ (s : State) (id n : Nat) (x : Int), (s.par id n 0 < x) ∧ (s.par id n 14 ≤ x) :=
  ⟨State.reset, P.DERATE_TEMP, 0, 15000, by decide +kernel⟩

theorem witness_DeratingCurvesInterpolate_3 : ∃ (s : State) (id n : Nat) (x : Int) (i : Fin 7), ((∀ k : Fin 7, s.par id n (2 * k) < s.par id n (2 * k + 2))) ∧ (s.par id n (2 * i) ≤ x) ∧ (x < s.par id n (2 * i + 2)) :=
  ⟨State.reset, P.DERATE_TEMP, 0, 2500, 2, by decide +kernel⟩

theorem witness_DeratingCurvesInterpolate_3b : ∃ (s : State) (id n : Nat) (x : Int) (i : Fin 7), ((∀ k : Fin 7, s.par id n (2 * k) < s.par id n (2 * k + 2))) ∧ (s.par id n (2 * i) ≤ x) ∧ (x < s.par id n (2 * i + 2)) :=
  ⟨State.reset, P.DERATE_TEMP, 0, 14999, 6, by decide +kernel⟩

theorem witness_EveryCommandKeepsItsFrame_1 : ∃ (c : Instr) (s : State) (p : Part), ((parts c).contains p = false) :=
  ⟨.capTsLoRead 8 1 7, pdAll, .params, by decide +kernel⟩

theorem witness_EveryStepKeepsTheStoresCanonical_1 : ∃ (s : State), (s.storesWf) :=
  ⟨{ (pdAll.sysWrite 0x10000000 [1#8, 2#8]) with pending := [.rampStep] }, by decide +kernel⟩

end Sys2Proof.Tests
end

/-! ### Running and completing a descriptor (R405, R410, R414) -/

namespace Sys2Proof.FieldControl

open Sys2Proof.Machine

variable {α : Type} {π : State → α}

/-- A reading of the state that the completion of a descriptor leaves as it was: it looks neither at the ring pairs, the memories and the raised
interrupts, nor at the count of refusals. -/
structure CompletionBlind (π : State → α) : Prop where
  ring : ∀ s n x, π (State.setRing s n x) = π s
  refused : ∀ s v n, π (State.setFld s F.DERRICK_RP_STATS_REFUSED v n) = π s
  memory : ∀ (s : State) m h c, π { s with mem := m, hostMem := h, memc := c } = π s
  msix : ∀ (s : State) l, π { s with msix := l } = π s
  lines : ∀ (s : State) l, π { s with irqLines := l } = π s

/-- A write into a host's memory changes the memories alone. -/
theorem hostWrite_eq (s : State) (n a : Nat) (l : List Byte) :
    ∃ m h c, s.hostWrite n a l = { s with mem := m, hostMem := h, memc := c } := by
  unfold State.hostWrite
  split
  · exact ⟨s.mem, _, s.memc, rfl⟩
  · unfold State.sysWrite
    dsimp only
    split
    · exact ⟨_, s.hostMem, _, rfl⟩
    · exact ⟨_, s.hostMem, _, rfl⟩

theorem CompletionBlind.hostWrite (h : CompletionBlind π) (s : State) (n a : Nat) (l : List Byte) : π (s.hostWrite n a l) = π s := by
  obtain ⟨m, b, c, e⟩ := hostWrite_eq s n a l
  rw [e, h.memory]

theorem CompletionBlind.signalPair (h : CompletionBlind π) (s : State) (n : Nat) : π (s.signalPair n) = π s := by
  unfold State.signalPair
  dsimp only
  split
  · exact (h.msix _ _).trans (h.ring _ _ _)
  · exact (h.lines _ _).trans (h.ring _ _ _)

theorem CompletionBlind.postCompletion (h : CompletionBlind π) (s : State) (n op tag : Nat) (irq : Bool) (st res : Nat) :
    π (s.postCompletion n op tag irq st res) = π s := by
  unfold State.postCompletion
  split
  · rfl
  · dsimp only
    split
    · exact h.ring _ _ _
    · simp only [apply_ite π, h.signalPair, h.hostWrite, h.ring]
      split <;> simp only [h.refused, ite_self]

theorem CompletionBlind.flushWork (h : CompletionBlind π) (n : Nat) (l : List WorkItem) (s : State) : π (flushWork n l s).2 = π s := by
  induction l generalizing s with
  | nil => rfl
  | cons w l ih =>
    unfold Machine.flushWork
    split
    · rfl
    · rw [ih, h.postCompletion]

/-- What the completion of a descriptor leaves as it was. -/
theorem CompletionBlind.finish (h : CompletionBlind π) (s : State) (n wid st res : Nat) : π (s.finish n wid st res) = π s := by
  unfold State.finish
  simp only [h.ring, h.flushWork]

theorem completionBlind_slots : CompletionBlind State.slots := ⟨fun _ _ _ => rfl, fun _ _ _ => rfl, fun _ _ _ _ => rfl, fun _ _ => rfl, fun _ _ => rfl⟩
theorem completionBlind_slotHosts : CompletionBlind State.slotHosts := ⟨fun _ _ _ => rfl, fun _ _ _ => rfl, fun _ _ _ _ => rfl, fun _ _ => rfl, fun _ _ => rfl⟩
theorem completionBlind_lcs : CompletionBlind State.lcs := ⟨fun _ _ _ => rfl, fun _ _ _ => rfl, fun _ _ _ _ => rfl, fun _ _ => rfl, fun _ _ => rfl⟩
theorem completionBlind_params : CompletionBlind State.params := ⟨fun _ _ _ => rfl, fun _ _ _ => rfl, fun _ _ _ _ => rfl, fun _ _ => rfl, fun _ _ => rfl⟩
theorem completionBlind_stored : CompletionBlind State.stored := ⟨fun _ _ _ => rfl, fun _ _ _ => rfl, fun _ _ _ _ => rfl, fun _ _ => rfl, fun _ _ => rfl⟩

@[simp] theorem finish_slotHosts (s : State) (n wid st res : Nat) : (s.finish n wid st res).slotHosts = s.slotHosts := completionBlind_slotHosts.finish s n wid st res
@[simp] theorem finish_lcs (s : State) (n wid st res : Nat) : (s.finish n wid st res).lcs = s.lcs := completionBlind_lcs.finish s n wid st res
@[simp] theorem finish_params (s : State) (n wid st res : Nat) : (s.finish n wid st res).params = s.params := completionBlind_params.finish s n wid st res
@[simp] theorem finish_stored (s : State) (n wid st res : Nat) : (s.finish n wid st res).stored = s.stored := completionBlind_stored.finish s n wid st res

theorem flushWork_suffix (n : Nat) (l : List WorkItem) (s : State) : (flushWork n l s).1 <:+ l := by
  induction l generalizing s with
  | nil => exact List.suffix_refl _
  | cons w l ih =>
    unfold flushWork
    split
    · exact List.suffix_refl _
    · exact (ih _).trans (List.suffix_cons w l)

/-- A descriptor that is finished is answered: each item with its number is done, and posting only takes items away (R410). -/
theorem answered_finish (s : State) (n wid st res : Nat) : (s.finish n wid st res).answered n wid = true := by
  unfold State.finish State.answered
  rw [State.ring_setRing, List.all_eq_true]
  intro v hv
  obtain ⟨w, -, rfl⟩ := List.mem_map.mp ((flushWork_suffix _ _ _).subset hv)
  by_cases hw : w.wid = wid
  · cases hd : w.done <;> simp [hw, hd]
  · simp [hw]

/-- A pair's next descriptor that passes every check of Derrick is started and carried out (R405, R413). -/
theorem runDescIf_of_mayRun {s : State} {n : Nat} {sp : OpSpec} {pre : WorkItem → Bool} {body : State → WorkItem → State} {w : WorkItem}
    (h : s.mayRun n sp.op sp.right sp.usesData sp.targets sp.used w = true) (hp : pre w = true) :
    s.runDescIf n sp pre body = body (s.markStarted n w.wid) w := by
  simp only [State.mayRun, Bool.and_eq_true, beq_iff_eq] at h
  obtain ⟨⟨⟨⟨⟨⟨⟨hon, hnext⟩, hop⟩, hfence⟩, hallow⟩, hright⟩, hhead⟩, hbody⟩ := h
  have hallow' : (s.markStarted n w.wid).opAllowed n sp.op = true := hallow
  have hright' : (s.markStarted n w.wid).holds n sp.right = true := by
    have hrole : (s.markStarted n w.wid).sessionRole n = s.sessionRole n := by
      simp only [State.sessionRole, State.markStarted, State.ring_setRing]; rfl
    have hdrive : (s.markStarted n w.wid).rpDrive n = s.rpDrive n := rfl
    have hbound : (s.markStarted n w.wid).rpRole n = s.rpRole n := rfl
    rw [← hright]
    cases sp.right <;> simp only [State.holds, hrole, hdrive, hbound]
  unfold State.runDescIf
  simp [hon, hnext, hop, hp, hfence, hallow', hright', hhead, hbody]

end Sys2Proof.FieldControl

/-! ### The divider of the reference step and the derating curves (R64, R76) -/

namespace Sys2Proof.FieldControl

open Sys2Proof.Machine

theorem refDiv_eq (s : State) (n : Nat) (h : 0 < s.period (s.mainBridge n)) :
    s.refDiv n = max 1 (80000 * s.parN P.LOOP_RATE n / s.period (s.mainBridge n)) := by
  rw [State.refDiv, Nat.max_eq_right h]

/-- Settles O42: the quotient of 80,000 × LOOP_RATE by PERIOD is the largest count that fits, and 1 stands where it is 0. -/
theorem referenceDividerIsTheLargest : Obligations.ReferenceDividerIsTheLargest := by
  refine ⟨fun s n h => ?_, fun s n k h hk => ?_⟩
  · rw [refDiv_eq s n h]
    refine ⟨Nat.le_max_left _ _, ?_⟩
    rcases Nat.le_total (80000 * s.parN P.LOOP_RATE n / s.period (s.mainBridge n)) 1 with hq | hq
    · exact Or.inl (Nat.max_eq_left hq)
    · rw [Nat.max_eq_right hq]
      exact Or.inr (Nat.div_mul_le_self _ _)
  · rw [refDiv_eq s n h]
    exact Nat.le_trans ((Nat.le_div_iff_mul_le h).mpr hk) (Nat.le_max_right _ _)

/-- The search for the segment of a derating curve: among the first inputs above `x`, the lowest index. -/
theorem find_segment {p : Nat → Int} {x : Int} {i m : Nat} (hi : i < m) (hx : x < p (i + 1)) (hlow : ∀ k, k < i → p (k + 1) ≤ x) :
    (List.range m).find? (fun k => decide (x < p (k + 1))) = some i := by
  rw [List.find?_range_eq_some]
  refine ⟨by simpa using hx, List.mem_range.mpr hi, fun k hk => ?_⟩
  simpa using hlow k hk

/-- Inputs that rise from each point of a curve to the next rise between any two. -/
theorem rising_le {p : Nat → Int} {m : Nat} (h : ∀ k, k < m → p k < p (k + 1)) {i j : Nat} (hij : i ≤ j) (hj : j ≤ m) : p i ≤ p j := by
  induction hij with
  | refl => exact Int.le_refl _
  | @step j hij ih => exact Int.le_trans (ih (Nat.le_of_succ_le hj)) (Int.le_of_lt (h j hj))

theorem derate_below (s : State) (id n : Nat) (x : Int) (h : x ≤ s.par id n 0) : s.derate id n x = (s.par id n 1, 1) := by
  simp only [State.derate, Nat.mul_zero, if_pos h]

theorem derate_above (s : State) (id n : Nat) (x : Int) (h0 : s.par id n 0 < x) (h7 : s.par id n 14 ≤ x) :
    s.derate id n x = (s.par id n 15, 1) := by
  simp only [State.derate, Nat.mul_zero, Nat.reduceMul, if_neg (Int.not_le.mpr h0), if_pos h7]

/-- Between points `i` and `i + 1` a curve is the fraction of the line through them. -/
theorem derate_segment (s : State) (id n i : Nat) (x : Int) (hi : i < 7) (h0 : s.par id n 0 < x) (h7 : x < s.par id n 14)
    (hx : x < s.par id n (2 * i + 2)) (hlow : ∀ k, k < i → s.par id n (2 * k + 2) ≤ x) :
    s.derate id n x =
      (s.par id n (2 * i + 1) * (s.par id n (2 * i + 2) - s.par id n (2 * i)) +
        (s.par id n (2 * i + 3) - s.par id n (2 * i + 1)) * (x - s.par id n (2 * i)), (s.par id n (2 * i + 2) - s.par id n (2 * i)).toNat) := by
  have hfind := find_segment (p := fun k => s.par id n (2 * k)) hi hx hlow
  simp only [State.derate, Nat.mul_zero, Nat.reduceMul, if_neg (Int.not_le.mpr h0), if_neg (Int.not_le.mpr h7), hfind]
  rfl

/-- Settles O50: an input between two points lies in the first segment whose upper end exceeds it, since the inputs rise. -/
theorem deratingCurvesInterpolate : Obligations.DeratingCurvesInterpolate := by
  refine ⟨fun s id n x h => derate_below s id n x h, fun s id n x h0 h7 => derate_above s id n x h0 h7, ?_⟩
  intro s id n x i hrise hlo hhi
  have hrise' : ∀ k, k < 7 → s.par id n (2 * k) < s.par id n (2 * k + 2) := fun k hk => hrise ⟨k, hk⟩
  have hle : ∀ {a b : Nat}, a ≤ b → b ≤ 7 → s.par id n (2 * a) ≤ s.par id n (2 * b) := fun hab hb =>
    rising_le (p := fun k => s.par id n (2 * k)) hrise' hab hb
  have hi := i.isLt
  by_cases h0 : x ≤ s.par id n 0
  · have hstart : i.val = 0 := by
      rcases Nat.eq_zero_or_pos i.val with hz | hpos
      · exact hz
      · have h1 : s.par id n 0 < s.par id n (2 * i) := Int.lt_of_lt_of_le (hrise' 0 (by omega)) (hle (a := 1) hpos (by omega))
        omega
    rw [hstart] at hlo ⊢
    have hx : x = s.par id n 0 := Int.le_antisymm h0 hlo
    rw [derate_below s id n x h0, hx, Int.sub_self, Int.mul_zero, Int.add_zero, Int.natCast_one, Int.mul_one]
  · have h0 : s.par id n 0 < x := Int.not_le.mp h0
    have h7 : x < s.par id n 14 := Int.lt_of_lt_of_le hhi (hle (a := i.val + 1) (b := 7) (by omega) (Nat.le_refl 7))
    have hlow : ∀ k, k < i.val → s.par id n (2 * k + 2) ≤ x := fun k hk => Int.le_trans (hle (a := k + 1) hk (by omega)) hlo
    have hpos : 0 ≤ s.par id n (2 * i + 2) - s.par id n (2 * i) := Int.sub_nonneg.mpr (Int.le_of_lt (hrise i))
    rw [derate_segment s id n i x hi h0 h7 hhi hlow]
    dsimp only
    rw [Int.toNat_of_nonneg hpos]

end Sys2Proof.FieldControl

/-! ### PARAM_WRITE of a machine record (R60) -/

namespace Sys2Proof.FieldControl

open Sys2Proof.Machine

/-- The record of a slot's machine parameters (R632). -/
def machineRecord : PRecord := ⟨0x0200, 0x020E, 2⟩

/-- A machine record of a slot that is not OFF is not accepted, whatever it writes and whoever writes it. -/
theorem writeStatus_machineRecord (s : State) (n role : Nat) (es : List (Nat × List Byte)) (w : Written) (h : s.isOff .slot n = false) :
    s.writeStatus machineRecord n role es w ≠ 0 := by
  have hstate : s.recordState machineRecord n w = false := by simp [State.recordState, machineRecord, h]
  have hother : machineRecord.first ≠ P.FAULT_RC := by decide
  simp only [State.writeStatus, hstate, hother, false_and, if_false, Bool.not_false, if_true]
  split
  · decide
  · split
    · decide
    · split <;> decide

/-- Such a write is completed and nothing else. -/
theorem writeRecord_machineRecord (s : State) (n : Nat) (wi : WorkItem) (es : List (Nat × List Byte)) (w : Written) (l : List Byte)
    (h : s.isOff .slot (rawTarget wi.raw) = false) :
    ∃ st, s.writeRecord n wi machineRecord es w l = s.finish n wi.wid st 0 :=
  ⟨_, if_pos (writeStatus_machineRecord s _ _ es w h)⟩

/-- Settles O43: whatever refuses the list, it is refused before anything is stored, at the latest since the slot is not OFF. -/
theorem machineRecordsAreWrittenOnlyWhileOff : Obligations.MachineRecordsAreWrittenOnlyWhileOff := by
  intro s n w data d es hrun hcount0 hcount64 hdata hcut hrec hoff
  have hoff' : (s.markStarted n w.wid).isOff .slot (rawTarget w.raw) = false := hoff
  have hfinish : ∃ st, exec (.paramWrite n data) s = .next ((s.markStarted n w.wid).finish n w.wid st 0) := by
    show ∃ st, execParamWrite n data s = _
    unfold execParamWrite State.runDesc
    rw [runDescIf_of_mayRun (sp := paramWriteSpec) hrun rfl]
    simp only [hcount0, Nat.not_lt.mpr hcount64, or_self, if_false, hdata, hcut, hrec]
    split
    · exact ⟨_, rfl⟩
    · split
      · exact ⟨_, rfl⟩
      · obtain ⟨st, hst⟩ := writeRecord_machineRecord (s.markStarted n w.wid) n w es _ (d.take (entriesLen es)) hoff'
        exact ⟨st, congrArg _ hst⟩
  obtain ⟨st, hst⟩ := hfinish
  exact ⟨_, hst, answered_finish _ _ _ _ _, finish_stored _ _ _ _ _, finish_params _ _ _ _ _⟩

end Sys2Proof.FieldControl

/-! ### Commands to a slot (R66 to R68, R426, R427) -/

namespace Sys2Proof.FieldControl

open Sys2Proof.Machine

variable {α : Type} {π : State → α}

/-- A reading of the state that the placing of a command in a mailbox leaves as it was, but for the slot: what a completion leaves, the engines, their
overrun status and the count of refused CAN commands aside. -/
structure MailboxBlind (π : State → α) : Prop extends CompletionBlind π where
  engine : ∀ s c e, π (State.setEngine s c e) = π s
  overrun : ∀ s b c, π (State.setFlag s F.CE_INT_STATUS_EV_OVERRUN b c) = π s
  canRefused : ∀ s v c, π (State.setFld s F.CAN_AQ_STATUS_REFUSED v c) = π s

theorem MailboxBlind.canStatus (h : MailboxBlind π) (s : State) (n st : Nat) : π (s.canStatus n st) = π s := by
  unfold State.canStatus
  split
  · split
    · rfl
    · exact h.canRefused _ _ _
  · rfl

theorem MailboxBlind.reply (h : MailboxBlind π) (s : State) (n : Nat) (c : SlotCmd) (st : Nat) : π (s.reply n c st) = π s := by
  unfold State.reply
  split
  · exact h.finish _ _ _ _ _
  · split
    · exact h.canStatus _ _ _
    · rfl

theorem MailboxBlind.replyAll (h : MailboxBlind π) (n st : Nat) (l : List SlotCmd) (s : State) : π (s.replyAll n l st) = π s := by
  unfold State.replyAll
  induction l generalizing s with
  | nil => rfl
  | cons c l ih => rw [List.foldl_cons, ih, h.reply]

theorem MailboxBlind.raiseEvent (h : MailboxBlind π) (s : State) (c bit info : Nat) : π (s.raiseEvent c bit info) = π s := by
  unfold State.raiseEvent
  split
  · rfl
  · dsimp only
    split
    · rw [h.overrun, h.engine]
    · exact h.engine _ _ _

theorem MailboxBlind.deliverTo (h : MailboxBlind π) (s : State) (c ev : Nat) (l : List Byte) : π (s.deliverTo c ev l) = π s :=
  (h.raiseEvent _ _ _ _).trans (h.engine _ _ _)

theorem mailboxBlind_slots : MailboxBlind State.slots :=
  ⟨completionBlind_slots, fun _ _ _ => rfl, fun s b c => State.setFlag_slots s _ b c 0, fun s v c => State.setFld_slots s _ v c 0⟩
theorem mailboxBlind_slotHosts : MailboxBlind State.slotHosts :=
  ⟨completionBlind_slotHosts, fun _ _ _ => rfl, fun s b c => State.setFlag_slotHosts s _ b c 0, fun s v c => State.setFld_slotHosts s _ v c 0⟩

/-- The host of a pair is read in RP_BIND, which none of these operations writes. -/
theorem mailboxBlind_rpHost (n : Nat) : MailboxBlind (fun s => s.rpHost n) := by
  have h : ∀ (s : State) (f : Fld) (v i : Nat), f.reg ≠ .DERRICK_RP_BIND → (s.setFld f v i).rpHost n = s.rpHost n := by
    intro s f v i hf
    unfold State.rpHost State.rpPcie State.flag
    rw [State.fld_setFld_otherReg s f F.DERRICK_RP_BIND_HOST v i 0 n 0 (fun hk => hf (congrArg RKey.reg hk).symm)]
  exact ⟨⟨fun _ _ _ => rfl, fun s v n => h s _ v n (by decide), fun _ _ _ _ => rfl, fun _ _ => rfl, fun _ _ => rfl⟩,
    fun _ _ _ => rfl, fun s b c => h s _ (b2n b) c (by decide), fun s v c => h s _ v c (by decide)⟩

/-- What the placing of a command leaves as it was, of whatever the slots' own records have no part in. -/
theorem MailboxBlind.placeCmd (h : MailboxBlind π) (hslot : ∀ s n x, π (State.setSlot s n x) = π s) (s : State) (n : Nat) (c : SlotCmd) :
    π (s.placeCmd n c) = π s := by
  unfold State.placeCmd
  dsimp only
  split
  · rw [h.deliverTo, h.replyAll, hslot]
  · rw [h.replyAll, hslot]

/-- A command placed stands in the mailbox with the next SEQ (R66, R187). -/
theorem placeCmd_slot (s : State) (n : Nat) (c : SlotCmd) :
    ∃ buf, (s.placeCmd n c).slot n = { s.slot n with
      mail := (s.slot n).mail.filter (fun o => o.buf != buf) ++ [{ c with seq := (s.slot n).cmdSeq, buf := buf }]
      cmdSeq := ((s.slot n).cmdSeq + 1) % 65536 } := by
  have hslot : ∀ t : State, t.slot n = t.slots.at {} n := fun _ => rfl
  cases howner : s.ownerOf n with
  | none =>
    refine ⟨0, ?_⟩
    simp only [State.placeCmd, howner]
    rw [hslot, mailboxBlind_slots.replyAll, ← hslot, State.slot_setSlot]
  | some e =>
    refine ⟨(s.engine e).freeBuffer 4, ?_⟩
    simp only [State.placeCmd, howner]
    rw [hslot, mailboxBlind_slots.deliverTo, mailboxBlind_slots.replyAll, ← hslot, State.slot_setSlot]

/-- An accepted command is held by a slot that is STARTING (R68). -/
theorem offerCmd_starting {s : State} {n : Nat} {c : SlotCmd} (hsrc : s.cmdSourceOf n = c.source) (h : s.isStarting .slot n = true) :
    ∃ t, s.offerCmd n c = (none, t) ∧ (t.slot n).held = some c ∧ ∀ m, t.rpHost m = s.rpHost m := by
  have hst : (s.lc .slot n).state = .starting := by simpa [State.isStarting] using h
  have hslot : ∀ t : State, t.slot n = t.slots.at {} n := fun _ => rfl
  unfold State.offerCmd
  simp only [hsrc, bne_self_eq_false, Bool.false_eq_true, if_false, hst]
  refine ⟨_, rfl, ?_, fun m => ?_⟩
  · split
    · rw [hslot, mailboxBlind_slots.reply, ← hslot, State.slot_setSlot]
    · rw [State.slot_setSlot]
  · split
    · exact (mailboxBlind_rpHost m).reply _ _ _ _
    · rfl

/-- An accepted command is placed in the mailbox of a slot that is ON (R66); mode CURRENT needs a program of an expert (R67). -/
theorem offerCmd_on {s : State} {n : Nat} {c : SlotCmd} (hsrc : s.cmdSourceOf n = c.source) (h : s.isOn .slot n = true)
    (hmode : c.mode = 2 → (s.slot n).expert = true) : s.offerCmd n c = (none, s.placeCmd n c) := by
  have hst : (s.lc .slot n).state = .on := by simpa [State.isOn] using h
  have hmode' : ¬ (c.mode = 2 ∧ (s.slot n).expert = false) := fun ⟨hm, he⟩ => by simp [hmode hm] at he
  unfold State.offerCmd
  simp only [hsrc, bne_self_eq_false, Bool.false_eq_true, if_false, hst, if_neg hmode']

theorem slotHost_setSlotHost (s : State) (n : Nat) (x : SlotHost) : (s.setSlotHost n x).slotHost n = x := Table.at_setAt_same _ s.slotHosts n x

theorem slotHost_finish (s : State) (k n wid st res : Nat) : (s.finish n wid st res).slotHost k = s.slotHost k := by
  rw [State.slotHost, finish_slotHosts]; rfl

theorem commandedBy_host (s : State) (n host : Nat) : ((s.commandedBy n host).slotHost n).host = some host := by
  unfold State.commandedBy
  rw [slotHost_setSlotHost]
  split <;> rfl

/-- A DRIVE_CMD that is accepted is offered to its slot, and its host then commands the slot. -/
theorem execDriveCmd_accepted {s t : State} {n : Fin 64} {w : WorkItem} (hrun : s.mayRun n 0x10 .drive false 2 driveCmdUsed w = true)
    (hmode : rawField w.raw 24 1 < 3) (hforce : rawField w.raw 25 1 = 0) (hacc : 0 ≤ rawFieldS w.raw 36 4)
    (hoffer : (s.markStarted n w.wid).offerCmd (rawTarget w.raw) (driveCmdOf w.raw s.ts n w.wid) = (none, t)) :
    exec (.driveCmd n) s = .next (t.commandedBy (rawTarget w.raw) (t.rpHost n)) := by
  show execDriveCmd n s = _
  have hpre : (rawField w.raw 24 1 != 3) = true := bne_iff_ne.mpr (Nat.ne_of_lt hmode)
  have hmode' : decide (3 < (driveCmdOf w.raw s.ts n w.wid).mode) = false := decide_eq_false (Nat.not_lt.mpr (Nat.le_of_lt hmode))
  have hacc' : decide ((driveCmdOf w.raw s.ts n w.wid).acc < 0) = false := decide_eq_false (Int.not_lt.mpr hacc)
  have hts : (s.markStarted n w.wid).ts = s.ts := rfl
  unfold execDriveCmd
  rw [runDescIf_of_mayRun (sp := ⟨0x10, [1], .drive, false, 2, driveCmdUsed⟩) hrun hpre]
  simp only [hts, hmode', hacc', hforce, ne_eq, not_true_eq_false, decide_false, Bool.or_false, Bool.false_eq_true, if_false, hoffer]

/-- A command descriptor for a slot that is STARTING or ON: it is held, or placed with the next SEQ, and its host commands the slot. -/
theorem driveCmd_reaches_slot (s : State) (n : Fin 64) (w : WorkItem) (k : Fin 2) (hrun : s.mayRun n 0x10 .drive false 2 driveCmdUsed w = true)
    (hk : rawTarget w.raw = k.val) (hmode : rawField w.raw 24 1 < 3) (hforce : rawField w.raw 25 1 = 0) (hacc : 0 ≤ rawFieldS w.raw 36 4)
    (hsrc : s.cmdSourceOf k = 0)
    (hslot : s.isOn .slot k = true ∧ (rawField w.raw 24 1 = 2 → (s.slot k).expert = true) ∨ s.isStarting .slot k = true) :
    ∃ t, exec (.driveCmd n) s = .next t ∧ (t.slotHost k).host = some (s.rpHost n) ∧
      (s.isStarting .slot k = true → (t.slot k).held = some (driveCmdOf w.raw s.ts n w.wid)) ∧
      (s.isOn .slot k = true → (t.slot k).cmdSeq = ((s.slot k).cmdSeq + 1) % 65536 ∧
        (t.slot k).mail.any (fun c => { c with buf := 0 } == { driveCmdOf w.raw s.ts n w.wid with seq := (s.slot k).cmdSeq }) = true) := by
  have hexcl : s.isOn .slot k = true → s.isStarting .slot k = false := by
    simp only [State.isOn, State.isStarting, beq_iff_eq]
    intro h; rw [h]; rfl
  have hsrc' : (s.markStarted n w.wid).cmdSourceOf k = (driveCmdOf w.raw s.ts n w.wid).source := hsrc
  rcases hslot with ⟨hon, hexpert⟩ | hstart
  · have hoffer := offerCmd_on (s := s.markStarted n w.wid) hsrc' hon hexpert
    have hhost : ((s.markStarted n w.wid).placeCmd k (driveCmdOf w.raw s.ts n w.wid)).rpHost n = s.rpHost n :=
      (mailboxBlind_rpHost n).placeCmd (fun _ _ _ => rfl) _ _ _
    obtain ⟨buf, hplaced⟩ := placeCmd_slot (s.markStarted n w.wid) k (driveCmdOf w.raw s.ts n w.wid)
    refine ⟨_, execDriveCmd_accepted hrun hmode hforce hacc (hk ▸ hoffer), ?_, fun h => ?_, fun _ => ?_⟩
    · rw [hk, commandedBy_host, hhost]
    · rw [hexcl hon] at h; exact absurd h (by decide)
    · have hsame : ∀ (t : State) h, (t.commandedBy k h).slot k = t.slot k := fun _ _ => rfl
      rw [hk, hsame, hplaced]
      refine ⟨rfl, ?_⟩
      rw [List.any_append, Bool.or_eq_true]
      exact Or.inr (by simp [driveCmdOf]; rfl)
  · obtain ⟨t, hoffer, hheld, hhost⟩ := offerCmd_starting (s := s.markStarted n w.wid) hsrc' hstart
    refine ⟨_, execDriveCmd_accepted hrun hmode hforce hacc (hk ▸ hoffer), ?_, fun _ => ?_, fun h => ?_⟩
    · rw [hk, commandedBy_host, hhost]; rfl
    · rw [hk]; exact hheld
    · rw [hexcl h] at hstart; exact absurd hstart (by decide)

/-- CLAIM_SOURCE of a slot that is ON and whose source has been handed over ends the policy, the handover and what they still had to do. -/
theorem execClaimSource_accepted {s : State} {n : Fin 64} {w : WorkItem} (hrun : s.mayRun n 0x1A .drive false 2 [] w = true)
    (hon : s.isOn .slot (rawTarget w.raw) = true)
    (hsrc : (s.slotHost (rawTarget w.raw)).policy = 2 ∨ (s.slotHost (rawTarget w.raw)).source = true) :
    exec (.claimSource n) s = .next (((s.markStarted n w.wid).setSlotHost (rawTarget w.raw) { s.slotHost (rawTarget w.raw) with
      policy := 0, source := false, sourceDue := false, due := false, ramped := false }).finish n w.wid St.ok 0) := by
  show execClaimSource n s = _
  have hon' : (s.markStarted n w.wid).isOn .slot (rawTarget w.raw) = true := hon
  have hhost : (s.markStarted n w.wid).slotHost (rawTarget w.raw) = s.slotHost (rawTarget w.raw) := rfl
  have hclaim : ((s.slotHost (rawTarget w.raw)).policy == 2 || (s.slotHost (rawTarget w.raw)).source) = true := by simpa using hsrc
  unfold execClaimSource State.runDesc
  rw [runDescIf_of_mayRun (sp := ⟨0x1A, [1], .drive, false, 2, []⟩) hrun rfl]
  simp only [hon', hhost, hclaim, Bool.and_self, Bool.not_true, Bool.false_eq_true, if_false]

/-- CLAIM_SOURCE leaves no handover: the source is the one of the parameter again (R427). -/
theorem claimSource_ends_handover (s : State) (n : Fin 64) (w : WorkItem) (hrun : s.mayRun n 0x1A .drive false 2 [] w = true)
    (hon : s.isOn .slot (rawTarget w.raw) = true)
    (hsrc : (s.slotHost (rawTarget w.raw)).policy = 2 ∨ (s.slotHost (rawTarget w.raw)).source = true) :
    ∃ t, exec (.claimSource n) s = .next t ∧ t.cmdSourceOf (rawTarget w.raw) = s.parN P.CMD_SOURCE (rawTarget w.raw) ∧
      (t.slotHost (rawTarget w.raw)).policy = 0 ∧ t.answered n w.wid = true := by
  refine ⟨_, execClaimSource_accepted hrun hon hsrc, ?_, ?_, answered_finish _ _ _ _ _⟩
  · unfold State.cmdSourceOf
    rw [slotHost_finish, slotHost_setSlotHost]
    simp [State.parN, State.par]
    rfl
  · rw [slotHost_finish, slotHost_setSlotHost]

end Sys2Proof.FieldControl

/-! ### Requests for active discharge (R70, R392) -/

namespace Sys2Proof.FieldControl

open Sys2Proof.Machine

theorem foldl_lcs {β : Type} (l : List β) (f : State → β → State) (h : ∀ s b, (f s b).lcs = s.lcs) (s : State) : (l.foldl f s).lcs = s.lcs := by
  induction l generalizing s with
  | nil => rfl
  | cons b l ih => rw [List.foldl_cons, ih, h]

@[simp] theorem raiseEvent_lcs (s : State) (c bit info : Nat) : (s.raiseEvent c bit info).lcs = s.lcs := by
  unfold State.raiseEvent
  split
  · rfl
  · dsimp only
    split <;> rfl

@[simp] theorem safeEvent_lcs (s : State) (b : Nat) : (s.safeEvent b).lcs = s.lcs := by
  unfold State.safeEvent State.raiseEvents
  refine foldl_lcs _ _ (fun s c => ?_) s
  split
  · exact raiseEvent_lcs _ _ _ _
  · rfl

@[simp] theorem driveSafe_lcs (s : State) (b : Nat) (x : SafeState) : (s.driveSafe b x).lcs = s.lcs := by
  unfold State.driveSafe
  dsimp only
  split
  · exact safeEvent_lcs _ _
  · rw [foldl_lcs _ _ (fun s k => by split <;> rfl), safeEvent_lcs]; rfl

@[simp] theorem refreshDischarge_lcs (s : State) : s.refreshDischarge.lcs = s.lcs := by
  unfold State.refreshDischarge
  dsimp only
  split <;> rfl

@[simp] theorem enterSafe_lcs (s : State) (b : Nat) : (s.enterSafe b).lcs = s.lcs := by
  unfold State.enterSafe
  dsimp only
  split
  · exact refreshDischarge_lcs s
  · split
    · exact refreshDischarge_lcs s
    · exact (driveSafe_lcs _ _ _).trans (refreshDischarge_lcs s)

@[simp] theorem dchgAdd_lcs (s : State) (a b : Bool) : (s.dchgAdd a b).lcs = s.lcs := rfl

@[simp] theorem dchgAct_lcs (s : State) : s.dchgAct.lcs = s.lcs :=
  (foldl_lcs _ _ enterSafe_lcs _).trans (refreshDischarge_lcs s)

/-- An enabled function is not OFF, whatever state it was in (R45). -/
theorem enable_state_ne_off (l : Lc) (t : Nat) : (l.enable t).state ≠ .off := by
  unfold Lc.enable
  cases l.state <;> simp

theorem isOff_eq_of_lcs {s t : State} (h : t.lcs = s.lcs) (k : FuncKind) (n : Nat) : t.isOff k n = s.isOff k n := by
  simp only [State.isOff, State.lc, h]

theorem isOff_updLc_enable (s : State) (k : FuncKind) (n : Nat) : (s.updLc k n Lc.enable).isOff k n = false := by
  simpa [State.isOff] using enable_state_ne_off (s.lc k n) s.now

/-- Where no slot using a named bridge is ON, or FORCE stops those that are, a request for discharge is accepted and the discharge is not OFF (R392). -/
theorem requestDischarge_accepted (s : State) (a b force : Bool) (h : force = true ∨ s.isOn .slot 0 = false ∧ s.isOn .slot 1 = false) :
    (s.requestDischarge a b force).1.isOff .discharge 0 = false := by
  have haccept : ∀ x y, (!force && !(s.dchgSlots x y).isEmpty) = false := by
    intro x y
    rcases h with rfl | ⟨h0, h1⟩
    · rfl
    · simp [State.dchgSlots, h0, h1]
  have hstart : ∀ (t : State) x y, ((t.updLc .discharge 0 Lc.enable).dchgAdd x y).dchgAct.isOff .discharge 0 = false := fun t x y =>
    (isOff_eq_of_lcs ((dchgAct_lcs _).trans (dchgAdd_lcs _ x y)) _ _).trans (isOff_updLc_enable t _ _)
  have hwait : ∀ (t : State) d, ((t.updLc .discharge 0 Lc.enable).setDchg d).isOff .discharge 0 = false := fun t d => isOff_updLc_enable t _ _
  unfold State.requestDischarge
  simp only [haccept, Bool.false_eq_true, if_false]
  split
  · exact hstart _ _ _
  · exact hwait _ _
  · exact hstart _ _ _

/-- A DRIVE_CMD with MODE = 3 that the state allows requests the discharge of its slot's bridges, and is completed (R70). -/
theorem execDriveCmdDischarge_accepted {s : State} {n : Fin 64} {w : WorkItem} (hrun : s.mayRun n 0x10 .drive false 2 driveCmdUsed w = true)
    (hmode : rawField w.raw 24 1 = 3) (hforce : rawField w.raw 25 1 ≤ 1) (hsrc : s.cmdSourceOf (rawTarget w.raw) = 0) (hpd : s.pdOn 1 = true) :
    ∃ st, exec (.driveCmdDischarge n) s = .next (((s.markStarted n w.wid).requestDischarge ((s.bridgesOfSlot (rawTarget w.raw)).contains 0)
      ((s.bridgesOfSlot (rawTarget w.raw)).contains 1) (rawField w.raw 25 1 == 1)).1.finish n w.wid st 0) := by
  have hsrc' : (s.markStarted n w.wid).cmdSourceOf (rawTarget w.raw) = 0 := hsrc
  have hpd' : (s.markStarted n w.wid).pdOn 1 = true := hpd
  have hpre : (rawField w.raw 24 1 == 3) = true := beq_iff_eq.mpr hmode
  refine ⟨((s.markStarted n w.wid).requestDischarge ((s.bridgesOfSlot (rawTarget w.raw)).contains 0)
    ((s.bridgesOfSlot (rawTarget w.raw)).contains 1) (rawField w.raw 25 1 == 1)).2, ?_⟩
  show execDriveCmdDischarge n s = _
  unfold execDriveCmdDischarge
  rw [runDescIf_of_mayRun (sp := ⟨0x10, [1], .drive, false, 2, driveCmdUsed⟩) hrun hpre]
  simp only [Nat.not_lt.mpr hforce, hsrc', hpd', bne_self_eq_false, Bool.not_true, Bool.false_eq_true, if_false]
  rfl

theorem driveCmdDischarge_requests (s : State) (n : Fin 64) (w : WorkItem) (hrun : s.mayRun n 0x10 .drive false 2 driveCmdUsed w = true)
    (hmode : rawField w.raw 24 1 = 3) (hforce : rawField w.raw 25 1 ≤ 1) (hsrc : s.cmdSourceOf (rawTarget w.raw) = 0) (hpd : s.pdOn 1 = true)
    (hslots : rawField w.raw 25 1 = 1 ∨ s.isOn .slot 0 = false ∧ s.isOn .slot 1 = false) :
    ∃ t, exec (.driveCmdDischarge n) s = .next t ∧ t.isOff .discharge 0 = false ∧ t.answered n w.wid = true := by
  obtain ⟨st, hexec⟩ := execDriveCmdDischarge_accepted hrun hmode hforce hsrc hpd
  refine ⟨_, hexec, (isOff_eq_of_lcs (finish_lcs _ _ _ _ _) _ _).trans ?_, answered_finish _ _ _ _ _⟩
  exact requestDischarge_accepted (s.markStarted n w.wid) _ _ _ (hslots.imp_left beq_iff_eq.mpr)

/-- Settles O19: an accepted command reaches its slot, the discharge is requested, and a claim ends the handover. -/
theorem driveCommandsAct : Obligations.DriveCommandsAct :=
  ⟨driveCmd_reaches_slot, driveCmdDischarge_requests, claimSource_ends_handover⟩

end Sys2Proof.FieldControl

/-! ### The reference step and the flying start: where the statements fail (R61, R81, R296) -/

namespace Sys2Proof.FieldControl

open Sys2Proof.Machine

theorem execReferenceStep_due {s : State} {n : Fin 2} {c : Nat} (howner : s.ownerOf n = some c) (hsteps : s.slotSteps n c = true)
    (hdue : s.refDiv n ≤ (s.slot n).refCount) : exec (.referenceStep n) s = .next (s.referenceStep n c) := by
  show execReferenceStep n s = _
  simp only [execReferenceStep, howner, hsteps, decide_eq_true hdue, Bool.and_self, if_true]

/-- A command of SPEED mode against the direction of a rotor that turns at −0.5 rpm. -/
def reverseCmd : SlotCmd := { mode := 1, speed := 100 }

/-- Slot 0 is ON in CURRENT mode, `reverseCmd` waits in its mailbox, and a limits record is due that lowers REVERSE_SPEED from its default of 30 rpm to 0. -/
def limitsDueState : State :=
  (((({ stored := [(⟨P.REVERSE_SPEED, 0, 0⟩, 0)] } : State).setLc .domain (ceDomain 3) { state := .on }).setLc .engine 3 { state := .on }).setLc
    .slot 0 { state := .on }).setEngine 3 { task := 1, slot := 0, writes := [0], frames := [0] } |>.setSlot 0
      { expert := true, refCount := 100, cmd := { mode := 2 }, mail := [reverseCmd], seenSpeed := -50, recDue := [(0x0220, 0x0231)] }

theorem limitsDue_reverses_only_after :
    limitsDueState.reverses 0 reverseCmd = false ∧ (limitsDueState.takeRecords 0).reverses 0 reverseCmd = true := by decide +kernel

/-- The due record is in force when the command is judged, which is therefore refused: the command in force stays the one of CURRENT mode. -/
theorem limitsDue_refuses_reverseCmd : ((limitsDueState.referenceStep 0 3).slot 0).cmd = { mode := 2 } := by decide +kernel

/-- Refutes O27: the reference step brings the records accepted since the last one into force (R61) before it judges the mailbox (R81), so a command that
does not reverse under the REVERSE_SPEED in force before the step can be refused by the new one. -/
theorem not_fieldControlStepsAct : ¬ Obligations.FieldControlStepsAct := by
  intro h
  obtain ⟨-, href, -⟩ := h
  have howner : limitsDueState.ownerOf (0 : Fin 2) = some (3 : Fin 8).val := by decide +kernel
  have hsteps : limitsDueState.slotSteps (0 : Fin 2) (3 : Fin 8) = true := by decide +kernel
  have hdue : limitsDueState.refDiv (0 : Fin 2) ≤ (limitsDueState.slot (0 : Fin 2)).refCount := by decide +kernel
  obtain ⟨t, hexec, -, -, -, -, hadopt, -⟩ := href limitsDueState 0 3 howner hsteps hdue (by decide +kernel)
  rw [execReferenceStep_due howner hsteps hdue] at hexec
  obtain rfl := Host.Outcome.next.inj hexec
  have hcmd : ((limitsDueState.referenceStep 0 3).slot 0).cmd = reverseCmd :=
    hadopt reverseCmd (by decide +kernel) (by decide) limitsDue_reverses_only_after.1
  rw [limitsDue_refuses_reverseCmd] at hcmd
  exact absurd hcmd (by decide)

/-- In SENSORLESS mode a rotor at rest ends the offset capture of the slot's bridges and begins the initial-angle pulses (R86, R88, R296). -/
theorem execFlyBemfRest_sensorless {s : State} {n : Fin 2} {amp : Nat} (hstart : s.isStarting .slot n = true) (hfly : (s.slot n).fly = .observe)
    (htime : s.elapsed (s.lc .slot n).since msT = true) (hlow : s.bemfLow n amp = true) (hmode : s.par P.POS_MODE n = 1) :
    exec (.flyBemfRest n amp) s =
      .next ((s.closeCaptures (s.bridgesOfSlot n)).setSlot n { s.slot n with fly := .pulse 0, rates := [] }) := by
  show execFlyBemfRest n amp s = _
  simp only [execFlyBemfRest, hstart, hfly, htime, hlow, hmode, bne_self_eq_false, Bool.not_true, Bool.or_self, Bool.false_eq_true, if_false,
    beq_self_eq_true, if_true]

/-- Slot 0 has observed its rotor at rest for 1 ms in SENSORLESS mode, and the offset capture that its start has opened still runs. -/
def captureOpenState : State :=
  (({ params := [(⟨P.POS_MODE, 0, 0⟩, 1)], now := 800000 } : State).setLc .slot 0 { state := .starting }).setSlot 0 { fly := .observe } |>.setSens 0
    { capturing := true }

/-- The capture is over, and rejected since it has no frame. -/
theorem captureOpen_closes :
    ((captureOpenState.closeCaptures (captureOpenState.bridgesOfSlot 0)).sens 0).capturing = false ∧
      (captureOpenState.closeCaptures (captureOpenState.bridgesOfSlot 0)).faultActive .OFFSET_REJECT 0 = true := by decide +kernel

/-- Refutes O28: in SENSORLESS mode FLY_BEMF_REST changes more than the slots: it closes the offset capture (R296), which every start has opened, and where
the capture is rejected it raises OFFSET_REJECT. -/
theorem not_flyingStartAndStopAct : ¬ Obligations.FlyingStartAndStopAct := by
  intro h
  obtain ⟨hrest, -⟩ := h
  have hstart : captureOpenState.isStarting .slot (0 : Fin 2) = true := by decide +kernel
  have hfly : (captureOpenState.slot (0 : Fin 2)).fly = .observe := by decide +kernel
  have htime : captureOpenState.elapsed (captureOpenState.lc .slot (0 : Fin 2)).since msT = true := by decide +kernel
  have hlow : captureOpenState.bemfLow (0 : Fin 2) 0 = true := by decide +kernel
  obtain ⟨t, hexec, hframe, -⟩ := hrest captureOpenState 0 0 hstart hfly htime hlow
  rw [execFlyBemfRest_sensorless hstart hfly htime hlow (by decide +kernel)] at hexec
  obtain rfl := Host.Outcome.next.inj hexec
  have hsens := congrArg State.sensing hframe
  rw [State.setSlot_sensing] at hsens
  have hclosed : (captureOpenState.sens 0).capturing = false := by
    exact (congrArg (fun l => (Table.at {} l 0).capturing) hsens).symm.trans captureOpen_closes.1
  exact absurd hclosed (by decide +kernel)

end Sys2Proof.FieldControl

/-! ### Raising a fault: what it leaves as it was, and what is active after it (R369 to R376) -/

namespace Sys2Proof.FluxAtlas

open Sys2Proof.Machine Sys2Proof.FieldControl

variable {α : Type} {π : State → α}

/-- A reading that each of a run of operations leaves as it was. -/
theorem foldl_reading {β : Type} (l : List β) (f : State → β → State) (h : ∀ s b, π (f s b) = π s) (s : State) : π (l.foldl f s) = π s :=
  List.foldlRecOn (motive := fun t => π t = π s) l f rfl (fun t ht b _ => (h t b).trans ht)

/-- A reading that engine events leave as it was: it looks neither at the engines nor at their overrun status. -/
structure EventBlind (π : State → α) : Prop where
  engine : ∀ s c e, π (State.setEngine s c e) = π s
  overrun : ∀ s b c, π (State.setFlag s F.CE_INT_STATUS_EV_OVERRUN b c) = π s

theorem EventBlind.raiseEvent (h : EventBlind π) (s : State) (c bit info : Nat) : π (s.raiseEvent c bit info) = π s := by
  unfold State.raiseEvent
  split
  · rfl
  · dsimp only
    split
    · rw [h.overrun, h.engine]
    · exact h.engine _ _ _

theorem EventBlind.safeEvent (h : EventBlind π) (s : State) (b : Nat) : π (s.safeEvent b) = π s := by
  unfold State.safeEvent State.raiseEvents
  refine foldl_reading _ _ (fun s c => ?_) s
  split
  · exact h.raiseEvent _ _ _ _
  · rfl

theorem EventBlind.torqueNote (h : EventBlind π) (s old : State) : π (s.torqueNote old) = π s := by
  unfold State.torqueNote
  refine foldl_reading _ _ (fun s n => ?_) s
  split
  · exact foldl_reading _ _ h.safeEvent s
  · rfl

/-- The registers that the reaction to a fault writes. -/
def reactionRegs : List Reg := [.SAFETY_INT_STATUS, .DERRICK_INT_STATUS, .DERRICK_RP_STATS, .CE_INT_STATUS]

/-- A reading that the log of a fault and the reaction to it leave as it was. Of the faults it may look at those that are active. -/
structure ReactionBlind (π : State → α) : Prop extends CompletionBlind π, EventBlind π where
  regs : ∀ s f v i, f.reg ∈ reactionRegs → π (State.setFld s f v i) = π s
  safe : ∀ s b x, π (State.setSafe s b x) = π s
  lane : ∀ s n v, π (State.setLane s n v) = π s
  island : ∀ (s : State) x, π { s with island := x } = π s
  slotStop : ∀ s n, π (State.slotFaultStop s n) = π s
  log : ∀ (s : State) m x, x.active = s.faults.active → π { s with mram := m, faults := x } = π s

namespace ReactionBlind

theorem flag (h : ReactionBlind π) (s : State) (f : Fld) (b : Bool) (hf : f.reg ∈ reactionRegs) : π (s.setFlag f b) = π s :=
  h.regs s f (b2n b) 0 hf

theorem putRecord (h : ReactionBlind π) (s : State) (n : Nat) (l : List Byte) : π (s.putRecord n l).1 = π s := by
  have hdrop : ∀ (t : State) v, π (t.setFld F.DERRICK_RP_STATS_DROP v n) = π t := fun t v => h.regs t _ v n (by decide)
  have hbuf : ∀ t b, π (State.completeBuf t n b) = π t := fun t b => h.postCompletion _ _ _ _ _ _ _
  unfold State.putRecord
  dsimp only
  split
  · exact hdrop _ _
  · split
    · exact hdrop _ _
    · split
      · rw [h.ring, h.hostWrite]
      · split
        · exact hdrop _ _
        · split
          · rw [hdrop, hbuf, h.ring]
          · split
            · rw [h.ring, h.hostWrite, hbuf, h.ring]
            · rw [hdrop, hbuf, h.ring]

theorem postEvents (h : ReactionBlind π) (s : State) (l : List Byte) : π (s.postEvents l).1 = π s := by
  unfold State.postEvents
  suffices hfold : ∀ (ns : List Nat) (p : State × List Nat), π (ns.foldl (fun p n =>
      let (s', first) := p.1.putRecord n l
      (s', if first then p.2 ++ [n] else p.2)) p).1 = π p.1 from hfold _ _
  intro ns
  induction ns with
  | nil => exact fun _ => rfl
  | cons n ns ih => exact fun p => (ih _).trans (h.putRecord _ _ _)

theorem screeWrite (h : ReactionBlind π) (s : State) (code cls scope unit event info : Nat) :
    π (s.screeWrite code cls scope unit event info).1 = π s := by
  unfold State.screeWrite State.screeToMram
  dsimp only
  split
  · exact (h.postEvents _ _).trans (h.log s _ _ rfl)
  · exact h.log s _ _ rfl

theorem screeRaise (h : ReactionBlind π) (s : State) (code cls scope unit info : Nat) : π (s.screeRaise code cls scope unit info).1 = π s := by
  unfold State.screeRaise State.screeToMram
  split
  · split
    · exact h.log s _ _ rfl
    · exact h.screeWrite _ _ _ _ _ _ _
  · exact h.screeWrite _ _ _ _ _ _ _

theorem noteEscalation (h : ReactionBlind π) (s : State) (f : FaultName) (unit : Nat) : π (s.noteEscalation f unit) = π s := by
  unfold State.noteEscalation
  dsimp only
  split
  · exact h.log s s.mram _ rfl
  · rfl

theorem driveSafe (h : ReactionBlind π) (s : State) (b : Nat) (x : SafeState) : π (s.driveSafe b x) = π s := by
  have hbridge : ∀ y, π ((s.setSafe b y).safeEvent b) = π s := fun y => (h.safeEvent _ _).trans (h.safe _ _ _)
  unfold State.driveSafe
  dsimp only
  split
  · exact hbridge _
  · refine (foldl_reading _ _ (fun s n => ?_) _).trans (hbridge _)
    split
    · rfl
    · exact h.lane _ _ _

theorem refreshDischarge (h : ReactionBlind π) (s : State) : π s.refreshDischarge = π s := by
  unfold State.refreshDischarge
  dsimp only
  split
  · exact h.island _ _
  · rfl

theorem enterSafe (h : ReactionBlind π) (s : State) (b : Nat) : π (s.enterSafe b) = π s := by
  unfold State.enterSafe
  dsimp only
  split
  · exact h.refreshDischarge s
  · split
    · exact (h.safe _ _ _).trans (h.refreshDischarge s)
    · exact (h.driveSafe _ _ _).trans (h.refreshDischarge s)

theorem reactSafe (h : ReactionBlind π) (s : State) (sc : Scope) : π (s.reactSafe sc) = π s :=
  (foldl_reading _ _ h.slotStop _).trans (foldl_reading _ _ h.enterSafe s)

theorem setLatch (h : ReactionBlind π) (s : State) (f : FaultName) (unit : Nat) (sc : Scope) : π (s.setLatch f unit sc) = π s := by
  unfold State.setLatch
  exact (h.flag _ _ _ (by decide)).trans (h.log s s.mram _ rfl)

theorem react (h : ReactionBlind π) (s : State) (f : FaultName) (unit : Nat) (sc : Scope) (cls : Nat) : π (s.react f unit sc cls) = π s := by
  have hsafe : π ((s.setFlag F.SAFETY_INT_STATUS_SAFE true).reactSafe sc) = π s := (h.reactSafe _ _).trans (h.flag _ _ _ (by decide))
  unfold State.react
  split
  · rfl
  · exact h.flag _ _ _ (by decide)
  · exact h.flag _ _ _ (by decide)
  · exact hsafe
  · exact (h.setLatch _ _ _ _).trans hsafe

theorem logSafeEntry (h : ReactionBlind π) (s : State) (f : FaultName) (unit : Nat) (sc : Scope) (cls : Nat) (was : Bool) (info : Nat) :
    π (s.logSafeEntry f unit sc cls was info).1 = π s := by
  unfold State.logSafeEntry
  split
  · exact h.screeWrite _ _ _ _ _ _ _
  · rfl

end ReactionBlind

/-- A reading that a raise leaves as it was: it does not look at the active faults either. -/
structure RaiseBlind (π : State → α) : Prop extends ReactionBlind π where
  active : ∀ (s : State) l, π { s with faults := { s.faults with active := l } } = π s

theorem RaiseBlind.raiseCore (h : RaiseBlind π) (s : State) (f : FaultName) (unit : Nat) (sc : Scope) (info : Nat) (cond : Option Nat) (lasting : Bool) :
    π (s.raiseCore f unit sc info cond lasting).1 = π s := by
  unfold State.raiseCore
  dsimp only
  rw [h.logSafeEntry, h.react, h.active, h.screeRaise, h.noteEscalation]

/-- What a raise leaves as it was. -/
theorem RaiseBlind.raise (h : RaiseBlind π) (s : State) (f : FaultName) (unit : Nat) (sc : Scope) (info : Nat) (cond : Option Nat) (lasting : Bool) :
    π (s.raise f unit sc info cond lasting) = π s := by
  unfold State.raise
  dsimp only
  refine (foldl_reading _ _ (fun t n => ?_) _).trans ((h.torqueNote _ _).trans (h.raiseCore _ _ _ _ _ _ _))
  exact (h.raiseCore _ _ _ _ _ _ _).trans (h.flag _ _ _ (by decide))

/-! #### The faults that are active after a raise -/

theorem reactionBlind_active : ReactionBlind (fun s => s.faults.active) where
  ring _ _ _ := rfl
  refused _ _ _ := rfl
  memory _ _ _ _ := rfl
  msix _ _ := rfl
  lines _ _ := rfl
  engine _ _ _ := rfl
  overrun _ _ _ := rfl
  regs _ _ _ _ _ := rfl
  safe _ _ _ := rfl
  lane _ _ _ := rfl
  island _ _ := rfl
  slotStop _ _ := rfl
  log _ _ _ hx := hx

/-- A raise puts its fault, active, among those in force. -/
theorem raiseCore_active (s : State) (f : FaultName) (unit : Nat) (sc : Scope) (info : Nat) (cond : Option Nat) (lasting : Bool) :
    ∃ e : ActiveFault, e.name = f ∧ e.unit = unit ∧ e.active = true ∧
      (s.raiseCore f unit sc info cond lasting).1.faults.active = activate e s.faults.active := by
  have h := reactionBlind_active
  unfold State.raiseCore
  dsimp only
  rw [h.logSafeEntry, h.react]
  dsimp only
  rw [h.screeRaise, h.noteEscalation]
  exact ⟨_, rfl, rfl, rfl, rfl⟩

theorem any_activate_self (e : ActiveFault) (he : e.active = true) (l : List ActiveFault) :
    (activate e l).any (fun y => y.name == e.name && y.unit == e.unit && y.active) = true := by
  induction l with
  | nil => simp [activate, he]
  | cons y l ih =>
    unfold activate
    split
    · simp [he]
    · rw [List.any_cons, ih, Bool.or_true]

theorem any_activate_of_any (e : ActiveFault) (he : e.active = true) (g : FaultName) (u : Nat) (l : List ActiveFault)
    (h : l.any (fun y => y.name == g && y.unit == u && y.active) = true) :
    (activate e l).any (fun y => y.name == g && y.unit == u && y.active) = true := by
  induction l with
  | nil => simp at h
  | cons y l ih =>
    rw [List.any_cons, Bool.or_eq_true] at h
    unfold activate
    split
    case isTrue hsame =>
      obtain ⟨hname, hunit, -⟩ := hsame
      rw [List.any_cons, Bool.or_eq_true, ← hname, ← hunit]
      refine h.imp_left fun hy => ?_
      simp only [Bool.and_eq_true] at hy ⊢
      exact ⟨hy.1, he⟩
    case isFalse =>
      rw [List.any_cons, Bool.or_eq_true]
      exact h.imp_right ih

theorem faultActive_raiseCore_self (s : State) (f : FaultName) (unit : Nat) (sc : Scope) (info : Nat) (cond : Option Nat) (lasting : Bool) :
    (s.raiseCore f unit sc info cond lasting).1.faultActive f unit = true := by
  obtain ⟨e, rfl, rfl, he, hactive⟩ := raiseCore_active s f unit sc info cond lasting
  unfold State.faultActive
  rw [hactive]
  exact any_activate_self e he _

theorem faultActive_raiseCore_of_active {s : State} {g : FaultName} {u : Nat} (h : s.faultActive g u = true) (f : FaultName) (unit : Nat) (sc : Scope)
    (info : Nat) (cond : Option Nat) (lasting : Bool) : (s.raiseCore f unit sc info cond lasting).1.faultActive g u = true := by
  obtain ⟨e, -, -, he, hactive⟩ := raiseCore_active s f unit sc info cond lasting
  unfold State.faultActive
  rw [hactive]
  exact any_activate_of_any e he g u _ h

/-- What is active before the dropped records of a raise are followed up is active after it. -/
theorem faultActive_raise_of_raiseCore {s : State} {g : FaultName} {u : Nat} {f : FaultName} {unit : Nat} {sc : Scope} {info : Nat} {cond : Option Nat}
    {lasting : Bool} (h : (s.raiseCore f unit sc info cond lasting).1.faultActive g u = true) : (s.raise f unit sc info cond lasting).faultActive g u = true := by
  have hnote : ((s.raiseCore f unit sc info cond lasting).1.torqueNote s).faultActive g u = true := by
    have hsame := reactionBlind_active.torqueNote (s.raiseCore f unit sc info cond lasting).1 s
    unfold State.faultActive
    rw [hsame]
    exact h
  have hdrops : ∀ (drops : List Nat) (t : State), t.faultActive g u = true → (drops.foldl (fun s n =>
      ((s.setFlag F.DERRICK_INT_STATUS_DROP true).raiseCore .RECORD_DROP n scopeModule 0 none false).1) t).faultActive g u = true := by
    intro drops
    induction drops with
    | nil => exact fun _ ht => ht
    | cons n drops ih => exact fun t ht => ih _ (faultActive_raiseCore_of_active (s := t.setFlag _ true) ht _ _ _ _ _ _)
  exact hdrops _ _ hnote

theorem faultActive_raise_self (s : State) (f : FaultName) (unit : Nat) (sc : Scope) (info : Nat) (cond : Option Nat) (lasting : Bool) :
    (s.raise f unit sc info cond lasting).faultActive f unit = true :=
  faultActive_raise_of_raiseCore (faultActive_raiseCore_self _ _ _ _ _ _ _)

theorem faultActive_raise_of_active {s : State} {g : FaultName} {u : Nat} (h : s.faultActive g u = true) (f : FaultName) (unit : Nat) (sc : Scope)
    (info : Nat) (cond : Option Nat) (lasting : Bool) : (s.raise f unit sc info cond lasting).faultActive g u = true :=
  faultActive_raise_of_raiseCore (faultActive_raiseCore_of_active h _ _ _ _ _ _)

end Sys2Proof.FluxAtlas

/-! ### The blocks of the window (R137, R148 to R150, R156) -/

namespace Sys2Proof.FluxAtlas

open Sys2Proof.Machine Sys2Proof.FieldControl

/-- A raise touches neither the atlas, nor what MRAM keeps of it, nor the clocks. -/
theorem raiseBlind_atlas : RaiseBlind (fun s => (s.atlas, s.atlasNv, s.ptime, s.now)) where
  ring _ _ _ := rfl
  refused _ _ _ := rfl
  memory _ _ _ _ := rfl
  msix _ _ := rfl
  lines _ _ := rfl
  engine _ _ _ := rfl
  overrun _ _ _ := rfl
  regs _ _ _ _ _ := rfl
  safe _ _ _ := rfl
  lane _ _ _ := rfl
  island _ _ := rfl
  slotStop s n := by
    have hpd : (s.slotFaultStop n).lc .domain 5 = s.lc .domain 5 := State.lc_setLc_other s _ _ _ _ _ (by simp)
    have hptime : (s.slotFaultStop n).ptime = s.ptime := by
      unfold State.ptime State.pdOn State.isOn
      rw [hpd]
      rfl
    rw [hptime]
    rfl
  log _ _ _ _ := rfl
  active _ _ := rfl

section
variable (s : State) (f : FaultName) (unit : Nat) (sc : Scope) (info : Nat) (cond : Option Nat) (lasting : Bool)

@[simp] theorem raise_atlas : (s.raise f unit sc info cond lasting).atlas = s.atlas :=
  congrArg Prod.fst (raiseBlind_atlas.raise s f unit sc info cond lasting)

@[simp] theorem raise_atlasNv : (s.raise f unit sc info cond lasting).atlasNv = s.atlasNv :=
  congrArg (·.2.1) (raiseBlind_atlas.raise s f unit sc info cond lasting)

@[simp] theorem raise_ptime : (s.raise f unit sc info cond lasting).ptime = s.ptime :=
  congrArg (·.2.2.1) (raiseBlind_atlas.raise s f unit sc info cond lasting)

@[simp] theorem raise_now : (s.raise f unit sc info cond lasting).now = s.now :=
  congrArg (·.2.2.2) (raiseBlind_atlas.raise s f unit sc info cond lasting)

@[simp] theorem raise_atl (n : Nat) : (s.raise f unit sc info cond lasting).atl n = s.atl n := by
  rw [State.atl, raise_atlas]; rfl

end

@[simp] theorem setNv_atl (s : State) (v : AtlasNv) (n : Nat) : (s.setNv v).atl n = s.atl n := rfl
@[simp] theorem setAtlC_atl (s : State) (c : AtlasCommon) (n : Nat) : (s.setAtlC c).atl n = s.atl n := rfl
@[simp] theorem setFld_atl (s : State) (f : Fld) (v i j n : Nat) : (s.setFld f v i j).atl n = s.atl n := rfl
@[simp] theorem setNv_atlasNv (s : State) (v : AtlasNv) : (s.setNv v).atlasNv = v := rfl
@[simp] theorem setAtlC_atlasNv (s : State) (c : AtlasCommon) : (s.setAtlC c).atlasNv = s.atlasNv := rfl

/-! #### What the movement of blocks keeps -/

/-- A property that the write of a block to MRAM keeps (R149, R153, R159). -/
structure WriteKept (Q : State → Prop) : Prop where
  fld : ∀ s f v i, Q s → Q (State.setFld s f v i)
  mram : ∀ s off l, Q s → Q (State.mramWrite s off l)
  writes : ∀ s w, Q s → Q (State.setNv s { s.atlasNv with writes := w })
  raise : ∀ s f unit sc, Q s → Q (State.raise s f unit sc)

/-- A property that blocks moving between window, spill buffer and MRAM keep (R137, R149, R150). -/
structure WindowKept (Q : State → Prop) : Prop extends WriteKept Q where
  mem : ∀ s a l, Q s → Q (State.sysWrite s a l)
  nv : ∀ s v, Q s → Q (State.setNv s v)
  common : ∀ s c, Q s → Q (State.setAtlC s c)
  blocks : ∀ s n d l r, Q s → Q (State.setAtl s n { s.atl n with drift := d, last := l, rewrite := r })

variable {Q : State → Prop} {s : State}

theorem WriteKept.writeBlock (h : WriteKept Q) (hs : Q s) (n blk : Nat) (l : List Byte) : Q (s.writeBlock n blk l) := by
  have hwear : ∀ c t, Q t → Q (if c = t.parN P.WEAR_WARN then (t.setFlag F.ATLAS_INT_STATUS_WEAR true).raise .WEAR_LIMIT n scopeModule else t) := by
    intro c t ht
    split
    · exact h.raise _ _ _ _ (h.fld _ _ _ _ ht)
    · exact ht
  have hwrite : ∀ w, Q ((s.mramWrite (s.atlasBase n + l.length * blk) l).setNv { s.atlasNv with writes := w }) := fun w => h.writes _ w (h.mram s _ l hs)
  refine hwear _ _ ?_
  split
  · exact h.fld _ _ _ _ (h.fld _ _ _ _ (hwrite _))
  · exact hwrite _

namespace WindowKept

theorem commitBlock (h : WindowKept Q) (hs : Q s) (n blk : Nat) : Q (s.commitBlock n blk) := by
  unfold State.commitBlock
  dsimp only
  have hwritten := h.writeBlock hs n blk (s.blockBytes n blk)
  split
  · exact h.common _ _ (h.fld _ _ _ _ (h.nv _ _ (h.blocks _ _ _ _ _ hwritten)))
  · exact h.fld _ _ _ _ (h.nv _ _ (h.blocks _ _ _ _ _ hwritten))

theorem forgetBlock (h : WindowKept Q) (hs : Q s) (n blk : Nat) : Q (s.forgetBlock n blk) := h.blocks s n _ _ _ hs

theorem spillBlock (h : WindowKept Q) (hs : Q s) (n blk : Nat) (l : List Byte) : Q (s.spillBlock n blk l) := by
  unfold State.spillBlock
  dsimp only
  split
  · exact h.common _ _ (h.mem _ _ _ hs)
  · split
    · exact h.raise _ _ _ _ (h.common _ _ (h.mem _ _ _ (h.fld _ _ _ _ (h.fld _ _ _ _ (h.forgetBlock hs _ _)))))
    · exact hs

theorem evictBlock (h : WindowKept Q) (hs : Q s) (n : Nat) (g : Geo) (d q st : Nat) : Q (s.evictBlock n g d q st) := by
  unfold State.evictBlock
  dsimp only
  split
  · exact hs
  · split
    · exact h.commitBlock hs n _
    · split
      · exact h.spillBlock hs n _ _
      · exact hs

theorem fillBlock (h : WindowKept Q) (hs : Q s) (n : Nat) (g : Geo) (bad : List Nat) (d q st : Nat) : Q (s.fillBlock n g bad d q st) := by
  unfold State.fillBlock
  dsimp only
  split
  · exact h.common _ _ (h.mem _ _ _ hs)
  · exact h.mem _ _ _ (h.blocks s n _ _ _ hs)

end WindowKept

/-! #### Tiles filled and positions cleared -/

/-- What the movement of blocks keeps of a slot's atlas: the queues of the prefetcher and the tiles present in the window. -/
def layout (a : AtlasSlot) : List (Nat × Nat) × List (Nat × Nat × Nat) × Table Nat (Option (Nat × Nat × Nat)) := (a.fillQ, a.halfQ, a.tiles)

/-- A write to system memory changes the memories alone. -/
theorem sysWrite_eq (s : State) (a : Nat) (l : List Byte) : ∃ m c, s.sysWrite a l = { s with mem := m, memc := c } := by
  unfold State.sysWrite
  dsimp only
  split <;> exact ⟨_, _, rfl⟩

theorem windowKept_layout (n : Nat) (x : List (Nat × Nat) × List (Nat × Nat × Nat) × Table Nat (Option (Nat × Nat × Nat))) :
    WindowKept (fun s => layout (s.atl n) = x) where
  fld _ _ _ _ hs := hs
  mram _ _ _ hs := hs
  writes _ _ hs := hs
  raise s f unit sc hs := by rwa [raise_atl]
  mem s a l hs := by
    obtain ⟨m, c, e⟩ := sysWrite_eq s a l
    rw [e]
    exact hs
  nv _ _ hs := hs
  common _ _ hs := hs
  blocks s m d l r hs := by
    by_cases hm : n = m
    · subst hm
      rw [State.atl_setAtl]
      exact hs
    · rwa [State.atl_setAtl_other _ _ _ _ hm]

theorem windowKept_faultActive (g : FaultName) (u : Nat) : WindowKept (fun s => s.faultActive g u = true) where
  fld _ _ _ _ hs := hs
  mram _ _ _ hs := hs
  writes _ _ hs := hs
  raise _ _ _ _ hs := faultActive_raise_of_active hs _ _ _ _ _ _
  mem s a l hs := by
    obtain ⟨m, c, e⟩ := sysWrite_eq s a l
    rw [e]
    exact hs
  nv _ _ hs := hs
  common _ _ hs := hs
  blocks _ _ _ _ _ hs := hs

/-- Clearing half a position of the window leaves the queues as they were: its changed blocks are committed or spilled (R137). -/
theorem clearHalf_fillQ (s : State) (n pos half : Nat) : ((s.clearHalf n pos half).atl n).fillQ = (s.atl n).fillQ := by
  unfold State.clearHalf
  dsimp only
  split
  · rfl
  · refine List.foldlRecOn (motive := fun t : State => (t.atl n).fillQ = (s.atl n).fillQ) _ _ (by rw [State.atl_setAtl]) (fun t ht p _ => ?_)
    exact (congrArg Prod.fst ((windowKept_layout n _).evictBlock rfl n _ p.1 p.2 _)).trans ht

theorem clearHalf_faultActive {s : State} {g : FaultName} {u : Nat} (h : s.faultActive g u = true) (n pos half : Nat) :
    (s.clearHalf n pos half).faultActive g u = true := by
  unfold State.clearHalf
  dsimp only
  split
  · exact h
  · refine List.foldlRecOn (motive := fun t : State => t.faultActive g u = true) _ _ h (fun t ht p _ => ?_)
    exact (windowKept_faultActive g u).evictBlock ht n _ p.1 p.2 _

theorem beginFill_fillQ (s : State) (n : Nat) : ((s.beginFill n).atl n).fillQ = (s.atl n).fillQ := by
  unfold State.beginFill
  split
  · rfl
  · rw [clearHalf_fillQ, clearHalf_fillQ]

theorem beginFill_of_empty {s : State} {n : Nat} (h : (s.atl n).fillQ = []) : s.beginFill n = s := by
  simp only [State.beginFill, h]

theorem beginFill_faultActive {s : State} {g : FaultName} {u : Nat} (h : s.faultActive g u = true) (n : Nat) : (s.beginFill n).faultActive g u = true := by
  unfold State.beginFill
  split
  · exact h
  · exact clearHalf_faultActive (clearHalf_faultActive h _ _ _) _ _ _

/-- A half-tile that has been loaded is marked present; the queues stay (R137). -/
theorem fillHalf_layout (s : State) (n : Nat) (bad : List Nat) (td tq st : Nat) :
    layout ((s.fillHalf n bad td tq st).atl n) =
      ((s.atl n).fillQ, (s.atl n).halfQ, (s.atl n).tiles.setAt none (2 * tilePos td tq + st % 2) (some (td, tq, st))) := by
  have hblocks : layout (((tilePoints td tq).foldl (fun t p => t.fillBlock n (s.geo n) bad p.1 p.2 st) s).atl n) = layout (s.atl n) :=
    List.foldlRecOn (motive := fun t : State => layout (t.atl n) = layout (s.atl n)) (tilePoints td tq) _ rfl
      (fun t ht p _ => (windowKept_layout n (layout (s.atl n))).fillBlock ht n (s.geo n) bad p.1 p.2 st)
  simp only [layout, Prod.mk.injEq] at hblocks
  obtain ⟨hfill, hhalf, htiles⟩ := hblocks
  unfold State.fillHalf
  dsimp only
  rw [State.atl_setAtl]
  simp only [layout, hfill, hhalf, htiles]

@[simp] theorem countWords_atl (s : State) (errs : List (Nat × Nat)) (n : Nat) : (s.countWords errs).atl n = s.atl n := by
  unfold State.countWords
  dsimp only
  split <;> simp only [State.bump, State.setFlag, setFld_atl]

@[simp] theorem noteNodes_atl (s : State) (n : Nat) (errs : List (Nat × Nat)) (k : Nat) : (s.noteNodes n errs).atl k = s.atl k := by
  unfold State.noteNodes
  split
  · rfl
  · exact raise_atl _ _ _ _ _ _ _ _

/-- Uncorrectable words raise ATLAS_NODE_UNCORR (R156). -/
theorem noteNodes_faultActive (s : State) (n : Nat) (errs : List (Nat × Nat)) (h : badWords errs ≠ []) :
    (s.noteNodes n errs).faultActive .ATLAS_NODE_UNCORR n = true := by
  unfold State.noteNodes
  split
  case h_1 hnil => exact absurd hnil h
  case h_2 => exact faultActive_raise_self _ _ _ _ _ _ _

end Sys2Proof.FluxAtlas

/-! ### The commands of the window, the committer and the seam check (R133, R137, R139, R149) -/

namespace Sys2Proof.FluxAtlas

open Sys2Proof.Machine

/-! #### Fills and reloads (R137, R138, R156), WINDOW_STARVED (R139) -/

theorem execTileFillDone_ready {s : State} {n : Fin 2} {td tq : Nat} {rest : List (Nat × Nat)} (hq : (s.atl n).fillQ = (td, tq) :: rest)
    (hready : s.mramReady = true) (errs : List (Nat × Nat)) :
    exec (.tileFillDone n errs) s = .next (((((((s.setAtl n { s.atl n with fillQ := rest }).countWords errs).fillHalf n (badWords errs) td tq
      (s.atl n).sLo).fillHalf n (badWords errs) td tq ((s.atl n).sLo + 1)).noteNodes n errs)).beginFill n) := by
  show execTileFillDone n errs s = _
  simp only [execTileFillDone, hq, hready, Bool.not_true, Bool.false_eq_true, if_false]

/-- The halves of two consecutive strata are the two halves of a window position. -/
theorem halves_present (tiles : Table Nat (Option (Nat × Nat × Nat))) (pos lo : Nat) (x y : Nat × Nat × Nat) (half : Nat) (hhalf : half < 2) :
    ((tiles.setAt none (2 * pos + lo % 2) (some x)).setAt none (2 * pos + (lo + 1) % 2) (some y)).at none (2 * pos + half) ≠ none := by
  by_cases hupper : half = (lo + 1) % 2
  · rw [hupper, Table.at_setAt_same]
    exact Option.some_ne_none y
  · have hlower : half = lo % 2 := by omega
    rw [Table.at_setAt_other _ _ _ (by omega), hlower, Table.at_setAt_same]
    exact Option.some_ne_none x

/-- Filling both halves of a tile leaves the queue and makes them present. -/
theorem fillTile_layout (s : State) (n : Nat) (bad : List Nat) (td tq lo : Nat) :
    (((s.fillHalf n bad td tq lo).fillHalf n bad td tq (lo + 1)).atl n).fillQ = (s.atl n).fillQ ∧
      ∀ half < 2, (((s.fillHalf n bad td tq lo).fillHalf n bad td tq (lo + 1)).atl n).tiles.at none (2 * tilePos td tq + half) ≠ none := by
  have hlower := fillHalf_layout s n bad td tq lo
  have hupper := fillHalf_layout (s.fillHalf n bad td tq lo) n bad td tq (lo + 1)
  simp only [layout, Prod.mk.injEq] at hlower hupper
  obtain ⟨hqueue, -, htiles⟩ := hlower
  obtain ⟨hqueue', -, htiles'⟩ := hupper
  refine ⟨hqueue'.trans hqueue, fun half hhalf => ?_⟩
  rw [htiles', htiles]
  exact halves_present _ _ _ _ _ half hhalf

/-- A tile that has been filled leaves the queue; with none left to fill, both its halves are present (R137). -/
theorem tileFillDone_fills (s : State) (n : Fin 2) (errs : List (Nat × Nat)) (td tq : Nat) (rest : List (Nat × Nat))
    (hq : (s.atl n).fillQ = (td, tq) :: rest) (hready : s.mramReady = true) :
    ∃ t, exec (.tileFillDone n errs) s = .next t ∧ (t.atl n).fillQ = rest ∧
      (rest = [] → (t.atl n).tiles.at none (2 * tilePos td tq) ≠ none ∧ (t.atl n).tiles.at none (2 * tilePos td tq + 1) ≠ none) ∧
      (badWords errs ≠ [] → t.faultActive .ATLAS_NODE_UNCORR n = true) := by
  have hexec := execTileFillDone_ready hq hready errs
  obtain ⟨hqueue, hpresent⟩ := fillTile_layout ((s.setAtl n { s.atl n with fillQ := rest }).countWords errs) n (badWords errs) td tq (s.atl n).sLo
  rw [countWords_atl, State.atl_setAtl] at hqueue
  generalize (((s.setAtl n { s.atl n with fillQ := rest }).countWords errs).fillHalf n (badWords errs) td tq (s.atl n).sLo).fillHalf n (badWords errs) td tq
    ((s.atl n).sLo + 1) = filled at hexec hqueue hpresent
  have hnoted : ((filled.noteNodes n errs).atl n).fillQ = rest := by rw [noteNodes_atl, hqueue]
  refine ⟨_, hexec, (beginFill_fillQ _ _).trans hnoted, fun hnil => ?_, fun hbad => beginFill_faultActive (noteNodes_faultActive _ _ _ hbad) _⟩
  rw [beginFill_of_empty (hnoted.trans hnil), noteNodes_atl]
  exact ⟨hpresent 0 (by decide), hpresent 1 (by decide)⟩

theorem strataReloadDone_loads (s : State) (n : Fin 2) (errs : List (Nat × Nat)) (td tq st : Nat) (rest : List (Nat × Nat × Nat))
    (hq : (s.atl n).halfQ = (td, tq, st) :: rest) (hready : s.mramReady = true) :
    ∃ t, exec (.strataReloadDone n errs) s = .next t ∧ (t.atl n).halfQ = rest ∧
      (t.atl n).tiles.at none (2 * tilePos td tq + st % 2) = some (td, tq, st) ∧
      (badWords errs ≠ [] → t.faultActive .ATLAS_NODE_UNCORR n = true) := by
  have hexec : exec (.strataReloadDone n errs) s =
      .next ((((s.setAtl n { s.atl n with halfQ := rest }).countWords errs).fillHalf n (badWords errs) td tq st).noteNodes n errs) := by
    show execStrataReloadDone n errs s = _
    simp only [execStrataReloadDone, hq, hready, Bool.not_true, Bool.false_eq_true, if_false]
  have hloaded := fillHalf_layout ((s.setAtl n { s.atl n with halfQ := rest }).countWords errs) n (badWords errs) td tq st
  simp only [layout, Prod.mk.injEq, countWords_atl, State.atl_setAtl] at hloaded
  obtain ⟨-, hhalf, htiles⟩ := hloaded
  refine ⟨_, hexec, ?_, ?_, noteNodes_faultActive _ _ _⟩
  · rw [noteNodes_atl, hhalf]
  · rw [noteNodes_atl, htiles, Table.at_setAt_same]

/-- WINDOW_STARVED is active once COARSE_WARN_T has passed without a hit (R139). -/
theorem windowStarvedTimer_raises (s : State) (n : Fin 2) (t0 : Nat) (hsince : (s.atl n).coarseSince = some t0) (hon : s.isOn .slot n = true)
    (htime : s.elapsed t0 (s.parN P.COARSE_WARN_T n * msT) = true) :
    ∃ t, exec (.windowStarvedTimer n) s = .next t ∧ t.faultActive .WINDOW_STARVED n = true := by
  refine ⟨_, show execWindowStarvedTimer n s = _ by simp only [execWindowStarvedTimer, hsince]; rfl, ?_⟩
  cases hactive : s.faultActive .WINDOW_STARVED n with
  | true => simp only [hon, htime, Bool.not_true, Bool.and_false, Bool.false_eq_true, if_false, hactive]
  | false =>
    simp only [hon, htime, Bool.not_false, Bool.and_self, if_true]
    exact faultActive_raise_self _ _ _ _ _ _ _

/-! #### The committer (R149) -/

theorem writeKept_ptime (p : Nat) : WriteKept (fun s => s.ptime = p) where
  fld _ _ _ _ hs := hs
  mram _ _ _ hs := hs
  writes _ _ hs := hs
  raise s f unit sc hs := (raise_ptime s f unit sc _ _ _).trans hs

theorem writeKept_commits (x : Table Nat Nat) : WriteKept (fun s => s.atlasNv.commits = x) where
  fld _ _ _ _ hs := hs
  mram _ _ _ hs := hs
  writes _ _ hs := hs
  raise s f unit sc hs := by rwa [raise_atlasNv]

/-- What the commit of a block leaves of its slot's atlas, once the copy in MRAM is written. -/
theorem commitBlock_atl (s : State) (n blk : Nat) {w : State} (hw : s.writeBlock n blk (s.blockBytes n blk) = w) :
    (s.commitBlock n blk).atl n =
      { w.atl n with
        drift := (w.atl n).drift.setAt 0 blk 0
        last := (w.atl n).last.setAt 0 blk w.ptime
        rewrite := (w.atl n).rewrite.filter (· != blk) } := by
  simp only [State.commitBlock, hw]
  split <;> simp only [setAtlC_atl, setFld_atl, setNv_atl, State.atl_setAtl]

theorem commitBlock_commits (s : State) (n blk : Nat) : (s.commitBlock n blk).atlasNv.commits.at 0 n = s.atlasNv.commits.at 0 n + 1 := by
  have hkept := (writeKept_commits s.atlasNv.commits).writeBlock rfl n blk (s.blockBytes n blk)
  have hcounted : (s.commitBlock n blk).atlasNv.commits = s.atlasNv.commits.setAt 0 n (s.atlasNv.commits.at 0 n + 1) := by
    simp only [State.commitBlock]
    split <;> simp only [setAtlC_atlasNv, State.setFld_atlasNv, setNv_atlasNv, State.setAtl_atlasNv, hkept]
  rw [hcounted, Table.at_setAt_same]

/-- A committed block starts again without drift, with PTIME as its last commit (R148, R149). -/
theorem commitBlock_block (s : State) (n blk : Nat) :
    ((s.commitBlock n blk).atl n).drift.at 0 blk = 0 ∧ ((s.commitBlock n blk).atl n).last.at 0 blk = s.ptime ∧
      ((s.commitBlock n blk).atl n).rewrite.contains blk = false := by
  have hptime := (writeKept_ptime s.ptime).writeBlock rfl n blk (s.blockBytes n blk)
  have hatl := commitBlock_atl s n blk rfl
  generalize s.writeBlock n blk (s.blockBytes n blk) = w at hptime hatl
  rw [hatl, ← hptime]
  exact ⟨Table.at_setAt_same 0 (w.atl n).drift blk 0, Table.at_setAt_same 0 (w.atl n).last blk _, by simp⟩

/-- The committer takes the only block that is due. -/
theorem commitBlock_commits_due (s : State) (n : Fin 2) (b : Nat) (hready : s.mramReady = true) (hdue : (s.changedBlocks n).filter (s.commitDue n) = [b]) :
    ∃ t, exec (.commitBlock n) s = .next t ∧ (t.atl n).drift.at 0 b = 0 ∧ (t.atl n).last.at 0 b = s.ptime ∧ (t.atl n).rewrite.contains b = false ∧
      t.atlasNv.commits.at 0 n = s.atlasNv.commits.at 0 n + 1 := by
  obtain ⟨hdrift, hlast, hrewrite⟩ := commitBlock_block s n b
  refine ⟨s.commitBlock n b, ?_, hdrift, hlast, hrewrite, commitBlock_commits s n b⟩
  show execCommitBlock n s = _
  simp only [execCommitBlock, hready, hdue, Bool.not_true, Bool.false_eq_true, if_false, List.foldl_nil]

/-! #### The seam check (R133) -/

theorem sat16_bounds (x : Int) : -32768 ≤ sat16 x ∧ sat16 x ≤ 32767 := by
  unfold sat16 clampI
  split
  · omega
  · split <;> omega

/-- Flux linkages are 16-bit values, so that their difference fits the field of SEAM_MAX. -/
theorem weigh_diff_lt (cs ds : List Corner) (f g : Corner → Int) : (weigh cs f - weigh ds g).natAbs < 2 ^ 16 := by
  have hc := sat16_bounds (rnd15Raw (cs.foldl (fun a c => a + c.w * f c) 0))
  have hd := sat16_bounds (rnd15Raw (ds.foldl (fun a c => a + c.w * g c) 0))
  unfold weigh rnd15
  omega

/-- A field raised to the maximum of itself and a value that fits it does not fall. -/
theorem fld_le_setFld_max (s : State) (f : Fld) (v i : Nat) (hf : f.inWord) (hv : v < 2 ^ (f.hi + 1 - f.lo)) :
    s.fld f i ≤ (s.setFld f (max (s.fld f i) v) i).fld f i := by
  have hold : s.fld f i < 2 ^ (f.hi + 1 - f.lo) := bits_lt _ _ _
  rw [State.fld_setFld _ _ _ _ _ hf, Nat.mod_eq_of_lt (Nat.max_lt.mpr ⟨hold, hv⟩)]
  exact Nat.le_max_left _ _

theorem seamCheck_of_not_on {s : State} {n : Nat} (h : s.isOn .slot n = false) : s.seamCheck n = s := by
  simp only [State.seamCheck, h, Bool.false_and, Bool.not_false, if_true]

theorem seamCheck_regs (s : State) (n : Nat) : ∃ r, s.seamCheck n = { s with regs := r } := by
  unfold State.seamCheck
  dsimp only
  split
  · exact ⟨s.regs, rfl⟩
  · exact ⟨_, rfl⟩

theorem seamCheck_raises (s : State) (n k : Nat) :
    s.fld F.ATLAS_SEAM_MAX_SEAM_PSI_D k ≤ (s.seamCheck n).fld F.ATLAS_SEAM_MAX_SEAM_PSI_D k ∧
      s.fld F.ATLAS_SEAM_MAX_SEAM_PSI_Q k ≤ (s.seamCheck n).fld F.ATLAS_SEAM_MAX_SEAM_PSI_Q k := by
  have hD : F.ATLAS_SEAM_MAX_SEAM_PSI_D.inWord := ⟨by decide, by decide⟩
  have hQ : F.ATLAS_SEAM_MAX_SEAM_PSI_Q.inWord := ⟨by decide, by decide⟩
  unfold State.seamCheck
  dsimp only
  split
  · exact ⟨Nat.le_refl _, Nat.le_refl _⟩
  · by_cases hk : k = n
    · subst hk
      constructor
      · refine Nat.le_trans (Nat.le_of_eq ?_) (fld_le_setFld_max _ _ _ _ hD (weigh_diff_lt _ _ _ _))
        exact (State.fld_setFld_sameReg _ _ _ _ _ _ hQ hD rfl (by decide)).symm
      · rw [State.fld_setFld_sameReg _ _ _ _ _ _ hD hQ rfl (by decide)]
        exact fld_le_setFld_max _ _ _ _ hQ (weigh_diff_lt _ _ _ _)
    · have hother : ∀ (t : State) (f g : Fld) (v : Nat), (t.setFld f v n).fld g k = t.fld g k := fun t f g v =>
        State.fld_setFld_otherReg t f g v n 0 k 0 (fun h => hk (congrArg RKey.i h))
      simp only [hother, Nat.le_refl, and_self]

/-- The seam check raises the largest seams of the slots that are ON, and changes nothing else. -/
theorem seamCheck_acts (s : State) :
    ∃ t, exec .seamCheck s = .next t ∧ s.fld F.ATLAS_SEAM_MAX_SEAM_PSI_D 0 ≤ t.fld F.ATLAS_SEAM_MAX_SEAM_PSI_D 0 ∧
      s.fld F.ATLAS_SEAM_MAX_SEAM_PSI_Q 1 ≤ t.fld F.ATLAS_SEAM_MAX_SEAM_PSI_Q 1 ∧
      (s.isOn .slot 0 = false → s.isOn .slot 1 = false → t = s) ∧ t = { s with regs := t.regs } := by
  obtain ⟨r₀, h₀⟩ := seamCheck_regs s 0
  obtain ⟨r₁, h₁⟩ := seamCheck_regs (s.seamCheck 0) 1
  refine ⟨(s.seamCheck 0).seamCheck 1, rfl, ?_, ?_, fun h0 h1 => ?_, ?_⟩
  · exact Nat.le_trans (seamCheck_raises s 0 0).1 (seamCheck_raises _ 1 0).1
  · exact Nat.le_trans (seamCheck_raises s 0 1).2 (seamCheck_raises _ 1 1).2
  · rw [seamCheck_of_not_on h0, seamCheck_of_not_on h1]
  · rw [h₁, h₀]

/-- Settles O15: each command acts on the atlas of its slot, and what follows it (the raised fault, the next fill) leaves that as it is. -/
theorem atlasWindowCommandsAct : Obligations.AtlasWindowCommandsAct :=
  ⟨seamCheck_acts, windowStarvedTimer_raises, tileFillDone_fills, strataReloadDone_loads, commitBlock_commits_due⟩

end Sys2Proof.FluxAtlas

/-! ### The count of discarded publications: where the statement about dressing fails (R142) -/

namespace Sys2Proof.FluxAtlas

open Sys2Proof.Machine

/-- A publication of a slot whose dressing is not ON, and that sets no target, is counted as discarded (R142); the field has eight bits. -/
theorem dressPublication_notOn {s : State} {n : Fin 2} {r : List Byte} {rest : List (List Byte)} (hfifo : (s.atl n).fifo = r :: rest)
    (hpd : s.pdOn 5 = true) (htarget : bits (rawField r 25 1) 7 7 = 0) (hoff : s.isOn .dressing n = false) :
    ∃ t, exec (.dressPublication n) s = .next t ∧
      t.fld F.ATLAS_DRESS_DROP_OTHER n = (s.fld F.ATLAS_DRESS_DROP_OTHER n + 1) % 2 ^ 8 := by
  have hoff' : (s.setAtl n { s.atl n with fifo := rest }).isOn .dressing n = false := hoff
  refine ⟨(s.setAtl n { s.atl n with fifo := rest }).dressDrop F.ATLAS_DRESS_DROP_OTHER n, ?_, ?_⟩
  · show execDressPublication n s = _
    simp only [execDressPublication, hfifo, hpd, State.dressScreen, htarget, hoff', Bool.not_true, Bool.false_and, Bool.not_false,
      Bool.false_eq_true, if_false, if_true, Nat.zero_ne_one]
  · exact State.fld_setFld _ _ _ _ _ ⟨by decide, by decide⟩

/-- PD5 is on, dressing of slot 0 is OFF, a publication waits, and 255 publications have been discarded. -/
def dropsFullState : State :=
  ((({} : State).setLc .domain 5 { state := .on }).setAtl 0 { fifo := [List.replicate 32 0#8] }).setFld F.ATLAS_DRESS_DROP_OTHER 255

/-- Refutes O16: DRESS_DROP.OTHER is the field [7:0] of its register, so the 256th discard takes it to 0, where the statement counts in 16 bits. -/
theorem not_dressingAndMramCommandsAct : ¬ Obligations.DressingAndMramCommandsAct := by
  intro h
  obtain ⟨-, hpublication, -⟩ := h
  have hfifo : (dropsFullState.atl (0 : Fin 2)).fifo = List.replicate 32 0#8 :: [] := by decide +kernel
  have hpd : dropsFullState.pdOn 5 = true := by decide +kernel
  have hoff : dropsFullState.isOn .dressing (0 : Fin 2) = false := by decide +kernel
  have htarget : bits (rawField (List.replicate 32 0#8) 25 1) 7 7 = 0 := by decide +kernel
  have hfull : dropsFullState.fld F.ATLAS_DRESS_DROP_OTHER (0 : Fin 2) = 255 := by decide +kernel
  obtain ⟨t, hexec, -, -, hcount16, -⟩ := hpublication dropsFullState 0 _ _ hfifo hpd
  obtain ⟨u, hexec', hcount8⟩ := dressPublication_notOn hfifo hpd htarget hoff
  obtain rfl := Host.Outcome.next.inj (hexec.symm.trans hexec')
  have hwrong := (hcount16 htarget hoff).symm.trans hcount8
  rw [hfull] at hwrong
  exact absurd hwrong (by decide)

end Sys2Proof.FluxAtlas

/-! ### The EVENT record of a corrected word: where the statement about the scrubber fails (R373, R420, R579) -/

namespace Sys2Proof.FluxAtlas

open Sys2Proof.Machine Sys2Proof.FieldControl

theorem eventBlind_mem : EventBlind State.mem := ⟨fun _ _ _ => rfl, fun _ _ _ => rfl⟩

theorem fld_setFld_of_reg_ne (s : State) (f g : Fld) (v i j i' j' : Nat) (h : g.reg ≠ f.reg) : (s.setFld f v i j).fld g i' j' = s.fld g i' j' :=
  State.fld_setFld_otherReg s f g v i j i' j' (fun hk => h (congrArg RKey.reg hk))

theorem bytes_length (e : ScreeEntry) : e.bytes.length = 32 := by
  simp [ScreeEntry.bytes, leBytes_length]

/-- One pair takes EVENT records, of the host LOCAL: `b` is its oldest buffer and has place for one, in memory without a word found uncorrectable. -/
structure PostsTo (s : State) (n : Nat) (b : RecvBuf) : Prop where
  pairs : s.pairsOfClass 4 = [n]
  localHost : s.rpPcie n = false
  oldest : (s.ring n).bufs.head? = some b
  place : b.used + 32 ≤ b.len
  clean : s.memc.poison = []

variable {s : State} {n : Nat} {b : RecvBuf}

/-- An EVENT record goes into the oldest buffer (R420, R421). -/
theorem PostsTo.postEvents (h : PostsTo s n b) {l : List Byte} (hl : l.length = 32) :
    (s.postEvents l).1.mem = Memory.write s.mem (b.addr + b.used) l ∧ (s.postEvents l).2 = [] := by
  obtain ⟨hpairs, hlocal, holdest, hplace, hclean⟩ := h
  have hon : s.isOn .ring n = true := by
    have hmem : n ∈ s.pairsOfClass 4 := hpairs ▸ List.mem_singleton_self n
    simpa using (Bool.and_eq_true _ _ ▸ (List.mem_filter.mp hmem).2).2
  obtain ⟨rest, hbufs⟩ := List.head?_eq_some_iff.mp holdest
  have hwrite : (s.hostWrite n (b.addr + b.used) l).mem = Memory.write s.mem (b.addr + b.used) l := by
    simp [State.hostWrite, State.sysWrite, hlocal, hclean]
  simp [State.postEvents, hpairs, State.putRecord, hon, hbufs, hl, hplace, hwrite]

theorem PostsTo.log (h : PostsTo s n b) (m : Memory) (x : FaultSys) : PostsTo { s with mram := m, faults := x } n b :=
  ⟨h.pairs, h.localHost, h.oldest, h.place, h.clean⟩

theorem PostsTo.screeWrite (h : PostsTo s n b) {code cls scope unit event info : Nat} (hcls : 1 ≤ cls) :
    ∃ e : ScreeEntry, e.code = code ∧ (s.screeWrite code cls scope unit event info).1.mem = Memory.write s.mem (b.addr + b.used) e.bytes ∧
      (s.screeWrite code cls scope unit event info).2 = [] := by
  unfold State.screeWrite State.screeToMram
  dsimp only
  rw [if_pos (Or.inl hcls)]
  exact ⟨_, rfl, (h.log _ _).postEvents (bytes_length _)⟩

/-- A fault of RC1 that is the first in the log leaves its EVENT record in the system memory, and nothing else. -/
theorem PostsTo.raise (h : PostsTo s n b) {f : FaultName} {cond : Option Nat} (hcls : s.classOf f cond = 1) (hnew : s.faults.scree = []) (unit : Nat)
    (sc : Scope) (info : Nat) (lasting : Bool) :
    ∃ e : ScreeEntry, e.code = f.code ∧ (s.raise f unit sc info cond lasting).mem = Memory.write s.mem (b.addr + b.used) e.bytes := by
  obtain ⟨x, hx, hscree⟩ : ∃ x, s.noteEscalation f unit = { s with mram := s.mram, faults := x } ∧ x.scree = [] := by
    unfold State.noteEscalation
    dsimp only
    split
    · exact ⟨_, rfl, hnew⟩
    · exact ⟨s.faults, rfl, hnew⟩
  obtain ⟨e, he, hmem, hdrops⟩ := (h.log s.mram x).screeWrite (code := f.code) (scope := sc.code) (unit := unit) (event := 0) (info := info) (Nat.le_refl 1)
  have hlog : (s.noteEscalation f unit).screeRaise f.code 1 sc.code unit info =
      ({ s with mram := s.mram, faults := x } : State).screeWrite f.code 1 sc.code unit 0 info := by
    rw [hx]
    simp only [State.screeRaise, hscree, List.find?_nil]
  refine ⟨e, he, ?_⟩
  have hcore : (s.raiseCore f unit sc info cond lasting).1.mem = Memory.write s.mem (b.addr + b.used) e.bytes ∧
      (s.raiseCore f unit sc info cond lasting).2 = [] := by
    simp only [State.raiseCore, hcls, hlog, State.react, State.logSafeEntry, Nat.reduceLeDiff, false_and, if_false, hdrops, List.append_nil, and_true]
    exact hmem
  simp only [State.raise, hcore, List.foldl_nil, eventBlind_mem.torqueNote]

/-! #### The state that refutes O39 -/

/-- PD6 is on, the class of SRAM_CORR is set to RC1, and pair 0, of class EVENT and of the host LOCAL, is ON with a buffer of 64 bytes in the system SRAM. -/
def correctionPostedState : State :=
  (((({ params := [(⟨P.FAULT_RC, 0, 0⟩, 0x0201), (⟨P.FAULT_RC, 0, 1⟩, 1)] } : State).setLc .domain 6 { state := .on }).setLc .ring 0 { state := .on }).setFld
    F.DERRICK_RP_BIND_CLASS 4).setRing 0 { bufs := [⟨0, 0x10000000, 64, 0, 0, none, 0, 0⟩] }

/-- `correctionPostedState` as the scrubber's correction of the first word of the retention SRAM is raised; the spec leaves the recorded syndrome open. -/
def correctionCounted : State :=
  let s := { correctionPostedState with memc := { scrubNext := [(128, 1)] } }
  ((s.bump F.MEMCTL_ECC_COUNT_CORR 4).eccRecord 0x1F 4 0x39000000 false).setFlag F.MEMCTL_INT_STATUS_CORR true

/-- Counting and recording the correction does not touch how the pairs are bound. -/
theorem correctionCounted_bind (f : Fld) (hf : f.reg = .DERRICK_RP_BIND) (i : Nat) : correctionCounted.fld f i = correctionPostedState.fld f i := by
  have hne : ∀ (s : State) (g : Fld) (v j : Nat), g.reg ≠ .DERRICK_RP_BIND → (s.setFld g v j).fld f i = s.fld f i := fun s g v j hg =>
    fld_setFld_of_reg_ne s g f v j 0 i 0 (by rw [hf]; exact hg.symm)
  have hfree : ∀ (s : State) site, (s.free site).2.fld f i = s.fld f i := fun _ _ => rfl
  simp (disch := decide) only [correctionCounted, State.eccRecord, State.bump, State.setFlag, hne, hfree]
  rfl

theorem correctionCounted_postsTo : PostsTo correctionCounted 0 ⟨0, 0x10000000, 64, 0, 0, none, 0, 0⟩ where
  pairs := by
    have hsame : correctionCounted.pairsOfClass 4 = correctionPostedState.pairsOfClass 4 := by
      simp only [State.pairsOfClass, State.rpClass, correctionCounted_bind F.DERRICK_RP_BIND_CLASS rfl]
      rfl
    rw [hsame]
    decide +kernel
  localHost := by
    rw [State.rpPcie, State.flag, correctionCounted_bind F.DERRICK_RP_BIND_HOST rfl]
    decide +kernel
  oldest := by decide +kernel
  place := by decide
  clean := by decide +kernel

theorem scrubPass_mem (s : State) : s.scrubPass.mem = s.mem := by
  unfold State.scrubPass
  split
  · exact State.setFld_mem _ _ _ _ _
  · rfl

/-- No pass is late at the model's first tick (R579). -/
theorem scrubLate_of_now {s : State} (h : s.now = 0) : s.scrubLate = s := by
  have hearly : s.elapsed s.memc.passStart (2 * s.parN P.SCRUB_SRAM_T * msT + 1) = false := by
    rw [State.elapsed, h]
    exact decide_eq_false (by omega)
  simp only [State.scrubLate, hearly, Bool.false_and, Bool.false_eq_true, if_false]

/-- The scrubber's correction puts a record of SRAM_CORR, whose code is 0x0201, into the buffer: bytes 8 and 9 of the record. -/
theorem correctionPosted_writes_mem :
    ∃ u, exec (.sramScrubStep 4 0 1) correctionPostedState = .next u ∧ Memory.byte u.mem 0x10000008 = 0x01#8 := by
  obtain ⟨e, hcode, hmem⟩ := correctionCounted_postsTo.raise (f := .SRAM_CORR) (cond := none) (by decide +kernel) (by decide +kernel) 4 scopeModule
    0x39000000 false
  refine ⟨((correctionCounted.raise .SRAM_CORR 4 scopeModule 0x39000000).scrubLate).scrubPass, rfl, ?_⟩
  rw [scrubPass_mem, scrubLate_of_now (by rw [raise_now]; rfl), hmem]
  refine (Memory.byte_write_inside e.bytes _ 0x10000000 8 (by rw [bytes_length]; decide)).trans ?_
  simp [ScreeEntry.bytes, hcode, leBytes, FaultName.code]

/-- Refutes O39: a scrub step that corrects a word can change the system memory. Where FAULT_RC gives SRAM_CORR the class RC1 (R373), its EVENT record is
written into the buffers that the hosts have posted (R420). -/
theorem not_memoryAndHousekeepingAct : ¬ Obligations.MemoryAndHousekeepingAct := by
  intro h
  obtain ⟨-, hcorrected, -⟩ := h
  obtain ⟨t, hexec, -, hmem⟩ := hcorrected correctionPostedState 4 0 (by decide +kernel) (by decide) (by decide +kernel) (by decide +kernel)
  obtain ⟨u, hexec', hbyte⟩ := correctionPosted_writes_mem
  obtain rfl := Host.Outcome.next.inj (hexec.symm.trans hexec')
  rw [hmem] at hbyte
  exact absurd hbyte (by decide +kernel)

end Sys2Proof.FluxAtlas

/-! ### Trips and a freeze in the blanking window: where the statement about writes and trips fails (R227, R231) -/

namespace Sys2Proof.PwmTimelines

open Sys2Proof.Machine

/-- While a bridge is frozen its blanking window does not run on: a source that asserts at a bridge frozen inside the window waits for the window's end,
however long ago the freeze was (R227, R231). -/
theorem tripAssert_frozenInWindow {s : State} {b : Fin 2} {src : Fin 18} {f : Nat} (hpd : s.pdOn 7 = true) (hreport : 6 ≤ src.val)
    (hrun : (s.pwm b).running = true) (henabled : s.tripEnabled b src = true) (hfrozen : (s.pwm b).frozenSince = some f) (hwindow : f < (s.pwm b).blankUntil) :
    exec (.tripAssert b src) s = .next (s.setPwm b { s.pwm b with
      levels := if (s.pwm b).levels.contains src.val then (s.pwm b).levels else (s.pwm b).levels ++ [src.val] }) := by
  show execTripAssert b src s = _
  simp only [execTripAssert, State.tripAssert, hpd, hrun, henabled, hfrozen, hwindow, Nat.not_lt.mpr hreport, Option.getD_some, decide_false, Bool.not_true,
    Bool.false_and, Bool.or_self, Bool.false_eq_true, if_false, if_true]

/-- PD7 is on, TRIP_MASK of bridge A enables TRIP_IN0, and the bridge was frozen at tick 0, one tick before the end of its blanking window. -/
def frozenInWindowState : State :=
  (({ params := [(⟨P.TRIP_MASK, 0, 0⟩, 64)], now := 1 } : State).setLc .domain 7 { state := .on }).setPwm 0
    { running := true, blankUntil := 1, frozenSince := some 0 }

/-- Refutes O8: a freeze stops the blanking window too, so TRIP_IN0 at a bridge frozen in its window waits even when the window's end lies in the past;
the statement has every source act whose bridge is past that tick, frozen or not. -/
theorem not_pwmWritesAndTripsAct : ¬ Obligations.PwmWritesAndTripsAct := by
  intro h
  obtain ⟨-, -, htrip, -⟩ := h
  have hpd : frozenInWindowState.pdOn 7 = true := by decide +kernel
  have hrun : (frozenInWindowState.pwm (0 : Fin 2)).running = true := by decide +kernel
  have henabled : frozenInWindowState.tripEnabled (0 : Fin 2) (6 : Fin 18) = true := by decide +kernel
  have hfrozen : (frozenInWindowState.pwm (0 : Fin 2)).frozenSince = some 0 := by decide +kernel
  have hwindow : 0 < (frozenInWindowState.pwm (0 : Fin 2)).blankUntil := by decide +kernel
  have hpast : ¬ frozenInWindowState.now < (frozenInWindowState.pwm (0 : Fin 2)).blankUntil := by decide +kernel
  obtain ⟨t, hexec, hacts⟩ := htrip frozenInWindowState 0 6 hpd (fun hsat => absurd hsat (by decide)) hrun henabled
  rw [tripAssert_frozenInWindow hpd (by decide) hrun henabled hfrozen hwindow] at hexec
  obtain rfl := Host.Outcome.next.inj hexec
  rw [if_neg hpast] at hacts
  obtain ⟨htripped, -⟩ := hacts
  rw [State.pwm_setPwm] at htripped
  exact absurd htripped (by decide +kernel)

end Sys2Proof.PwmTimelines

/-! ### The count of received frames: where the statement about Ethernet fails (R543) -/

namespace Sys2Proof.PwmTimelines

open Sys2Proof.Machine

/-- A counter that is full stays so (R543). -/
theorem fld_bump_full (s : State) (f : Fld) (hf : f.inWord) (i : Nat) (h : s.fld f i = 2 ^ (f.hi + 1 - f.lo) - 1) : (s.bump f i).fld f i = s.fld f i := by
  unfold State.bump
  rw [State.fld_setFld s f _ i 0 hf, Nat.min_eq_left (by omega), ← h]
  exact Nat.mod_eq_of_lt (h ▸ Nat.sub_lt (Nat.two_pow_pos _) Nat.one_pos)

/-- A broadcast frame that is neither 802.1AS's nor Aqosh's is counted and goes to the pair of ETH_RX_RP; where no pair is set, nothing else changes (R531). -/
theorem ethFrameRx_broadcast_noPair {s : State} {frame : List Byte} (age : Nat) (hlink : s.linkIsUp = true) (hshort : 60 ≤ frame.length)
    (hlong : frame.length ≤ 1514) (hdst : beNat (frame.take 6) = 2 ^ 48 - 1) (hptp : (etherType frame).1 ≠ 0x88F7)
    (haq : (etherType frame).1 ≠ s.parN P.AQ_ETHERTYPE) (hpair : 64 ≤ s.parN P.ETH_RX_RP) :
    exec (.ethFrameRx true frame age) s = .next (s.bump F.ETH_RX_STATS_FRAMES) := by
  have hlen : ¬ (if (etherType frame).2 = 18 then 1518 else 1514) < frame.length := by split <;> omega
  have haccept : s.ethAccepts (beNat (frame.take 6)) = true := by simp [State.ethAccepts, hdst]
  have haq' : (etherType frame).1 ≠ (s.bump F.ETH_RX_STATS_FRAMES).parN P.AQ_ETHERTYPE := haq
  have hpair' : ¬ (s.bump F.ETH_RX_STATS_FRAMES).parN P.ETH_RX_RP < 64 := Nat.not_lt.mpr hpair
  show execEthFrameRx true frame age s = _
  simp only [execEthFrameRx, hlink, Nat.not_lt.mpr hshort, hlen, haccept, hptp, haq', State.toFramePair, hpair', decide_false, false_and, Bool.not_true,
    Bool.or_self, Bool.false_eq_true, if_false]

/-- The MAC runs on a link that is up, no pair takes FRAME records, and 65,535 frames have been received. -/
def framesFullState : State :=
  (((({ params := [(⟨P.ETH_EN, 0, 0⟩, 1)] } : State).setLc .domain 9 { state := .on }).setFlag F.ETH_STATUS_LINK_UP true).setFld F.ETH_RX_STATS_FRAMES 65535)

/-- Refutes O32: the counters saturate (R543), so the frame after the 65,535th leaves RX_STATS.FRAMES at 65,535, where the statement has it wrap to 0. -/
theorem not_ethernetAndPulseCommandsAct : ¬ Obligations.EthernetAndPulseCommandsAct := by
  intro h
  obtain ⟨hrx, -⟩ := h
  have hlink : framesFullState.linkIsUp = true := by decide +kernel
  have hpair : 64 ≤ framesFullState.parN P.ETH_RX_RP := by decide +kernel
  have haq : (etherType (List.replicate 60 0xFF#8)).1 ≠ framesFullState.parN P.AQ_ETHERTYPE := by decide +kernel
  have hfull : framesFullState.fld F.ETH_RX_STATS_FRAMES = 65535 := by decide +kernel
  obtain ⟨t, hexec, hcount, -⟩ := hrx framesFullState (List.replicate 60 0xFF#8) 0 hlink (by decide) (by decide) (by decide +kernel) (by decide +kernel) haq
  rw [ethFrameRx_broadcast_noPair 0 hlink (by decide) (by decide) (by decide +kernel) (by decide +kernel) haq hpair] at hexec
  obtain rfl := Host.Outcome.next.inj hexec
  rw [fld_bump_full _ _ ⟨by decide, by decide⟩ 0 hfull, hfull] at hcount
  exact absurd hcount (by decide)

end Sys2Proof.PwmTimelines

/-! ### What the launch of gate edges and the outcome of R216 leave of a bridge's block (R211 to R217, R265) -/

namespace Sys2Proof.PwmTimelines

open Sys2Proof.Machine Sys2Proof.FieldControl Sys2Proof.FluxAtlas

/-- What of a bridge's block the launch of a gate edge leaves as it was: all but the gates, the blanking window and, of the legs, the record of conduction. -/
def schedule (x : Pwm) : Pwm × (Nat → Bool × Bool) :=
  ({ x with gates := [], legs := [], blankUntil := 0, blankOpen := false }, fun k => ((x.leg k).refreshDue, (x.leg k).refreshed))

theorem ch_setCh (x : Pwm) (c : Nat) (y : PwmCh) : (x.setCh c y).ch c = y := Table.at_setAt_same _ x.chans c y
theorem gate_setGate (x : Pwm) (g : Nat) (y : PwmGate) : (x.setGate g y).gate g = y := Table.at_setAt_same _ x.gates g y
theorem leg_setLeg (x : Pwm) (k : Nat) (y : PwmLeg) : (x.setLeg k y).leg k = y := Table.at_setAt_same _ x.legs k y

theorem schedule_setLeg {x : Pwm} {k : Nat} {y : PwmLeg} (hdue : y.refreshDue = (x.leg k).refreshDue) (hdone : y.refreshed = (x.leg k).refreshed) :
    schedule (x.setLeg k y) = schedule x := by
  refine Prod.ext rfl (funext fun j => ?_)
  by_cases hj : j = k
  · subst hj
    show (((x.setLeg j y).leg j).refreshDue, ((x.setLeg j y).leg j).refreshed) = _
    rw [leg_setLeg, hdue, hdone]
    rfl
  · have hleg : (x.setLeg k y).leg j = x.leg j := Table.at_setAt_other _ x.legs y hj
    show (((x.setLeg k y).leg j).refreshDue, ((x.setLeg k y).leg j).refreshed) = _
    rw [hleg]
    rfl

theorem ch_of_schedule {x y : Pwm} (h : schedule x = schedule y) (c : Nat) : x.ch c = y.ch c :=
  congrArg (fun p : Pwm × (Nat → Bool × Bool) => p.1.ch c) h

theorem refresh_of_schedule {x y : Pwm} (h : schedule x = schedule y) (k : Nat) :
    (x.leg k).refreshDue = (y.leg k).refreshDue ∧ (x.leg k).refreshed = (y.leg k).refreshed :=
  Prod.mk.inj (congrFun (congrArg Prod.snd h) k)

theorem lowEdge_refresh (l : PwmLeg) (on : Bool) (t : Nat) : (l.lowEdge on t).refreshDue = l.refreshDue ∧ (l.lowEdge on t).refreshed = l.refreshed := by
  unfold PwmLeg.lowEdge
  split
  · exact ⟨rfl, rfl⟩
  · split <;> exact ⟨rfl, rfl⟩

variable {α : Type} {b : Nat} {π : State → α}

/-- A reading that the launch of a gate edge on a bridge leaves as it was, LEG_CONFLICT and its reaction with it (R265). -/
structure EdgeBlind (b : Nat) (π : State → α) : Prop extends RaiseBlind π where
  pwm : ∀ s x, schedule x = schedule (State.pwm s b) → π (State.setPwm s b x) = π s
  conflict : ∀ s n, π (State.setFlag s F.GDS_INT_STATUS_LEG_CONFLICT true n) = π s

namespace EdgeBlind

theorem setGate (h : EdgeBlind b π) (s : State) (g : Nat) (y : PwmGate) : π (s.setPwm b ((s.pwm b).setGate g y)) = π s := h.pwm s _ rfl

theorem syncLanes (h : EdgeBlind b π) (s : State) (k : Nat) : π (s.syncLanes b k) = π s := by
  have hlanes : ∀ (y : PwmLeg) n v m w, y.refreshDue = ((s.pwm b).leg k).refreshDue → y.refreshed = ((s.pwm b).leg k).refreshed →
      π (((s.setPwm b ((s.pwm b).setLeg k y)).setLane n v).setLane m w) = π s := fun y n v m w hdue hdone => by
    rw [h.lane, h.lane, h.pwm _ _ (schedule_setLeg hdue hdone)]
  unfold State.syncLanes
  dsimp only
  split
  · rw [h.raise, h.conflict, h.conflict]
    exact hlanes _ _ _ _ _ rfl rfl
  · exact hlanes _ _ _ _ _ rfl rfl

theorem launch (h : EdgeBlind b π) (s : State) (g : Nat) (on : Bool) (t : Nat) : π (s.launch b g on t) = π s := by
  unfold State.launch
  dsimp only
  split
  · exact h.setGate s _ _
  · rw [h.syncLanes]
    refine h.pwm s _ ?_
    split
    · obtain ⟨hdue, hdone⟩ := lowEdge_refresh ((s.pwm b).leg (g / 2)) on t
      exact schedule_setLeg (x := s.pwm b) hdue hdone
    · rfl

theorem gateOff (h : EdgeBlind b π) (s : State) (g : Nat) (guard : Bool) (t : Nat) : π (s.gateOff b g guard t) = π s := by
  unfold State.gateOff
  dsimp only
  split
  · exact h.setGate s _ _
  · exact h.launch s _ _ _

theorem gateOn (h : EdgeBlind b π) (s : State) (g t dt : Nat) : π (s.gateOn b g t dt) = π s := by
  unfold State.gateOn
  dsimp only
  split
  · exact h.setGate s _ _
  · split
    · exact h.launch s _ _ _
    · exact h.setGate s _ _

theorem launchDemand (h : EdgeBlind b π) (s : State) (c : Nat) (v : Bool) (t : Nat) : π (s.launchDemand b c v t) = π s := by
  unfold State.launchDemand
  split
  · split
    · exact h.gateOn s _ _ _
    · exact h.gateOff s _ _ _
  · split
    · exact (h.gateOn _ _ _ _).trans (h.gateOff s _ _ _)
    · exact (h.gateOn _ _ _ _).trans (h.gateOff s _ _ _)

theorem floatDemand (h : EdgeBlind b π) (s : State) (c t : Nat) : π (s.floatDemand b c t) = π s := by
  unfold State.floatDemand
  split
  · rfl
  · split
    · exact h.gateOff s _ _ _
    · exact (h.gateOff _ _ _ _).trans (h.gateOff s _ _ _)

end EdgeBlind

/-- The registers in which the outcome of R216 shows. -/
def pulseRegs : List Reg := [.PWM_CMP_EFF, .PWM_ERR, .PWM_INT_STATUS]

/-- A reading that the demands of a bridge and their compares leave as it was. -/
structure DemandBlind (b : Nat) (π : State → α) : Prop extends EdgeBlind b π where
  setCh : ∀ s c y, π (State.setPwm s b ((State.pwm s b).setCh c y)) = π s
  pulse : ∀ s f v i j, f.reg ∈ pulseRegs → π (State.setFld s f v i j) = π s

namespace DemandBlind

theorem setDemand (h : DemandBlind b π) (s : State) (c : Nat) (v : Bool) (t : Nat) : π (s.setDemand b c v t) = π s := by
  unfold State.setDemand
  dsimp only
  split
  · exact h.setCh s _ _
  · exact (h.launchDemand _ _ _ _).trans (h.setCh s _ _)

theorem setPulse (h : DemandBlind b π) (s : State) (c on off : Nat) (r : PulseOut) : π (s.setPulse b c on off r) = π s := by
  have hreg : ∀ (t : State) f v i j, f.reg ∈ pulseRegs → π (t.setFld f v i j) = π t := h.pulse
  unfold State.setPulse
  extract_lets x err y s1 s2
  have hch : π s1 = π s := h.setCh s c _
  have hshown : π s2 = π s := by
    unfold s2
    split
    · simp (disch := decide) only [State.setFldS, hreg, hch]
    · exact hch
  split
  · rw [h.raise, State.setFlag, hreg _ _ _ _ _ (by decide), hshown]
  · exact hshown

theorem startDemand (h : DemandBlind b π) (s : State) (c : Nat) (relaunch : Bool) : π (s.startDemand b c relaunch) = π s := by
  unfold State.startDemand
  extract_lets y s1 x z
  have hch : ∀ y, π (s1.setPwm b (x.setCh c y)) = π s := fun y => (h.setCh s1 c y).trans (h.setPulse s _ _ _ _)
  split
  · exact (h.floatDemand _ _ _).trans (hch _)
  · split
    · exact (h.launchDemand _ _ _ _).trans (hch _)
    · exact hch _

theorem updateDemand (h : DemandBlind b π) (s : State) (c : Nat) (old : PwmCh) : π (s.updateDemand b c old) = π s := by
  unfold State.updateDemand
  extract_lets y s1 x
  have hch : ∀ y, π (s1.setPwm b (x.setCh c y)) = π s := fun y => (h.setCh s1 c y).trans (h.setPulse s _ _ _ _)
  have hdemand : ∀ y v t, π ((s1.setPwm b (x.setCh c y)).setDemand b c v t) = π s := fun y v t => (h.setDemand _ _ _ _).trans (hch y)
  split
  · rfl
  · split
    · exact (h.floatDemand _ _ _).trans (hch _)
    · split
      · exact hdemand _ _ _
      · split
        · split
          · exact hdemand _ _ _
          · exact hch _
        · split
          · split
            · exact hdemand _ _ _
            · split
              · exact (h.pulse _ _ _ _ _ (by decide)).trans (hch _)
              · exact hch _
          · exact hch _

end DemandBlind
end Sys2Proof.PwmTimelines

/-! ### The edges and the update points of a period act (R211, R213, R217, R223 to R225, R235) -/

namespace Sys2Proof.PwmTimelines

open Sys2Proof.Machine Sys2Proof.FieldControl Sys2Proof.FluxAtlas

/-- The PWM blocks, the upper words of their captures and one register. -/
def block (k : RKey) (s : State) : Table Nat Pwm × Table Nat Nat × Word := (s.pwms, s.capHi, s.reg k)

theorem block_setFld {k : RKey} (s : State) (f : Fld) (v i j : Nat) (hk : k.reg ≠ f.reg) : block k (s.setFld f v i j) = block k s := by
  unfold block
  rw [State.reg_setFld_other s f v i j k (fun hkey => hk (by rw [hkey]))]
  rfl

/-- A raise touches neither the PWM blocks nor their captures, nor a register outside those of its reaction. -/
theorem raiseBlind_block {α : Type} (k : RKey) (hk : k.reg ∉ reactionRegs) (f : Table Nat Pwm × Table Nat Nat × Word → α) :
    RaiseBlind (fun s => f (block k s)) := by
  have hfld : ∀ (s : State) (g : Fld) (v i : Nat), g.reg ∈ reactionRegs → f (block k (s.setFld g v i)) = f (block k s) := fun s g v i hg => by
    rw [block_setFld s g v i 0 (fun hreg => hk (hreg ▸ hg))]
  exact {
    ring := fun _ _ _ => rfl
    refused := fun s v n => hfld s _ v n (by decide)
    memory := fun _ _ _ _ => rfl
    msix := fun _ _ => rfl
    lines := fun _ _ => rfl
    engine := fun _ _ _ => rfl
    overrun := fun s b c => hfld s _ (b2n b) c (by decide)
    regs := hfld
    safe := fun _ _ _ => rfl
    lane := fun _ _ _ => rfl
    island := fun _ _ => rfl
    slotStop := fun _ _ => rfl
    log := fun _ _ _ _ => rfl
    active := fun _ _ => rfl }

/-- A reading of the PWM blocks alone. -/
theorem raiseBlind_pwms {α : Type} (f : Table Nat Pwm → α) : RaiseBlind (fun s => f s.pwms) :=
  raiseBlind_block ⟨.PWM_STATUS, 0, 0⟩ (by decide) (fun p => f p.1)

@[simp] theorem raise_pwm (s : State) (f : FaultName) (unit : Nat) (sc : Scope) (info : Nat) (cond : Option Nat) (lasting : Bool) (b : Nat) :
    (s.raise f unit sc info cond lasting).pwm b = s.pwm b :=
  (raiseBlind_pwms (fun t => Table.at ({} : Pwm) t b)).raise s f unit sc info cond lasting

theorem edgeBlind_schedule (b : Nat) : EdgeBlind b (fun s => schedule (s.pwm b)) where
  toRaiseBlind := raiseBlind_pwms (fun t => schedule (Table.at ({} : Pwm) t b))
  pwm s x h := by
    show schedule ((s.setPwm b x).pwm b) = _
    rw [State.pwm_setPwm, h]
  conflict _ _ := rfl

variable (s : State) (b c k : Nat)

@[simp] theorem setFld_pwm (f : Fld) (v i j : Nat) : (s.setFld f v i j).pwm b = s.pwm b := rfl
@[simp] theorem setFlag_pwm (f : Fld) (v : Bool) (i j : Nat) : (s.setFlag f v i j).pwm b = s.pwm b := rfl
@[simp] theorem setLane_pwm (n : Nat) (v : Bool) : (s.setLane n v).pwm b = s.pwm b := rfl

/-! #### Compare edges and refreshes (R211, R235) -/

theorem launchDemand_ch (v : Bool) (t c' : Nat) : ((s.launchDemand b c v t).pwm b).ch c' = (s.pwm b).ch c' :=
  ch_of_schedule ((edgeBlind_schedule b).launchDemand s c v t) c'

theorem launchDemand_refresh (v : Bool) (t : Nat) :
    (((s.launchDemand b c v t).pwm b).leg k).refreshDue = ((s.pwm b).leg k).refreshDue ∧
      (((s.launchDemand b c v t).pwm b).leg k).refreshed = ((s.pwm b).leg k).refreshed :=
  refresh_of_schedule ((edgeBlind_schedule b).launchDemand s c v t) k

/-- A demand that changes is recorded, whether or not the gates may follow it (R211, R228). -/
theorem setDemand_ch (v : Bool) (t : Nat) :
    ((s.setDemand b c v t).pwm b).ch c = { (s.pwm b).ch c with demand := v, hadOn := ((s.pwm b).ch c).hadOn || v } := by
  have hset : ∀ y, ((s.setPwm b ((s.pwm b).setCh c y)).pwm b).ch c = y := fun y => by rw [State.pwm_setPwm, ch_setCh]
  unfold State.setDemand
  dsimp only
  split
  · exact hset _
  · exact (launchDemand_ch _ _ _ _ _ _).trans (hset _)

theorem pwmCompareEdge_on (s : State) (b : Fin 2) (c : Fin 6) (hlive : (s.pwm b).live = true) (hchan : (s.pwmChans b).contains c.val = true)
    (hfloat : ((s.pwm b).ch c).isFloat = false) (hon : ((s.pwm b).ch c).effOn < s.p8 b) (hnew : ((s.pwm b).ch c).onMade = false)
    (hreached : s.reached b ((s.pwm b).ch c).effOn = true) (horder : ((s.pwm b).ch c).effOn ≤ ((s.pwm b).ch c).effOff ∨ ((s.pwm b).ch c).offMade = true) :
    ∃ t, exec (.pwmCompareEdge b c 0) s = .next t ∧ ((t.pwm b).ch c).onMade = true ∧
      (((s.pwm b).ch c).effOn ≠ ((s.pwm b).ch c).effOff → ((t.pwm b).ch c).demand = true) := by
  have horder' : (decide (((s.pwm b).ch c).effOff ≥ ((s.pwm b).ch c).effOn) || ((s.pwm b).ch c).offMade) = true := by simpa using horder
  have hexec : exec (.pwmCompareEdge b c 0) s = .next (
      let s' := s.setPwm b ((s.pwm b).setCh c { (s.pwm b).ch c with onMade := true })
      if ((s.pwm b).ch c).effOn = ((s.pwm b).ch c).effOff then s' else s'.setDemand b c true (8 * (s.pwm b).wrapAt + ((s.pwm b).ch c).effOn)) := by
    show execPwmCompareEdge b c 0 s = _
    simp [execPwmCompareEdge, -List.contains_eq_mem, hlive, hchan, hfloat, hon, hnew, hreached, horder']
  refine ⟨_, hexec, ?_⟩
  split
  case isTrue hsame => exact ⟨by rw [State.pwm_setPwm, ch_setCh], fun hne => absurd hsame hne⟩
  case isFalse => simp [setDemand_ch, ch_setCh]

theorem pwmCompareEdge_off (s : State) (b : Fin 2) (c : Fin 6) (hlive : (s.pwm b).live = true) (hchan : (s.pwmChans b).contains c.val = true)
    (hfloat : ((s.pwm b).ch c).isFloat = false) (hoff : ((s.pwm b).ch c).effOff < s.p8 b) (hon : ((s.pwm b).ch c).effOn < s.p8 b)
    (hnew : ((s.pwm b).ch c).offMade = false) (hreached : s.reached b ((s.pwm b).ch c).effOff = true)
    (horder : ((s.pwm b).ch c).effOff ≤ ((s.pwm b).ch c).effOn ∨ ((s.pwm b).ch c).onMade = true) :
    ∃ t, exec (.pwmCompareEdge b c 1) s = .next t ∧ ((t.pwm b).ch c).offMade = true ∧ ((t.pwm b).ch c).demand = false := by
  have horder' : (decide (((s.pwm b).ch c).effOff ≤ ((s.pwm b).ch c).effOn) || ((s.pwm b).ch c).onMade) = true := by simpa using horder
  have hexec : exec (.pwmCompareEdge b c 1) s = .next ((s.setPwm b ((s.pwm b).setCh c { (s.pwm b).ch c with offMade := true })).setDemand b c false
      (8 * (s.pwm b).wrapAt + ((s.pwm b).ch c).effOff)) := by
    show execPwmCompareEdge b c 1 s = _
    simp [execPwmCompareEdge, -List.contains_eq_mem, hlive, hchan, hfloat, hoff, hon, hnew, hreached, horder']
  refine ⟨_, hexec, ?_⟩
  simp [setDemand_ch, ch_setCh]

theorem pwmCompareEdge_refresh (s : State) (b : Fin 2) (c : Fin 6) (hlive : (s.pwm b).live = true) (hchan : (s.pwmChans b).contains c.val = true)
    (hfloat : ((s.pwm b).ch c).isFloat = false) (hdue : ((s.pwm b).leg (c.val / 2)).refreshDue = true)
    (hreached : s.reached b (s.p8 b - 8 * s.parN P.BOOT_T b * 4 / 5 - s.dtLH b (c.val / 2)) = true) :
    ∃ t, exec (.pwmCompareEdge b c 2) s = .next t ∧ ((t.pwm b).leg (c.val / 2)).refreshed = true ∧ ((t.pwm b).leg (c.val / 2)).refreshDue = false := by
  have hexec : exec (.pwmCompareEdge b c 2) s = .next (
      let s' := (s.setPwm b ((s.pwm b).setLeg (c.val / 2) { (s.pwm b).leg (c.val / 2) with
        refreshDue := false, refreshed := true, bootCount := 0, blocked := true })).bump F.PWM_BOOT_COUNT_COUNT b
      if ((s.pwm b).leg (c.val / 2)).cut || !s'.pwmDrives b || (s.pwm b).resync then s'
      else s'.launchDemand b c false (8 * (s.pwm b).wrapAt + (s.p8 b - 8 * s.parN P.BOOT_T b * 4 / 5 - s.dtLH b (c.val / 2)))) := by
    show execPwmCompareEdge b c 2 s = _
    simp [execPwmCompareEdge, -List.contains_eq_mem, hlive, hchan, hfloat, hdue, hreached]
  have hleg : ∀ y, (((s.setPwm b ((s.pwm b).setLeg (c.val / 2) y)).bump F.PWM_BOOT_COUNT_COUNT b).pwm b).leg (c.val / 2) = y := fun y => by
    show ((s.setPwm b _).pwm b).leg _ = y
    rw [State.pwm_setPwm, leg_setLeg]
  refine ⟨_, hexec, ?_⟩
  dsimp only
  split
  · rw [hleg]
    exact ⟨rfl, rfl⟩
  · simp only [launchDemand_refresh, hleg, and_self]

/-! #### Gate edges that wait (R213, R217) -/

theorem syncLanes_gate (g : Nat) : ((s.syncLanes b k).pwm b).gate g = (s.pwm b).gate g := by
  unfold State.syncLanes
  extract_lets x h l n both y s1 s2
  have hgate : (s2.pwm b).gate g = (s.pwm b).gate g := by
    unfold s2 s1
    rw [setLane_pwm, setLane_pwm, State.pwm_setPwm]
    rfl
  split
  · rw [raise_pwm, setFlag_pwm, setFlag_pwm, hgate]
  · exact hgate

/-- A gate edge launched: the gate stands at its level and waits for nothing more (R213, R217). -/
theorem launch_gate (g : Nat) (on : Bool) (t : Nat) : ∃ at_, ((s.launch b g on t).pwm b).gate g = { out := on, onAt := at_, turnOn := none, turnOff := none } := by
  unfold State.launch
  dsimp only
  split
  case isTrue hout =>
    refine ⟨((s.pwm b).gate g).onAt, ?_⟩
    rw [State.pwm_setPwm, gate_setGate, beq_iff_eq.mp hout]
  case isFalse =>
    refine ⟨if on then t else ((s.pwm b).gate g).onAt, ?_⟩
    rw [syncLanes_gate, State.pwm_setPwm]
    split <;> exact gate_setGate _ _ _

theorem deadTimeExpiry_acts (s : State) (b : Fin 2) (g : Fin 6) (t0 : Nat) (hwait : ((s.pwm b).gate g).turnOn = some t0) (hlive : (s.pwm b).live = true)
    (htime : t0 / 8 ≤ s.now) (hdrives : s.pwmDrives b = true) (hsync : (s.pwm b).resync = false) :
    ∃ t, exec (.deadTimeExpiry b g) s = .next t ∧ ((t.pwm b).gate g).out = true ∧ ((t.pwm b).gate g).turnOn = none := by
  have hexec : exec (.deadTimeExpiry b g) s = .next (s.launch b g true t0) := by
    show execDeadTimeExpiry b g s = _
    simp [execDeadTimeExpiry, hwait, hlive, htime, hdrives, hsync]
  obtain ⟨_, hgate⟩ := launch_gate s b g true t0
  exact ⟨_, hexec, by rw [hgate], by rw [hgate]⟩

theorem minPulseGuardExpiry_acts (s : State) (b : Fin 2) (g : Fin 6) (t0 : Nat) (hwait : ((s.pwm b).gate g).turnOff = some t0)
    (hlive : (s.pwm b).live = true) (htime : t0 / 8 ≤ s.now) (hdrives : s.pwmDrives b = true) (hsync : (s.pwm b).resync = false) :
    ∃ t, exec (.minPulseGuardExpiry b g) s = .next t ∧ ((t.pwm b).gate g).out = false ∧ ((t.pwm b).gate g).turnOff = none := by
  have hexec : exec (.minPulseGuardExpiry b g) s = .next (s.launch b g false t0) := by
    show execMinPulseGuardExpiry b g s = _
    simp [execMinPulseGuardExpiry, hwait, hlive, htime, hdrives, hsync]
  obtain ⟨_, hgate⟩ := launch_gate s b g false t0
  exact ⟨_, hexec, by rw [hgate], by rw [hgate]⟩

/-! #### Update points inside a period (R223 to R225) -/

/-- Steps that change channels only, one after another, change channels only. -/
theorem foldl_chans {β : Type} (f : Pwm → β → Pwm) (hf : ∀ y j, ∃ cs, f y j = { y with chans := cs }) (l : List β) (x : Pwm) :
    ∃ cs, l.foldl f x = { x with chans := cs } := by
  induction l generalizing x with
  | nil => exact ⟨x.chans, rfl⟩
  | cons j l ih =>
    obtain ⟨cs, hj⟩ := hf x j
    obtain ⟨cs', hl⟩ := ih (f x j)
    exact ⟨cs', by rw [List.foldl_cons, hl, hj]⟩

/-- A set taken changes compares and leaves no other pending (R220, R222). -/
theorem takeSet_pwm (g : PwmSet) : ∃ cs, (s.takeSet b g).pwm b = { s.pwm b with chans := cs, pending := none, immediate := none } := by
  unfold State.takeSet
  extract_lets x x1 s1 s2
  obtain ⟨cs, hcs⟩ : ∃ cs, x1 = { x with chans := cs } := by
    refine foldl_chans _ (fun y j => ?_) _ _
    split
    · exact ⟨y.chans, rfl⟩
    · exact ⟨_, rfl⟩
  clear_value x1
  subst hcs
  have hperiod : s2.pwm b = s1.pwm b := by
    unfold s2
    split
    · rfl
    · rfl
  refine ⟨cs, ?_⟩
  rw [setFlag_pwm, setFld_pwm, hperiod, State.pwm_setPwm]

theorem demandBlind_update : DemandBlind b (fun s => ((s.pwm b).pending, (s.pwm b).immediate, (s.pwm b).midDone)) where
  toRaiseBlind := raiseBlind_pwms (fun t => let x : Pwm := Table.at {} t b; (x.pending, x.immediate, x.midDone))
  pwm s x h := by
    rw [State.pwm_setPwm]
    exact congrArg (fun p : Pwm × (Nat → Bool × Bool) => (p.1.pending, p.1.immediate, p.1.midDone)) h
  conflict _ _ := rfl
  setCh s c y := by
    rw [State.pwm_setPwm]
    rfl
  pulse _ _ _ _ _ _ := rfl

/-- A set that takes effect inside a period is pending no more, and the demands' updates leave that so (R223 to R225). -/
theorem updateNow_pending (g : PwmSet) : ((s.updateNow b g).pwm b).pending = none ∧ ((s.updateNow b g).pwm b).immediate = none ∧
    ((s.updateNow b g).pwm b).midDone = (s.pwm b).midDone := by
  have hfold := foldl_reading (π := fun s => ((s.pwm b).pending, (s.pwm b).immediate, (s.pwm b).midDone)) (s.pwmChans b)
    (fun t c => t.updateDemand b c ((s.pwm b).ch c)) (fun t c => (demandBlind_update b).updateDemand t c _) (s.takeSet b g)
  obtain ⟨cs, htake⟩ := takeSet_pwm s b g
  rw [htake] at hfold
  obtain ⟨hpending, hrest⟩ := Prod.mk.inj hfold
  obtain ⟨himmediate, hmid⟩ := Prod.mk.inj hrest
  exact ⟨hpending, himmediate, hmid⟩

theorem pwmMidPoint_acts (s : State) (b : Fin 2) (hlive : (s.pwm b).live = true) (hnew : (s.pwm b).midDone = false) (hmode : s.par P.UPD_MODE b = 1)
    (htime : (s.pwm b).wrapAt + s.period b / 2 ≤ s.now) :
    ∃ t, exec (.pwmMidPoint b) s = .next t ∧ (t.pwm b).midDone = true ∧
      (∀ g, (s.pwm b).pending = some g → g.arrival + 4 < (s.pwm b).wrapAt + s.period b / 2 → g.period = none → (t.pwm b).pending = none) := by
  obtain ⟨s', hmid, hnone, hsome⟩ : ∃ s', (s'.pwm b).midDone = true ∧ ((s.pwm b).pending = none → exec (.pwmMidPoint b) s = .next s') ∧
      ∀ g, (s.pwm b).pending = some g → exec (.pwmMidPoint b) s =
        if g.arrival + 4 < (s.pwm b).wrapAt + s.period b / 2 ∧ (g.period = none ∨ g.period = some (s'.period b)) then .next (s'.updateNow b g)
        else .next s' := by
    refine ⟨s.setPwm b { s.pwm b with midDone := true }, by rw [State.pwm_setPwm], fun hpending => ?_, fun g hpending => ?_⟩ <;>
    · show execPwmMidPoint b s = _
      simp only [execPwmMidPoint, hlive, hnew, hmode, hpending, Nat.not_lt.mpr htime, bne_self_eq_false, decide_false, Bool.not_true, Bool.or_self,
        Bool.false_eq_true, if_false]
  cases hpending : (s.pwm b).pending with
  | none => exact ⟨s', hnone hpending, hmid, fun g hg => nomatch hg⟩
  | some g =>
    rw [hsome g hpending]
    split
    case isTrue =>
      obtain ⟨htaken, -, hkept⟩ := updateNow_pending s' b g
      exact ⟨_, rfl, hkept.trans hmid, fun _ _ _ _ => htaken⟩
    case isFalse hlate =>
      refine ⟨s', rfl, hmid, fun g' hg hearly hperiod => absurd ?_ hlate⟩
      obtain rfl := Option.some.inj hg
      exact ⟨hearly, Or.inl hperiod⟩

theorem immediateUpdate_acts (s : State) (b : Fin 2) (t0 : Nat) (g : PwmSet) (himmediate : (s.pwm b).immediate = some t0)
    (hpending : (s.pwm b).pending = some g) (hlive : (s.pwm b).live = true) (htime : s.elapsed t0 2 = true) :
    ∃ t, exec (.immediateUpdate b) s = .next t ∧ (t.pwm b).pending = none ∧ (t.pwm b).immediate = none := by
  have hexec : exec (.immediateUpdate b) s = .next (s.updateNow b g) := by
    show execImmediateUpdate b s = _
    simp only [execImmediateUpdate, himmediate, hpending, hlive, htime, Bool.and_self, if_true]
  obtain ⟨hnone, hdone, -⟩ := updateNow_pending s b g
  exact ⟨_, hexec, hnone, hdone⟩

/-- Settles O7: each command acts on its channel, leg, gate or set, and the launch of the gate edges that follow leaves that as it is. -/
theorem pwmEdgesAct : Obligations.PwmEdgesAct :=
  ⟨pwmCompareEdge_on, pwmCompareEdge_off, pwmCompareEdge_refresh, deadTimeExpiry_acts, minPulseGuardExpiry_acts, pwmMidPoint_acts, immediateUpdate_acts⟩

end Sys2Proof.PwmTimelines

/-! ### A timeline slot fires, and a period ends and begins (R208, R236 to R240) -/

namespace Sys2Proof.PwmTimelines

open Sys2Proof.Machine Sys2Proof.FieldControl Sys2Proof.FluxAtlas

/-! #### Firing a slot (R237) -/

/-- A slot of the timeline holds an action of a type, belongs to this period, has not fired yet, and its time `t` has come. -/
structure SlotDue (s : State) (b k type t : Nat) : Prop where
  live : (s.pwm b).live = true
  first : (s.pwm b).fired.contains k = false
  type : s.fld F.PWM_TL_ACT_TYPE b k = type
  active : s.slotActive b k = true
  time : s.slotTime b k = some t
  reached : t / 8 ≤ s.counter b

/-- The bridge notes that a slot has fired in this period. -/
def noteFired (s : State) (b k : Nat) : State := s.setPwm b { s.pwm b with fired := k :: (s.pwm b).fired }

theorem noteFired_fired (s : State) (b k : Nat) : ((noteFired s b k).pwm b).fired = k :: (s.pwm b).fired := by
  rw [noteFired, State.pwm_setPwm]

/-- A slot that is due fires: its action runs once the bridge has noted the firing. -/
theorem SlotDue.tlFire {s : State} {b k type t : Nat} (h : SlotDue s b k type t) (act : State → Nat → State) :
    s.tlFire b k type act = act (noteFired s b k) t := by
  obtain ⟨hlive, hfirst, htype, hactive, htime, hreached⟩ := h
  simp only [State.tlFire, hlive, hfirst, htype, hactive, htime, hreached, bne_self_eq_false, Bool.not_true, Bool.or_self, Bool.false_eq_true, if_false,
    if_true]
  rfl

/-! #### ADC_START (R238, R294 to R303, R326, R345) -/

variable (s : State) (b n : Nat)

/-- The registers of the position check (R345). -/
def checkRegs : List Reg := [.POS_CHECK, .POS_INT_STATUS]

theorem positionCheck_block {k : RKey} (hreact : k.reg ∉ reactionRegs) (hcheck : k.reg ∉ checkRegs) : block k (s.positionCheck n) = block k s := by
  have hreg : ∀ (t : State) (f : Fld) v i j, f.reg ∈ checkRegs → block k (t.setFld f v i j) = block k t := fun t f v i j hf =>
    block_setFld t f v i j (fun hk => hcheck (hk ▸ hf))
  unfold State.positionCheck
  extract_lets i m d far run s1
  have hs1 : block k s1 = block k s := by
    unfold s1
    rw [State.setFldS, hreg _ _ _ _ _ (by decide), hreg _ _ _ _ _ (by decide)]
  split
  · rfl
  · split
    · exact ((raiseBlind_block k hreact id).raise _ _ _ _ _ _ _).trans ((hreg _ _ _ _ _ (by decide)).trans hs1)
    · exact hs1

@[simp] theorem positionCheck_pwms : (s.positionCheck n).pwms = s.pwms :=
  congrArg Prod.fst (positionCheck_block s n (k := ⟨.PWM_STATUS, 0, 0⟩) (by decide) (by decide))

@[simp] theorem bump_pwms (f : Fld) (i j v : Nat) : (s.bump f i j v).pwms = s.pwms := rfl

@[simp] theorem latchPosition_pwms : (s.latchPosition b).pwms = s.pwms := by
  unfold State.latchPosition
  dsimp only
  split
  · rw [positionCheck_pwms, State.setSens_pwms]
  · exact State.setSens_pwms s b _

@[simp] theorem beginConv_pwms (c : Conv) (wait : Nat) : (s.beginConv n c wait).pwms = s.pwms := rfl

@[simp] theorem beginFrame_pwms (restarted : Bool) : (s.beginFrame b restarted).pwms = s.pwms := by
  unfold State.beginFrame
  extract_lets x delay e s1 s2
  have hs2 : s2.pwms = s.pwms := by
    unfold s2
    split
    · exact latchPosition_pwms s1 b
    · rfl
  rw [← hs2]
  refine foldl_reading (π := State.pwms) _ _ (fun _ _ => ?_) s2
  rfl

@[simp] theorem abortConv_pwms : (s.abortConv n).pwms = s.pwms := by
  unfold State.abortConv
  split
  · rfl
  · split
    · refine foldl_reading (π := State.pwms) _ _ (fun t k => ?_) _
      dsimp only
      split
      · split
        · rw [bump_pwms, State.setAdc_pwms]
        · rfl
      · rw [State.setAdc_pwms]
    · rw [bump_pwms, State.setAdc_pwms]
    · rw [bump_pwms, State.setAdc_pwms]

@[simp] theorem timelineStart_pwms (adcs : List Nat) (frame : Bool) : (s.timelineStart b adcs frame).pwms = s.pwms := by
  unfold State.timelineStart
  extract_lets busy hold
  split
  · split
    · refine foldl_reading (π := State.pwms) _ _ (fun _ _ => ?_) _
      rfl
    · rw [beginFrame_pwms]
      exact foldl_reading (π := State.pwms) _ _ abortConv_pwms _
  · refine foldl_reading (π := State.pwms) _ _ (fun t k => ?_) _
    split
    · rfl
    · rw [beginConv_pwms, abortConv_pwms]

theorem pwm_of_pwms {s t : State} (h : t.pwms = s.pwms) (b : Nat) : t.pwm b = s.pwm b := congrArg (fun l => Table.at ({} : Pwm) l b) h

theorem tlAdcStart_fires (s : State) (b : Fin 2) (k : Fin 32) (t0 : Nat) (h : SlotDue s b k 1 t0) :
    ∃ t, exec (.tlAdcStart b k) s = .next t ∧ (t.pwm b).fired = k.val :: (s.pwm b).fired := by
  show ∃ t, Host.Outcome.next (s.tlFire b k 1 _) = .next t ∧ _
  rw [h.tlFire]
  refine ⟨_, rfl, ?_⟩
  extract_lets arg frame latch s1 sens s2 again adcs
  have hs2 : s2.pwms = (noteFired s b k).pwms := by
    unfold s2 s1
    split
    · rw [State.setSens_pwms, latchPosition_pwms]
    · rfl
  have hfired : (s2.pwm b).fired = k.val :: (s.pwm b).fired := by rw [pwm_of_pwms hs2, noteFired_fired]
  split
  · rw [pwm_of_pwms (timelineStart_pwms _ _ _ _), hfired]
  · exact hfired

/-! #### DS_MARK (R238, R311, R312) -/

@[simp] theorem shuntWindow_pwms (w close : Nat) (stream : List Bool) : (s.shuntWindow b w close stream).pwms = s.pwms := by
  unfold State.shuntWindow
  dsimp only
  split <;> rfl

/-- Marks 0 and 2 are the even ones of the mark's two bits. -/
theorem bits_low_of_pair (v : Nat) : bits v 5 4 % 2 = bits v 4 4 := by
  simp only [bits, Nat.reduceAdd, Nat.reduceSub, Nat.reducePow]
  omega

theorem tlDsMark_fires (s : State) (b : Fin 2) (k : Fin 32) (t0 : Nat) (st : List Bool) (h : SlotDue s b k 2 t0) :
    ∃ t, exec (.tlDsMark b k st) s = .next t ∧ (t.pwm b).fired = k.val :: (s.pwm b).fired ∧
      (bits (s.fld F.PWM_TL_ACT_ARG b k) 3 0 = 1 + 6 * b.val → s.pdOn 8 = true → bits (s.fld F.PWM_TL_ACT_ARG b k) 4 4 = 0 →
        (t.sens b).openMark.at 0 (bits (s.fld F.PWM_TL_ACT_ARG b k) 5 4) = 8 * (t0 / 8) + 1) := by
  show ∃ t, Host.Outcome.next (s.tlFire b k 2 _) = .next t ∧ _
  rw [h.tlFire]
  refine ⟨_, rfl, ?_, fun hch hpd heven => ?_⟩
  · dsimp only
    split
    · exact noteFired_fired s b k
    · split
      · exact noteFired_fired s b k
      · rw [pwm_of_pwms (shuntWindow_pwms _ _ _ _ _), noteFired_fired]
  · have hpd' : (noteFired s b k).pdOn 8 = true := hpd
    have hch' : bits ((noteFired s b k).fld F.PWM_TL_ACT_ARG b k) 3 0 = 1 + 6 * b.val := hch
    have hmark : bits ((noteFired s b k).fld F.PWM_TL_ACT_ARG b k) 5 4 % 2 = 0 := (bits_low_of_pair _).trans heven
    simp only [hpd', hch', hmark, ne_eq, not_true_eq_false, Bool.not_true, Bool.false_eq_true, or_self, if_false, if_true, State.sens_setSens]
    exact Table.at_setAt_same _ _ _ _

/-! #### CAPTURE (R238, R326) -/

/-- The values of a CAPTURE beside the position, as `execTlCapture` stores them. -/
def captureTime (s : State) (b r t : Nat) : State :=
  let unread := s.flag F.PWM_CAP_INFO_VALID b r
  let s := s.setFld F.PWM_CAP_TS_LO_TS (s.ts % 2 ^ 32) b r
  let s := { s with capHi := s.capHi.setAt 0 (8 * b + r) (s.ts / 2 ^ 32) }
  let s := (s.setFlag F.PWM_CAP_INFO_VALID true b r).setFld F.PWM_CAP_INFO_COUNT (t / 8) b r
  let s := s.setFld F.PWM_CAP_INFO_SEQ (s.fld F.PWM_PERIOD_SEQ_SEQ b % 1024) b r
  if unread then (s.setFlag F.PWM_CAP_INFO_OVR true b r).setFlag F.PWM_INT_STATUS_CAP_OVR true b else s

/-- The position of a CAPTURE with LATCH_POS (R326, R345). -/
def capturePosition (s : State) (b r : Nat) : State :=
  let n := s.slotOfBridge b
  let s := if (s.bridgesOfSlot n).head? == some b then s.positionCheck n else s
  s.setFld F.PWM_CAP_POS_POS32 (s.latchOf n).pos b r

theorem tlCapture_eq (s : State) (b : Fin 2) (k : Fin 32) {t0 : Nat} (h : SlotDue s b k 3 t0) :
    exec (.tlCapture b k) s = .next (
      let s' := captureTime (noteFired s b k) b (bits (s.fld F.PWM_TL_ACT_ARG b k) 2 0) t0
      if bits (s.fld F.PWM_TL_ACT_ARG b k) 8 8 = 1 then capturePosition s' b (bits (s.fld F.PWM_TL_ACT_ARG b k) 2 0) else s') := by
  show Host.Outcome.next (s.tlFire b k 3 _) = _
  rw [h.tlFire]
  rfl

theorem setFld_ts (f : Fld) (v i j : Nat) : (s.setFld f v i j).ts = s.ts := rfl

@[simp] theorem captureTime_pwms (r t : Nat) : (captureTime s b r t).pwms = s.pwms := by
  unfold captureTime
  extract_lets unread s1 s2 s3 s4
  have hhigh : s2.pwms = s1.pwms := rfl
  rw [apply_ite State.pwms, State.setFlag_pwms, State.setFlag_pwms, ite_self]
  unfold s4 s3
  rw [State.setFld_pwms, State.setFld_pwms, State.setFlag_pwms, hhigh]
  exact State.setFld_pwms s _ _ _ _

theorem captureTime_capHi (r t : Nat) : (captureTime s b r t).capHi.at 0 (8 * b + r) = s.ts / 2 ^ 32 := by
  have hset : (captureTime s b r t).capHi = s.capHi.setAt 0 (8 * b + r) (s.ts / 2 ^ 32) := by
    unfold captureTime
    extract_lets unread s1 s2 s3 s4
    have hstored : s4.capHi = s1.capHi.setAt 0 (8 * b + r) (s1.ts / 2 ^ 32) := rfl
    rw [apply_ite State.capHi, State.setFlag_capHi, State.setFlag_capHi, ite_self, hstored]
    unfold s1
    rw [setFld_ts, State.setFld_capHi]
  rw [hset, Table.at_setAt_same]

/-- The upper word of a capture stands in no register that a program writes. -/
theorem fld_withCapHi (x : Table Nat Nat) (f : Fld) (i j : Nat) : State.fld { s with capHi := x } f i j = s.fld f i j := rfl

/-- VALID is the top bit of its register: the fields below it leave it as it is. -/
theorem fld_valid_setFld (f : Fld) (v i j : Nat) (hreg : f.reg = .PWM_CAP_INFO) (hword : f.lo ≤ f.hi + 1) (hbelow : f.hi < 31) :
    (s.setFld f v i j).fld F.PWM_CAP_INFO_VALID i j = s.fld F.PWM_CAP_INFO_VALID i j :=
  State.fld_setFld_sameReg s f F.PWM_CAP_INFO_VALID v i j ⟨hword, by omega⟩ ⟨by decide, by decide⟩ hreg.symm (Or.inl hbelow)

theorem captureTime_valid (r t : Nat) : (captureTime s b r t).fld F.PWM_CAP_INFO_VALID b r = 1 := by
  have hset : ∀ s : State, (s.setFld F.PWM_CAP_INFO_VALID (b2n true) b r).fld F.PWM_CAP_INFO_VALID b r = 1 := fun s =>
    State.fld_setFld s F.PWM_CAP_INFO_VALID _ b r ⟨by decide, by decide⟩
  unfold captureTime
  dsimp only
  split
  · simp (disch := decide) only [State.setFlag, fld_setFld_of_reg_ne, fld_valid_setFld, hset]
  · simp (disch := decide) only [State.setFlag, fld_valid_setFld, hset]

theorem captureTime_ts (r t : Nat) : (captureTime s b r t).fld F.PWM_CAP_TS_LO_TS b r = s.ts % 2 ^ 32 := by
  have hset : (s.setFld F.PWM_CAP_TS_LO_TS (s.ts % 2 ^ 32) b r).fld F.PWM_CAP_TS_LO_TS b r = s.ts % 2 ^ 32 :=
    (State.fld_setFld s F.PWM_CAP_TS_LO_TS _ b r ⟨by decide, by decide⟩).trans (Nat.mod_mod _ _)
  unfold captureTime
  dsimp only
  split
  · simp (disch := decide) only [State.setFlag, fld_setFld_of_reg_ne, fld_withCapHi, hset]
  · simp (disch := decide) only [State.setFlag, fld_setFld_of_reg_ne, fld_withCapHi, hset]

theorem capturePosition_block (r : Nat) {k : RKey} (hreact : k.reg ∉ reactionRegs) (hcheck : k.reg ∉ checkRegs) (hpos : k.reg ≠ .PWM_CAP_POS) :
    block k (capturePosition s b r) = block k s := by
  unfold capturePosition
  dsimp only
  rw [block_setFld _ _ _ _ _ hpos]
  split
  · exact positionCheck_block s _ hreact hcheck
  · rfl

theorem fld_of_block {s t : State} {f : Fld} {i j : Nat} (h : block ⟨f.reg, i, j⟩ t = block ⟨f.reg, i, j⟩ s) : t.fld f i j = s.fld f i j :=
  congrArg (fun p : Table Nat Pwm × Table Nat Nat × Word => bits p.2.2.toNat f.hi f.lo) h

theorem tlCapture_fires (s : State) (b : Fin 2) (k : Fin 32) (t0 : Nat) (h : SlotDue s b k 3 t0) :
    ∃ t, exec (.tlCapture b k) s = .next t ∧ (t.pwm b).fired = k.val :: (s.pwm b).fired ∧
      t.flag F.PWM_CAP_INFO_VALID b (bits (s.fld F.PWM_TL_ACT_ARG b k) 2 0) = true ∧
      t.fld F.PWM_CAP_TS_LO_TS b (bits (s.fld F.PWM_TL_ACT_ARG b k) 2 0) = s.ts % 2 ^ 32 ∧
      t.capHi.at 0 (8 * b.val + bits (s.fld F.PWM_TL_ACT_ARG b k) 2 0) = s.ts / 2 ^ 32 := by
  have hts : (noteFired s b k).ts = s.ts := rfl
  refine ⟨_, tlCapture_eq s b k h, ?_⟩
  generalize bits (s.fld F.PWM_TL_ACT_ARG b k) 2 0 = r
  dsimp only
  have hkept : ∀ R : Reg, R ∉ reactionRegs → R ∉ checkRegs → R ≠ .PWM_CAP_POS →
      block ⟨R, b, r⟩ (if bits (s.fld F.PWM_TL_ACT_ARG b k) 8 8 = 1 then capturePosition (captureTime (noteFired s b k) b r t0) b r
        else captureTime (noteFired s b k) b r t0) = block ⟨R, b, r⟩ (captureTime (noteFired s b k) b r t0) := fun R hreact hcheck hpos => by
    split
    · exact capturePosition_block _ _ _ hreact hcheck hpos
    · rfl
  generalize (if bits (s.fld F.PWM_TL_ACT_ARG b k) 8 8 = 1 then capturePosition (captureTime (noteFired s b k) b r t0) b r
    else captureTime (noteFired s b k) b r t0) = t at hkept ⊢
  have hinfo := hkept .PWM_CAP_INFO (by decide) (by decide) (by decide)
  have hlow := hkept .PWM_CAP_TS_LO (by decide) (by decide) (by decide)
  obtain ⟨hpwms, hrest⟩ := Prod.mk.inj hinfo
  obtain ⟨hhigh, -⟩ := Prod.mk.inj hrest
  refine ⟨?_, ?_, ?_, ?_⟩
  · rw [pwm_of_pwms (hpwms.trans (captureTime_pwms _ _ _ _)), noteFired_fired]
  · rw [State.flag, beq_iff_eq]
    exact (fld_of_block hinfo).trans (captureTime_valid _ _ _ _)
  · exact (fld_of_block hlow).trans ((captureTime_ts _ _ _ _).trans (by rw [hts]))
  · rw [hhigh, captureTime_capHi, hts]

/-! #### ENGINE_EVENT (R180, R238) -/

/-- An event is raised in an engine and not taken yet. -/
def EventPending (s : State) (c bit : Nat) : Prop := bits (s.engine c).evPend bit bit = 1

theorem bits_eq_testBit (v k : Nat) : bits v k k = (v.testBit k).toNat := by
  rw [Nat.testBit_eq_decide_div_mod_eq, bits, Nat.add_sub_cancel_left, Nat.pow_one]
  rcases Nat.mod_two_eq_zero_or_one (v / 2 ^ k) with h | h <;> rw [h] <;> rfl

theorem bits_or_pow (v k : Nat) : bits (v ||| 2 ^ k) k k = 1 := by
  rw [bits_eq_testBit, Nat.testBit_or, Nat.testBit_two_pow_self, Bool.or_true, Bool.toNat_true]

/-- An event raised in a running engine is pending there (R181). -/
theorem eventPending_raiseEvent_self {s : State} {c : Nat} (bit info : Nat) (hon : s.isOn .engine c = true) :
    EventPending (s.raiseEvent c bit info) c bit := by
  have hengine : ∀ e : Engine, e.evPend = (s.engine c).evPend ||| 2 ^ bit → bits ((s.setEngine c e).engine c).evPend bit bit = 1 := fun e he => by
    rw [State.engine_setEngine, he, bits_or_pow]
  unfold EventPending State.raiseEvent
  simp only [hon, Bool.true_or, Bool.not_true, Bool.false_eq_true, if_false]
  split
  · exact hengine _ rfl
  · exact hengine _ rfl

/-- An event that is pending stays so as the event is raised elsewhere, or again (R181). -/
theorem EventPending.raiseEvent {s : State} {c bit : Nat} (h : EventPending s c bit) (c' info : Nat) : EventPending (s.raiseEvent c' bit info) c bit := by
  by_cases hon : (s.isOn .engine c' || s.isStopping .engine c') = true
  · have hengine : ∀ e : Engine, e.evPend = (s.engine c').evPend ||| 2 ^ bit → bits ((s.setEngine c' e).engine c).evPend bit bit = 1 := fun e he => by
      by_cases hc : c = c'
      · rw [hc, State.engine_setEngine, he, bits_or_pow]
      · rw [State.engine_setEngine_other _ _ _ _ hc]
        exact h
    unfold EventPending State.raiseEvent
    simp only [hon, Bool.not_true, Bool.false_eq_true, if_false]
    split
    · exact hengine _ rfl
    · exact hengine _ rfl
  · unfold State.raiseEvent
    rw [if_pos (by simpa using hon)]
    exact h

/-- An event raised in every engine of a list that a test selects is pending in each of them that runs. -/
theorem eventPending_foldl (p : Nat → Prop) [DecidablePred p] (bit info : Nat) {c : Nat} (hp : p c) (l : List Nat) (hc : c ∈ l) (s : State)
    (hon : s.isOn .engine c = true) : EventPending (l.foldl (fun s c => if p c then s.raiseEvent c bit info else s) s) c bit := by
  have hkept : ∀ (l : List Nat) (s : State), EventPending s c bit → EventPending (l.foldl (fun s c => if p c then s.raiseEvent c bit info else s) s) c bit :=
    fun l s h => List.foldlRecOn (motive := fun t => EventPending t c bit) l _ h (fun t ht d _ => by
      split
      · exact ht.raiseEvent d info
      · exact ht)
  induction l generalizing s with
  | nil => exact absurd hc List.not_mem_nil
  | cons d l ih =>
    rw [List.foldl_cons]
    rcases List.mem_cons.mp hc with rfl | hc
    · rw [if_pos hp]
      exact hkept l _ (eventPending_raiseEvent_self bit info hon)
    · refine ih hc _ ?_
      split
      · rw [State.isOn, State.lc, raiseEvent_lcs]
        exact hon
      · exact hon

theorem eventBlind_pwms : EventBlind State.pwms := ⟨fun _ _ _ => rfl, fun _ _ _ => rfl⟩

theorem tlEngineEvent_fires (s : State) (b : Fin 2) (k : Fin 32) (t0 : Nat) (h : SlotDue s b k 4 t0) :
    ∃ t, exec (.tlEngineEvent b k) s = .next t ∧ (t.pwm b).fired = k.val :: (s.pwm b).fired ∧
      ∀ c : Fin 8, bits (s.fld F.PWM_TL_ACT_ARG b k) c c = 1 → s.isOn .engine c = true → bits (t.engine c).evPend (7 + b.val) (7 + b.val) = 1 := by
  show ∃ t, Host.Outcome.next (s.tlFire b k 4 _) = .next t ∧ _
  rw [h.tlFire]
  refine ⟨_, rfl, ?_, fun c harg hon => ?_⟩
  · refine (congrArg Pwm.fired (pwm_of_pwms (foldl_reading (π := State.pwms) _ _ (fun t c => ?_) _) b)).trans (noteFired_fired s b k)
    split
    · exact eventBlind_pwms.raiseEvent _ _ _ _
    · rfl
  · exact eventPending_foldl (fun c => bits (s.fld F.PWM_TL_ACT_ARG b k) c c = 1) _ _ harg _ (List.mem_range.mpr c.isLt) _ hon

end Sys2Proof.PwmTimelines

/-! ### The wrap of a bridge's counter (R208, R229, R233, R235, R240) -/

namespace Sys2Proof.PwmTimelines

open Sys2Proof.Machine Sys2Proof.FieldControl Sys2Proof.FluxAtlas

/-- PERIOD_SEQ of a bridge, and what of its block belongs to the period and to the stop sequence alone. -/
def periodView (b : Nat) (s : State) : Word × Nat × Nat × List Nat × Bool :=
  (s.reg ⟨.PWM_PERIOD_SEQ, b, 0⟩, (s.pwm b).stopPhase, (s.pwm b).wrapAt, (s.pwm b).fired, (s.pwm b).midDone)

variable {b : Nat} (s : State)

theorem periodView_setFld (f : Fld) (v i j : Nat) (hf : f.reg ≠ .PWM_PERIOD_SEQ) : periodView b (s.setFld f v i j) = periodView b s := by
  unfold periodView
  rw [State.reg_setFld_other s f v i j _ (fun hk => hf (congrArg RKey.reg hk).symm)]
  rfl

theorem periodView_setReg (k : RKey) (w : Word) (hk : k.reg ≠ .PWM_PERIOD_SEQ) : periodView b (s.setReg k w) = periodView b s := by
  unfold periodView
  rw [State.reg_setReg_other s k _ w (fun he => hk (congrArg RKey.reg he).symm)]
  rfl

/-- A write of the block that leaves the period's own values is not seen. -/
theorem periodView_setPwm (x : Pwm) (hstop : x.stopPhase = (s.pwm b).stopPhase) (hwrap : x.wrapAt = (s.pwm b).wrapAt) (hfired : x.fired = (s.pwm b).fired)
    (hmid : x.midDone = (s.pwm b).midDone) : periodView b (s.setPwm b x) = periodView b s := by
  unfold periodView
  rw [State.pwm_setPwm, hstop, hwrap, hfired, hmid]
  rfl

theorem demandBlind_periodView : DemandBlind b (periodView b) where
  toRaiseBlind := raiseBlind_block ⟨.PWM_PERIOD_SEQ, b, 0⟩ (show Reg.PWM_PERIOD_SEQ ∉ reactionRegs by decide)
    (fun p => let x : Pwm := Table.at {} p.1 b; (p.2.2, x.stopPhase, x.wrapAt, x.fired, x.midDone))
  pwm s x h := by
    have hx : ∀ {γ : Type} (ρ : Pwm → γ), ρ (schedule x).1 = ρ (schedule (s.pwm b)).1 := fun ρ => by rw [h]
    exact periodView_setPwm s x (hx Pwm.stopPhase) (hx Pwm.wrapAt) (hx Pwm.fired) (hx Pwm.midDone)
  conflict s n := periodView_setFld s _ _ _ _ (by decide)
  setCh s c y := periodView_setPwm s _ rfl rfl rfl rfl
  pulse s f v i j hf := periodView_setFld s f v i j (fun h => absurd (h ▸ hf) (by decide))

theorem periodView_setSat (n : Nat) (x : Sat) : periodView b (s.setSat n x) = periodView b s := rfl
theorem periodView_setSens (n : Nat) (x : BridgeSensing) : periodView b (s.setSens n x) = periodView b s := rfl

theorem periodView_takeEffect (a z n : Nat) : periodView b (s.takeEffect a z n) = periodView b s := rfl

/-! #### The period that ends -/

theorem periodView_noteSkips : periodView b (s.noteSkips b) = periodView b s := by
  unfold State.noteSkips
  split
  · exact periodView_setFld s _ _ _ _ (by decide)
  · rfl

theorem periodView_writeMeas (n : Nat) (stale event : Bool) : periodView b (s.writeMeas n stale event) = periodView b s := by
  unfold State.writeMeas
  extract_lets x bytes
  refine foldl_reading (π := periodView b) _ _ (fun t c => ?_) s
  dsimp only
  split
  · split
    · exact demandBlind_periodView.raiseEvent _ _ _ _
    · rfl
  · rfl

theorem periodView_satPeriod (n : Nat) : periodView b (s.satPeriod n) = periodView b s := by
  unfold State.satPeriod
  extract_lets x c c' hit s1 s2 s3
  have hs2 : periodView b s2 = periodView b s := (periodView_setSat s1 _ _).trans (periodView_setFld s _ _ _ _ (by decide))
  have hs3 : periodView b s3 = periodView b s := by
    unfold s3 State.satFault
    split
    · rw [demandBlind_periodView.raise, State.setFlag, periodView_setFld _ _ _ _ _ (by decide), hs2]
    · exact hs2
  split
  · rw [periodView_writeMeas, hs3]
  · exact hs3

theorem periodView_shuntPeriod : periodView b (s.shuntPeriod b) = periodView b s := by
  unfold State.shuntPeriod
  extract_lets x w1 w2 both s1 s2 s3 s4 s5
  have hs1 : periodView b s1 = periodView b s := periodView_setSens s _ _
  have hs5 : periodView b s5 = periodView b s := by
    unfold s5 s4 s3 s2
    split <;> simp (disch := decide) only [State.setFldS, State.setFlag, periodView_setFld, hs1]
  split <;> simp (disch := decide) only [State.bump, periodView_setFld, hs5]

theorem periodView_tripPeriod : periodView b (s.tripPeriod b) = periodView b s := by
  unfold State.tripPeriod
  extract_lets x n src s1 s2
  have hsrc : ∀ t, periodView b (src t) = periodView b t := fun t => by
    simp (disch := decide) only [src, periodView_setFld]
  have hs2 : periodView b s2 = periodView b s := by
    simp (disch := decide) only [s2, s1, State.bump, periodView_setFld, hsrc]
    exact periodView_setPwm s _ rfl rfl rfl rfl
  split
  · split
    · rw [demandBlind_periodView.raise, State.setFlag, periodView_setFld _ _ _ _ _ (by decide), hs2]
    · exact hs2
  · rw [hsrc, periodView_setFld _ _ _ _ _ (by decide)]

theorem periodView_bootPeriod (k : Nat) : periodView b (s.bootPeriod b k) = periodView b s := periodView_setPwm s _ rfl rfl rfl rfl

/-- The accounts of a period that ends leave PERIOD_SEQ and the stop sequence as they are (R208, R229, R235, R272, R313). -/
theorem periodView_endPeriod : periodView b (s.endPeriod b) = periodView b s := by
  unfold State.endPeriod
  extract_lets s1 s2 s3 s4 keep
  have hs2 : periodView b s2 = periodView b s := (foldl_reading _ _ periodView_satPeriod s1).trans (periodView_noteSkips s)
  have hs3 : periodView b s3 = periodView b s := by rw [← hs2]; exact (periodView_tripPeriod _).trans (periodView_shuntPeriod s2)
  have hs4 : periodView b s4 = periodView b s := (foldl_reading _ _ periodView_bootPeriod s3).trans hs3
  rw [← hs4]
  refine foldl_reading (π := periodView b) _ _ (fun t c => ?_) s4
  exact periodView_setPwm t _ rfl rfl rfl rfl

/-! #### The period that begins -/

/-- PERIOD_SEQ of a bridge as it is stored. -/
def seqReg (b : Nat) (s : State) : Word := s.reg ⟨.PWM_PERIOD_SEQ, b, 0⟩

theorem periodView_setPwm_new (x : Pwm) : periodView b (s.setPwm b x) = (seqReg b s, x.stopPhase, x.wrapAt, x.fired, x.midDone) := by
  unfold periodView
  rw [State.pwm_setPwm]
  rfl

theorem stopPhase_of_periodView {s t : State} (h : periodView b t = periodView b s) : (t.pwm b).stopPhase = (s.pwm b).stopPhase :=
  congrArg (fun p : Word × Nat × Nat × List Nat × Bool => p.2.1) h

theorem seqReg_of_periodView {s t : State} (h : periodView b t = periodView b s) : seqReg b t = seqReg b s := congrArg Prod.fst h

theorem seqReg_setFld (f : Fld) (v i j : Nat) (hf : f.reg ≠ .PWM_PERIOD_SEQ) : seqReg b (s.setFld f v i j) = seqReg b s :=
  seqReg_of_periodView (periodView_setFld s f v i j hf)

theorem seqReg_setPwm (c : Nat) (x : Pwm) : seqReg b (s.setPwm c x) = seqReg b s := rfl

theorem seqReg_takeSet (c : Nat) (g : PwmSet) : seqReg b (s.takeSet c g) = seqReg b s := by
  unfold State.takeSet
  extract_lets x x1 s1 s2
  have hs2 : seqReg b s2 = seqReg b s1 := by
    unfold s2
    split
    · exact seqReg_setFld _ _ _ _ _ (by decide)
    · rfl
  rw [State.setFlag, seqReg_setFld _ _ _ _ _ (by decide), seqReg_setFld _ _ _ _ _ (by decide), hs2]
  exact seqReg_setPwm s _ _

theorem seqReg_wrapUpdate (c t : Nat) : seqReg b (s.wrapUpdate c t) = seqReg b s := by
  unfold State.wrapUpdate
  split
  · rfl
  · extract_lets
    split
    · exact seqReg_takeSet s _ _
    · rfl

theorem seqReg_followA (whole : Bool) : seqReg b (s.followA whole) = seqReg b s := by
  unfold State.followA
  extract_lets old new s1
  have hs1 : seqReg b s1 = seqReg b s := seqReg_setFld s _ _ _ _ (by decide)
  split
  · rfl
  · split
    · exact hs1
    · rw [← hs1]
      refine foldl_reading (π := seqReg b) _ _ (fun t c => ?_) s1
      exact seqReg_setPwm t _ _

theorem seqReg_floatAll (c : Nat) : seqReg b (s.floatAll c) = seqReg b s := by
  refine foldl_reading (π := seqReg b) _ _ (fun t c => ?_) s
  exact seqReg_setPwm t _ _

theorem seqReg_leaveSafe (c : Nat) : seqReg b (s.leaveSafe c) = seqReg b s := by
  unfold State.leaveSafe
  extract_lets y s1 s2 s3
  have hs3 : seqReg b s3 = seqReg b s := by
    unfold s3
    split
    · rfl
    · exact seqReg_floatAll s2 c
  split
  · rfl
  · rw [← hs3]
    exact (seqReg_of_periodView (demandBlind_periodView.safeEvent _ _)).trans (seqReg_setPwm s3 _ _)

theorem seqReg_resyncGates (c : Nat) : seqReg b (s.resyncGates c) = seqReg b s := by
  unfold State.resyncGates
  extract_lets x
  split
  · refine foldl_reading (π := seqReg b) _ _ (fun t c => ?_) (s.setPwm c _)
    rfl
  · rfl

theorem periodView_loadTimeline : periodView b (s.loadTimeline b) = periodView b s := by
  unfold State.loadTimeline
  extract_lets s1 own
  have hs1 : periodView b s1 = periodView b s := rfl
  rw [← hs1]
  refine foldl_reading (π := periodView b) _ _ (fun t k => ?_) s1
  exact (periodView_setReg _ _ _ (show Reg.PWM_TL_ACT ≠ _ by decide)).trans (periodView_setReg _ _ _ (show Reg.PWM_TL_TIME ≠ _ by decide))

theorem periodView_takeGains : periodView b (s.takeGains b) = periodView b s := by
  unfold State.takeGains
  refine foldl_reading (π := periodView b) _ _ (fun t n => ?_) s
  split
  · rfl
  · exact periodView_setFld t F.HKEEP_ADC_GAIN_CORR _ n 0 (by decide)

theorem periodView_bootDue (k : Nat) : periodView b (s.bootDue b k) = periodView b s := by
  unfold State.bootDue
  extract_lets x l
  split
  · exact periodView_setPwm s _ rfl rfl rfl rfl
  · rfl

theorem periodView_reloaded : periodView b (s.setPwm b { s.pwm b with tlReload := false }) = periodView b s := periodView_setPwm s _ rfl rfl rfl rfl

/-- The timeline that a record has brought comes into force (R239, R242). -/
theorem periodView_tlReload (a z : Nat) :
    periodView b (if (s.pwm b).tlReload then
      (((s.takeEffect a z b).loadTimeline b).setPwm b { ((s.takeEffect a z b).loadTimeline b).pwm b with tlReload := false }) else s) = periodView b s := by
  split
  · rw [periodView_reloaded, periodView_loadTimeline, periodView_takeEffect]
  · rfl

theorem periodView_beginPeriod (t : Nat) :
    ∃ stop, periodView b (s.beginPeriod b t) = (seqReg b s, stop, t, [], false) := by
  unfold State.beginPeriod
  extract_lets whole s1 s2 z s3 s4 x again cuts s5 s6 y s7 s8 z' s9 s10 s11 s12
  have hs3 : seqReg b s3 = seqReg b s := by
    have hs2 : seqReg b s2 = seqReg b s := by
      rw [← seqReg_wrapUpdate s b t]
      unfold s2
      split
      · exact seqReg_followA s1 _
      · rfl
    unfold s3
    split
    · exact (seqReg_setPwm _ _ _).trans ((seqReg_floatAll s2 b).trans hs2)
    · exact hs2
  have hs6 : seqReg b s6 = seqReg b s := by
    rw [← hs3, ← seqReg_leaveSafe s3 b]
    refine (seqReg_resyncGates s5 b).trans (foldl_reading (π := seqReg b) _ _ (fun t k => ?_) s4)
    exact seqReg_setPwm t _ _
  have hs7 : periodView b s7 = (seqReg b s, y.stopPhase, t, [], false) := by
    unfold s7
    rw [periodView_setPwm_new, hs6]
  have hs8 : periodView b s8 = periodView b s7 := periodView_setFld s7 _ _ _ _ (by decide)
  have hs9 : periodView b s9 = periodView b s8 := periodView_tlReload s8 _ _
  have hs11 : periodView b s11 = periodView b s9 :=
    (foldl_reading _ _ (fun t c => demandBlind_periodView.startDemand t c _) s10).trans (periodView_takeGains s9)
  have hs12 : periodView b s12 = periodView b s11 := foldl_reading _ _ periodView_bootDue s11
  exact ⟨y.stopPhase, by rw [periodView_noteSkips, hs12, hs11, hs9, hs8, hs7]⟩

/-! #### The wrap (R208, R240) -/

theorem fld_of_seqReg {s t : State} (h : seqReg b t = seqReg b s) : t.fld F.PWM_PERIOD_SEQ_SEQ b = s.fld F.PWM_PERIOD_SEQ_SEQ b :=
  congrArg (fun w : Word => bits w.toNat 31 0) h

/-- A counter that stops has its gates switched off, and nothing else is written than the block and the lanes. -/
theorem pwmHalt_reading {α : Type} {π : State → α} (hlane : ∀ t n v, π (State.setLane t n v) = π t) :
    π (s.pwmHalt b) = π (s.setPwm b { s.pwm b with running := false, stopPhase := 0, gates := [], pending := none, immediate := none }) := by
  unfold State.pwmHalt
  extract_lets x s1
  split
  · exact foldl_reading _ _ (fun t n => hlane t n false) s1
  · rfl

theorem pwmHalt_stops : ((s.pwmHalt b).pwm b).running = false ∧ ((s.pwmHalt b).pwm b).stopPhase = 0 ∧ seqReg b (s.pwmHalt b) = seqReg b s := by
  have hpwm := pwmHalt_reading s (b := b) (π := fun t => t.pwm b) (fun t n v => setLane_pwm t b n v)
  rw [State.pwm_setPwm] at hpwm
  exact ⟨by rw [hpwm], by rw [hpwm], (pwmHalt_reading s (π := seqReg b) (fun _ _ _ => rfl)).trans (seqReg_setPwm s _ _)⟩

theorem pwmWrap_acts (s : State) (b : Fin 2) (t0 : Nat) (h : s.wrapDue b = some t0) :
    ∃ t, exec (.pwmWrap b) s = .next t ∧ t.fld F.PWM_PERIOD_SEQ_SEQ b = (s.fld F.PWM_PERIOD_SEQ_SEQ b + 1) % 2 ^ 32 ∧
      (if (s.pwm b).stopPhase = 2 then (t.pwm b).running = false ∧ (t.pwm b).stopPhase = 0
       else (t.pwm b).wrapAt = t0 ∧ (t.pwm b).fired = [] ∧ (t.pwm b).midDone = false) := by
  obtain ⟨s', hexec, hseq, hstop⟩ : ∃ s' : State, exec (.pwmWrap b) s = .next (if (s'.pwm b).stopPhase = 2 then s'.pwmHalt b else s'.beginPeriod b t0) ∧
      s'.fld F.PWM_PERIOD_SEQ_SEQ b = (s.fld F.PWM_PERIOD_SEQ_SEQ b + 1) % 2 ^ 32 ∧ (s'.pwm b).stopPhase = (s.pwm b).stopPhase := by
    have hend := periodView_endPeriod (b := b) s
    refine ⟨(s.endPeriod b).setFld F.PWM_PERIOD_SEQ_SEQ (((s.endPeriod b).fld F.PWM_PERIOD_SEQ_SEQ b + 1) % 2 ^ 32) b, ?_, ?_, ?_⟩
    · show execPwmWrap b s = _
      unfold execPwmWrap
      simp only [h]
    · rw [State.fld_setFld _ F.PWM_PERIOD_SEQ_SEQ _ _ _ ⟨by decide, by decide⟩, fld_of_seqReg (seqReg_of_periodView hend)]
      exact Nat.mod_mod _ _
    · rw [setFld_pwm, stopPhase_of_periodView hend]
  refine ⟨_, hexec, ?_⟩
  rw [← hstop]
  split
  case isTrue =>
    obtain ⟨hrun, hphase, hkept⟩ := pwmHalt_stops s' (b := b)
    exact ⟨(fld_of_seqReg hkept).trans hseq, hrun, hphase⟩
  case isFalse =>
    obtain ⟨stop, hbegin⟩ := periodView_beginPeriod s' (b := b) t0
    obtain ⟨hkept, hview⟩ := Prod.mk.inj hbegin
    obtain ⟨-, hview⟩ := Prod.mk.inj hview
    obtain ⟨hwrap, hview⟩ := Prod.mk.inj hview
    obtain ⟨hfired, hmid⟩ := Prod.mk.inj hview
    exact ⟨(fld_of_seqReg hkept).trans hseq, hwrap, hfired, hmid⟩

/-- Settles O9: a slot that is due fires once, its action keeps the note of that, and the wrap ends one period and begins the next. -/
theorem timelineAndWrapAct : Obligations.TimelineAndWrapAct :=
  ⟨fun s b k t0 hlive hfirst htype hactive htime hreached => tlAdcStart_fires s b k t0 ⟨hlive, hfirst, htype, hactive, htime, hreached⟩,
    fun s b k t0 st hlive hfirst htype hactive htime hreached => tlDsMark_fires s b k t0 st ⟨hlive, hfirst, htype, hactive, htime, hreached⟩,
    fun s b k t0 hlive hfirst htype hactive htime hreached => tlCapture_fires s b k t0 ⟨hlive, hfirst, htype, hactive, htime, hreached⟩,
    fun s b k t0 hlive hfirst htype hactive htime hreached => tlEngineEvent_fires s b k t0 ⟨hlive, hfirst, htype, hactive, htime, hreached⟩,
    pwmWrap_acts⟩

end Sys2Proof.PwmTimelines

/-! ### A fault ceases (R371) -/

namespace Sys2Proof.FluxAtlas

open Sys2Proof.Machine Sys2Proof.FieldControl

variable {α : Type} {π : State → α}

/-- What the ceasing of a fault leaves as it was. -/
theorem RaiseBlind.cease (h : RaiseBlind π) (s : State) (f : FaultName) (unit : Nat) : π (s.cease f unit) = π s := by
  unfold State.cease
  dsimp only
  split
  · rfl
  · rw [h.torqueNote, State.sweepFaults, h.active, h.screeWrite, h.active]

/-- Of the faults of a code and unit none is active after it has ceased. -/
theorem faultActive_cease (s : State) (f : FaultName) (unit : Nat) : (s.cease f unit).faultActive f unit = false := by
  have h := reactionBlind_active
  unfold State.cease
  dsimp only
  split
  case h_1 hnone =>
    rw [List.find?_eq_none] at hnone
    simpa [State.faultActive] using hnone
  case h_2 =>
    unfold State.faultActive
    rw [h.torqueNote, State.sweepFaults]
    dsimp only
    rw [h.screeWrite]
    simp only [List.any_eq_false, List.mem_filter, List.mem_map]
    rintro x ⟨⟨y, -, rfl⟩, -⟩
    split
    · simp
    case isFalse hother => simpa using fun hname hunit => absurd ⟨hname, hunit⟩ hother

/-- The write of a measurement entry reaches engines alone (R186). -/
theorem EventBlind.writeMeas (h : EventBlind π) (s : State) (n : Nat) (stale event : Bool) : π (s.writeMeas n stale event) = π s := by
  unfold State.writeMeas
  extract_lets x bytes
  refine foldl_reading (π := π) _ _ (fun t c => ?_) s
  dsimp only
  split
  · split
    · exact (h.raiseEvent _ _ _ _).trans (h.engine _ _ _)
    · exact h.engine _ _ _
  · rfl

end Sys2Proof.FluxAtlas

/-! ### The records of a leg's satellites (R245 to R248, R260 to R264, R280) -/

namespace Sys2Proof.GateDrive

open Sys2Proof.Machine Sys2Proof.FieldControl Sys2Proof.FluxAtlas

variable (s : State) (n : Nat)

/-! #### What a report leaves of the satellites -/

/-- The satellites' records, the parameters, one register and the lifecycle of one satellite. -/
def satView (k : RKey) (m : Nat) (s : State) : Table Nat Sat × Table PKey Int × Word × Lc := (s.sats, s.params, s.reg k, s.lc .satellite m)

/-- The registers that a fault's reaction writes, or an invalid ΔΣ output. -/
def reportRegs : List Reg := [.ADC_DS_VAL, .ADC_INT_STATUS] ++ reactionRegs

variable {k : RKey} {m : Nat}

theorem satView_setFld (f : Fld) (v i j : Nat) (hf : k.reg ≠ f.reg) : satView k m (s.setFld f v i j) = satView k m s := by
  unfold satView
  rw [State.reg_setFld_other s f v i j k (fun hkey => hf (by rw [hkey]))]
  rfl

theorem raiseBlind_satView (hk : k.reg ∉ reportRegs) : RaiseBlind (satView k m) := by
  have hfld : ∀ (s : State) (f : Fld) (v i : Nat), f.reg ∈ reactionRegs → satView k m (s.setFld f v i) = satView k m s := fun s f v i hf =>
    satView_setFld s f v i 0 (fun hreg => hk (List.mem_append_right _ (hreg ▸ hf)))
  exact {
    ring := fun _ _ _ => rfl
    refused := fun s v i => hfld s _ v i (by decide)
    memory := fun _ _ _ _ => rfl
    msix := fun _ _ => rfl
    lines := fun _ _ => rfl
    engine := fun _ _ _ => rfl
    overrun := fun s b c => hfld s _ (b2n b) c (by decide)
    regs := hfld
    safe := fun _ _ _ => rfl
    lane := fun _ _ _ => rfl
    island := fun _ _ => rfl
    slotStop := fun s i => by
      have hlc : (s.slotFaultStop i).lc .satellite m = s.lc .satellite m := State.lc_setLc_other s _ _ _ _ _ (by simp)
      unfold satView
      rw [hlc]
      rfl
    log := fun _ _ _ _ => rfl
    active := fun _ _ => rfl }

/-- An output that becomes invalid shows in the registers of the ΔΣ outputs and in the faults it raises or ends (R308). -/
theorem satView_dsInvalidate (hk : k.reg ∉ reportRegs) (c : Nat) : satView k m (s.dsInvalidate c) = satView k m s := by
  have hfld : ∀ (t : State) (f : Fld) (v i j : Nat), f.reg ∈ [Reg.ADC_DS_VAL, .ADC_INT_STATUS] → satView k m (t.setFld f v i j) = satView k m t :=
    fun t f v i j hf => satView_setFld t f v i j (fun hreg => hk (List.mem_append_left _ (hreg ▸ hf)))
  have hsense : ∀ (t : State) x, satView k m { t with sense := x } = satView k m t := fun _ _ => rfl
  unfold State.dsInvalidate
  extract_lets d b was s1 _ s2 _ s3
  have hs2 : satView k m s2 = satView k m s := (hsense s1 _).trans (hfld s _ _ _ _ (by decide))
  have hs3 : satView k m s3 = satView k m s := by
    unfold s3
    split
    · exact ((raiseBlind_satView hk).cease _ _ _).trans ((hsense s2 _).trans hs2)
    · exact hs2
  split
  · exact ((raiseBlind_satView hk).raise _ _ _ _ _ _ _).trans ((hfld s3 _ _ _ _ (by decide)).trans hs3)
  · exact hs3

/-- A register that no report writes, to read the rest of `satView` by. -/
def quietReg : RKey := ⟨.GDS_STATUS, 0, 0⟩

theorem satView_iff {s t : State} : satView k m t = satView k m s ↔
    t.sats = s.sats ∧ t.params = s.params ∧ t.reg k = s.reg k ∧ t.lc .satellite m = s.lc .satellite m := by
  simp only [satView, Prod.mk.injEq]

theorem sat_of_satView {s t : State} (h : satView k m t = satView k m s) (i : Nat) : t.sat i = s.sat i := by
  rw [State.sat, (satView_iff.mp h).1]
  rfl

section
variable (f : FaultName) (unit : Nat) (sc : Scope) (info : Nat) (cond : Option Nat) (lasting : Bool)

@[simp] theorem raise_sat (i : Nat) : (s.raise f unit sc info cond lasting).sat i = s.sat i :=
  sat_of_satView ((raiseBlind_satView (k := quietReg) (m := 0) (by decide)).raise s f unit sc info cond lasting) i

@[simp] theorem satFault_sat (i : Nat) : (s.satFault f n lasting).sat i = s.sat i := raise_sat _ _ _ _ _ _ _ _

end

@[simp] theorem dsInvalidate_sat (c i : Nat) : (s.dsInvalidate c).sat i = s.sat i :=
  sat_of_satView (satView_dsInvalidate s (k := quietReg) (m := 0) (by decide) c) i

@[simp] theorem setFld_sat (f : Fld) (v i j d : Nat) : (s.setFld f v i j).sat d = s.sat d := rfl
@[simp] theorem setFlag_sat (f : Fld) (v : Bool) (i j d : Nat) : (s.setFlag f v i j).sat d = s.sat d := rfl
@[simp] theorem bump_sat (f : Fld) (i j by_ d : Nat) : (s.bump f i j by_).sat d = s.sat d := rfl

/-! #### The records after each of the leg's operations -/

theorem partnerSat_ne : partnerSat n ≠ n := by
  unfold partnerSat
  split <;> omega

@[simp] theorem sat_setSat_partner (x : Sat) : (s.setSat n x).sat (partnerSat n) = s.sat (partnerSat n) :=
  State.sat_setSat_other s n _ x (partnerSat_ne n)

@[simp] theorem satRuns_setSat (x : Sat) : (s.setSat n x).satRuns n = (x.resumed && s.isOn .satellite n && !x.applying) := by
  rw [State.satRuns, State.sat_setSat]
  rfl

@[simp] theorem putSat_sat (x : Sat) : (s.putSat n x).sat n = x := by
  unfold State.putSat
  dsimp only
  split
  · rw [dsInvalidate_sat, setFlag_sat, State.sat_setSat]
  · exact State.sat_setSat s n x

theorem viewPartner_eq : ∃ c, s.viewPartner n = s.setSat n { s.sat n with confSince := c } := by
  unfold State.viewPartner
  dsimp only
  split
  · exact ⟨_, rfl⟩
  · exact ⟨_, rfl⟩

/-- Where the satellites of a leg see each other anew, what each knows of the other's confirmation is all that changes (R260, R264). -/
theorem viewLeg_eq : ∃ c d, s.viewLeg n = (s.setSat n { s.sat n with confSince := c }).setSat (partnerSat n) { s.sat (partnerSat n) with confSince := d } := by
  obtain ⟨c, hc⟩ := viewPartner_eq s n
  obtain ⟨d, hd⟩ := viewPartner_eq (s.viewPartner n) (partnerSat n)
  exact ⟨c, d, by rw [State.viewLeg, hd, hc, sat_setSat_partner]⟩

theorem viewLeg_frame : s.viewLeg n = { s with sats := (s.viewLeg n).sats } := by
  obtain ⟨c, d, h⟩ := viewLeg_eq s n
  rw [h]
  rfl

/-- Two operations in turn change satellites alone where each of them does. -/
theorem sats_frame_trans {s t u : State} (ht : t = { s with sats := t.sats }) (hu : u = { t with sats := u.sats }) : u = { s with sats := u.sats } := by
  rw [hu, ht]

theorem viewLeg_setSat_frame (x : Sat) : (s.setSat n x).viewLeg n = { s with sats := ((s.setSat n x).viewLeg n).sats } :=
  sats_frame_trans rfl (viewLeg_frame _ n)

@[simp] theorem viewLeg_now : (s.viewLeg n).now = s.now := by rw [viewLeg_frame]

theorem viewLeg_sat : ∃ c, (s.viewLeg n).sat n = { s.sat n with confSince := c } := by
  obtain ⟨c, d, h⟩ := viewLeg_eq s n
  exact ⟨c, by rw [h, State.sat_setSat_other _ _ _ _ (partnerSat_ne n).symm, State.sat_setSat]⟩

@[simp] theorem viewLeg_partner_req : ((s.viewLeg n).sat (partnerSat n)).req = (s.sat (partnerSat n)).req := by
  obtain ⟨c, d, h⟩ := viewLeg_eq s n
  rw [h, State.sat_setSat]

theorem viewLeg_setSat_sat (x : Sat) : ∃ c, ((s.setSat n x).viewLeg n).sat n = { x with confSince := c } := by
  obtain ⟨c, h⟩ := viewLeg_sat (s.setSat n x) n
  exact ⟨c, by rw [h, State.sat_setSat]⟩

theorem viewLeg_putSat_sat (x : Sat) : ∃ c, ((s.putSat n x).viewLeg n).sat n = { x with confSince := c } := by
  obtain ⟨c, h⟩ := viewLeg_sat (s.putSat n x) n
  exact ⟨c, by rw [h, putSat_sat]⟩

theorem dropReq_sat : ∃ c, (s.dropReq n).sat n = { s.sat n with req := none, hintReq := false, confSince := c } := viewLeg_setSat_sat s n _

@[simp] theorem dropReq_now : (s.dropReq n).now = s.now := viewLeg_now _ _

/-- The record of a satellite that turns its gate off at a tick (R245, R280). -/
def turnedOff (x : Sat) (t : Nat) : Sat :=
  { x with driven := false, offDelayed := false, changedAt := t, stuckTold := false, softOff := false, detectAt := none, conduction := false }

theorem satOff_undriven (h : (s.sat n).driven = false) : s.satOff n = s := by
  simp only [State.satOff, h, Bool.not_false, if_true]

theorem satOff_late (h : (s.sat n).driven = true) (hlate : s.elapsedNs ((s.sat n).releasedAt.getD 0) 40 = true) :
    s.satOff n = (s.putSat n (turnedOff (s.sat n) s.now)).viewLeg n := by
  simp only [State.satOff, h, hlate, Bool.not_true, Bool.false_eq_true, if_false, if_true]
  rfl

theorem satOff_early (h : (s.sat n).driven = true) (hearly : s.elapsedNs ((s.sat n).releasedAt.getD 0) 40 = false) :
    s.satOff n = s.setSat n { s.sat n with offDelayed := true } := by
  simp only [State.satOff, h, hearly, Bool.not_true, Bool.false_eq_true, if_false]

/-- What of a satellite's record neither the turn-off of its gate nor the partner's confirmation changes. -/
def standing (x : Sat) : Sat := { turnedOff x 0 with confSince := none }

theorem standing_satOff : standing ((s.satOff n).sat n) = standing (s.sat n) := by
  cases hdriven : (s.sat n).driven with
  | false => rw [satOff_undriven s n hdriven]
  | true =>
    cases htime : s.elapsedNs ((s.sat n).releasedAt.getD 0) 40 with
    | false =>
      rw [satOff_early s n hdriven htime, State.sat_setSat]
      rfl
    | true =>
      obtain ⟨c, h⟩ := viewLeg_putSat_sat s n (turnedOff (s.sat n) s.now)
      rw [satOff_late s n hdriven htime, h]
      rfl

/-- A driven gate is off after its turn-off, or, in the first 40 ns from its release, waits for their end (R245, R247). -/
theorem satOff_driven (hdriven : (s.sat n).driven = true) :
    if s.elapsedNs ((s.sat n).releasedAt.getD 0) 40 then ((s.satOff n).sat n).driven = false
    else ((s.satOff n).sat n).offDelayed = true := by
  split
  case isTrue htime =>
    obtain ⟨c, h⟩ := viewLeg_putSat_sat s n (turnedOff (s.sat n) s.now)
    rw [satOff_late s n hdriven htime, h]
    rfl
  case isFalse htime => rw [satOff_early s n hdriven (Bool.eq_false_iff.mpr htime), State.sat_setSat]

end Sys2Proof.GateDrive

/-! ### Edges, the handshake, the gate and the measurements act (R245 to R248, R260 to R267, R280) -/

namespace Sys2Proof.GateDrive

open Sys2Proof.Machine Sys2Proof.FieldControl Sys2Proof.FluxAtlas

/-- A turn-on edge that nothing refuses requests the partner's confirmation (R260). -/
theorem satTurnOnEdge_requests (s : State) (n : Fin 12) (hlane : s.lane n = true) (hedge : (s.sat n).edge = false) (hlink : s.linkLive n = true)
    (hruns : s.satRuns n = true) (hlatched : (s.sat n).latched = false) (hsoft : (s.sat n).soft = 0) (hot : (s.sat n).otShut = false)
    (hpos : (s.sat n).uvloPos = false) (hneg : (s.sat n).uvloNeg = false) (hsupply : (s.sat n).supplyMode ≠ 2)
    (hpartner : (s.sat (partnerSat n)).req = none) :
    ∃ t, exec (.satTurnOnEdge n) s = .next t ∧ (t.sat n).edge = true ∧ (t.sat n).req = some s.now ∧ (t.sat n).edgeAt = s.now ∧
      t = { s with sats := t.sats } := by
  let s1 := s.setSat n { s.sat n with edge := true }
  let s2 := s1.setSat n { s1.sat n with req := some s1.now, edgeAt := s1.now, hintReq := false }
  have hexec : exec (.satTurnOnEdge n) s = .next (s2.viewLeg n) := by
    show execSatTurnOnEdge n s = _
    unfold State.satRuns at hruns
    simp [execSatTurnOnEdge, hlane, hedge, hlink, hruns, hlatched, hsoft, hot, hpos, hneg, hpartner, hsupply, s1, s2]
  obtain ⟨c, hsat⟩ := viewLeg_setSat_sat s1 n { s1.sat n with req := some s1.now, edgeAt := s1.now, hintReq := false }
  have hedge' : (s1.sat n).edge = true := by rw [State.sat_setSat]
  exact ⟨_, hexec, by rw [hsat, hedge'], by rw [hsat]; rfl, by rw [hsat]; rfl, sats_frame_trans rfl (viewLeg_setSat_frame s1 n _)⟩

/-- A turn-off edge withdraws a waiting turn-on and turns the gate off (R247, R262). -/
theorem satTurnOffEdge_acts (s : State) (n : Fin 12) (hlane : s.lane n = false) (hedge : (s.sat n).edge = true) (hlink : s.linkLive n = true)
    (hruns : s.satRuns n = true) (hsoft : (s.sat n).soft = 0) :
    ∃ t, exec (.satTurnOffEdge n) s = .next t ∧ (t.sat n).edge = false ∧ (t.sat n).req = none ∧
      ((s.sat n).driven = true → if s.elapsedNs ((s.sat n).releasedAt.getD 0) 40 then (t.sat n).driven = false else (t.sat n).offDelayed = true) := by
  let s1 := s.setSat n { s.sat n with edge := false }
  let s2 := if (s.sat n).req.isSome then s1.dropReq n else s1
  have hexec : exec (.satTurnOffEdge n) s = .next (s2.satOff n) := by
    show execSatTurnOffEdge n s = _
    unfold State.satRuns at hruns
    simp [execSatTurnOffEdge, hlane, hedge, hlink, hruns, hsoft, s1, s2]
  have hnow : s2.now = s.now := by
    unfold s2
    split
    · exact dropReq_now s1 n
    · rfl
  have hsat : ∃ h c, s2.sat n = { s.sat n with edge := false, req := none, hintReq := h, confSince := c } := by
    unfold s2
    split
    case isTrue =>
      obtain ⟨c, h⟩ := dropReq_sat s1 n
      exact ⟨false, c, by rw [h, State.sat_setSat]⟩
    case isFalse hnone =>
      have hreq : (s.sat n).req = none := by simpa using hnone
      exact ⟨(s.sat n).hintReq, (s.sat n).confSince, by rw [State.sat_setSat, ← hreq]⟩
  obtain ⟨h, c, hsat⟩ := hsat
  have hstand := standing_satOff s2 n
  have helapsed : s2.elapsedNs ((s2.sat n).releasedAt.getD 0) 40 = s.elapsedNs ((s.sat n).releasedAt.getD 0) 40 := by
    rw [hsat, State.elapsedNs, hnow]
    rfl
  refine ⟨_, hexec, (congrArg Sat.edge hstand).trans (by rw [hsat]; rfl), (congrArg Sat.req hstand).trans (by rw [hsat]; rfl), fun hdriven => ?_⟩
  rw [← helapsed]
  exact satOff_driven s2 n (by rw [hsat]; exact hdriven)

/-- A turn-on that the partner has confirmed for long enough is released (R260). -/
theorem handshakeRelease_drives (s : State) (n : Fin 12) (h : s.mayRelease n = true) :
    ∃ t, exec (.handshakeRelease n) s = .next t ∧ (t.sat n).driven = true ∧ (t.sat n).req = none ∧ (t.sat n).releasedAt = some s.now ∧
      t.fld F.GDS_HS_STATS_CONSEC n = 0 := by
  obtain ⟨x, hdriven, hreq, hreleased, hexec⟩ : ∃ x : Sat, x.driven = true ∧ x.req = none ∧ x.releasedAt = some s.now ∧
      exec (.handshakeRelease n) s = .next (((s.putSat n x).viewLeg n).setFld F.GDS_HS_STATS_CONSEC 0 n) := by
    refine ⟨{ s.sat n with
      req := none, hintReq := false, driven := true, releasedAt := some s.now, changedAt := s.now, stuckTold := false, skipRun := 0
      hs := (s.sat n).hs ++ [(false, (s.now - (s.sat n).edgeAt) * 5 / 4)] }, rfl, rfl, rfl, ?_⟩
    show execHandshakeRelease n s = _
    simp only [execHandshakeRelease, h, Bool.not_true, Bool.false_eq_true, if_false]
  obtain ⟨c, hsat⟩ := viewLeg_putSat_sat s n x
  refine ⟨_, hexec, by rw [setFld_sat, hsat, hdriven], by rw [setFld_sat, hsat, hreq], by rw [setFld_sat, hsat, hreleased], ?_⟩
  rw [State.fld_setFld _ _ _ _ _ ⟨by decide, by decide⟩]
  exact Nat.zero_mod _

theorem faultActive_satFault (s : State) (f : FaultName) (n : Nat) (lasting : Bool) : (s.satFault f n lasting).faultActive f n = true :=
  faultActive_raise_self _ _ _ _ _ _ _

theorem faultActive_satFault_of_active {s : State} {g : FaultName} {u : Nat} (h : s.faultActive g u = true) (f : FaultName) (n : Nat) (lasting : Bool) :
    (s.satFault f n lasting).faultActive g u = true :=
  faultActive_raise_of_active h _ _ _ _ _ _

@[simp] theorem setFlag_faultActive (s : State) (f : Fld) (v : Bool) (i j : Nat) (g : FaultName) (u : Nat) :
    (s.setFlag f v i j).faultActive g u = s.faultActive g u := rfl

/-- A skipped turn-on is withdrawn and counted, and LEG_HANDSHAKE stands, alone or beside HANDSHAKE_ESC (R261). -/
theorem satSkip_acts (s : State) (n : Nat) :
    ((s.satSkip n).sat n).req = none ∧ ((s.satSkip n).sat n).skipRun = (s.sat n).skipRun + 1 ∧ (s.satSkip n).faultActive .LEG_HANDSHAKE n = true := by
  unfold State.satSkip
  extract_lets x run s1 s2 s3
  have hfault : s3.faultActive .LEG_HANDSHAKE n = true := faultActive_satFault _ _ _ _
  obtain ⟨c, hsat⟩ := viewLeg_setSat_sat s n { x with req := none, skipRun := run, hs := x.hs ++ [(true, (s.now - x.edgeAt) * 5 / 4)] }
  have hsat3 : s3.sat n = s1.sat n := by
    unfold s3 s2
    rw [satFault_sat, setFlag_sat, setFld_sat, bump_sat]
  split
  · rw [satFault_sat, setFlag_sat, hsat3, hsat]
    exact ⟨rfl, rfl, faultActive_satFault_of_active ((setFlag_faultActive _ _ _ _ _ _ _).trans hfault) _ _ _⟩
  · rw [hsat3, hsat]
    exact ⟨rfl, rfl, hfault⟩

theorem handshakeTimeout_skips (s : State) (n : Fin 12) (hreq : (s.sat n).req.isSome = true) (hhint : (s.sat n).hintReq = false)
    (htime : s.elapsedNs (s.sat n).edgeAt (s.satSetN n P.HANDSHAKE_TIMEOUT) = true) :
    ∃ t, exec (.handshakeTimeout n) s = .next t ∧ (t.sat n).req = none ∧ (t.sat n).skipRun = (s.sat n).skipRun + 1 ∧
      t.faultActive .LEG_HANDSHAKE n = true := by
  have hexec : exec (.handshakeTimeout n) s = .next (s.satSkip n) := by
    show execHandshakeTimeout n s = _
    simp only [execHandshakeTimeout, hreq, hhint, htime, Bool.not_false, Bool.and_self, if_true]
  exact ⟨_, hexec, satSkip_acts s n⟩

theorem minOnTimeExpiry_turnsOff (s : State) (n : Fin 12) (hdelayed : (s.sat n).offDelayed = true) (hdriven : (s.sat n).driven = true)
    (htime : s.elapsedNs ((s.sat n).releasedAt.getD 0) 40 = true) :
    ∃ t, exec (.minOnTimeExpiry n) s = .next t ∧ (t.sat n).driven = false ∧ (t.sat n).offDelayed = false := by
  have hexec : exec (.minOnTimeExpiry n) s = .next ((s.putSat n (turnedOff (s.sat n) s.now)).viewLeg n) := by
    show execMinOnTimeExpiry n s = _
    simp only [execMinOnTimeExpiry, hdelayed, htime, Bool.and_self, if_true, satOff_late s n hdriven htime]
  obtain ⟨c, hsat⟩ := viewLeg_putSat_sat s n (turnedOff (s.sat n) s.now)
  exact ⟨_, hexec, by rw [hsat]; rfl, by rw [hsat]; rfl⟩

/-- A change of the gate comparator is taken over; below the off level a soft turn-off ends in DESAT_LATCH (R248, R269). -/
theorem gateStateChange_acts (s : State) (n : Fin 12) (on : Bool) (hchange : (s.sat n).gateOn ≠ on) :
    ∃ t, exec (.gateStateChange n on) s = .next t ∧ (t.sat n).gateOn = on ∧
      (t.sat n).latched = ((s.sat n).latched || (!on && (s.sat n).soft == 2)) ∧ t = { s with sats := t.sats } := by
  obtain ⟨x, hgate, hlatched, hexec⟩ : ∃ x : Sat, x.gateOn = on ∧ x.latched = ((s.sat n).latched || (!on && (s.sat n).soft == 2)) ∧
      exec (.gateStateChange n on) s = .next ((s.setSat n x).viewLeg n) := by
    refine ⟨{ s.sat n with
      gateOn := on, soft := if (!on && (s.sat n).soft == 2) then 0 else (s.sat n).soft, latched := (s.sat n).latched || (!on && (s.sat n).soft == 2) },
      rfl, rfl, ?_⟩
    show execGateStateChange n on s = _
    simp only [execGateStateChange, beq_eq_false_iff_ne.mpr hchange, Bool.false_eq_true, if_false]
  obtain ⟨c, hsat⟩ := viewLeg_setSat_sat s n x
  exact ⟨_, hexec, by rw [hsat, hgate], by rw [hsat, hlatched], viewLeg_setSat_frame s n x⟩

theorem gateStuckTimer_reports (s : State) (n : Fin 12) (hresumed : (s.sat n).resumed = true) (hstuck : (s.sat n).driven ≠ (s.sat n).gateOn)
    (htold : (s.sat n).stuckTold = false) (htime : s.elapsedNs (s.sat n).changedAt (s.satSetN n P.T_GOFF_MAX) = true) :
    ∃ t, exec (.gateStuckTimer n) s = .next t ∧ (t.sat n).stuckTold = true ∧ t.faultActive .GATE_STUCK n = true := by
  have hexec : exec (.gateStuckTimer n) s =
      .next (((s.setSat n { s.sat n with stuckTold := true }).setFlag F.GDS_INT_STATUS_GATE_STUCK true n).satFault .GATE_STUCK n) := by
    show execGateStuckTimer n s = _
    simp only [execGateStuckTimer, hresumed, bne_iff_ne.mpr hstuck, htold, htime, Bool.not_false, Bool.and_self, if_true]
  exact ⟨_, hexec, by rw [satFault_sat, setFlag_sat, State.sat_setSat], faultActive_satFault _ _ _ _⟩

/-- A measured switching event queues one EDGE message, whether or not it also adapts a strength (R266, R267). -/
theorem satEdgeMeasured_queues (s : State) (n : Fin 12) (off : Bool) (v : Nat) (crossed soft : Bool) (half : Nat) (hresumed : (s.sat n).resumed = true) :
    ∃ t, exec (.satEdgeMeasured n off v crossed soft half) s = .next t ∧ (t.sat n).edges.length = (s.sat n).edges.length + 1 ∧
      t = { s with sats := t.sats } := by
  obtain ⟨x, hedges, hexec⟩ : ∃ x : Sat, x.edges.length = (s.sat n).edges.length + 1 ∧
      exec (.satEdgeMeasured n off v crossed soft half) s = .next (s.setSat n x) := by
    show ∃ x, _ ∧ execSatEdgeMeasured n off v crossed soft half s = _
    unfold execSatEdgeMeasured
    simp only [hresumed, Bool.not_true, Bool.false_eq_true, if_false]
    refine ⟨_, ?_, rfl⟩
    split
    · split <;> exact List.length_append
    · exact List.length_append
  exact ⟨_, hexec, by rw [State.sat_setSat, hedges], rfl⟩

theorem ch0RangeSwitch_conducts (s : State) (n : Fin 12) (hdriven : (s.sat n).driven = true) (hmode : (s.sat n).ch0Mode = 0)
    (hnew : (s.sat n).conduction = false) (htime : s.elapsedNs ((s.sat n).releasedAt.getD 0) 20 = true) :
    ∃ t, exec (.ch0RangeSwitch n) s = .next t ∧ (t.sat n).conduction = true := by
  have hexec : exec (.ch0RangeSwitch n) s = .next (s.putSat n { s.sat n with conduction := true }) := by
    show execCh0RangeSwitch n s = _
    simp only [execCh0RangeSwitch, hdriven, hmode, hnew, htime, beq_self_eq_true, Bool.not_false, Bool.and_self, if_true]
  exact ⟨_, hexec, by rw [putSat_sat]⟩

/-- A satellite that no longer hears its partner has no confirmation of it (R264). -/
theorem crossCarrierLoss_acts (s : State) (n : Fin 12) :
    ∃ t, exec (.crossCarrierLoss n) s = .next t ∧ (t.sat n).crossOk = false ∧ (t.sat n).confSince = none ∧ t = { s with sats := t.sats } := by
  have hexec : exec (.crossCarrierLoss n) s = .next ((s.setSat n { s.sat n with crossOk := false }).setSat n
      { s.sat n with crossOk := false, confSince := none }) := by
    show execCrossCarrierLoss n s = _
    simp only [execCrossCarrierLoss, State.viewPartner, State.sat_setSat, Bool.false_and, Bool.false_eq_true, if_false]
  exact ⟨_, hexec, by rw [State.sat_setSat], by rw [State.sat_setSat], rfl⟩

/-- Settles O10: each command acts on its satellite's record; what a fault or an invalid output reports leaves the record as it is. -/
theorem satelliteGateCommandsAct : Obligations.SatelliteGateCommandsAct :=
  ⟨satTurnOnEdge_requests, satTurnOffEdge_acts, handshakeRelease_drives, handshakeTimeout_skips, minOnTimeExpiry_turnsOff, gateStateChange_acts,
    gateStuckTimer_reports, satEdgeMeasured_queues, ch0RangeSwitch_conducts, crossCarrierLoss_acts⟩

end Sys2Proof.GateDrive

/-! ### What the frames of the link write, and what they leave (R250 to R258, R264, R267) -/

namespace Sys2Proof.GateDrive

open Sys2Proof.Machine Sys2Proof.FieldControl Sys2Proof.FluxAtlas

variable (s : State) (n : Nat)

/-- Whether two fields have no bit of a register in common. -/
def apart (f g : Fld) : Bool :=
  decide (g.reg ≠ f.reg) || decide (f.lo ≤ f.hi + 1 ∧ f.hi < 32 ∧ g.lo ≤ g.hi + 1 ∧ g.hi < 32 ∧ (f.hi < g.lo ∨ g.hi < f.lo))

/-- A write of a field leaves a field apart from it as it was, in whichever unit each lies. -/
theorem fld_setFld_apart {f g : Fld} (v i j i' j' : Nat) (h : apart f g = true) : (s.setFld f v i j).fld g i' j' = s.fld g i' j' := by
  by_cases hkey : (⟨g.reg, i', j'⟩ : RKey) = ⟨f.reg, i, j⟩
  · obtain ⟨hreg, rfl, rfl⟩ := RKey.mk.inj hkey
    simp only [apart, Bool.or_eq_true, decide_eq_true_eq] at h
    obtain ⟨hf, hf', hg, hg', hbits⟩ := h.resolve_left (fun hne => hne hreg)
    exact State.fld_setFld_sameReg s f g v i' j' ⟨hf, hf'⟩ ⟨hg, hg'⟩ hreg hbits
  · exact State.fld_setFld_otherReg s f g v i j i' j' hkey

/-- A flag written reads as the value written. -/
theorem flag_setFlag {f : Fld} (v : Bool) (i j : Nat) (h : f.hi = f.lo ∧ f.hi < 32) : (s.setFlag f v i j).flag f i j = v := by
  obtain ⟨hone, hword⟩ := h
  unfold State.flag State.setFlag
  rw [State.fld_setFld s f _ i j ⟨by omega, hword⟩, hone, Nat.add_sub_cancel_left]
  cases v <;> rfl

theorem flag_setFld_apart {f g : Fld} (v i j i' j' : Nat) (h : apart f g = true) : (s.setFld f v i j).flag g i' j' = s.flag g i' j' := by
  unfold State.flag
  rw [fld_setFld_apart s v i j i' j' h]

theorem flag_setFlag_apart {f g : Fld} (v : Bool) (i j i' j' : Nat) (h : apart f g = true) : (s.setFlag f v i j).flag g i' j' = s.flag g i' j' :=
  flag_setFld_apart s _ i j i' j' h

theorem flag_bump_apart {f g : Fld} (i j by_ i' j' : Nat) (h : apart f g = true) : (s.bump f i j by_).flag g i' j' = s.flag g i' j' :=
  flag_setFld_apart s _ i j i' j' h

/-- A signed value of 16 bits reads back as written. -/
theorem toSigned_ofSigned_16 {v : Int} (hlo : -32768 ≤ v) (hhi : v ≤ 32767) : toSigned 16 (ofSigned 16 v % 2 ^ 16) = v := by
  unfold toSigned ofSigned
  dsimp only
  split <;> omega

theorem fldS_setFldS_16 {f : Fld} {v : Int} (i j : Nat) (hwidth : f.hi + 1 - f.lo = 16) (hf : f.inWord) (hlo : -32768 ≤ v) (hhi : v ≤ 32767) :
    (s.setFldS f v i j).fldS f i j = v := by
  unfold State.fldS State.setFldS
  rw [State.fld_setFld s f _ i j hf, hwidth]
  exact toSigned_ofSigned_16 hlo hhi

/-! #### What the report of a fault and a measurement leave -/

theorem fld_of_satView {s t : State} {f : Fld} {i j m : Nat} (h : satView ⟨f.reg, i, j⟩ m t = satView ⟨f.reg, i, j⟩ m s) : t.fld f i j = s.fld f i j := by
  obtain ⟨-, -, hreg, -⟩ := satView_iff.mp h
  rw [State.fld, hreg]
  rfl

theorem fld_satFault {f : Fld} (g : FaultName) (lasting : Bool) (i j : Nat) (hf : f.reg ∉ reportRegs) : (s.satFault g n lasting).fld f i j = s.fld f i j :=
  fld_of_satView (m := 0) ((raiseBlind_satView (k := ⟨f.reg, i, j⟩) hf).raise _ _ _ _ _ _ _)

theorem flag_satFault {f : Fld} (g : FaultName) (lasting : Bool) (i j : Nat) (hf : f.reg ∉ reportRegs) :
    (s.satFault g n lasting).flag f i j = s.flag f i j := by
  unfold State.flag
  rw [fld_satFault s n g lasting i j hf]

theorem flag_cease {f : Fld} (g : FaultName) (u i j : Nat) (hf : f.reg ∉ reportRegs) : (s.cease g u).flag f i j = s.flag f i j := by
  unfold State.flag
  rw [fld_of_satView (m := 0) ((raiseBlind_satView (k := ⟨f.reg, i, j⟩) hf).cease s g u)]

@[simp] theorem cease_sat (g : FaultName) (u i : Nat) : (s.cease g u).sat i = s.sat i :=
  sat_of_satView ((raiseBlind_satView (k := quietReg) (m := 0) (by decide)).cease s g u) i

theorem satView_writeMeas {k : RKey} {m : Nat} (hk : k.reg ∉ reportRegs) (stale event : Bool) : satView k m (s.writeMeas n stale event) = satView k m s :=
  (raiseBlind_satView hk).toEventBlind.writeMeas s n stale event

/-- A measurement that arrives is counted and its time kept; the entry itself goes to the engines (R186). -/
theorem measured_sat : (s.measured n).sat n = { s.sat n with measSeq := ((s.sat n).measSeq + 1) % 256, measAt := s.now } := by
  unfold State.measured
  dsimp only
  rw [sat_of_satView (satView_writeMeas _ n (k := quietReg) (m := 0) (by decide) _ _), State.sat_setSat]

theorem fld_measured {f : Fld} (i j : Nat) (hf : f.reg ∉ reportRegs) : (s.measured n).fld f i j = s.fld f i j := by
  unfold State.measured
  dsimp only
  rw [fld_of_satView (satView_writeMeas _ n (k := ⟨f.reg, i, j⟩) (m := 0) hf _ _)]
  rfl

/-! #### What a turn-off leaves of the settings and of the lifecycle -/

/-- The parameters in force and the lifecycle of one satellite. -/
def setup (m : Nat) (s : State) : Table PKey Int × Lc := (s.params, s.lc .satellite m)

variable {m : Nat}

theorem setup_dsInvalidate (c : Nat) : setup m (s.dsInvalidate c) = setup m s := by
  obtain ⟨-, hpar, -, hlc⟩ := satView_iff.mp (satView_dsInvalidate s (k := quietReg) (m := m) (by decide) c)
  rw [setup, hpar, hlc]
  rfl

@[simp] theorem setup_setFlag (f : Fld) (v : Bool) (i j : Nat) : setup m (s.setFlag f v i j) = setup m s := rfl
@[simp] theorem setup_setFld (f : Fld) (v i j : Nat) : setup m (s.setFld f v i j) = setup m s := rfl
@[simp] theorem setup_setSat (x : Sat) : setup m (s.setSat n x) = setup m s := rfl

theorem setup_strMirror : setup m (s.strMirror n) = setup m s := by
  unfold State.strMirror
  dsimp only
  rw [setup_setFlag, setup_setFlag, setup_setFld, setup_setFld]

theorem lc_of_setup {s t : State} (h : setup m t = setup m s) : t.lc .satellite m = s.lc .satellite m := (Prod.mk.inj h).2

theorem isOn_of_setup {s t : State} (h : setup m t = setup m s) : t.isOn .satellite m = s.isOn .satellite m := by
  rw [State.isOn, lc_of_setup h]
  rfl

/-- A start sequence that ends makes the function ON (R45). -/
theorem isOn_updLc_startDone {s : State} {k : FuncKind} (h : s.isStarting k m = true) : (s.updLc k m Lc.startDone).isOn k m = true := by
  have hstate : (s.lc k m).state = .starting := by simpa [State.isStarting] using h
  rw [State.isOn, State.lc_updLc, Lc.startDone, if_pos hstate]
  rfl

theorem setup_putSat (x : Sat) : setup m (s.putSat n x) = setup m s := by
  unfold State.putSat
  dsimp only
  split
  · rw [setup_dsInvalidate, setup_setFlag, setup_setSat]
  · exact setup_setSat s n x

theorem setup_viewLeg : setup m (s.viewLeg n) = setup m s := by
  rw [viewLeg_frame]
  rfl

theorem setup_dropReq : setup m (s.dropReq n) = setup m s := setup_viewLeg _ n

theorem setup_satOff : setup m (s.satOff n) = setup m s := by
  unfold State.satOff
  dsimp only
  split
  · rfl
  · split
    · exact (setup_viewLeg _ n).trans (setup_putSat s n _)
    · rfl

theorem satSet_congr {s t : State} {n : Nat} (id : Nat) (hset : (t.sat n).settings = (s.sat n).settings) (hpar : t.params = s.params) :
    t.satSet n id = s.satSet n id := by
  unfold State.satSet State.par
  rw [hset, hpar]

theorem satSetN_congr {s t : State} {n : Nat} (id : Nat) (hset : (t.sat n).settings = (s.sat n).settings) (hpar : t.params = s.params) :
    t.satSetN n id = s.satSetN n id := by
  rw [State.satSetN, satSet_congr id hset hpar]
  rfl

/-! #### Frames taken in -/

theorem heard_sat : (s.heard n).sat n = { s.sat n with cfgAt := s.now } := State.sat_setSat s n _

/-- A good return frame that is taken ends a run of bad ones (R256). -/
theorem goodFrame_of_taken {s : State} {n : Nat} (h : (s.goodFrame n).2 = true) :
    ∃ g, s.goodFrame n = (g, true) ∧ g.sat n = { s.sat n with badRun := 0 } ∧ g.now = s.now ∧ g.params = s.params := by
  unfold State.goodFrame at h ⊢
  split
  case isTrue => exact ⟨_, rfl, State.sat_setSat s n _, rfl, rfl⟩
  case isFalse hbad => simp [hbad] at h

@[simp] theorem updLc_sat (k : FuncKind) (f : Lc → Nat → Lc) (i : Nat) : (s.updLc k n f).sat i = s.sat i := rfl

@[simp] theorem flag_setSat (x : Sat) (f : Fld) (i j : Nat) : (s.setSat n x).flag f i j = s.flag f i j := rfl

theorem strMirror_sat (i : Nat) : (s.strMirror n).sat i = s.sat i := by
  unfold State.strMirror
  dsimp only
  rw [setFlag_sat, setFlag_sat, setFld_sat, setFld_sat]

theorem fld_strMirror : (s.strMirror n).fld F.GDS_STRENGTH_ON_STR n = (s.sat n).strOn % 32 := by
  unfold State.strMirror
  dsimp only
  rw [State.setFlag, fld_setFld_apart _ _ _ _ _ _ (by decide), State.setFlag, fld_setFld_apart _ _ _ _ _ _ (by decide),
    fld_setFld_apart _ _ _ _ _ _ (by decide)]
  exact State.fld_setFld _ F.GDS_STRENGTH_ON_STR _ _ _ ⟨by decide, by decide⟩

end Sys2Proof.GateDrive

/-! ### The frames of the link act (R250 to R258, R264, R267, R268) -/

namespace Sys2Proof.GateDrive

open Sys2Proof.Machine Sys2Proof.FieldControl Sys2Proof.FluxAtlas

theorem keepaliveSend_sends (s : State) (n : Fin 12) (hlink : s.linkLive n = true)
    (hdue : s.elapsed (s.sat n).hintSentAt (10 * usT) = true ∨ s.bridgeHint (bridgeOfSat n) ≠ (s.sat n).hintSent) :
    ∃ t, exec (.keepaliveSend n) s = .next t ∧ (t.sat n).hintSent = s.bridgeHint (bridgeOfSat n) ∧ (t.sat n).hintSentAt = s.now ∧
      t = { s with sats := t.sats } := by
  obtain ⟨x, hhint, hat, hexec⟩ : ∃ x : Sat, x.hintSent = s.bridgeHint (bridgeOfSat n) ∧ x.hintSentAt = s.now ∧
      exec (.keepaliveSend n) s = .next (s.setSat n x) := by
    refine ⟨{ s.sat n with
      hintSent := s.bridgeHint (bridgeOfSat n), hintSentAt := s.now, ackMissing := some ((s.sat n).ackMissing.getD s.now) }, rfl, rfl, ?_⟩
    have hdue' : (s.elapsed (s.sat n).hintSentAt (10 * usT) || s.bridgeHint (bridgeOfSat n) != (s.sat n).hintSent) = true := by simpa using hdue
    show execKeepaliveSend n s = _
    simp only [execKeepaliveSend, hlink, hdue', Bool.and_self, if_true]
  exact ⟨_, hexec, by rw [State.sat_setSat, hhint], by rw [State.sat_setSat, hat], rfl⟩

theorem cfgKeepalive_stores (s : State) (n : Fin 12) (hlink : s.linkLive n = true) :
    ∃ t, exec (.cfgKeepalive n) s = .next t ∧ (t.sat n).hint = (s.sat n).hintSent ∧ (t.sat n).ackDue = true ∧ (t.sat n).cfgAt = s.now ∧
      t = { s with sats := t.sats } := by
  have hexec : exec (.cfgKeepalive n) s =
      .next ((s.heard n).setSat n { (s.heard n).sat n with hint := (s.sat n).hintSent, ackDue := true }) := by
    show execCfgKeepalive n s = _
    simp only [execCfgKeepalive, hlink, Bool.not_true, Bool.false_eq_true, if_false]
  exact ⟨_, hexec, by rw [State.sat_setSat], by rw [State.sat_setSat], by rw [State.sat_setSat, heard_sat], rfl⟩

/-! #### WRITE (R252, R288) -/

theorem execCfgWrite_reserved {s : State} {n : Fin 12} {i : Fin 256} (v : Word) (hlink : s.linkLive n = true) (hres : reservedSetting i = true) :
    exec (.cfgWrite n i v) s = .next (((s.heard n).setSat n { (s.heard n).sat n with fwdErr := ((s.heard n).sat n).fwdErr + 1 }).linkErr n) := by
  show execCfgWrite n i v s = _
  simp only [execCfgWrite, hlink, hres, Bool.not_true, Bool.false_eq_true, if_false, if_true]

theorem execCfgWrite_force {s : State} {n : Fin 12} {i : Fin 256} (v : Word) (hlink : s.linkLive n = true)
    (hi : i.val = 0x3F) : exec (.cfgWrite n i v) s = .next ((s.heard n).putSat n { (s.heard n).sat n with ch0Force := if v.toNat = 1 then 1 else 0 }) := by
  have hres : reservedSetting 0x3F = false := by decide
  show execCfgWrite n i v s = _
  simp only [execCfgWrite, hlink, hres, hi, Bool.not_true, Bool.false_eq_true, if_false, if_true]

theorem clampStrengths_sat (s : State) (n : Nat) : ∃ a b, (s.clampStrengths n).sat n = { s.sat n with strOn := a, strOff := b } := by
  unfold State.clampStrengths
  exact ⟨_, _, State.sat_setSat s n _⟩

/-- The setting that an index names takes the value, of which index 0x0C keeps five bits; a new window clamps the strengths, nothing else. -/
theorem execCfgWrite_setting {s : State} {n : Fin 12} {i : Fin 256} (v : Word) (hlink : s.linkLive n = true) (hres : reservedSetting i = false)
    (hi : i.val ≠ 0x3F) : ∃ t, exec (.cfgWrite n i v) s = .next t ∧ (t.sat n).cfgAt = s.now ∧
      (t.sat n).settings = (s.sat n).settings.setAt none i.val (some (if i.val = 0x0C then ((v.toNat % 32 : Nat) : Int) else v.toInt)) := by
  obtain ⟨x, hat, hset, hexec⟩ : ∃ x : Sat, x.cfgAt = s.now ∧
      x.settings = (s.sat n).settings.setAt none i.val (some (if i.val = 0x0C then ((v.toNat % 32 : Nat) : Int) else v.toInt)) ∧
      exec (.cfgWrite n i v) s = .next (if i.val = 0x0A ∨ i.val = 0x0B then ((s.heard n).setSat n x).clampStrengths n else (s.heard n).setSat n x) := by
    refine ⟨{ (s.heard n).sat n with
      settings := ((s.heard n).sat n).settings.setAt none i.val (some (if i.val = 0x0C then ((v.toNat % 32 : Nat) : Int) else v.toInt)) },
      by rw [heard_sat], by rw [heard_sat], ?_⟩
    show execCfgWrite n i v s = _
    simp only [execCfgWrite, hlink, hres, hi, Bool.not_true, Bool.false_eq_true, if_false]
  refine ⟨_, hexec, ?_⟩
  split
  · obtain ⟨a, b, hsat⟩ := clampStrengths_sat ((s.heard n).setSat n x) n
    rw [hsat, State.sat_setSat]
    exact ⟨hat, hset⟩
  · rw [State.sat_setSat]
    exact ⟨hat, hset⟩

theorem cfgWrite_acts (s : State) (n : Fin 12) (i : Fin 256) (v : Word) (hlink : s.linkLive n = true) :
    ∃ t, exec (.cfgWrite n i v) s = .next t ∧ (t.sat n).cfgAt = s.now ∧
      (if reservedSetting i then (t.sat n).fwdErr = (s.sat n).fwdErr + 1 ∧ t.faultActive .LINK_ERR n = true
       else if i.val = 0x3F then (t.sat n).ch0Force = (if v.toNat = 1 then 1 else 0)
       else (t.sat n).settings.at none i.val = some (if i.val = 0x0C then ((v.toNat % 32 : Nat) : Int) else v.toInt)) := by
  cases hres : reservedSetting i with
  | true =>
    refine ⟨_, execCfgWrite_reserved v hlink hres, ?_, ?_⟩
    · rw [State.linkErr, satFault_sat, setFlag_sat, State.sat_setSat, heard_sat]
    · rw [if_pos rfl, State.linkErr, satFault_sat, setFlag_sat, State.sat_setSat, heard_sat]
      exact ⟨rfl, faultActive_satFault _ _ _ _⟩
  | false =>
    simp only [Bool.false_eq_true, if_false]
    by_cases hi : i.val = 0x3F
    · refine ⟨_, execCfgWrite_force v hlink hi, ?_, ?_⟩
      · rw [putSat_sat, heard_sat]
      · rw [if_pos hi, putSat_sat]
    · obtain ⟨t, hexec, hat, hset⟩ := execCfgWrite_setting v hlink hres hi
      exact ⟨t, hexec, hat, by rw [if_neg hi, hset, Table.at_setAt_same]⟩

/-! #### DESAT_CLEAR, RESUME and STOP (R255, R257, R258, R271) -/

/-- An operation on satellites followed by the write of a flag changes satellites and registers. -/
theorem setFlag_sats_frame {s t : State} (h : t = { s with sats := t.sats }) (f : Fld) (v : Bool) (i j : Nat) :
    t.setFlag f v i j = { s with sats := (t.setFlag f v i j).sats, regs := (t.setFlag f v i j).regs } :=
  congrArg (fun u : State => { u with regs := (t.setFlag f v i j).regs }) h

theorem cfgDesatClear_acts (s : State) (n : Fin 12) (hlink : s.linkLive n = true) (hdue : (s.sat n).clearDue = true) :
    ∃ t, exec (.cfgDesatClear n) s = .next t ∧ (t.sat n).latched = false ∧ (t.sat n).report = false ∧ t.flag F.GDS_STATUS_DESAT_LATCH n = false ∧
      t = { s with sats := t.sats, regs := t.regs } := by
  have hexec : exec (.cfgDesatClear n) s = .next (((s.heard n).setSat n
      { (s.heard n).sat n with latched := false, report := false, clearDue := false }).setFlag F.GDS_STATUS_DESAT_LATCH false n) := by
    show execCfgDesatClear n s = _
    simp only [execCfgDesatClear, hlink, hdue, Bool.not_true, Bool.or_self, Bool.false_eq_true, if_false]
  exact ⟨_, hexec, by rw [setFlag_sat, State.sat_setSat], by rw [setFlag_sat, State.sat_setSat], flag_setFlag _ _ _ _ (by decide),
    setFlag_sats_frame rfl _ _ _ _⟩

/-- RESUME makes the satellite ON, with its strengths at STR_INIT (R257, R268); a hint state that it ends has touched neither settings nor lifecycle. -/
theorem cfgResume_resumes (s : State) (n : Fin 12) (hlink : s.linkLive n = true) (hstep : (s.sat n).startStep = 6)
    (hstart : s.isStarting .satellite n = true) :
    ∃ t, exec (.cfgResume n) s = .next t ∧ (t.sat n).resumed = true ∧ (t.sat n).strOn = s.satSetN n P.STR_INIT ∧
      ((s.lc .satellite n).pending ≠ .disable → t.isOn .satellite n = true) := by
  let s1 := if (s.sat n).applying then ((s.heard n).satOff n).dropReq n else s.heard n
  have hsettings : (s1.sat n).settings = (s.sat n).settings := by
    have hheard : ((s.heard n).sat n).settings = (s.sat n).settings := by rw [heard_sat]
    unfold s1
    split
    · obtain ⟨c, hsat⟩ := dropReq_sat ((s.heard n).satOff n) n
      have hoff := congrArg Sat.settings (standing_satOff (s.heard n) n)
      rw [hsat, ← hheard]
      exact hoff
    · exact hheard
  have hsetup : setup n s1 = setup n s := by
    unfold s1
    split
    · rw [setup_dropReq, setup_satOff]
      rfl
    · rfl
  obtain ⟨hpar, hlc⟩ := Prod.mk.inj hsetup
  obtain ⟨x, hresumed, hstr, hexec⟩ : ∃ x : Sat, x.resumed = true ∧ x.strOn = s1.satSetN n P.STR_INIT ∧ exec (.cfgResume n) s =
      .next (((((s1.setSat n x).strMirror n).updLc .satellite n Lc.startDone).dsInvalidate (2 * n)).dsInvalidate (2 * n + 1)) := by
    refine ⟨{ s1.sat n with
      resumed := true, applying := false, startStep := 0, strOn := s1.satSetN n P.STR_INIT, strOff := s1.satSetN n P.STR_INIT, edge := false
      skipRun := 0, latched := false, soft := 0, otShut := false, noClear := false }, rfl, rfl, ?_⟩
    show execCfgResume n s = _
    simp only [execCfgResume, hlink, hstep, hstart, bne_self_eq_false, Bool.not_true, Bool.or_self, Bool.false_eq_true, if_false]
    rfl
  refine ⟨_, hexec, ?_, ?_, fun _ => ?_⟩
  · rw [dsInvalidate_sat, dsInvalidate_sat, updLc_sat, strMirror_sat, State.sat_setSat, hresumed]
  · rw [dsInvalidate_sat, dsInvalidate_sat, updLc_sat, strMirror_sat, State.sat_setSat, hstr, satSetN_congr _ hsettings hpar]
  · have hstart' : (((s1.setSat n x).strMirror n)).isStarting .satellite n = true := by
      unfold State.isStarting
      rw [lc_of_setup ((setup_strMirror _ _).trans (setup_setSat s1 n x)), hlc]
      exact hstart
    rw [isOn_of_setup ((setup_dsInvalidate _ _).trans (setup_dsInvalidate _ _))]
    exact isOn_updLc_startDone hstart'

theorem cfgStop_stops (s : State) (n : Fin 12) (hlink : s.linkLive n = true) (hstop : s.isStopping .satellite n = true) :
    ∃ t, exec (.cfgStop n) s = .next t ∧ (t.sat n).resumed = false ∧ (t.sat n).req = none ∧
      ((s.sat n).driven = true → if s.elapsedNs ((s.sat n).releasedAt.getD 0) 40 then (t.sat n).driven = false else (t.sat n).offDelayed = true) := by
  have hexec : exec (.cfgStop n) s = .next ((((s.heard n).satOff n).dropReq n).setSat n
      { (((s.heard n).satOff n).dropReq n).sat n with resumed := false }) := by
    show execCfgStop n s = _
    simp only [execCfgStop, hlink, hstop, Bool.not_true, Bool.or_self, Bool.false_eq_true, if_false]
  obtain ⟨c, hsat⟩ := dropReq_sat ((s.heard n).satOff n) n
  refine ⟨_, hexec, by rw [State.sat_setSat], by rw [State.sat_setSat, hsat], fun hdriven => ?_⟩
  have hheard := heard_sat s n
  have hoff := satOff_driven (s.heard n) n (by rw [hheard]; exact hdriven)
  rw [State.sat_setSat, hsat]
  rw [hheard] at hoff
  exact hoff

/-! #### Return frames (R253, R256, R264, R267, R273, R275) -/

/-- The flags of a STATUS frame stand in the register once it is taken in (R253). -/
theorem satFlags_shown (s t : State) (n : Nat) : ∃ t', (s.satFlags n).foldl (fun t p => t.setFlag p.1 p.2 n) t = t' ∧
    t'.flag F.GDS_STATUS_GATE_ON n = (s.sat n).gateOn ∧ t'.flag F.GDS_STATUS_DESAT_LATCH n = (s.sat n).latched := by
  refine ⟨_, rfl, ?_, ?_⟩ <;>
  simp (disch := decide) only [State.satFlags, List.foldl_cons, List.foldl_nil, flag_setFlag_apart, flag_setFlag]

/-- STATUS carries the satellite's flags and mode into the register, and its count of forward errors, which begins anew (R253). -/
theorem retStatus_shows (s : State) (n : Fin 12) (h : (s.goodFrame n).2 = true) :
    ∃ t, exec (.retStatus n) s = .next t ∧ t.flag F.GDS_STATUS_GATE_ON n = (s.sat n).gateOn ∧ t.flag F.GDS_STATUS_DESAT_LATCH n = (s.sat n).latched ∧
      (t.sat n).fwdErr = 0 ∧ t.faultActive .CROSS_LOSS n = !(s.sat n).crossOk := by
  obtain ⟨s', hgate, hlatch, herr, hexec⟩ : ∃ s' : State, s'.flag F.GDS_STATUS_GATE_ON n = (s.sat n).gateOn ∧
      s'.flag F.GDS_STATUS_DESAT_LATCH n = (s.sat n).latched ∧ (s'.sat n).fwdErr = 0 ∧
      exec (.retStatus n) s = (if !(s.sat n).crossOk && !s'.faultActive .CROSS_LOSS n then
          .next ((s'.setFlag F.GDS_INT_STATUS_CROSS_LOSS true n).satFault .CROSS_LOSS n true)
        else if (s.sat n).crossOk && s'.faultActive .CROSS_LOSS n then .next (s'.cease .CROSS_LOSS n)
        else .next s') := by
    obtain ⟨g, hgood, hg, -⟩ := goodFrame_of_taken h
    obtain ⟨t', hfold, hgate, hlatch⟩ := satFlags_shown g g n
    refine ⟨((t'.setFld F.GDS_STATUS_SUPPLY_MODE (g.sat n).supplyMode n).bump F.GDS_LINK_STATS_FWD_ERR n 0 (g.sat n).fwdErr).setSat n
      { g.sat n with fwdErr := 0 }, ?_, ?_, by rw [State.sat_setSat], ?_⟩
    · rw [flag_setSat, flag_bump_apart _ _ _ _ _ _ (by decide), flag_setFld_apart _ _ _ _ _ _ (by decide), hgate, hg]
    · rw [flag_setSat, flag_bump_apart _ _ _ _ _ _ (by decide), flag_setFld_apart _ _ _ _ _ _ (by decide), hlatch, hg]
    · have hcross : (s.sat n).crossOk = (g.sat n).crossOk := by rw [hg]
      rw [hcross, ← hfold]
      show execRetStatus n s = _
      simp only [execRetStatus, hgood, Bool.not_true, Bool.false_eq_true, if_false]
  rw [hexec]
  cases hcross : (s.sat n).crossOk <;> cases hactive : s'.faultActive .CROSS_LOSS n <;>
    simp only [Bool.not_true, Bool.not_false, Bool.and_true, Bool.and_false, Bool.false_eq_true, if_false, if_true]
  case false.false =>
    refine ⟨_, rfl, ?_, ?_, ?_, faultActive_satFault _ _ _ _⟩
    · rw [flag_satFault _ _ _ _ _ _ (by decide), flag_setFlag_apart _ _ _ _ _ _ (by decide), hgate]
    · rw [flag_satFault _ _ _ _ _ _ (by decide), flag_setFlag_apart _ _ _ _ _ _ (by decide), hlatch]
    · rw [satFault_sat, setFlag_sat, herr]
  case true.true =>
    refine ⟨_, rfl, ?_, ?_, ?_, faultActive_cease _ _ _⟩
    · rw [flag_cease _ _ _ _ _ (by decide), hgate]
    · rw [flag_cease _ _ _ _ _ (by decide), hlatch]
    · rw [cease_sat, herr]
  case false.true => exact ⟨_, rfl, hgate, hlatch, herr, hactive⟩
  case true.false => exact ⟨_, rfl, hgate, hlatch, herr, hactive⟩

/-- The oldest EDGE frame is taken, and the strengths are shown (R253, R267). -/
theorem retEdge_takes (s : State) (n : Fin 12) (m : EdgeMsg) (l : List EdgeMsg) (h : (s.goodFrame n).2 = true) (hedges : (s.sat n).edges = m :: l) :
    ∃ t, exec (.retEdge n) s = .next t ∧ (t.sat n).edges = l ∧ t.fld F.GDS_STRENGTH_ON_STR n = (s.sat n).strOn % 32 := by
  obtain ⟨g, hgood, hg, -⟩ := goodFrame_of_taken h
  have hgedges : (g.sat n).edges = m :: l := by rw [hg, ← hedges]
  obtain ⟨s1, hs1⟩ : ∃ s1, g.setSat n { g.sat n with edges := l } = s1 := ⟨_, rfl⟩
  have hsat : s1.sat n = { g.sat n with edges := l } := by rw [← hs1, State.sat_setSat]
  obtain ⟨s2, hs2⟩ : ∃ s2, (if m.valid then (s1.strMirror n).setFld (if m.off then F.GDS_TIMING_T_OFF else F.GDS_TIMING_T_ON) m.time n
    else s1.strMirror n) = s2 := ⟨_, rfl⟩
  have hsat2 : s2.sat n = s1.sat n := by rw [← hs2, apply_ite (fun u : State => u.sat n), setFld_sat, strMirror_sat, ite_self]
  have hfld2 : s2.fld F.GDS_STRENGTH_ON_STR n = (s1.sat n).strOn % 32 := by
    rw [← hs2, ← fld_strMirror]
    split
    · split <;> exact fld_setFld_apart _ _ _ _ _ _ (by decide)
    · rfl
  have hexec : exec (.retEdge n) s = .next (s2.measured n) := by
    show execRetEdge n s = _
    simp only [execRetEdge, hgood, hgedges, hs1, hs2]
  exact ⟨_, hexec, by rw [measured_sat, hsat2, hsat], by rw [fld_measured _ _ _ _ (by decide), hfld2, hsat, hg]⟩

theorem retCond_shows (s : State) (n : Fin 12) (mv : Int) (h : (s.goodFrame n).2 = true) (hlo : -32768 ≤ mv) (hhi : mv ≤ 32767) :
    ∃ t, exec (.retCond n mv) s = .next t ∧ t.fldS F.GDS_SENSE_V_COND n = mv := by
  obtain ⟨g, hgood, -⟩ := goodFrame_of_taken h
  have hexec : exec (.retCond n mv) s = .next ((g.setFldS F.GDS_SENSE_V_COND mv n).measured n) := by
    show execRetCond n mv s = _
    simp only [execRetCond, hgood, if_true]
  refine ⟨_, hexec, ?_⟩
  rw [State.fldS, fld_measured _ _ _ _ (by decide)]
  exact fldS_setFldS_16 _ _ _ (by decide) ⟨by decide, by decide⟩ hlo hhi

/-- SAT_OT_WARN follows the temperature reported (R253, R273). -/
theorem retTemp_warns (s : State) (n : Fin 12) (c : Int) (h : (s.goodFrame n).2 = true) :
    ∃ t, exec (.retTemp n c) s = .next t ∧ (t.sat n).tempAt = some s.now ∧ t.faultActive .SAT_OT_WARN n = decide (s.satSet n P.OT_WARN ≤ c) := by
  obtain ⟨s', hat, hexec⟩ : ∃ s' : State, (s'.sat n).tempAt = some s.now ∧ exec (.retTemp n c) s = .next (
      if s.satSet n P.OT_WARN ≤ c then
        if s'.faultActive .SAT_OT_WARN n then s' else (s'.setFlag F.GDS_INT_STATUS_OT true n).satFault .SAT_OT_WARN n true
      else if s'.faultActive .SAT_OT_WARN n then s'.cease .SAT_OT_WARN n else s') := by
    obtain ⟨g, hgood, hg, hnow, hpar⟩ := goodFrame_of_taken h
    obtain ⟨s', hs'⟩ : ∃ s', (g.setFldS F.GDS_SENSE_TEMP c n).setSat n { g.sat n with tempAt := some g.now } = s' := ⟨_, rfl⟩
    have hsat : s'.sat n = { g.sat n with tempAt := some g.now } := by rw [← hs', State.sat_setSat]
    have hpar' : s'.params = s.params := by rw [← hs', State.setSat_params, State.setFldS_params, hpar]
    have hset : s'.satSet n P.OT_WARN = s.satSet n P.OT_WARN := satSet_congr _ (by rw [hsat, hg]) hpar'
    refine ⟨s', by rw [hsat, hnow], ?_⟩
    show execRetTemp n c s = _
    simp only [execRetTemp, hgood, hs', hset, Bool.not_true, Bool.false_eq_true, if_false]
    split <;> rfl
  refine ⟨_, hexec, ?_⟩
  cases hactive : s'.faultActive .SAT_OT_WARN n <;> split <;> simp only [Bool.false_eq_true, if_false, if_true]
  case false.isTrue hhot => exact ⟨by rw [satFault_sat, setFlag_sat, hat], (faultActive_satFault _ _ _ _).trans (decide_eq_true hhot).symm⟩
  case false.isFalse hcool => exact ⟨hat, hactive.trans (decide_eq_false hcool).symm⟩
  case true.isTrue hhot => exact ⟨hat, hactive.trans (decide_eq_true hhot).symm⟩
  case true.isFalse hcool => exact ⟨by rw [cease_sat, hat], (faultActive_cease _ _ _).trans (decide_eq_false hcool).symm⟩

theorem retRails_shows (s : State) (n : Fin 12) (vee : Bool) (mv : Int) (h : (s.goodFrame n).2 = true) (hlo : -32768 ≤ mv) (hhi : mv ≤ 32767) :
    ∃ t, exec (.retRails n vee mv) s = .next t ∧ (if vee then t.fldS F.GDS_RAILS_VEE n = mv else t.fldS F.GDS_RAILS_VCC n = mv ∧ (t.sat n).vcc = mv) := by
  have hshown : ∀ (t : State) f x, f.hi + 1 - f.lo = 16 → f.inWord → ((t.setFldS f mv n).setSat n x).fldS f n = mv := fun t f x hwidth hf =>
    fldS_setFldS_16 t n 0 hwidth hf hlo hhi
  obtain ⟨g, hgood, -⟩ := goodFrame_of_taken h
  show ∃ t, execRetRails n vee mv s = _ ∧ _
  simp only [execRetRails, hgood]
  cases vee with
  | true => exact ⟨_, rfl, hshown _ _ _ (by decide) ⟨by decide, by decide⟩⟩
  | false => exact ⟨_, rfl, hshown _ _ _ (by decide) ⟨by decide, by decide⟩, by rw [State.sat_setSat]⟩

/-- The oldest HS frame is taken; one that reports a release shows its wait (R253). -/
theorem retHs_takes (s : State) (n : Fin 12) (skipped : Bool) (wait : Nat) (l : List (Bool × Nat)) (h : (s.goodFrame n).2 = true)
    (hhs : (s.sat n).hs = (skipped, wait) :: l) :
    ∃ t, exec (.retHs n) s = .next t ∧ (t.sat n).hs = l ∧ (skipped = false → t.fld F.GDS_HS_WAIT_LAST n = min 65535 wait) := by
  obtain ⟨g, hgood, hg, -⟩ := goodFrame_of_taken h
  have hghs : (g.sat n).hs = (skipped, wait) :: l := by rw [hg, ← hhs]
  have hsat : ((g.setSat n { g.sat n with hs := l }).sat n).hs = l := by rw [State.sat_setSat]
  show ∃ t, execRetHs n s = _ ∧ _
  simp only [execRetHs, hgood, hghs]
  cases skipped with
  | true =>
    refine ⟨_, rfl, ?_, fun hrel => absurd hrel (by decide)⟩
    have hlane : ∀ (u : State) v x, ({ u.setLane n v with skipAt := x } : State).sat n = u.sat n := fun _ _ _ => rfl
    split
    · rw [hlane]
      exact hsat
    · exact hsat
  | false =>
    refine ⟨_, rfl, ?_, fun _ => ?_⟩
    · rw [setFld_sat, setFld_sat]
      exact hsat
    · rw [fld_setFld_apart _ _ _ _ _ _ (by decide), State.fld_setFld _ _ _ _ _ ⟨by decide, by decide⟩]
      exact Nat.mod_eq_of_lt (Nat.lt_of_le_of_lt (Nat.min_le_left _ _) (by decide))

theorem retHintAck_shows (s : State) (n : Fin 12) (h : (s.goodFrame n).2 = true) (hdue : (s.sat n).ackDue = true) :
    ∃ t, exec (.retHintAck n) s = .next t ∧ (t.sat n).ackDue = false ∧ (t.sat n).ackMissing = none ∧ t.fld F.GDS_STATUS_HINT_ACK n = (s.sat n).hint % 4 := by
  obtain ⟨g, hgood, hg, -⟩ := goodFrame_of_taken h
  have hgdue : (g.sat n).ackDue = true := by rw [hg, ← hdue]
  have hexec : exec (.retHintAck n) s = .next ((g.setSat n { g.sat n with ackDue := false, ackMissing := none }).setFld F.GDS_STATUS_HINT_ACK
      (g.sat n).hint n) := by
    show execRetHintAck n s = _
    simp only [execRetHintAck, hgood, hgdue, Bool.and_self, if_true]
  refine ⟨_, hexec, by rw [setFld_sat, State.sat_setSat], by rw [setFld_sat, State.sat_setSat], ?_⟩
  rw [State.fld_setFld _ _ _ _ _ ⟨by decide, by decide⟩, hg]
  rfl

/-- Settles O11: each frame acts on the satellite's record or on its GDS registers; the faults it raises or ends and the engines' measurement entries touch
neither. -/
theorem satelliteFramesAct : Obligations.SatelliteFramesAct :=
  ⟨keepaliveSend_sends, cfgKeepalive_stores, cfgWrite_acts, cfgDesatClear_acts, cfgResume_resumes, cfgStop_stops, retStatus_shows, retEdge_takes,
    retCond_shows, retTemp_warns, retRails_shows, retHs_takes, retHintAck_shows⟩

end Sys2Proof.GateDrive

/-! ### The supply timer: where the statement about faults fails (R275) -/

namespace Sys2Proof.GateDrive

open Sys2Proof.Machine Sys2Proof.FieldControl Sys2Proof.FluxAtlas

/-- The millisecond of R275 counts from the satellite's entry to ON, however long VCC has been out of its band before. -/
theorem supplyRegTimer_recentlyOn {s : State} {n : Fin 12} {t0 : Nat} (hsince : (s.sat n).regSince = some t0)
    (hrecent : s.elapsed (max t0 (s.lc .satellite n).since) msT = false) : exec (.supplyRegTimer n) s = .next s := by
  show execSupplyRegTimer n s = _
  simp only [execSupplyRegTimer, hsince, hrecent, Bool.and_false, Bool.false_and, Bool.false_eq_true, if_false]

/-- Satellite 0, in TX_DRIVER mode, has reported a VCC out of its band at tick 0, while it started, and is ON since tick 400,000; 1 ms has passed since the
report. -/
def startedOutOfBandState : State :=
  (({ now := msT } : State).setLc .satellite 0 { state := .on, since := 400000 }).setSat 0 { supplyMode := 1, regSince := some 0 }

/-- Refutes O12: SUPPLY_REG wants VCC out of its band for 1 ms while the satellite is ON (R275); the statement has it raised 1 ms after VCC left the band,
though the satellite has been ON for half of that only. -/
theorem not_satelliteFaultsAct : ¬ Obligations.SatelliteFaultsAct := by
  intro h
  obtain ⟨-, -, -, -, -, -, -, -, -, -, -, -, -, -, hreg, -⟩ := h
  have hsince : (startedOutOfBandState.sat (0 : Fin 12)).regSince = some 0 := by decide +kernel
  have hrecent : startedOutOfBandState.elapsed (max 0 (startedOutOfBandState.lc .satellite (0 : Fin 12)).since) msT = false := by decide +kernel
  obtain ⟨t, hexec, hactive⟩ := hreg startedOutOfBandState 0 0 hsince (by decide +kernel) (by decide +kernel) (by decide +kernel)
  rw [supplyRegTimer_recentlyOn hsince hrecent] at hexec
  obtain rfl := Host.Outcome.next.inj hexec
  exact absurd hactive (by decide +kernel)

end Sys2Proof.GateDrive

/-! ### Accesses that are granted, and requests to switch a domain off (R28, R318, R445, R476) -/

namespace Sys2Proof.CurrentSensing

open Sys2Proof.Machine

variable {s : State} {m : Nat}

/-- An access that is carried out leaves the state to its own effect. -/
theorem access_granted {d a len right : Nat} (h : (s.access m d a len right).2 = true) : s.access m d a len right = (s, true) := by
  revert h
  unfold State.access
  split
  · exact fun h => absurd h Bool.false_ne_true
  · split
    · exact fun h => absurd h Bool.false_ne_true
    · split
      · exact fun h => absurd h Bool.false_ne_true
      · exact fun _ => rfl

theorem mayWrite_granted {r : Reg} {i j : Nat} (h : (s.mayWrite m r i j).2 = true) : s.mayWrite m r i j = (s, true) := access_granted h

theorem mayRead_granted {r : Reg} {i j : Nat} (h : (s.mayRead m r i j).2 = true) : s.mayRead m r i j = (s, true) := access_granted h

theorem onWrite_granted {r : Reg} {i : Nat} (h : (s.mayWrite m r i).2 = true) (act : State → State) : s.onWrite m r i act = act s := by
  simp only [State.onWrite, mayWrite_granted h, if_true]

/-- While a bridge is not OFF, a request to switch PD8 off is refused (R318). -/
theorem domainOffRequest_adcs {b : Fin 2} (h : s.isOff .bridge b = false) : s.domainOffRequest 8 = s := by
  have hbridge : ([0, 1].any fun k => !s.isOff .bridge k) = true := by
    refine List.any_eq_true.mpr ⟨b, ?_, by rw [h]; rfl⟩
    have hb := b.isLt
    simp only [List.mem_cons, List.not_mem_nil, or_false]
    omega
  have hrefused : s.offRefused 8 = true := (Bool.or_eq_true _ _).mpr (Or.inr hbridge)
  rw [State.domainOffRequest, if_pos hrefused]

/-- Where no domain waits to be switched off or is being so, and no mode waits for the domains, nothing is taken up. -/
theorem settleDomains_of_quiet (h : s.quiet = true) : s.settleDomains = s := by
  simp only [State.quiet, Bool.and_eq_true, Option.isNone_iff_eq_none, List.all_eq_true, List.mem_range, Bool.not_eq_true'] at h
  obtain ⟨hmode, hdomains⟩ := h
  have hrange : ∀ d ∈ [11, 10, 9, 8, 7, 5, 4, 3, 2, 1, 6], d < 12 := by decide
  have hheld : [11, 10, 9, 8, 7, 5, 4, 3, 2, 1, 6].foldl (fun s d =>
      if (s.domainOf d).heldOff && s.dependentsOff d then s.domainDisable d else s) s = s := by
    refine List.foldlRecOn (motive := (· = s)) _ _ rfl fun t ht d hd => ?_
    rw [ht, (hdomains d (hrange d hd)).1, Bool.false_and, if_neg Bool.false_ne_true]
  have hstopping : [11, 10, 9, 8, 7, 5, 4, 3, 2, 1, 6].foldl (fun s d => if s.isStopping .domain d then s.disableFuncs d else s) s = s := by
    refine List.foldlRecOn (motive := (· = s)) _ _ rfl fun t ht d hd => ?_
    rw [ht, (hdomains d (hrange d hd)).2, if_neg Bool.false_ne_true]
  simp only [State.settleDomains, hheld, hstopping, State.parkEntry, hmode]

/-- Settles O44: the bridge refuses the request, so that PD_OFF with PD8 alone leaves the whole state as it is. -/
theorem powerDomainOfTheAdcsStaysOnUnderABridge : Obligations.PowerDomainOfTheAdcsStaysOnUnderABridge := by
  refine ⟨fun s b h => domainOffRequest_adcs h, fun s m b hlow hhigh hgrant hquiet hbridge => ⟨s, ?_, fun _ => rfl⟩⟩
  have hmask : (domainsIn 0x100).reverse = [8] := by decide
  show execPdOff m 0x100 s = _
  simp only [execPdOff, hlow, hhigh, decide_true, Bool.and_self, Bool.not_true, Bool.false_eq_true, if_false, onWrite_granted hgrant, hmask, List.foldl_cons,
    List.foldl_nil, domainOffRequest_adcs hbridge, settleDomains_of_quiet hquiet]

end Sys2Proof.CurrentSensing

/-! ### What the raise of a fault leaves of the converters, and the commands of one ADC (R297 to R303, R310, R321) -/

namespace Sys2Proof.CurrentSensing

open Sys2Proof.Machine Sys2Proof.FluxAtlas Sys2Proof.GateDrive

variable (s : State) (n : Nat)

/-! #### What a raise leaves -/

/-- The main ADCs, what is kept of the ΔΣ outputs, and one register. -/
def converters (k : RKey) (s : State) : Table Nat AdcUnit × SenseCommon × Word := (s.adcs, s.sense, s.reg k)

theorem converters_setFld {k : RKey} (f : Fld) (v i j : Nat) (hk : k.reg ≠ f.reg) : converters k (s.setFld f v i j) = converters k s := by
  unfold converters
  rw [State.reg_setFld_other s f v i j k (fun hkey => hk (by rw [hkey]))]
  rfl

/-- A raise touches neither the converters nor a register outside those of its reaction. -/
theorem raiseBlind_converters {α : Type} (k : RKey) (hk : k.reg ∉ reactionRegs) (f : Table Nat AdcUnit × SenseCommon × Word → α) :
    RaiseBlind (fun s => f (converters k s)) := by
  have hfld : ∀ (s : State) (g : Fld) (v i : Nat), g.reg ∈ reactionRegs → f (converters k (s.setFld g v i)) = f (converters k s) := fun s g v i hg => by
    rw [converters_setFld s g v i 0 (fun hreg => hk (hreg ▸ hg))]
  exact {
    ring := fun _ _ _ => rfl
    refused := fun s v n => hfld s _ v n (by decide)
    memory := fun _ _ _ _ => rfl
    msix := fun _ _ => rfl
    lines := fun _ _ => rfl
    engine := fun _ _ _ => rfl
    overrun := fun s b c => hfld s _ (b2n b) c (by decide)
    regs := hfld
    safe := fun _ _ _ => rfl
    lane := fun _ _ _ => rfl
    island := fun _ _ => rfl
    slotStop := fun _ _ => rfl
    log := fun _ _ _ _ => rfl
    active := fun _ _ => rfl }

@[simp] theorem raise_adc (f : FaultName) (unit : Nat) (sc : Scope) (info : Nat) (cond : Option Nat) (lasting : Bool) :
    (s.raise f unit sc info cond lasting).adc n = s.adc n :=
  (raiseBlind_converters ⟨.ADC_STATUS, 0, 0⟩ (by decide) (fun p => Table.at ({} : AdcUnit) p.1 n)).raise s f unit sc info cond lasting

@[simp] theorem setFld_adc (f : Fld) (v i j : Nat) : (s.setFld f v i j).adc n = s.adc n := rfl
@[simp] theorem setFlag_adc (f : Fld) (v : Bool) (i j : Nat) : (s.setFlag f v i j).adc n = s.adc n := rfl
@[simp] theorem setFlag_sens (f : Fld) (v : Bool) (i j b : Nat) : (s.setFlag f v i j).sens b = s.sens b := rfl

/-! #### Starts of conversions (R298, R299, R301) -/

@[simp] theorem beginConv_run (c : Conv) (wait : Nat) : ((s.beginConv n c wait).adc n).run = some { c with at_ := s.now + wait } := by
  rw [State.beginConv, State.adc_setAdc]

/-- A counter that is bumped goes up by one until it is full. -/
theorem fld_bump {f : Fld} (hf : f.inWord) (i j : Nat) : (s.bump f i j).fld f i j = min (2 ^ (f.hi + 1 - f.lo) - 1) (s.fld f i j + 1) := by
  have hpos : 0 < 2 ^ (f.hi + 1 - f.lo) := Nat.two_pow_pos _
  unfold State.bump
  rw [State.fld_setFld s f _ i j hf]
  exact Nat.mod_eq_of_lt (by omega)

/-- A software start begins where the ADC is idle, is held where none is, and is else dropped and counted (R299). -/
theorem adcSwStart_acts (s : State) (m : Fin 21) (n : Fin 6) (i : Fin 8) (hgrant : (s.mayWrite m .ADC_SW_START n).2 = true) :
    ∃ t, exec (.adcSwStart m n i) s = .next t ∧
      (if (s.adc n).run.isNone && (s.adc n).aborted.isNone then (t.adc n).run.map (fun c => (c.src, c.input)) = some (.software, i.val)
       else if (s.adc n).heldSw.isNone then (t.adc n).heldSw = some i.val
       else t.fld F.ADC_STATS_SW_DROP n = min 255 (s.fld F.ADC_STATS_SW_DROP n + 1)) := by
  have hexec : exec (.adcSwStart m n i) s =
      if (s.adc n).run.isNone && (s.adc n).aborted.isNone then .next (s.beginConv n { src := .software, input := i, at_ := s.now } 32)
      else if (s.adc n).heldSw.isNone then .next (s.setAdc n { s.adc n with heldSw := some i.val }) else .next (s.bump F.ADC_STATS_SW_DROP n) := by
    show execAdcSwStart m n i s = _
    simp only [execAdcSwStart, mayWrite_granted hgrant, Bool.not_true, Bool.false_eq_true, if_false]
  rw [hexec]
  split
  · exact ⟨_, rfl, by rw [beginConv_run]; rfl⟩
  · split
    · exact ⟨_, rfl, by rw [State.adc_setAdc]⟩
    · exact ⟨_, rfl, fld_bump s ⟨by decide, by decide⟩ n 0⟩

/-- A safety read of an idle ADC that is not in low-power mode begins its conversion (R298, R303). -/
theorem adcUrgentRequest_safety (s : State) (n : Fin 6) (i : Fin 8) (hpd : s.pdOn 8 = true) (hmode : s.par P.ADC_MODE n ≠ 2) (hrun : (s.adc n).run = none)
    (haborted : (s.adc n).aborted = none) :
    ∃ t, exec (.adcUrgentRequest (.safety n i)) s = .next t ∧ (t.adc n).run.map (fun c => (c.src, c.input)) = some (.safety, i.val) := by
  have hexec : exec (.adcUrgentRequest (.safety n i)) s = .next (s.beginConv n { src := .safety, input := i, at_ := s.now } 32) := by
    show execAdcUrgentRequest (.safety n i) s = _
    simp only [execAdcUrgentRequest, hpd, beq_eq_false_iff_ne.mpr hmode, State.urgentRequest, hrun, haborted, Option.isSome_none, Bool.not_true,
      Bool.false_eq_true, if_false]
  exact ⟨_, hexec, by rw [beginConv_run]; rfl⟩

@[simp] theorem bump_sensing (f : Fld) (i j v : Nat) : (s.bump f i j v).sensing = s.sensing := rfl

theorem abortConv_sensing : (s.abortConv n).sensing = s.sensing := by
  unfold State.abortConv
  split
  · rfl
  · split
    · refine foldl_reading (π := State.sensing) _ _ (fun t k => ?_) s
      dsimp only
      split
      · split
        · rw [bump_sensing, State.setAdc_sensing]
        · rfl
      · rw [State.setAdc_sensing]
    · rw [bump_sensing, State.setAdc_sensing]
    · rw [bump_sensing, State.setAdc_sensing]

/-- An urgent request acts on the ADCs alone, of what a bridge senses. -/
theorem urgentRequest_sensing (src : ConvSrc) (i : Nat) : (s.urgentRequest n src i).sensing = s.sensing := by
  unfold State.urgentRequest
  extract_lets x wait
  have hwait : wait.sensing = s.sensing := rfl
  split
  · split
    · exact hwait
    · rfl
  · split
    · rfl
    · split
      · exact hwait
      · exact abortConv_sensing s n

/-- The trip-time capture that was due is asked of the three ADCs, and due no more (R301). -/
theorem adcUrgentRequest_tripCap (s : State) (b : Fin 2) (hpd : s.pdOn 8 = true) (hdue : (s.sens b).tripCapDue = true) :
    ∃ t, exec (.adcUrgentRequest (.tripCap b)) s = .next t ∧ (t.sens b).tripCapDue = false := by
  have hexec : exec (.adcUrgentRequest (.tripCap b)) s = .next ((adcsOfBridge b).foldl (fun s n => s.urgentRequest n (.tripCap b) 0)
      (s.setSens b { s.sens b with tripCapDue := false, tripCap := [] })) := by
    show execAdcUrgentRequest (.tripCap b) s = _
    simp only [execAdcUrgentRequest, hpd, hdue, Bool.not_true, Bool.false_eq_true, if_false]
  have hsensing := foldl_reading (adcsOfBridge b) _ (fun t n => urgentRequest_sensing t n (.tripCap b) 0)
    (s.setSens b { s.sens b with tripCapDue := false, tripCap := [] })
  refine ⟨_, hexec, ?_⟩
  rw [State.sens, hsensing]
  exact congrArg BridgeSensing.tripCapDue (State.sens_setSens s b _)

/-! #### The reference check (R297), reads that clear VALID (R321), the comparison of the DC links (R310) -/

theorem adcRefCheck_acts (s : State) (n : Fin 6) (raw : Int) (hrun : (s.adc n).run = none) (haborted : (s.adc n).aborted = none) (hpd : s.pdOn 8 = true) :
    ∃ t, exec (.adcRefCheck n raw) s = .next t ∧ (t.adc n).refOk = decide ((s.correct n raw - 4096).natAbs ≤ 40) ∧
      ((t.adc n).refOk = false → (s.adc n).refBad = 2 → t.faultActive .ADC_REF_FAULT n = true) := by
  show ∃ t, execAdcRefCheck n raw s = .next t ∧ _
  unfold execAdcRefCheck
  extract_lets k x ok bad s1 s2
  have hidle : (x.run.isSome || x.aborted.isSome || !s.pdOn 8) = false := by
    rw [show x.run = none from hrun, show x.aborted = none from haborted, hpd]
    rfl
  have hok : (s2.adc k).refOk = ok := by rw [setFlag_adc, State.adc_setAdc]
  rw [hidle, if_neg Bool.false_ne_true]
  refine ⟨_, rfl, ?_⟩
  split
  case isTrue => exact ⟨by rw [raise_adc, setFlag_adc, hok], fun _ _ => faultActive_raise_self _ _ _ _ _ _ _⟩
  case isFalse hbad =>
    refine ⟨hok, fun hfalse htwo => absurd ?_ hbad⟩
    have hnok : ok = false := hok.symm.trans hfalse
    have hx : x.refBad = 2 := htwo
    simp only [bad, hnok, hx, Bool.false_eq_true, if_false]

theorem resultRead_clears (s : State) (m : Fin 21) (n : Fin 6) (hgrant : (s.mayRead m .ADC_RESULT n).2 = true) :
    ∃ t, exec (.resultRead m n) s = .next t ∧ t.flag F.ADC_RESULT_VALID n = false ∧ t = { s with regs := t.regs } := by
  have hexec : exec (.resultRead m n) s = .next (s.setFlag F.ADC_RESULT_VALID false n) := by
    show execResultRead m n s = _
    simp only [execResultRead, mayRead_granted hgrant, if_true]
  exact ⟨_, hexec, flag_setFlag s false n 0 (by decide), rfl⟩

theorem tripCap1Read_clears (s : State) (m : Fin 21) (b : Fin 2) (hgrant : (s.mayRead m .ADC_TRIP_CAP1 b).2 = true) :
    ∃ t, exec (.tripCap1Read m b) s = .next t ∧ t.flag F.ADC_TRIP_CAP1_VALID b = false ∧ t = { s with regs := t.regs } := by
  have hexec : exec (.tripCap1Read m b) s = .next (s.setFlag F.ADC_TRIP_CAP1_VALID false b) := by
    show execTripCap1Read m b s = _
    simp only [execTripCap1Read, mayRead_granted hgrant, if_true]
  exact ⟨_, hexec, flag_setFlag s false b 0 (by decide), rfl⟩

theorem vdcMismatchTimer_raises (s : State) (t0 : Nat) (hsince : s.sense.mismatchSince = some t0) (htime : s.elapsed t0 msT = true) :
    ∃ t, exec .vdcMismatchTimer s = .next t ∧ t.faultActive .VDC_MISMATCH 0 = true := by
  show ∃ t, execVdcMismatchTimer s = .next t ∧ _
  simp only [execVdcMismatchTimer, hsince, htime, Bool.true_and]
  cases hactive : s.faultActive .VDC_MISMATCH 0 with
  | true => exact ⟨s, rfl, hactive⟩
  | false => exact ⟨_, rfl, faultActive_raise_self _ _ _ _ _ _ _⟩

end Sys2Proof.CurrentSensing

/-! ### The comparators (R226 to R228, R304) -/

namespace Sys2Proof.PwmTimelines

open Sys2Proof.Machine Sys2Proof.FluxAtlas

variable {α : Type} {b : Nat} {π : State → α}

/-- A leg that is cut keeps its schedule: its gates turn off, and its refresh stays due or done (R228). -/
theorem EdgeBlind.cutLeg (h : EdgeBlind b π) (s : State) (k : Nat) : π (s.cutLeg b k) = π s := by
  unfold State.cutLeg
  extract_lets x leg s1 t
  have hcut : π s1 = π s := h.pwm s _ (schedule_setLeg (x := s.pwm b) rfl rfl)
  split
  · rfl
  · split
    · exact hcut
    · split
      · exact (h.gateOff _ _ _ _).trans ((h.gateOff _ _ _ _).trans hcut)
      · split
        · exact (h.gateOff _ _ _ _).trans ((h.gateOff _ _ _ _).trans hcut)
        · exact (h.launchDemand _ _ _ _).trans hcut

end Sys2Proof.PwmTimelines

namespace Sys2Proof.CurrentSensing

open Sys2Proof.Machine Sys2Proof.FluxAtlas Sys2Proof.GateDrive Sys2Proof.PwmTimelines

/-- The registers that a trip writes, its faults and their reaction included. -/
def tripRegs : List Reg := [.PWM_TRIP_STATUS, .PWM_STATUS, .PWM_INT_STATUS, .GDS_INT_STATUS] ++ reactionRegs

section
variable {k : RKey} (hk : k.reg ∉ tripRegs)
include hk

theorem not_reaction_of_not_trip : k.reg ∉ reactionRegs := fun h => hk (List.mem_append_right _ h)

theorem reg_setFlag_trip (s : State) (f : Fld) (v : Bool) (i j : Nat) (hf : f.reg ∈ tripRegs) : (s.setFlag f v i j).reg k = s.reg k :=
  State.reg_setFld_other s f _ i j k (fun hkey => hk (by rw [hkey]; exact hf))

theorem edgeBlind_reg (b : Nat) : EdgeBlind b (fun s => s.reg k) where
  toRaiseBlind := raiseBlind_converters k (not_reaction_of_not_trip hk) (fun p => p.2.2)
  pwm _ _ _ := rfl
  conflict s n := reg_setFlag_trip hk s _ true n 0 (by decide)

/-- A trip shows in the registers of its bridge's block, of the satellites and of its fault alone (R226 to R229, R301). -/
theorem tripAct_reg (s : State) (b src : Nat) : (s.tripAct b src).reg k = s.reg k := by
  have hcut : ∀ (t : State) j, (t.cutLeg b j).reg k = t.reg k := (edgeBlind_reg hk b).cutLeg
  unfold State.tripAct
  extract_lets x s1 s2 s3 y s4 z s5
  have hs2 : s2.reg k = s.reg k := by
    have hstatus : k ≠ ⟨.PWM_TRIP_STATUS, b, 0⟩ := fun hkey => hk (hkey ▸ (by decide : Reg.PWM_TRIP_STATUS ∈ tripRegs))
    unfold s2 s1
    rw [reg_setFlag_trip hk _ _ _ _ _ (by decide), reg_setFlag_trip hk _ _ _ _ _ (by decide), State.reg_setReg_other _ _ _ _ hstatus]
  have hs3 : s3.reg k = s.reg k := by
    have hraise : (s2.raise .TRIP_ACTED b (s2.scopeBridge b)).reg k = s.reg k := ((edgeBlind_reg hk b).raise _ _ _ _ _ _ _).trans hs2
    unfold s3
    rw [apply_ite (fun t : State => t.reg k), hraise, hs2, ite_self]
  have hs5 : s5.reg k = s.reg k := by
    unfold s5
    split <;> exact hs3
  split
  · exact (hcut _ _).trans hs5
  · exact (foldl_reading (π := fun t => t.reg k) _ _ hcut _).trans hs5

theorem tripAssert_reg (s : State) (b src : Nat) : (s.tripAssert b src).reg k = s.reg k := by
  unfold State.tripAssert
  dsimp only
  split
  · rfl
  · split
    · rfl
    · exact tripAct_reg hk s b src

end

/-- A bit that is clear is set by adding its weight, and one that is set is cleared by subtracting it. -/
theorem bits_add_pow {v k : Nat} (h : bits v k k = 0) : bits (v + 2 ^ k) k k = 1 := by
  rw [bits_eq_testBit] at h ⊢
  rw [Nat.add_comm, Nat.testBit_two_pow_add_eq]
  revert h
  cases v.testBit k <;> decide

theorem bits_sub_pow {v k : Nat} (h : bits v k k = 1) : bits (v - 2 ^ k) k k = 0 := by
  have hset : v.testBit k = true := by
    rw [bits_eq_testBit] at h
    revert h
    cases v.testBit k <;> decide
  have hsum : 2 ^ k + (v - 2 ^ k) = v := Nat.add_sub_cancel' (Nat.ge_two_pow_of_testBit hset)
  have hflip := Nat.testBit_two_pow_add_eq (v - 2 ^ k) k
  rw [hsum, hset] at hflip
  rw [bits_eq_testBit]
  revert hflip
  cases (v - 2 ^ k).testBit k <;> decide

/-- A bit of an eight-bit field, after the field was written. -/
theorem bits_setFld_8 (s : State) {f : Fld} (v : Nat) (k : Fin 8) (hf : f.inWord) (hwidth : f.hi + 1 - f.lo = 8) :
    bits ((s.setFld f v).fld f) k k = bits v k k := by
  rw [State.fld_setFld s f v 0 0 hf, hwidth, bits_mod _ _ _ _ k.isLt (Nat.le_succ _)]

/-- A comparator past its level asserts, and stays latched (R304); the trips that follow leave its register as it is. -/
theorem ctAssert_asserts (s : State) (k : Fin 8) (mv : Int) (hpd : s.pdOn 8 = true) (hlow : bits (s.fld F.ADC_CT_STATUS_LEVEL) k k = 0)
    (hpast : s.ctTrue k mv 0 = true) :
    ∃ t, exec (.ctAssert k mv) s = .next t ∧ bits (t.fld F.ADC_CT_STATUS_LEVEL) k k = 1 ∧ bits (t.fld F.ADC_CT_STATUS_LATCHED) k k = 1 := by
  have hlevel : F.ADC_CT_STATUS_LEVEL.inWord := ⟨by decide, by decide⟩
  have hlatched : F.ADC_CT_STATUS_LATCHED.inWord := ⟨by decide, by decide⟩
  show ∃ t, execCtAssert k mv s = .next t ∧ _
  simp only [execCtAssert, hpd, hlow, hpast, Nat.reduceBEq, Bool.not_true, Bool.not_false, Bool.and_self, Bool.false_eq_true, if_false, if_true]
  refine ⟨_, rfl, ?_⟩
  have htrips : ∀ (t : State) (f : Fld), f.reg = .ADC_CT_STATUS → ((t.tripAssert 0 (10 + k)).tripAssert 1 (10 + k)).fld f = t.fld f := fun t f hf => by
    have hk : f.reg ∉ tripRegs := by rw [hf]; decide
    unfold State.fld
    rw [tripAssert_reg (k := ⟨f.reg, 0, 0⟩) hk, tripAssert_reg (k := ⟨f.reg, 0, 0⟩) hk]
  rw [htrips _ _ rfl, htrips _ _ rfl]
  constructor
  · rw [State.setFlag, fld_setFld_apart _ _ _ _ _ _ (by decide), fld_setFld_apart _ _ _ _ _ _ (by decide), bits_setFld_8 _ _ k hlevel (by decide)]
    exact bits_add_pow hlow
  · rw [State.setFlag, fld_setFld_apart _ _ _ _ _ _ (by decide), bits_setFld_8 _ _ k hlatched (by decide)]
    exact bits_or_pow _ _

/-- A comparator back by the hysteresis releases (R304). -/
theorem ctAssert_releases (s : State) (k : Fin 8) (mv : Int) (hpd : s.pdOn 8 = true) (hhigh : bits (s.fld F.ADC_CT_STATUS_LEVEL) k k = 1)
    (hback : s.ctTrue k mv 50 = false) :
    ∃ t, exec (.ctAssert k mv) s = .next t ∧ bits (t.fld F.ADC_CT_STATUS_LEVEL) k k = 0 ∧ t = { s with regs := t.regs } := by
  have hexec : exec (.ctAssert k mv) s = .next (s.setFld F.ADC_CT_STATUS_LEVEL (s.fld F.ADC_CT_STATUS_LEVEL - 2 ^ k.val)) := by
    show execCtAssert k mv s = _
    simp only [execCtAssert, hpd, hhigh, hback, beq_self_eq_true, Bool.not_true, Bool.not_false, Bool.false_and, Bool.and_self, Bool.false_eq_true, if_false,
      if_true]
  refine ⟨_, hexec, ?_, rfl⟩
  rw [bits_setFld_8 _ _ k ⟨by decide, by decide⟩ (by decide)]
  exact bits_sub_pow hhigh

end Sys2Proof.CurrentSensing

/-! ### The outputs of the demodulators (R305 to R310) -/

namespace Sys2Proof.CurrentSensing

open Sys2Proof.Machine Sys2Proof.FluxAtlas Sys2Proof.GateDrive

/-- When the channels gave their outputs, and the register that shows the output of one of them. -/
def outputs (c : Nat) (s : State) : Table Nat Nat × Word := (s.sense.outAt, s.reg ⟨.ADC_DS_VAL, c, 0⟩)

variable (s : State) (b c : Nat)

theorem raiseBlind_outputs : RaiseBlind (outputs c) := raiseBlind_converters ⟨.ADC_DS_VAL, c, 0⟩ (by simp [reactionRegs]) (fun p => (p.2.1.outAt, p.2.2))

theorem outputs_setFlag {f : Fld} (v : Bool) (i j : Nat) (hf : f.reg ≠ .ADC_DS_VAL) : outputs c (s.setFlag f v i j) = outputs c s := by
  unfold outputs
  rw [State.setFlag, State.reg_setFld_other s f _ i j _ (fun hkey => hf (congrArg RKey.reg hkey).symm)]
  rfl

theorem outputs_noteVdc : outputs c (s.noteVdc b) = outputs c s := rfl

theorem outputs_compareLinks : outputs c s.compareLinks = outputs c s := by
  unfold State.compareLinks
  extract_lets on far sense s1
  split
  · exact (raiseBlind_outputs c).cease s1 _ _
  · rfl

theorem outAt_of_outputs {s t : State} {c : Nat} (h : outputs c t = outputs c s) : t.sense.outAt = s.sense.outAt := congrArg Prod.fst h

theorem fld_of_outputs {s t : State} {c : Nat} (h : outputs c t = outputs c s) {f : Fld} (hf : f.reg = .ADC_DS_VAL) : t.fld f c = s.fld f c := by
  unfold State.fld
  rw [hf]
  exact congrArg (fun p : Table Nat Nat × Word => bits p.2.toNat f.hi f.lo) h

/-- A field of 16 bits that is written with a signed value reads as that value, wrapped. -/
theorem fldS_setFldS_wraps {f : Fld} (v : Int) (i j : Nat) (hf : f.inWord) (hwidth : f.hi + 1 - f.lo = 16) :
    (s.setFldS f v i j).fldS f i j = toSigned 16 (ofSigned 16 v) := by
  unfold State.fldS State.setFldS
  rw [State.fld_setFld s f _ i j hf, hwidth]
  unfold toSigned
  rw [Nat.mod_mod]

theorem dsOutput_acts (s : State) (c : Fin 24) (w : List Bool) (hpd : s.pdOn 8 = true) (hlink : s.linkLive (c.val / 2) = true)
    (hwindow : w.length = 3 * s.parN P.DS_OSR c - 2) (htime : s.elapsed (s.sense.outAt.at 0 c.val) (40 * s.parN P.DS_OSR c) = true) :
    ∃ t, exec (.dsOutput c w) s = .next t ∧ t.sense.outAt.at 0 c.val = s.now ∧
      (s.isOn .satellite (c.val / 2) = true → (s.sense.since.at none c.val).any (fun t0 => s.elapsed t0 (120 * s.parN P.DS_OSR c)) = true →
        t.flag F.ADC_DS_VAL_VALID c = true ∧ t.fldS F.ADC_DS_VAL_VALUE c = toSigned 16 (ofSigned 16 (sinc3 (s.parN P.DS_OSR c) w))) := by
  show ∃ t, execDsOutput c w s = .next t ∧ _
  unfold execDsOutput
  extract_lets k n osr sense s1 valid s2 s3 v ovr s4 s5 s6 b y s7
  have hdue : (!s.pdOn 8 || !s.linkLive n || decide (w.length ≠ 3 * osr - 2) || !s.elapsed (s.sense.outAt.at 0 k) (40 * osr)) = false := by
    simp [n, osr, k, hpd, hlink, hwindow, htime]
  rw [hdue, if_neg Bool.false_ne_true]
  split
  case isTrue hinvalid =>
    refine ⟨s3, rfl, Table.at_setAt_same 0 s.sense.outAt k s.now, fun hon hsince => ?_⟩
    obtain ⟨t0, hvalidSince, hlong⟩ := (Option.any_eq_true _ _).mp hsince
    have hsettled : (match s1.sense.since.at none k with | some t => s1.elapsed t (120 * osr) | none => false) = true := by
      rw [show s1.sense.since.at none k = some t0 from hvalidSince]
      exact hlong
    have hvalid : valid = true := (Bool.and_eq_true _ _).mpr ⟨hon, hsettled⟩
    rw [hvalid] at hinvalid
    exact absurd hinvalid Bool.false_ne_true
  case isFalse =>
    have hs5 : outputs k s5 = outputs k s4 := by
      unfold s5
      split
      · exact ((raiseBlind_outputs k).raise _ _ _ _ _ _ _).trans (outputs_setFlag _ _ _ _ _ (by decide))
      · rfl
    have hs6 : outputs k s6 = outputs k s4 := by
      unfold s6
      rw [apply_ite (outputs k), apply_ite (outputs k), outputs_noteVdc, outputs_noteVdc, ite_self, ite_self, hs5]
    have hs7 : outputs k s7 = outputs k s4 := by
      unfold s7
      split
      · exact hs6
      · split <;> exact hs6
    have hlast : outputs k (if k = 7 ∨ k = 19 then s7.compareLinks else s7) = outputs k s4 := by
      rw [apply_ite (outputs k), outputs_compareLinks, ite_self, hs7]
    refine ⟨_, rfl, ?_, fun _ _ => ⟨?_, ?_⟩⟩
    · rw [outAt_of_outputs hlast]
      exact Table.at_setAt_same 0 s.sense.outAt k s.now
    · rw [State.flag, fld_of_outputs hlast rfl]
      exact (flag_setFlag_apart _ _ _ _ _ _ (by decide)).trans (flag_setFlag _ true k 0 (by decide))
    · have hvalue : s4.fld F.ADC_DS_VAL_VALUE k = (s3.setFldS F.ADC_DS_VAL_VALUE v k).fld F.ADC_DS_VAL_VALUE k :=
        (fld_setFld_apart _ _ _ _ _ _ (by decide)).trans (fld_setFld_apart _ _ _ _ _ _ (by decide))
      rw [State.fldS, fld_of_outputs hlast rfl, hvalue]
      exact fldS_setFldS_wraps s3 v k 0 ⟨by decide, by decide⟩ (by decide)

end Sys2Proof.CurrentSensing

/-! ### The end of a conversion (R294 to R302, R314, R321) -/

namespace Sys2Proof.CurrentSensing

open Sys2Proof.Machine Sys2Proof.FluxAtlas Sys2Proof.GateDrive

/-- A property that everything a code goes to keeps: it may look at VALID of an ADC's result, which a result sets and nothing clears, and at the code of its
safety read, which safety reads alone write, with `r`. -/
structure CodeKept (n : Nat) (r : Nat × Int) (Q : State → Prop) : Prop where
  fld : ∀ {s f v i j}, apart f F.ADC_RESULT_VALID = true → Q s → Q (State.setFld s f v i j)
  valid : ∀ {s}, Q s → Q (State.setFlag s F.ADC_RESULT_VALID true n)
  safety : ∀ {s}, Q s → Q (State.setAdc s n { State.adc s n with safety := some r })
  adc : ∀ {s k x}, x.safety = (State.adc s k).safety → Q s → Q (State.setAdc s k x)
  sens : ∀ {s b x}, Q s → Q (State.setSens s b x)
  engine : ∀ {s c e}, Q s → Q (State.setEngine s c e)
  stop : ∀ {s c}, Q s → Q (State.updLc s .engine c Lc.faultStop)
  raise : ∀ {s f unit sc info cond lasting}, Q s → Q (State.raise s f unit sc info cond lasting)

/-- Each of a run of operations keeps a property, and so does the run. -/
theorem foldl_keeps {β : Type} {Q : State → Prop} (l : List β) {f : State → β → State} (h : ∀ s b, Q s → Q (f s b)) {s : State} (hs : Q s) :
    Q (l.foldl f s) :=
  List.foldlRecOn (motive := Q) l f hs fun t ht b _ => h t b ht

namespace CodeKept

variable {n : Nat} {r : Nat × Int} {Q : State → Prop} {s : State}

/-- A field written that is known where the lemma is used: whether it is apart from VALID is computed there. -/
theorem write (h : CodeKept n r Q) {f : Fld} {v i j : Nat} (hs : Q s) (hf : apart f F.ADC_RESULT_VALID = true := by decide) : Q (s.setFld f v i j) :=
  h.fld hf hs

/-! #### Latches and the conversions that follow (R294, R298 to R300, R326, R345) -/

theorem positionCheck (h : CodeKept n r Q) (hs : Q s) (slot : Nat) : Q (s.positionCheck slot) := by
  unfold State.positionCheck
  extract_lets i m d far run s1
  have hs1 : Q s1 := h.write (h.write hs)
  split
  · exact hs
  · split
    · exact h.raise (h.write hs1)
    · exact hs1

theorem latchPosition (h : CodeKept n r Q) (hs : Q s) (b : Nat) : Q (s.latchPosition b) := by
  unfold State.latchPosition
  dsimp only
  split
  · exact h.positionCheck (h.sens hs) _
  · exact h.sens hs

theorem beginConv (h : CodeKept n r Q) (hs : Q s) (k : Nat) (c : Conv) (wait : Nat) : Q (s.beginConv k c wait) := h.adc rfl hs

theorem beginFrame (h : CodeKept n r Q) (hs : Q s) (b : Nat) (restarted : Bool) : Q (s.beginFrame b restarted) := by
  unfold State.beginFrame
  extract_lets x delay e s1 s2
  have hs2 : Q s2 := by
    unfold s2
    split
    · exact h.latchPosition (h.sens hs) b
    · exact h.sens hs
  refine foldl_keeps _ (fun t k ht => ?_) hs2
  exact h.adc (by rfl) ht

/-- A conversion that begins after an ADC's record was changed. -/
theorem restart (h : CodeKept n r Q) (hs : Q s) {k : Nat} {x : AdcUnit} (hx : x.safety = (s.adc k).safety) (c : Conv) (wait : Nat) :
    Q ((s.setAdc k x).beginConv k c wait) := h.beginConv (h.adc hx hs) k c wait

theorem nextConv (h : CodeKept n r Q) (hs : Q s) (k : Nat) : Q (s.nextConv k) := by
  unfold State.nextConv
  extract_lets x
  split
  · exact hs
  · split
    · exact h.restart hs (by rfl) _ _
    · split
      · split
        · split
          · exact h.beginFrame hs _ _
          · exact hs
        · exact h.restart hs (by rfl) _ _
      · split
        · split
          · exact h.beginFrame (foldl_keeps _ (fun t k ht => h.adc (by rfl) ht) hs) _ _
          · exact hs
        · exact h.restart hs (by rfl) _ _
        · split
          · exact h.restart hs (by rfl) _ _
          · exact h.restart hs (by rfl) _ _
          · split
            · exact h.beginConv hs _ _ _
            · exact hs

/-! #### A complete frame (R180 to R182, R200, R203, R296, R314, R315) -/

theorem closeCapture (h : CodeKept n r Q) (hs : Q s) (b : Nat) : Q (s.closeCapture b) := by
  unfold State.closeCapture
  extract_lets x s1 fs
  have hs1 : Q s1 := h.sens hs
  split
  · exact hs
  · split
    · exact foldl_keeps _ (fun t k ht => h.write (h.write ht)) hs1
    · exact h.raise (h.write hs1)

theorem chkErrFld_apart (p : Nat) : apart (chkErrFld p) F.ADC_RESULT_VALID = true := by
  unfold chkErrFld
  split
  · decide
  · split <;> decide

/-- A failed evaluation is counted and shown, and the last one of CHK_N attributed: CHK_STATUS says to what, and its fault is raised (R314, R315). -/
theorem checkWindow (h : CodeKept n r Q) (hs : Q s) (b : Nat) (w : ShuntWin) (ext : Int) : Q (s.checkWindow b w ext) := by
  unfold State.checkWindow
  extract_lets m x y shunt y2 base cnt lim fail z s1 most s2 permil s3
  have hs3 : Q s3 := h.fld (chkErrFld_apart _) (h.write (h.sens hs))
  have hphase : ∀ {t : State} {code p : Nat}, Q t → Q (if code = 1 then t.setFld F.ADC_CHK_STATUS_PHASE p b else t) := fun ht => by
    split
    · exact h.write ht
    · exact ht
  split
  · exact h.sens hs
  · split
    · exact h.raise (h.write (hphase (h.write (h.write hs3))))
    · exact hs3

theorem checkFrame (h : CodeKept n r Q) (hs : Q s) (b : Nat) (f : FrameCur) : Q (s.checkFrame b f) := by
  unfold State.checkFrame
  extract_lets x sum sums later s1
  have hs1 : Q s1 := h.sens hs
  split
  · exact hs1
  · split
    · exact hs1
    · refine foldl_keeps _ (fun t w ht => ?_) hs1
      split
      · exact h.checkWindow ht _ _ _
      · exact ht

theorem raiseEvent (h : CodeKept n r Q) (hs : Q s) (c bit info : Nat) : Q (s.raiseEvent c bit info) := by
  unfold State.raiseEvent
  split
  · exact hs
  · dsimp only
    split
    · exact h.write (h.engine hs)
    · exact h.engine hs

theorem engineFault (h : CodeKept n r Q) (hs : Q s) (c : Nat) (f : FaultName) : Q (s.engineFault c f) :=
  h.raise (h.stop (h.engine (h.write (h.write (h.write hs)))))

theorem deadlineMiss (h : CodeKept n r Q) (hs : Q s) (c : Nat) : Q (s.deadlineMiss c) := by
  unfold State.deadlineMiss
  extract_lets run s1 s2
  have hs2 : Q s2 := h.raise (h.write (h.write (h.write hs)))
  split
  · exact h.engineFault (h.write hs2) _ _
  · exact hs2

theorem sampleTo (h : CodeKept n r Q) (hs : Q s) (c b : Nat) (bytes : List Byte) (at_ : Nat) : Q (s.sampleTo c b bytes at_) := by
  unfold State.sampleTo
  extract_lets e late e2 s1 s2
  have hs2 : Q s2 := h.raiseEvent (h.engine (h.engine hs)) _ _ _
  split
  · exact hs
  · split
    · exact h.deadlineMiss hs2 _
    · exact hs2

theorem frameDone (h : CodeKept n r Q) (hs : Q s) (b : Nat) : Q (s.frameDone b) := by
  unfold State.frameDone
  extract_lets x codes m i s1 s2 bytes s3 y s4
  have hs2 : Q s2 := by
    unfold s2
    split
    · exact h.closeCapture (h.sens hs) _
    · exact h.sens hs
  have hs4 : Q s4 := h.sens (h.checkFrame hs2 _ _)
  refine foldl_keeps _ (fun t c ht => ?_) hs4
  exact h.sampleTo ht _ _ _ _

/-! #### Results (R301, R302, R321) -/

/-- A result is kept once its VALID is set: what follows goes to other fields. -/
theorem putResult_of_valid (h : CodeKept n r Q) {k : Nat} (hs : Q (s.setFlag F.ADC_RESULT_VALID true k)) (c : Conv) (source : Nat) (v : Int) :
    Q (s.putResult k c source v) := by
  unfold State.putResult
  extract_lets s1 s2 s3 s4
  have hs4 : Q s4 := h.write (h.write (h.write (h.write (h.write (h.write hs)))))
  split
  · exact h.write hs4
  · exact hs4

theorem putResult (h : CodeKept n r Q) (hs : Q s) (c : Conv) (source : Nat) (v : Int) : Q (s.putResult n c source v) :=
  h.putResult_of_valid (h.valid hs) c source v

theorem average (h : CodeKept n r Q) (hs : Q s) (c : Conv) (source : Nat) (code : Int) : Q (s.average n c source code) := by
  unfold State.average
  dsimp only
  split
  · exact h.beginConv hs _ _ _
  · exact h.putResult hs _ _ _

theorem tripCode (h : CodeKept n r Q) (hs : Q s) (b k : Nat) (code : Int) : Q (s.tripCode b k code) := by
  unfold State.tripCode
  extract_lets x t s1
  have hs1 : Q s1 := h.sens hs
  split
  · exact h.write (h.write (h.write (h.write (h.write hs1))))
  · exact hs1

theorem takeCode (h : CodeKept n r Q) (hs : Q s) (c : Conv) (hc : c.input = r.1) : Q (s.takeCode n c r.2) := by
  unfold State.takeCode
  split
  case h_1 =>
    rw [hc]
    exact h.safety hs
  case h_2 => exact h.tripCode hs _ _ _
  case h_3 b _ =>
    extract_lets x codes s1 s2
    have hs2 : Q s2 := by
      unfold s2
      split
      · exact h.raise (h.write (h.sens hs))
      · exact h.sens hs
    split
    · exact h.frameDone hs2 _
    · exact hs2
  case h_4 => exact h.putResult hs _ _ _
  case h_5 => exact h.average hs _ _ _
  case h_6 => exact h.average hs _ _ _
  case h_7 => exact hs

end CodeKept

/-! #### The conversion is done (R302) -/

theorem codeKept_valid (n : Nat) (r : Nat × Int) : CodeKept n r (fun s => s.flag F.ADC_RESULT_VALID n = true) where
  fld hf hs := (flag_setFld_apart _ _ _ _ n 0 hf).trans hs
  valid _ := flag_setFlag _ true n 0 (by decide)
  safety hs := hs
  adc _ hs := hs
  sens hs := hs
  engine hs := hs
  stop hs := hs
  raise hs :=
    ((raiseBlind_converters ⟨.ADC_RESULT, n, 0⟩ (by simp [reactionRegs]) (fun p => bits p.2.2.toNat 31 31 == 1)).raise _ _ _ _ _ _ _).trans hs

theorem codeKept_safety (n : Nat) (r : Nat × Int) : CodeKept n r (fun s => (s.adc n).safety = some r) where
  fld _ hs := hs
  valid hs := by rw [setFlag_adc, hs]
  safety _ := by rw [State.adc_setAdc]
  adc := fun {s k x} hx hs => by
    by_cases hk : n = k
    · subst hk
      rw [State.adc_setAdc, hx, hs]
    · rw [State.adc_setAdc_other s k n x hk, hs]
  sens hs := hs
  engine hs := hs
  stop hs := hs
  raise hs := by rw [raise_adc, hs]

/-- A result is valid as it is written (R321). -/
theorem putResult_valid (s : State) (n : Nat) (c : Conv) (source : Nat) (v : Int) : (s.putResult n c source v).flag F.ADC_RESULT_VALID n = true :=
  (codeKept_valid n (0, 0)).putResult_of_valid (flag_setFlag s true n 0 (by decide)) c source v

/-- Whatever a conversion's code has given to its source, the requests that share it and the conversions that begin next keep (R298, R299, R302). -/
theorem adcConversionDone_keeps {s : State} {n : Fin 6} {raw : Int} {c : Conv} (hrun : (s.adc n).run = some c) (hpd : s.pdOn 8 = true)
    (htime : s.elapsed c.at_ (s.convTime n) = true) :
    ∃ t, exec (.adcConversionDone n raw) s = .next t ∧ ∀ Q, CodeKept n (c.input, s.correct n raw) Q →
      Q ((s.setAdc n { s.adc n with run := none, sharers := [] }).takeCode n c (s.correct n raw)) → Q t := by
  have hdue : (!s.pdOn 8 || !s.elapsed c.at_ (s.convTime n)) = false := by rw [hpd, htime]; rfl
  show ∃ t, execAdcConversionDone n raw s = .next t ∧ _
  simp only [execAdcConversionDone, hrun, hdue, Bool.false_eq_true, if_false]
  refine ⟨_, rfl, fun Q h hs => foldl_keeps _ (fun t k ht => ?_) (foldl_keeps _ (fun t src ht => ?_) hs)⟩
  · exact h.nextConv ht k
  · exact h.takeCode ht { c with src := src } rfl

theorem adcConversionDone_acts (s : State) (n : Fin 6) (raw : Int) (c : Conv) (hrun : (s.adc n).run = some c) (hpd : s.pdOn 8 = true)
    (htime : s.elapsed c.at_ (s.convTime n) = true) :
    ∃ t, exec (.adcConversionDone n raw) s = .next t ∧ (c.src = .timeline → t.flag F.ADC_RESULT_VALID n = true) ∧
      (c.src = .safety → (t.adc n).safety = some (c.input, s.correct n raw)) := by
  obtain ⟨t, hexec, hkept⟩ := adcConversionDone_keeps (raw := raw) hrun hpd htime
  refine ⟨t, hexec, fun hsrc => hkept _ (codeKept_valid n _) ?_, fun hsrc => hkept _ (codeKept_safety n _) ?_⟩
  · simp only [State.takeCode, hsrc]
    exact putResult_valid _ _ _ _ _
  · simp only [State.takeCode, hsrc, State.adc_setAdc]

/-- Settles O13: each command acts on its converter, comparator or channel, and what follows it (the faults raised, the trips, the shared codes and the
conversions that begin next) leaves that as it is. -/
theorem currentSensingCommandsAct : Obligations.CurrentSensingCommandsAct :=
  ⟨adcSwStart_acts, adcUrgentRequest_safety, adcUrgentRequest_tripCap, adcConversionDone_acts, adcRefCheck_acts, resultRead_clears, tripCap1Read_clears,
    ctAssert_asserts, ctAssert_releases, dsOutput_acts, vdcMismatchTimer_raises⟩

end Sys2Proof.CurrentSensing
